-- ==== Sys2Proof/Word.lean ====
section
/-! DEFINITION. The plain number types of the JF816: bytes, words and the small index types of
00 section 5.1 (station address 0 to 15, bay index 0 to 7) and of R14, R140, R141. -/

namespace Sys2Proof

/-- One byte of a frame body, a sideband exchange or the configuration record. -/
abbrev Byte := BitVec 8

/-- A 16-bit word: digest, error accumulation word, group set. -/
abbrev Word16 := BitVec 16

/-- A 32-bit word: asset tag, credential number, counter. -/
abbrev Word32 := BitVec 32

/-- A station address, 0 to 15 (00 section 5.1). -/
abbrev Addr := Fin 16

/-- A bay index, 0 to 7 (00 section 5.1). -/
abbrev BayIx := Fin 8

/-- A panel reader, 0 to 3 (R14). -/
abbrev Reader := Fin 4

/-- One of the gateway's two lanes (R140). -/
abbrev LaneIx := Fin 2

/-- A slot of the campaign table (R141). -/
abbrev SlotIx := Fin 4

/-- The eight bay indices in ascending order. -/
def allBays : List BayIx := [0, 1, 2, 3, 4, 5, 6, 7]

/-- The four campaign slots in ascending order. -/
def allSlots : List SlotIx := [0, 1, 2, 3]

/-- The two lanes, lane 0 first. -/
def allLanes : List LaneIx := [0, 1]

/-- The sixteen station addresses in ascending order. -/
def allAddrs : List Addr := [0, 1, 2, 3, 4, 5, 6, 7, 8, 9, 10, 11, 12, 13, 14, 15]

end Sys2Proof
end

