-- ==== Sys2Proof/Syntax.lean ====
section
/-! DEFINITION. The commands of the JF816: one constructor for each row of opcode_table.json. The
rows carry no fields; the operands are those the rules need from outside (assumption 1). Rows that
take a received frame have no operand: the frame stands in the hand of their block (assumption 2). The bits and levels
of a wire since they were last counted may be left out, and then none have passed (assumption 5). -/

namespace Sys2Proof

/-- What the part samples when it reads its straps: the address straps ADR3..ADR0, the count straps
NB2..NB0 (R168) and the first sample of the door and bolt inputs (R100), bit n for bay n, a set
bit meaning closed or thrown. -/
structure StartPins where
  address : BitVec 4
  count   : BitVec 3
  doors   : BitVec 8
  bolts   : BitVec 8
deriving DecidableEq, Repr

/-- One port's voltage in mV and current in mA (R71). -/
structure PortSense where
  milliVolts : Nat
  milliAmps  : Nat
deriving DecidableEq, Repr

/-- The three samples of one sideband bit, at 7/16, 8/16 and 9/16 of it (R79); `true` is high. -/
structure BitSamples where
  first  : Bool
  second : Bool
  third  : Bool
deriving DecidableEq, Repr

/-- A stretch of a sideband wire at one level, in bit times (R80, R87, R89). -/
structure WireRun where
  high   : Bool
  length : Nat
deriving DecidableEq, Repr

/-- The sampled bits that follow one falling edge of a sideband wire (R79), the start bit first: ten for a
whole byte, fewer for a byte that is cut off. -/
abbrev SampledByte := List BitSamples

/-- The registers that a poll timer of an ACTIVE channel makes due (R93). -/
inductive PollRegister where
  | battery | chargeRequest | profile
deriving DecidableEq, Repr

/-- The 85 steps of the part. -/
inductive Instr where
  -- Start-up and station restart
  | powerOn (restartLow : Bool) (pins : StartPins)
  | restartLineHeld
  | restartLineReleased (pins : StartPins)
  | configReadEnd (record : Option (List Byte))
  | configReadTimeout
  | listenTimerExpired
  -- Cart link
  | lineIdleDetected (bits : List Bool := [])
  | transmissionStart (idleBits : Nat := 0)
  | contentionLost (read : List Bool := [])
  | transmitBitError (read : List Bool := [])
  | transmissionComplete
  | receptionAborted (bits : List Bool)
  | frameReceived (bits : List Bool)
  | frameHandover
  -- Peers and sharing
  | heartbeatTimerExpired
  | isolationTimerExpired
  | heartbeat
  | peerQuiet (peer : Addr)
  | peerLost (peer : Addr)
  | clashHoldExpired
  | guardLiftTimerExpired
  -- Bay charging
  | measurement (ports : Vector PortSense 8)
  | presenceGain (bay : BayIx)
  | presenceLoss (bay : BayIx)
  | identificationTimerExpired (bay : BayIx)
  | unmanagedReadTimerExpired (bay : BayIx)
  | shortTrip (bay : BayIx)
  -- Dock sideband
  | exchangeStart (bay : BayIx) (wire : List WireRun := [])
  | callAfterWake (bay : BayIx) (wire : List WireRun := [])
  | retryStart (bay : BayIx) (wire : List WireRun := [])
  | readResponseReceived (bay : BayIx) (answer : List SampledByte)
  | responseWindowExpired (bay : BayIx) (answer : List SampledByte)
  | writeAckReceived (bay : BayIx) (answer : List SampledByte)
  | ackWindowExpired (bay : BayIx)
  | framingError (bay : BayIx) (samples : SampledByte)
  | sidebandBitError (bay : BayIx) (bit : Nat) (sample : BitSamples)
  | pollTimerExpired (bay : BayIx) (register : PollRegister)
  | identPollTimerExpired (bay : BayIx)
  | wireStuck (bay : BayIx) (wire : List WireRun := [])
  | wireRecovered (bay : BayIx) (wire : List WireRun := [])
  -- Latches and doors
  | doorOpens (bay : BayIx)
  | doorCloses (bay : BayIx)
  | boltThrown (bay : BayIx)
  | boltClears (bay : BayIx)
  | pullInEnd (bay : BayIx)
  | releaseWindowExpired (bay : BayIx)
  | coolDownEnd (bay : BayIx)
  | boltWaitClosingExpired (bay : BayIx)
  | boltWaitReleaseExpired (bay : BayIx)
  | closeHoldEnd (bay : BayIx)
  | ajarTimerExpired (bay : BayIx)
  -- Credentials, checkout and loans
  | minuteTick
  | enroll
  | revoke
  | baysetGroup
  | baysetOpenLevel
  | baysetReserved
  | baysetOutOfService
  | baysetProvOptOut
  | baysetClearFault
  | restart (pins : StartPins)
  | present
  | answerDelayEnd (reader : Reader)
  | offerHeard
  | denyHeard
  | withdrawalDeadline (reader : Reader)
  | objectionWindowEnd (bay : BayIx)
  | denyDeadline (reader : Reader) (sequence : Byte)
  | releasedHeard
  | returnedHeard
  -- Provisioning lanes
  | campaignStart
  | campaignCancel
  | wakeWaitExpired (lane : LaneIx)
  | laneTimeLimitExpired (lane : LaneIx)
  -- Queries
  | queryStation
  | queryBay
  | queryCounters
  | queryCountersClear
  | queryLoan
  | queryPeer
  | queryCampaign
  | queryUnknownItem
  -- Rows the table lists last
  | startBitReceived
  | shortHoldStart (bay : BayIx) (milliVolts : Nat)
  | shortHoldAbandoned (bay : BayIx) (milliVolts : Nat)
deriving DecidableEq, Repr

end Sys2Proof
end

