-- ==== Sys2Proof/Decode.lean ====
section
/-! DEFINITION. Commands spelled by words. No row of opcode_table.json has bits (98_reader: "n_rows_with_fixed": 0), so no
word spells a command (assumption 23). -/

namespace Sys2Proof

/-- The command that the `nbits` low bits of `w` spell: none, since no row of the table has bits. -/
def decodeTableWord (_nbits _w : Nat) : Option Instr := none

end Sys2Proof
end

