-- ==== Sys2Proof/Config.lean ====
section
/-! DEFINITION. What a start of the station fixes (the working configuration of 11 section 11.6),
the fixed times of the chapters, and the two free values of the model. -/

namespace Sys2Proof

/-- The urgent-to-routine selection ratio W: 2, 4, 8 or STRICT (08, R147, R170). -/
inductive Ratio where
  | two | four | eight | strict
deriving DecidableEq, Repr

/-- The working configuration, every value after clamping (R170); the defaults are those of the
Formats chapter. Powers in dW, times in the unit the record gives. -/
structure WorkingConfig where
  budget       : Nat := 4800
  reserve      : Nat := 400
  shelves      : Nat := 8
  bayMax       : Nat := 180
  bayMin       : Nat := 25
  unmanaged    : Nat := 75
  laneExtra    : Nat := 50
  socLow       : Nat := 30
  tempHot      : Nat := 45
  releaseTime  : Nat := 8
  ajarTime     : Nat := 60
  socRelease   : Nat := 50
  guestTime    : Nat := 480
  loanTime     : Nat := 480
  limitStudent : Nat := 1
  limitStaff   : Nat := 4
  limitGuest   : Nat := 1
  socProv      : Nat := 30
  ratio        : Ratio := .four
  /-- bit c is set for an URGENT profile code c -/
  classMap     : BitVec 64 := 0
deriving DecidableEq, Repr

/-- Every value at its default (R169, "No answer" and "Bad record"). -/
def defaultConfig : WorkingConfig := {}

namespace Config

/-- FREE VALUE (assumption 7). R151: for a bay whose channel falls SILENT or STUCK while a lane
serves it, "the outcome is ABORT_SILENT or ABORT_CHARGE, by which notice is taken first", and no
rule says which is. `true` means that the BCC takes its notice before the PVS. -/
opaque bccTakesFirst : Nat → Bool

/-- FREE VALUE (assumption 15). R127 computes the LOW flag and the bid of an OFFER from the SoC and does
not say what the SoC is for a bay whose tablet view holds no battery reading. A SoC is 0 to 100. -/
opaque absentSoc : Nat → Fin 101

end Config

/-! Fixed times, in ms, each with the rule that fixes it. -/

/-- R169: the limit of the configuration read. -/
def configReadLimit : Nat := 50
/-- R167: the listen timer. -/
def listenTime : Nat := 2000
/-- R23: the heartbeat period. -/
def heartbeatPeriod : Nat := 500
/-- R26: the isolation timer. -/
def isolationTime : Nat := 1500
/-- R29: the age at which a LIVE entry becomes QUIET. -/
def quietAge : Nat := 1500
/-- R29: the age at which a QUIET entry becomes LOST. -/
def lostAge : Nat := 4000
/-- R33: the clash hold. -/
def clashTime : Nat := 10000
/-- R53: the lift timer of the guard. -/
def liftTime : Nat := 2000
/-- R14: the length of a storm window. -/
def stormTime : Nat := 1000
/-- R71: the measurement period. -/
def measurePeriod : Nat := 100
/-- R58: the identification timer. -/
def identificationTime : Nat := 3000
/-- R61: the period of the IDENT reads of an UNMANAGED bay. -/
def unmanagedPeriod : Nat := 10000
/-- R72: the SHORT hold. -/
def shortHoldTime : Nat := 50
/-- R88: the IDENT poll period of a SILENT channel. -/
def identPollPeriod : Nat := 10000
/-- R93: the poll period of BATTERY and CHARGE_REQUEST. -/
def pollPeriod : Nat := 2000
/-- R93: the PROFILE period while the bay is on a lane. -/
def profileLanePeriod : Nat := 5000
/-- R93: the PROFILE period otherwise. -/
def profilePeriod : Nat := 30000
/-- R99: the pull-in of the latch. -/
def pullInTime : Nat := 150
/-- R105: the cool-down. -/
def coolDownTime : Nat := 2000
/-- R109, R110: the bolt wait. -/
def boltWaitTime : Nat := 1000
/-- R102: the close hold. -/
def closeHoldTime : Nat := 250
/-- R116: one minute. -/
def minuteTime : Nat := 60000
/-- R124: the answer delay. -/
def answerTime : Nat := 20
/-- R124, R132: the withdrawal deadline. -/
def withdrawalTime : Nat := 250
/-- R131: the objection window. -/
def objectionTime : Nat := 60
/-- R148: the wake wait. -/
def wakeTime : Nat := 20000

end Sys2Proof
end

