-- ==== Sys2Proof/Machine/State.lean ====
section
/-! DEFINITION. The state of the JF816 as plain data: one structure for each block's own state, one
record for each bay (00 section 3), and the machine right after reset. A timer is `none` when it is
stopped and holds the time of its end, in ms, when it runs. -/

namespace Sys2Proof.Machine

/-! ## Names -/

/-- The station phase (R167). -/
inductive Phase where
  | start | listen | active
deriving DecidableEq, Repr

/-- The ten blocks (00 section 2). -/
inductive Block where
  | lkc | pmn | shu | bcc | sbc | ldc | csu | pvs | rpu | cfl
deriving DecidableEq, Repr

/-- The result flag of the last configuration read (R169): at most one of the two is set. -/
inductive ConfigFlag where
  | good | byDefault | bad
deriving DecidableEq, Repr

/-- The role of a station (R27). -/
inductive Role where
  | none | shelf | panel | gateway
deriving DecidableEq, Repr

/-- The frame kinds of R4. -/
inductive FrameKind where
  | heartbeat | present | offer | deny | released | returned | event | overdue
  | enroll | revoke | bayset | restart | campaign | provStatus | query | status
deriving DecidableEq, Repr

/-- The LKC's condition towards the line (R1); a frame is followed as its receiver or sender. -/
inductive LineCondition where
  | waiting | idle | receiving | sending
deriving DecidableEq, Repr

/-- The nine charge states (section 4.2), in the order of the Formats chapter. -/
inductive ChargeState where
  | vacant | identifying | charging | held | maintain | thermal | unmanaged | fault | outOfService
deriving DecidableEq, Repr

/-- The kind of a port trip (R72, R73). -/
inductive FaultKind where
  | short | overdraw
deriving DecidableEq, Repr

/-- How far identification has come since the entry (R58): the read that is awaited next. -/
inductive IdentStage where
  | awaitIdent | awaitBattery | awaitRequest
deriving DecidableEq, Repr

/-- The sideband channel states (R81). -/
inductive ChannelState where
  | off | active | silent | stuck
deriving DecidableEq, Repr

/-- The seven dock registers (section 5.7). -/
inductive DockRegister where
  | ident | battery | chargeRequest | chargeLimit | profile | provControl | custody
deriving DecidableEq, Repr

/-- The provisioning state a tablet reports (R94). -/
inductive ProvState where
  | idle | ready | running | done | error
deriving DecidableEq, Repr

/-- The outcomes of a write request (R92). -/
inductive WriteOutcome where
  | accepted | refused | dropped | replaced | cancelled
deriving DecidableEq, Repr

/-- The class of an IDENT reading (R96). -/
inductive IdentClass where
  | first | same | swap
deriving DecidableEq, Repr

/-- The attribute of an opening (section 6.3). -/
inductive OpenAttr where
  | authorized | forced | unsecured
deriving DecidableEq, Repr

/-- The door machine (section 6.3); OPEN carries its attribute. -/
inductive DoorState where
  | secure | releasing | opened (attr : OpenAttr) | closing | unsecured
deriving DecidableEq, Repr

/-- The latch drive (R99). -/
inductive LatchDrive where
  | off | full | reduced
deriving DecidableEq, Repr

/-- The reason of a release (R103, 11 section 11.3). -/
inductive ReleaseReason where
  | checkout | giveBack | opening | service
deriving DecidableEq, Repr

/-- What the LDC answers a release request (R103, R104). -/
inductive ReleaseOutcome where
  | started | pendingLane | refused | cancelled | unused
deriving DecidableEq, Repr

/-- Credential roles; the role level is 0, 1, 2, 3 in this order (00 section 5.1). -/
inductive CredentialRole where
  | technician | staff | student | guest
deriving DecidableEq, Repr

/-- The request kinds of a PRESENT (R124): CHECKOUT, RETURN, OPEN. -/
inductive RequestKind where
  | checkout | giveBack | opening
deriving DecidableEq, Repr

/-- A slot's own answer (R124). -/
inductive OwnAnswer where
  | none | offerQueued | claimed | denyQueued
deriving DecidableEq, Repr

/-- The state of a loan (R133). -/
inductive LoanState where
  | running | overdue
deriving DecidableEq, Repr

/-- The outcomes of a lane session, in the order of their codes (R149 to R151, 11 section 11.3). -/
inductive LaneOutcome where
  | success | failRefused | failTimeout | failTablet | failDropped
  | abortCustody | abortCharge | abortCancel | abortRemoved | abortSilent
deriving DecidableEq, Repr

/-! ## Configuration Loader -/

/-- A configuration read in progress (R169): the device and pointer it addresses, how many bytes it
reads, and the end of its time limit. -/
structure ConfigRead where
  device  : BitVec 7
  pointer : Byte
  length  : Nat
  limit   : Nat
deriving DecidableEq, Repr

/-- The CFL (R167 to R173). `populated` is 0 while the count straps are unread. -/
structure Cfl where
  phase       : Phase
  address     : Addr
  populated   : Nat
  restartHeld : Bool
  configRead  : Option ConfigRead
  config      : WorkingConfig
  flag        : ConfigFlag
  digest      : Word16
  listenTimer : Option Nat
deriving DecidableEq, Repr

/-! ## Link Controller -/

/-- A frame of the transmit queue (section 1.5). Its key is class, bid and the own address, which is
put in when the frame is composed for the line (assumption 19). `deadline` is the CSU's deadline of
a DENY queued by R132. -/
structure TxFrame where
  kind           : FrameKind
  bid            : Nat
  dest           : BitVec 5
  body           : List Byte
  attempts       : Nat
  inTransmission : Bool
  withdrawal     : Bool
  block          : Block
  deadline       : Option Nat
deriving DecidableEq, Repr

/-- A frame of the receive queue, with its corrected header fields (R13). -/
structure RxFrame where
  cls    : BitVec 4
  bid    : BitVec 12
  source : Addr
  kind   : FrameKind
  dest   : BitVec 5
  body   : List Byte
deriving DecidableEq, Repr

/-- An open storm window (R14). -/
structure StormWindow where
  start : Nat
  count : Nat
deriving DecidableEq, Repr

/-- The seven station link counters (R20). -/
structure LinkCounters where
  sent      : Word32 := 0
  good      : Word32 := 0
  corrected : Word32 := 0
  discarded : Word32 := 0
  dropped   : Word32 := 0
  stormed   : Word32 := 0
  ignored   : Word32 := 0
deriving DecidableEq, Repr

/-- The LKC (chapter 1). `driven` holds the bits of the frame being sent, start bit to end field; `followed` the bits so
far of the frame that the station follows as a receiver (R1, R6, R7). `recessive` is the count of consecutive recessive
bits of a station that waits for idle. The idle count of R1 is read from `idleSince`, the time at which the line became
idle, and `idleBits`, the idle bit times counted beside the clock (`State.idleCount`). -/
structure Lkc where
  line             : LineCondition := .waiting
  recessive        : Nat := 0
  idleSince        : Nat := 0
  idleBits         : Nat := 0
  driven           : List Bool := []
  followed         : List Bool := []
  queue            : List TxFrame := []
  pendingHeartbeat : Option (List Byte) := none
  errors           : Word16 := 0
  carried          : Word16 := 0
  renewal          : Word16 := 0
  received         : List RxFrame := []
  storm            : Vector (Option StormWindow) 4 := Vector.replicate 4 none
  counters         : LinkCounters := {}
deriving DecidableEq, Repr

/-- The frame each block is at work on (R15); a RESTART is first the CSU's. -/
structure Hands where
  pmn : Option RxFrame := none
  csu : Option RxFrame := none
  pvs : Option RxFrame := none
  rpu : Option RxFrame := none
deriving DecidableEq, Repr

/-! ## Peer Monitor and Share Unit -/

/-- The state of an entry that is not ABSENT (R27). -/
inductive PeerState where
  | live | quiet | lost
deriving DecidableEq, Repr

/-- A peer entry that is not ABSENT (R27); its age is the time since `heardAt`. -/
structure Peer where
  state     : PeerState
  role      : Role
  claim     : Nat
  draw      : Nat
  allowance : Nat
  digest    : Word16
  mismatch  : Bool
  errorWord : Word16
  heardAt   : Nat
deriving DecidableEq, Repr

/-- The PMN (chapter 2). -/
structure Pmn where
  peers          : Vector (Option Peer) 16 := Vector.replicate 16 none
  isolationTimer : Option Nat := none
  isolated       : Bool := false
  clashHold      : Option Nat := none
deriving DecidableEq, Repr

/-- The SHU (chapter 3); the symbols of the manual stand in the comments. -/
structure Shu where
  heartbeatTimer : Option Nat := none
  /-- the claim history, oldest first (R25) -/
  history     : Vector Nat 4 := Vector.replicate 4 0
  /-- A -/
  available   : Nat := 0
  need        : Nat := 0
  draw        : Nat := 0
  refNeed     : Nat := 0
  refDraw     : Nat := 0
  claim       : Nat := 0
  /-- s -/
  settled     : Nat := 0
  /-- K -/
  heard       : Nat := 0
  /-- N_eff -/
  nEff        : Nat := 0
  /-- F -/
  floor       : Nat := 0
  /-- U -/
  unheard     : Nat := 0
  /-- S -/
  surplus     : Nat := 0
  /-- E_self -/
  excess      : Nat := 0
  /-- X; the 0 before the first recomputation is the model's (assumption 6) -/
  totalExcess : Nat := 0
  /-- T -/
  target      : Nat := 0
  /-- L -/
  allowance   : Nat := 0
  guard       : Bool := false
  liftTimer   : Option Nat := none
deriving DecidableEq, Repr

/-! ## Bay record: Bay Charge Controller -/

/-- The charge section of a bay record (chapter 4). -/
structure Charge where
  state          : ChargeState := .vacant
  voltage        : Nat := 5
  wish           : Nat := 0
  cls            : Nat := 2
  grant          : Nat := 0
  limit          : Nat := 0
  milliVolts     : Nat := 0
  milliAmps      : Nat := 0
  power          : Nat := 0
  lastFault      : Option Nat := none
  faultKind      : Option FaultKind := none
  identTimer     : Option Nat := none
  unmanagedTimer : Option Nat := none
  stage          : IdentStage := .awaitIdent
  limitOwed      : Bool := false
  shortHold      : Option Nat := none
  overdraw       : Nat := 0
  remainder      : Nat := 0
deriving DecidableEq, Repr

/-- The BCC's state beside the bay records: the applied allowance (R69), the time its seconds count
starts from (R74) and the next measurement (R71). -/
structure Bcc where
  applied      : Nat := 0
  since        : Nat := 0
  measureTimer : Option Nat := none
deriving DecidableEq, Repr

/-! ## Bay record: Sideband Commander -/

/-- The identity of a tablet (R94). -/
structure Identity where
  model      : Word16
  asset      : Word32
  version    : Byte
  capability : Byte
deriving DecidableEq, Repr

/-- A battery reading (R94). -/
structure Battery where
  soc         : Nat
  temperature : Int
  health      : Nat
  full        : Bool
  charging    : Bool
  fault       : Bool
deriving DecidableEq, Repr

/-- A charge request (R94). -/
structure ChargeRequest where
  code  : Byte
  power : Nat
deriving DecidableEq, Repr

/-- A profile reading (R94). -/
structure Profile where
  code     : Nat
  version  : Nat
  state    : ProvState
  progress : Nat
deriving DecidableEq, Repr

/-- The tablet view (00 section 3); each part holds a complete value or none. -/
structure TabletView where
  identity : Option Identity := none
  battery  : Option Battery := none
  request  : Option ChargeRequest := none
  profile  : Option Profile := none
deriving DecidableEq, Repr

/-- A CUSTODY write's value: RELEASED or DOCKED, and the credential (R138). -/
structure CustodyWrite where
  released   : Bool
  credential : Word32
deriving DecidableEq, Repr

/-- A PROV_CONTROL write's value: ENTER or EXIT, and the campaign id (R148, R152). -/
structure ProvWrite where
  enter    : Bool
  campaign : Byte
deriving DecidableEq, Repr

/-- A write request: the register is the constructor's, and with it the requesting block (R92). -/
inductive DockWrite where
  | custody (value : CustodyWrite)
  | provControl (value : ProvWrite)
  | chargeLimit (grant : Nat)
deriving DecidableEq, Repr

/-- What an exchange carries: the read of a register or a write. -/
inductive ExchangeBody where
  | read (register : DockRegister)
  | write (value : DockWrite)
deriving DecidableEq, Repr

/-- Where an exchange stands: its wake pulse sent and its call awaited (R87), its call sent and its
window open (R83, R84), or its first attempt failed and its retry awaited (R86). -/
inductive ExchangeStage where
  | waking | called | retryWait (afterNoResponse : Bool)
deriving DecidableEq, Repr

/-- The exchange in progress of a channel; `sent` are the bytes of the present attempt. -/
structure Exchange where
  body   : ExchangeBody
  number : BitVec 2
  retry  : Bool
  stage  : ExchangeStage
  sent   : List Byte
deriving DecidableEq, Repr

/-- A sideband channel (chapter 5). `highRun` and `lowRun` are the line watches of R80 and R89, `wakeIdle` the bit
times since the end of a wake pulse (R87), held at 384. -/
structure Channel where
  state        : ChannelState := .off
  exchange     : Option Exchange := none
  custody      : Option CustodyWrite := none
  provControl  : Option ProvWrite := none
  chargeLimit  : Option Nat := none
  dueIdent     : Bool := false
  dueBattery   : Bool := false
  dueRequest   : Bool := false
  dueProfile   : Bool := false
  identTimer   : Option Nat := none
  batteryTimer : Option Nat := none
  requestTimer : Option Nat := none
  profileTimer : Option Nat := none
  counter      : BitVec 2 := 0
  drops        : Nat := 0
  highRun      : Nat := 0
  lowRun       : Nat := 0
  wakeIdle     : Nat := 0
deriving DecidableEq, Repr

/-! ## Bay record: Latch and Door Controller -/

/-- A release record (R103). -/
structure ReleaseRecord where
  reason     : ReleaseReason
  credential : Word32
  reader     : Reader
  sequence   : Byte
  start      : Nat
deriving DecidableEq, Repr

/-- An open episode (R102) with its ajar timer (R111). -/
structure Episode where
  attr  : OpenAttr
  asset : Option Word32
  ajar  : Option Nat
deriving DecidableEq, Repr

/-- The door section of a bay record and the LDC's state beside it (chapter 6). -/
structure Door where
  closed      : Bool := true
  bolt        : Bool := false
  state       : DoorState := .unsecured
  latch       : LatchDrive := .off
  release     : Option ReleaseRecord := none
  pendingLane : Bool := false
  coolDown    : Option Nat := none
  pullIn      : Option Nat := none
  window      : Option Nat := none
  boltWait    : Option Nat := none
  closeHold   : Option Nat := none
  episode     : Option Episode := none
deriving DecidableEq, Repr

/-! ## Bay record: Custody Unit and Provisioning Scheduler -/

/-- The five attributes of a bay (R121), with their values after power-on. -/
structure BayAttrs where
  group        : Fin 16 := 0
  openLevel    : Fin 4 := 1
  reserved     : Bool := false
  outOfService : Bool := false
  optOut       : Bool := false
deriving DecidableEq, Repr

/-- A pending claim (R130, R131). `inWindow` is set once the own OFFER has completed; `key` is that
OFFER's contention key (assumption 26). -/
structure PendingClaim where
  reader     : Reader
  sequence   : Byte
  kind       : RequestKind
  credential : Word32
  endTime    : Nat
  inWindow   : Bool
  key        : Nat
deriving DecidableEq, Repr

/-- The provisioning section of a bay record (R140, R153). The bay's position is read from the
queue and the lane machines. -/
structure Prov where
  attempts : Vector Nat 4 := Vector.replicate 4 0
  blocked  : Vector Bool 4 := Vector.replicate 4 false
  switch   : Option LaneIx := none
deriving DecidableEq, Repr

/-- The eight per-bay counters (R163). -/
structure BayCounters where
  energy         : Word32 := 0
  sessions       : Word32 := 0
  releases       : Word32 := 0
  forcedOpens    : Word32 := 0
  faults         : Word32 := 0
  failed         : Word32 := 0
  provSuccesses  : Word32 := 0
  provFailures   : Word32 := 0
deriving DecidableEq, Repr

/-- One bay record (00 section 3). -/
structure Bay where
  present  : Bool := false
  view     : TabletView := {}
  channel  : Channel := {}
  charge   : Charge := {}
  door     : Door := {}
  attrs    : BayAttrs := {}
  claim    : Option PendingClaim := none
  prov     : Prov := {}
  counters : BayCounters := {}
deriving DecidableEq, Repr

/-! ## Custody Unit -/

/-- A credential table entry (R117). -/
structure CredentialEntry where
  number    : Word32
  role      : CredentialRole
  groups    : Word16
  asset     : Option Word32
  suspended : Bool
  enrolled  : Nat
deriving DecidableEq, Repr

/-- A presentation slot that holds a presentation (R124), with its two timers. -/
structure PresentationSlot where
  sequence    : Byte
  credential  : Word32
  kind        : RequestKind
  openStation : Byte
  openBay     : Byte
  arrival     : Nat
  own         : OwnAnswer
  decided     : Bool
  answerDelay : Option Nat
  deadline    : Option Nat
deriving DecidableEq, Repr

/-- A loan (R133). -/
structure Loan where
  asset      : Word32
  credential : Word32
  bay        : BayIx
  released   : Nat
  due        : Nat
  state      : LoanState
deriving DecidableEq, Repr

/-- The CSU (chapter 7). -/
structure Csu where
  minute      : Nat := 0
  minuteTimer : Nat := minuteTime
  credentials : List CredentialEntry := []
  loans       : List Loan := []
  slots       : Vector (Option PresentationSlot) 4 := Vector.replicate 4 none
deriving DecidableEq, Repr

/-! ## Provisioning Scheduler and Report Unit -/

/-- A campaign slot that holds a campaign (R141). -/
structure Campaign where
  id      : Byte
  profile : Nat
  target  : Nat
  model   : Word16
  groups  : Word16
  limit   : Nat
  urgent  : Bool
deriving DecidableEq, Repr

/-- An item of the provisioning queue (R146). -/
structure QueueItem where
  bay    : BayIx
  slot   : SlotIx
  urgent : Bool
  since  : Nat
deriving DecidableEq, Repr

/-- The states of a lane machine other than IDLE (section 8.5). -/
inductive LaneStage where
  | waking | connected | releasing (outcome : LaneOutcome)
deriving DecidableEq, Repr

/-- A lane machine that is not IDLE (section 8.5). -/
structure LaneSession where
  bay       : BayIx
  slot      : SlotIx
  campaign  : Byte
  asset     : Option Word32
  minute    : Nat
  stage     : LaneStage
  wakeWait  : Option Nat
  limit     : Option Nat
  entered   : Option Nat
  accepted  : Bool
deriving DecidableEq, Repr

/-- The PVS (chapter 8); an IDLE lane machine holds no session. -/
structure Pvs where
  campaigns : Vector (Option Campaign) 4 := Vector.replicate 4 none
  queue     : List QueueItem := []
  lanes     : Vector (Option LaneSession) 2 := Vector.replicate 2 none
  streak    : Nat := 0
deriving DecidableEq, Repr

/-- The RPU's one counter (R157, R166). -/
structure Rpu where
  answered : Word32 := 0
deriving DecidableEq, Repr

/-! ## The machine -/

/-- The whole machine. `pending` is the queue of commands that wait, first in, first out; `now` the
time in ms; `freeCount` counts the free choices drawn (assumptions 7, 15). -/
structure State where
  pending   : List Instr
  now       : Nat
  freeCount : Nat
  cfl       : Cfl
  lkc       : Lkc
  hands     : Hands
  pmn       : Pmn
  shu       : Shu
  bcc       : Bcc
  bays      : Vector Bay 8
  csu       : Csu
  pvs       : Pvs
  rpu       : Rpu
deriving DecidableEq, Repr

/-- The reasons a step can stop with a fault: none. The manual gives the part no event that halts it,
so no meaning faults (assumption 22). -/
inductive Fault where
deriving DecidableEq, Repr

/-- The reasons a step can be refused. -/
inductive Refusal where
  /-- Raised by `exec` alone, for a row that has no meaning yet; safe, since nothing is claimed. -/
  | notModelled (mnemonic : String)
deriving DecidableEq, Repr

/-- The CFL after power-on, before the straps and the record are read (assumption 6). -/
def cflReset : Cfl :=
  { phase := .start, address := 0, populated := 0, restartHeld := false, configRead := none,
    config := defaultConfig, flag := .good, digest := 0, listenTimer := none }

/-- The machine right after reset: every block at its power-on values (R22, R35, R55, R78, R98, R115,
R139, R156, R163), the straps not yet read, no command waiting. -/
def State.reset : State :=
  { pending := [], now := 0, freeCount := 0, cfl := cflReset, lkc := {}, hands := {}, pmn := {},
    shu := {}, bcc := {}, bays := Vector.replicate 8 {}, csu := {}, pvs := {}, rpu := {} }

end Sys2Proof.Machine
end

