-- ==== Sys2Proof/Machine/Formats.lean ====
section
/-! DEFINITION. Codes and layouts: bit and byte order, CRC-16 and the header check (R174, R175),
stuffing (R2), the frame on the line (section 1.2, 11 section 11.2), the kind table (R4) and the codes of
chapter 11. -/

namespace Sys2Proof.Machine

/-! ## Bits and bytes (R174) -/

/-- The bits of a word, most significant first. -/
def bitsOf {w : Nat} (x : BitVec w) : List Bool :=
  (List.range w).map fun i => x.getMsbD i

/-- The number whose bits, most significant first, are given. -/
def natOfBits (bits : List Bool) : Nat :=
  bits.foldl (fun n b => 2 * n + b.toNat) 0

/-- The bits of a body: ascending byte number, each byte most significant bit first. -/
def bodyBits (body : List Byte) : List Bool := body.flatMap bitsOf

/-- The bytes spelled by bits, eight at a time. -/
def bytesOfBits : Nat → List Bool → List Byte
  | 0, _ => []
  | n + 1, bits => BitVec.ofNat 8 (natOfBits (bits.take 8)) :: bytesOfBits n (bits.drop 8)

/-- A two-byte value, most significant byte first. -/
def bytes16 (n : Nat) : List Byte := [BitVec.ofNat 8 (n / 256), BitVec.ofNat 8 n]

/-- A four-byte value, most significant byte first. -/
def bytes32 (x : Word32) : List Byte :=
  [x.extractLsb' 24 8, x.extractLsb' 16 8, x.extractLsb' 8 8, x.extractLsb' 0 8]

/-- Byte `i` of a body. -/
def byteAt (body : List Byte) (i : Nat) : Byte := body.getD i 0

/-- The two-byte value at byte `i`. -/
def word16At (body : List Byte) (i : Nat) : Word16 := byteAt body i ++ byteAt body (i + 1)

/-- The four-byte value at byte `i`. -/
def word32At (body : List Byte) (i : Nat) : Word32 := word16At body i ++ word16At body (i + 2)

/-- A byte as a two's complement number (R174). -/
def signedByte (b : Byte) : Int := b.toInt

/-- The lesser of a value and the greatest that `w` bits hold. -/
def heldAt (limit n : Nat) : Nat := min n limit

/-! ## CRC-16 (R175) -/

/-- One bit through the generator x^16 + x^12 + x^5 + 1. -/
def crcStep (r : Word16) (b : Bool) : Word16 :=
  if Bool.xor r.msb b then (r <<< 1) ^^^ 0x1021#16 else r <<< 1

/-- The CRC-16 of R175: initial value 0xFFFF, input most significant bit first, not inverted. -/
def crc16 (bits : List Bool) : Word16 := bits.foldl crcStep 0xFFFF#16

/-- The configuration digest (R24, R175): B, R, N_cfg after clamping. -/
def configDigest (c : WorkingConfig) : Word16 :=
  crc16 (bodyBits (bytes16 c.budget ++ bytes16 c.reserve ++ [BitVec.ofNat 8 c.shelves]))

/-! ## The header and its check (R9, R175) -/

/-- The 37 header bits by field (section 1.2). -/
structure Header where
  cls    : BitVec 4
  bid    : BitVec 12
  source : BitVec 4
  kind   : BitVec 6
  dest   : BitVec 5
  length : BitVec 6
deriving DecidableEq, Repr

/-- The header bits in order of transmission. -/
def headerBits (h : Header) : List Bool :=
  bitsOf h.cls ++ bitsOf h.bid ++ bitsOf h.source ++ bitsOf h.kind ++ bitsOf h.dest ++ bitsOf h.length

/-- The header read from 37 bits. -/
def headerOfBits (bits : List Bool) : Header :=
  let field (at_ w : Nat) : Nat := natOfBits ((bits.drop at_).take w)
  { cls := BitVec.ofNat 4 (field 0 4), bid := BitVec.ofNat 12 (field 4 12),
    source := BitVec.ofNat 4 (field 16 4), kind := BitVec.ofNat 6 (field 20 6),
    dest := BitVec.ofNat 5 (field 26 5), length := BitVec.ofNat 6 (field 31 6) }

/-- The positions of the header bits: those from 1 to 43 that are no powers of two. -/
def dataPositions : List Nat :=
  [3, 5, 6, 7, 9, 10, 11, 12, 13, 14, 15, 17, 18, 19, 20, 21, 22, 23, 24, 25, 26, 27, 28, 29, 30, 31,
   33, 34, 35, 36, 37, 38, 39, 40, 41, 42, 43]

/-- The positions of the check bits c_0 to c_5. -/
def checkPositions : List Nat := [1, 2, 4, 8, 16, 32]

/-- The exclusive or of the numbers of the positions that hold a 1. Its bit k is the parity of the
positions whose number has bit k set, so it is the syndrome of R175. -/
def positionXor (positions : List Nat) (bits : List Bool) : Nat :=
  (positions.zip bits).foldl (fun a p => if p.2 then a ^^^ p.1 else a) 0

/-- The parity of a list of bits: `true` for an odd number of ones. -/
def oddParity (bits : List Bool) : Bool := bits.foldl Bool.xor false

/-- The seven bits of the header check: c_0 to c_5, then the overall parity bit. -/
def headerCheck (header : List Bool) : List Bool :=
  let x := positionXor dataPositions header
  let checks := (List.range 6).map fun k => x.testBit k
  checks ++ [oddParity (header ++ checks)]

/-- What the receiver finds in the 44 header bits (R9, R175): nothing wrong, one wrong bit that it
corrects, or a wrong header. -/
inductive HeaderFinding where
  | clean (header : Header)
  | corrected (header : Header)
  | bad
deriving DecidableEq, Repr

/-- A bit list with the bit at one place turned over. -/
def flipAt (bits : List Bool) (i : Nat) : List Bool :=
  bits.mapIdx fun j b => if j = i then !b else b

/-- The header check of R9 and the table of R175 over 37 header bits, six check bits and the overall
parity bit. A wrong check bit leaves the header fields as they are. -/
def checkHeader (bits : List Bool) : HeaderFinding :=
  let header := bits.take 37
  let checks := (bits.drop 37).take 6
  let syndrome := positionXor dataPositions header ^^^ positionXor checkPositions checks
  let odd := oddParity (bits.take 44)
  if syndrome = 0 then
    if odd then .corrected (headerOfBits header) else .clean (headerOfBits header)
  else if odd && decide (syndrome ≤ 43) then
    .corrected (headerOfBits (flipAt header (dataPositions.idxOf syndrome)))
  else .bad

/-! ## Stuffing (R2) -/

/-- Stuffing after a run of `run` bits of value `last`: after every fifth equal bit a bit of the
opposite value, which counts as the first bit of the next run. -/
def stuffFrom (last : Bool) (run : Nat) : List Bool → List Bool
  | [] => []
  | b :: bits =>
    let run' := if b = last then run + 1 else 1
    if run' = 5 then b :: (!b) :: stuffFrom (!b) 1 bits else b :: stuffFrom b run' bits

/-- The stuffed part of a frame, from the start bit. -/
def stuff (bits : List Bool) : List Bool := stuffFrom true 0 bits

/-- What comes of removing stuff bits: the bits asked for with the run they end in and what
follows, a form error, or too few bits. -/
inductive Unstuffed where
  | ok (bits : List Bool) (last : Bool) (run : Nat) (rest : List Bool)
  | formError
  | short
deriving DecidableEq, Repr

/-- Put a bit before the bits of a result. -/
def unstuffCons (b : Bool) : Unstuffed → Unstuffed
  | .ok bits last run rest => .ok (b :: bits) last run rest
  | .formError => .formError
  | .short => .short

/-- Take `need` bits from the line, removing stuff bits (R2): a sixth equal bit is a form error. -/
def unstuff (last : Bool) (run need : Nat) : List Bool → Unstuffed
  | [] => if need = 0 then .ok [] last run [] else .short
  | b :: raw =>
    if need = 0 then .ok [] last run (b :: raw)
    else if run = 5 then
      if b = last then .formError else unstuff b 1 need raw
    else unstuffCons b (unstuff b (if b = last then run + 1 else 1) (need - 1) raw)

/-! ## A frame on the line -/

/-- The bits a sender puts on the line (section 1.2, R2, R175): start bit, header, header check, body
and body check, stuffed, then eight recessive bits. -/
def lineBits (h : Header) (body : List Byte) : List Bool :=
  let header := headerBits h
  let data := header ++ bodyBits body
  stuff (false :: (header ++ headerCheck header ++ bodyBits body ++ bitsOf (crc16 data))) ++
    List.replicate 8 true

/-! ## Reading back (R6, R7) -/

/-- For each bit of a stuffed sequence, whether it is a stuff bit (R2). -/
def stuffMarks (last : Bool) (run : Nat) : List Bool → List Bool
  | [] => []
  | b :: raw =>
    if run = 5 then true :: stuffMarks b 1 raw
    else false :: stuffMarks b (if b = last then run + 1 else 1) raw

/-- Section 1.2: the bit at a place of a stuffed frame is one of the 20 key bits, which follow the start bit. -/
def keyBit (driven : List Bool) (i : Nat) : Bool :=
  let marks := stuffMarks true 0 driven
  let before := (marks.take i).count false
  marks[i]? == some false && decide (1 ≤ before) && decide (before ≤ 20)

/-- The first place at which two sequences of bits differ. -/
def firstMismatch : List Bool → List Bool → Option Nat
  | b :: driven, c :: read => if b = c then (firstMismatch driven read).map (· + 1) else some 0
  | _, _ => none

/-- What a sender finds when it compares the bits it reads back with those it drives. -/
inductive ReadBack where
  /-- every bit read is the bit driven -/
  | same
  /-- a recessive key bit reads dominant (R6) -/
  | lost
  /-- any other first mismatch (R6, R7); a stuff bit within the key is no key bit (R2, assumption 43) -/
  | bitError
deriving DecidableEq, Repr

/-- R6, R7: the first mismatch between the bits driven and the bits read back decides. -/
def readBack (driven read : List Bool) : ReadBack :=
  match firstMismatch driven read with
  | none => .same
  | some i => if driven.getD i false && keyBit driven i then .lost else .bitError

/-! ## Reception -/

/-- What a receiver makes of the bits of one frame. -/
inductive Reception where
  /-- two wrong header bits (R9) -/
  | headerBad
  /-- a corrected length above 32 (R10) -/
  | lengthBad (corrected : Bool)
  /-- a form error before the end of the end field (R2, R10) -/
  | formError (corrected : Bool)
  /-- the end field was good (R10); `crcGood` says whether the body check matched -/
  | ended (corrected : Bool) (header : Header) (body : List Byte) (crcGood : Bool)
  /-- the bits are no whole reception: no event of the LKC -/
  | incomplete
deriving DecidableEq, Repr

/-- The end field after the stuffed part: a stuff bit if the last run was five (R2), then eight
recessive bits. -/
def receiveEnd (corrected : Bool) (header : Header) (body : List Byte) (crcGood : Bool)
    (last : Bool) (run : Nat) (raw : List Bool) : Reception :=
  let stuffBad := decide (run = 5) && raw.head? == some last
  let field := if run = 5 then raw.drop 1 else raw
  if stuffBad then .formError corrected
  else if (field.take 8).any (· == false) then .formError corrected
  else if field.length = 8 then .ended corrected header body crcGood
  else .incomplete

/-- The body, body check and end field of a frame whose header has been accepted (R10). -/
def receiveBody (corrected : Bool) (h : Header) (last : Bool) (run : Nat) (raw : List Bool) : Reception :=
  let n := h.length.toNat
  if 32 < n then .lengthBad corrected
  else
    match unstuff last run (8 * n + 16) raw with
    | .short => .incomplete
    | .formError => .formError corrected
    | .ok bits last' run' rest =>
      let body := bytesOfBits n bits
      let crc := crc16 (headerBits h ++ bodyBits body)
      receiveEnd corrected h body (decide (bits.drop (8 * n) = bitsOf crc)) last' run' rest

/-- Reception of the bits on the line from a frame's first bit on (R2, R9, R10). The first bit is the start bit; it
is recessive where the station follows after an error in its own start bit (R7). -/
def receiveBits (raw : List Bool) : Reception :=
  match unstuff true 0 45 raw with
  | .short => .incomplete
  | .formError => .formError false
  | .ok bits last run rest =>
    match checkHeader (bits.drop 1) with
    | .bad => .headerBad
    | .clean h => receiveBody false h last run rest
    | .corrected h => receiveBody true h last run rest

/-! ## The kind table (R4) -/

/-- Every kind, in the order of R4. -/
def allKinds : List FrameKind :=
  [.heartbeat, .present, .offer, .deny, .released, .returned, .event, .overdue, .enroll, .revoke,
   .bayset, .restart, .campaign, .provStatus, .query, .status]

/-- The kind code. -/
def kindCode : FrameKind → BitVec 6
  | .heartbeat => 0x01
  | .present => 0x08
  | .offer => 0x09
  | .deny => 0x0A
  | .released => 0x10
  | .returned => 0x11
  | .event => 0x12
  | .overdue => 0x13
  | .enroll => 0x18
  | .revoke => 0x19
  | .bayset => 0x1A
  | .restart => 0x1B
  | .campaign => 0x20
  | .provStatus => 0x21
  | .query => 0x28
  | .status => 0x29

/-- The kind of a code, none for a code that is not in the table (R11). -/
def kindOfCode (code : BitVec 6) : Option FrameKind := allKinds.find? fun k => kindCode k == code

/-- The class of a kind. -/
def kindClass : FrameKind → Nat
  | .heartbeat => 0
  | .present => 1
  | .offer => 1
  | .deny => 1
  | .released => 2
  | .returned => 2
  | .event => 2
  | .overdue => 2
  | .enroll => 3
  | .revoke => 3
  | .bayset => 3
  | .restart => 3
  | .campaign => 4
  | .provStatus => 4
  | .query => 5
  | .status => 5

/-- The body lengths a kind admits (R4, R11). -/
def kindLengthGood (k : FrameKind) (n : Nat) : Bool :=
  match k with
  | .heartbeat => n == 16
  | .present => n == 9
  | .offer => n == 9
  | .deny => n == 7
  | .released => n == 14
  | .returned => n == 8
  | .event => n == 8
  | .overdue => n == 11
  | .enroll => n == 12
  | .revoke => n == 4
  | .bayset => n == 10
  | .restart => n == 4
  | .campaign => n == 11
  | .provStatus => n == 11
  | .query => n == 8
  | .status => decide (3 ≤ n) && decide (n ≤ 32)

/-- The role a sender must hold; none for "any". -/
def kindAcceptedFrom : FrameKind → Option Role
  | .heartbeat => none
  | .present => some .panel
  | .offer => some .shelf
  | .deny => some .shelf
  | .released => some .shelf
  | .returned => some .shelf
  | .event => some .shelf
  | .overdue => some .shelf
  | .enroll => some .panel
  | .revoke => some .panel
  | .bayset => none
  | .restart => none
  | .campaign => some .gateway
  | .provStatus => some .shelf
  | .query => none
  | .status => some .shelf

/-- The block that receives a kind; a RESTART is first the CSU's. -/
def kindReceiver : FrameKind → Option Block
  | .heartbeat => some .pmn
  | .present => some .csu
  | .offer => some .csu
  | .deny => some .csu
  | .released => some .csu
  | .returned => some .csu
  | .event => none
  | .overdue => none
  | .enroll => some .csu
  | .revoke => some .csu
  | .bayset => some .csu
  | .restart => some .csu
  | .campaign => some .pvs
  | .provStatus => none
  | .query => some .rpu
  | .status => none

/-! ## Codes of chapter 11 -/

/-- Role codes. -/
def roleCode : Role → Nat
  | .none => 0
  | .shelf => 1
  | .panel => 2
  | .gateway => 3

/-- R28: any other role byte gives NONE. -/
def roleOfByte (b : Byte) : Role :=
  if b = 1 then .shelf else if b = 2 then .panel else if b = 3 then .gateway else .none

/-- Request kind codes. -/
def requestCode : RequestKind → Nat
  | .checkout => 1
  | .giveBack => 2
  | .opening => 3

/-- The request kind of a byte; none for any other (R124). -/
def requestOfByte (b : Byte) : Option RequestKind :=
  if b = 1 then some .checkout else if b = 2 then some .giveBack
  else if b = 3 then some .opening else none

/-- Release reason codes. -/
def reasonCode : ReleaseReason → Nat
  | .checkout => 1
  | .giveBack => 2
  | .opening => 3
  | .service => 4

/-- Door attribute codes. -/
def attrCode : OpenAttr → Nat
  | .authorized => 1
  | .forced => 2
  | .unsecured => 3

/-- Credential roles by their code; none for other values (R118). -/
def credentialRoleOfByte (b : Byte) : Option CredentialRole :=
  if b = 0 then some .technician else if b = 1 then some .staff
  else if b = 2 then some .student else if b = 3 then some .guest else none

/-- The role level (00 section 5.1). -/
def roleLevel : CredentialRole → Nat
  | .technician => 0
  | .staff => 1
  | .student => 2
  | .guest => 3

/-- Charge state numbers: the order of the chapter Bay Charging. -/
def chargeCode : ChargeState → Nat
  | .vacant => 0
  | .identifying => 1
  | .charging => 2
  | .held => 3
  | .maintain => 4
  | .thermal => 5
  | .unmanaged => 6
  | .fault => 7
  | .outOfService => 8

/-- Door state in bits 0 to 3, attribute in bits 4 to 7 (0 outside OPEN). -/
def doorCode : DoorState → Nat
  | .secure => 0
  | .releasing => 1
  | .opened a => 2 + 16 * attrCode a
  | .closing => 3
  | .unsecured => 4

/-- Sideband state numbers. -/
def channelCode : ChannelState → Nat
  | .off => 0
  | .active => 1
  | .silent => 2
  | .stuck => 3

/-- BAY_FAULT detail values. -/
def faultCode : FaultKind → Nat
  | .short => 1
  | .overdraw => 2

/-- PROV_STATUS outcome codes. -/
def outcomeCode : LaneOutcome → Nat
  | .success => 1
  | .failRefused => 2
  | .failTimeout => 3
  | .failTablet => 4
  | .failDropped => 5
  | .abortCustody => 6
  | .abortCharge => 7
  | .abortCancel => 8
  | .abortRemoved => 9
  | .abortSilent => 10

/-- The outcomes that count an attempt (R153). -/
def outcomeFails : LaneOutcome → Bool
  | .failRefused | .failTimeout | .failTablet | .failDropped => true
  | .success | .abortCustody | .abortCharge | .abortCancel | .abortRemoved | .abortSilent => false

/-- Peer state codes; an ABSENT entry is coded 0 (R165). -/
def peerStateCode : PeerState → Nat
  | .live => 1
  | .quiet => 2
  | .lost => 3

/-- Loan state codes. -/
def loanStateCode : LoanState → Nat
  | .running => 1
  | .overdue => 2

/-- Dock register numbers (section 5.7). -/
def registerNumber : DockRegister → Nat
  | .ident => 0
  | .battery => 1
  | .chargeRequest => 2
  | .chargeLimit => 3
  | .profile => 4
  | .provControl => 5
  | .custody => 6

/-- Data lengths n (section 5.7). -/
def registerLength : DockRegister → Nat
  | .ident => 8
  | .battery => 4
  | .chargeRequest => 3
  | .chargeLimit => 2
  | .profile => 5
  | .provControl => 2
  | .custody => 5

/-- R63: the voltage of a voltage code; a code that names none of the five gives 5 V. -/
def voltageOfCode (code : Byte) : Nat :=
  if code = 2 then 9 else if code = 3 then 12 else if code = 4 then 15
  else if code = 5 then 20 else 5

/-- R94: provisioning states 0 to 4; any other value is taken as ERROR. -/
def provStateOfByte (b : Byte) : ProvState :=
  if b = 0 then .idle else if b = 1 then .ready else if b = 2 then .running
  else if b = 3 then .done else .error

/-- The byte that makes the sum of a list of bytes 0 modulo 256 (R83, R84). -/
def checkByte (bytes : List Byte) : Byte := -(bytes.foldl (· + ·) 0)

/-- Whether the sum of the bytes is 0 modulo 256. -/
def sumGood (bytes : List Byte) : Bool := bytes.foldl (· + ·) 0 == 0

/-- The register of an exchange. -/
def bodyRegister : ExchangeBody → DockRegister
  | .read r => r
  | .write (.custody _) => .custody
  | .write (.provControl _) => .provControl
  | .write (.chargeLimit _) => .chargeLimit

/-- The data bytes of a write (11 section 11.5). -/
def writeBytes : DockWrite → List Byte
  | .chargeLimit g => bytes16 g
  | .provControl v => [if v.enter then 1 else 2, v.campaign]
  | .custody v => (if v.released then 2 else 1) :: bytes32 v.credential

/-- Direction of an exchange: a write has bit 7 of the call byte set (R82). -/
def bodyIsWrite : ExchangeBody → Bool
  | .read _ => false
  | .write _ => true

/-- The call byte (R82, 11 section 11.5): direction, exchange number, register number. -/
def callByte (body : ExchangeBody) (number : BitVec 2) : Byte :=
  BitVec.ofNat 8 ((bodyIsWrite body).toNat * 128 + number.toNat * 32 + registerNumber (bodyRegister body))

/-- The bytes the JF816 sends in an attempt: the call of a read (R83), or the call, data and check
byte of a write (R84). -/
def attemptBytes (body : ExchangeBody) (number : BitVec 2) : List Byte :=
  let call := callByte body number
  match body with
  | .read _ => [call, ~~~call]
  | .write w => [call, ~~~call] ++ writeBytes w ++ [checkByte (call :: writeBytes w)]

/-- The ten bits of a byte on the sideband wire (R79): low start bit, data least significant bit
first, high stop bit. -/
def sidebandBits (b : Byte) : List Bool :=
  false :: ((List.range 8).map fun i => b.getLsbD i) ++ [true]

/-- R79: the value of a sideband bit is the majority of its three samples. -/
def majority (s : BitSamples) : Bool := (s.first && s.second) || (s.first && s.third) || (s.second && s.third)

/-- What a receiver makes of the sampled bits behind a falling edge (R79). -/
inductive WireByte where
  /-- a start bit that is sampled high: ignored -/
  | glitch
  /-- the stop bit has not been sampled: a byte still being received -/
  | unfinished
  /-- a stop bit that is sampled low -/
  | framing
  | byte (value : Byte)
deriving DecidableEq, Repr

/-- R79: the bits are the majorities of their samples, the data bits least significant first. -/
def readWireByte : SampledByte → WireByte
  | [] => .unfinished
  | start :: rest =>
    if majority start then .glitch
    else
      match rest[8]? with
      | none => .unfinished
      | some stop =>
        if majority stop then .byte (BitVec.ofNat 8 (natOfBits ((rest.take 8).map majority).reverse))
        else .framing

/-- R79, R83: the bytes received from the falling edges seen in a window; none where one of them was a FRAMING
error, which has ended the exchange. -/
def receivedBytes : List SampledByte → Option (List Byte)
  | [] => some []
  | c :: cs =>
    match readWireByte c with
    | .glitch => receivedBytes cs
    | .unfinished => receivedBytes cs
    | .framing => none
    | .byte b => (receivedBytes cs).map (b :: ·)

end Sys2Proof.Machine
end

