-- ==== Sys2Proof/Machine/Ops.lean ====
section
/-! DEFINITION. The named operations over the state that every block uses: bay access, the clock, the
notices blocks hand one another, and the transmit queue (R16, R18). -/

namespace Sys2Proof.Machine

/-! ## Bays -/

/-- The record of bay `b`. -/
def State.bay (s : State) (b : BayIx) : Bay := s.bays[b]

/-- The state with the record of bay `b` replaced. -/
def State.setBay (s : State) (b : BayIx) (x : Bay) : State := { s with bays := s.bays.set b x }

/-- Rewrite the record of one bay. -/
def State.modBay (s : State) (b : BayIx) (f : Bay → Bay) : State := s.setBay b (f (s.bay b))

/-- Rewrite the charge section of a bay. -/
def State.modCharge (s : State) (b : BayIx) (f : Charge → Charge) : State :=
  s.modBay b fun x => { x with charge := f x.charge }

/-- Rewrite the sideband channel of a bay. -/
def State.modChannel (s : State) (b : BayIx) (f : Channel → Channel) : State :=
  s.modBay b fun x => { x with channel := f x.channel }

/-- Rewrite the tablet view of a bay. -/
def State.modView (s : State) (b : BayIx) (f : TabletView → TabletView) : State :=
  s.modBay b fun x => { x with view := f x.view }

/-- Rewrite the door section of a bay. -/
def State.modDoor (s : State) (b : BayIx) (f : Door → Door) : State :=
  s.modBay b fun x => { x with door := f x.door }

/-- Rewrite the provisioning section of a bay. -/
def State.modProv (s : State) (b : BayIx) (f : Prov → Prov) : State :=
  s.modBay b fun x => { x with prov := f x.prov }

/-- Rewrite the counters of a bay. -/
def State.modCounters (s : State) (b : BayIx) (f : BayCounters → BayCounters) : State :=
  s.modBay b fun x => { x with counters := f x.counters }

/-- Whether bay `b` is populated (R168); none is while the count is unread. -/
def State.populated (s : State) (b : BayIx) : Bool := decide (b.val < s.cfl.populated)

/-- The populated bays in ascending index. -/
def State.populatedBays (s : State) : List BayIx := allBays.filter s.populated

/-- Whether the station is ACTIVE. -/
def State.isActive (s : State) : Bool := s.cfl.phase == .active

/-- Whether frames are received: LISTEN or ACTIVE (R21). -/
def State.hearing (s : State) : Bool := s.cfl.phase != .start

/-! ## Clock -/

/-- The moment a timer that ends at `t` expires: the clock is then at `t`, or past it when the
expiry is taken late (assumption 4). -/
def State.advanceTo (s : State) (t : Nat) : State := { s with now := max s.now t }

/-- R1: the idle count: the bit times since the line became idle, 250 in each ms, held at 11; 0 while the line is not
idle. -/
def State.idleCount (s : State) : Nat :=
  if s.lkc.line = .idle then heldAt 11 (s.lkc.idleBits + 250 * (s.now - s.lkc.idleSince)) else 0

/-- The BCC's seconds count (R74): whole seconds since the reset, held at 4294967295. -/
def State.seconds (s : State) : Nat := heldAt 4294967295 ((s.now - s.bcc.since) / 1000)

/-- The age of a peer entry in ms, held at 65535 (R27). -/
def peerAge (now : Nat) (p : Peer) : Nat := heldAt 65535 (now - p.heardAt)

/-! ## Notices -/

/-- What one block hands another inside a command. -/
inductive Notice where
  /-- a recomputation trigger for the SHU (R47) -/
  | recompute
  /-- a split trigger for the BCC (R66) -/
  | split
  /-- an attribute or lane change that enters the wish and class of a bay (R64, R65) -/
  | wishInput (bay : BayIx)
  /-- the charge state of a bay changed (R145, R151) -/
  | chargeChanged (bay : BayIx)
  /-- a channel state notice (R81) -/
  | channelChanged (bay : BayIx) (state : ChannelState)
  /-- a channel state notice taken by the PVS after the BCC (R151, assumption 7) -/
  | laneChannel (bay : BayIx) (state : ChannelState)
  /-- a reading notice (R94, R96) -/
  | reading (bay : BayIx) (register : DockRegister) (cls : IdentClass)
  /-- the outcome of a write request (R92) -/
  | writeEnded (bay : BayIx) (write : DockWrite) (outcome : WriteOutcome)
  /-- a discard notice (R7, R16) -/
  | discarded (frame : TxFrame)
  /-- a door notice (R101); `leftSecure` marks a move out of SECURE -/
  | doorMoved (bay : BayIx) (leftSecure : Bool)
  /-- an episode end notice (R102) -/
  | episodeEnded (bay : BayIx) (attr : OpenAttr) (record : Option ReleaseRecord) (present : Bool)
  /-- a release request of the CSU (R103) -/
  | releaseAsked (bay : BayIx) (record : ReleaseRecord)
  /-- the LDC's outcome for a release (R132) -/
  | releaseAnswered (bay : BayIx) (record : ReleaseRecord) (outcome : ReleaseOutcome)
  /-- the PVS reports a bay's lane IDLE to the LDC (R103, R152) -/
  | laneIdle (bay : BayIx)
  /-- a re-evaluation by the PVS (R145): claim notices, attribute notices, and its other causes -/
  | reevaluate (bay : BayIx)
  /-- a re-evaluation of every bay (R142, R143) -/
  | reevaluateAll
  /-- a lane machine selects (R147) -/
  | select (lane : LaneIx)
  /-- out-of-service was set or cleared (R62) -/
  | serviceChanged (bay : BayIx)
deriving DecidableEq, Repr

/-- A state with the notices still to be worked, first first. -/
structure Work where
  st   : State
  todo : List Notice
deriving DecidableEq, Repr

/-- Work that starts from a state, with no notice raised yet. -/
def startWork (s : State) : Work := { st := s, todo := [] }

/-- Hand on a notice, behind those already raised. -/
def Work.raise (n : Notice) (w : Work) : Work := { w with todo := w.todo ++ [n] }

/-- Hand on a notice when a condition holds. -/
def Work.raiseIf (c : Bool) (n : Notice) (w : Work) : Work := if c then w.raise n else w

/-- Change the state and raise nothing. -/
def Work.upd (f : State → State) (w : Work) : Work := { w with st := f w.st }

/-- Do one thing for each element of a list, in order. -/
def forEach {α : Type} (xs : List α) (f : α → Work → Work) (w : Work) : Work :=
  xs.foldl (fun w x => f x w) w

/-! ## Error accumulation word and link counters (R19, R20) -/

/-- Rewrite the LKC's state. -/
def State.modLkc (s : State) (f : Lkc → Lkc) : State := { s with lkc := f s.lkc }

/-- The link counters with one of them increased. -/
def State.countLink (s : State) (f : LinkCounters → LinkCounters) : State :=
  s.modLkc fun l => { l with counters := f l.counters }

/-! ## The transmit queue (R16, R18) -/

/-- Class and bid of a queued frame as one number; every key of the queue ends in the own address
(section 1.5). -/
def TxFrame.rank (f : TxFrame) : Nat := kindClass f.kind * 4096 + f.bid

/-- The contention key of a queued frame (R3): class, bid, own address. -/
def TxFrame.key (own : Addr) (f : TxFrame) : Nat := f.rank * 16 + own.val

/-- R16: in ascending key order, behind every frame with an equal key. -/
def insertFrame (f : TxFrame) : List TxFrame → List TxFrame
  | [] => [f]
  | g :: gs => if f.rank < g.rank then f :: g :: gs else g :: insertFrame f gs

/-- R16: the queued frame of the highest key that is not in transmission, the last placed of them,
taken out of the queue. The queue is in key order, so it is the last that is not in transmission. -/
def takeLastIdle : List TxFrame → Option (TxFrame × List TxFrame)
  | [] => none
  | f :: fs =>
    match takeLastIdle fs with
    | some (victim, rest) => some (victim, f :: rest)
    | none => if f.inTransmission then none else some (f, fs)

/-- The most frames the transmit queue holds (section 1.5). -/
def txCapacity : Nat := 8

/-- What R16 does with a new frame: the queue after it and the frame it discards, if any. -/
def placeInQueue (f : TxFrame) (queue : List TxFrame) : List TxFrame × Option TxFrame :=
  if queue.length < txCapacity then (insertFrame f queue, none)
  else
    match takeLastIdle queue with
    | none => (queue, some f)
    | some (victim, rest) =>
      if f.rank < victim.rank then (insertFrame f rest, some victim) else (queue, some f)

/-- A frame that one of the station's blocks forms: attempt count 0, no marks. -/
def newFrame (kind : FrameKind) (bid : Nat) (dest : BitVec 5) (body : List Byte) (block : Block) : TxFrame :=
  { kind := kind, bid := bid, dest := dest, body := body, attempts := 0, inTransmission := false,
    withdrawal := false, block := block, deadline := none }

/-- The destination that means all stations. -/
def toAll : BitVec 5 := 31

/-- R18: withdraw the frames that `which` picks: those not in transmission leave the queue, one in
transmission keeps the withdrawal as pending. -/
def withdrawFrames (which : TxFrame → Bool) (queue : List TxFrame) : List TxFrame :=
  queue.filterMap fun f =>
    if which f then
      if f.inTransmission then some { f with withdrawal := true } else none
    else some f

end Sys2Proof.Machine
end

