-- ==== Sys2Proof/Machine/Flags.lean ====
section
/-! DEFINITION. The error accumulation word: its ten flags, their setting with the renewal marks, and
what a heartbeat does to them (R19); and placing a frame, which sets one of them (R16). -/

namespace Sys2Proof.Machine

/-- The ten flags of the error accumulation word (section 1.6). -/
inductive LinkFlag where
  | hdrCorrected | hdrBad | bodyBad | kindUnknown | lengthBad
  | txBitError | txDropped | rxOverrun | storm | clash
deriving DecidableEq, Repr

/-- The bit of a flag (11 section 11.3). -/
def flagBit : LinkFlag → Word16
  | .hdrCorrected => 0x0001
  | .hdrBad => 0x0002
  | .bodyBad => 0x0004
  | .kindUnknown => 0x0008
  | .lengthBad => 0x0010
  | .txBitError => 0x0020
  | .txDropped => 0x0040
  | .rxOverrun => 0x0080
  | .storm => 0x0100
  | .clash => 0x0200

/-- R19: a flag's event sets it, and sets its renewal mark when the flag is in the carried copy. -/
def Lkc.setFlag (l : Lkc) (f : LinkFlag) : Lkc :=
  { l with errors := l.errors ||| flagBit f, renewal := l.renewal ||| (l.carried &&& flagBit f) }

/-- A flag's event at the station. -/
def State.setFlag (s : State) (f : LinkFlag) : State := s.modLkc fun l => l.setFlag f

/-- R19: when a heartbeat body is placed or replaced, the word becomes the carried copy and every
renewal mark is cleared. -/
def Lkc.takeCopy (l : Lkc) : Lkc := { l with carried := l.errors, renewal := 0 }

/-- R19: the body with the error word in its last two bytes. -/
def fillWord (body : List Byte) (word : Word16) : List Byte :=
  body.take 14 ++ bytes16 word.toNat

/-- R19: a completed heartbeat clears the carried flags whose renewal mark is clear, empties the
carried copy and clears the renewal marks. -/
def Lkc.heartbeatDone (l : Lkc) : Lkc :=
  { l with errors := l.errors &&& ~~~(l.carried &&& ~~~l.renewal), carried := 0, renewal := 0 }

/-- R19: a discarded heartbeat clears no flag, empties the carried copy and the renewal marks. -/
def Lkc.heartbeatDropped (l : Lkc) : Lkc := { l with carried := 0, renewal := 0 }

/-- R7, R16: a frame dropped on transmit sets TX_DROPPED, is counted, and its block gets a discard
notice. -/
def dropFrame (f : TxFrame) (w : Work) : Work :=
  (w.upd fun s => (s.setFlag .txDropped).countLink fun c => { c with dropped := c.dropped + 1 }).raise
    (.discarded f)

/-- R16: place a frame in the transmit queue. -/
def place (f : TxFrame) (w : Work) : Work :=
  let r := placeInQueue f w.st.lkc.queue
  let w' := w.upd fun s => s.modLkc fun l => { l with queue := r.1 }
  match r.2 with
  | none => w'
  | some g => dropFrame g w'

/-- R159: whether a frame would find a place at its placement. -/
def findsPlace (f : TxFrame) (queue : List TxFrame) : Bool := (placeInQueue f queue).2 != some f

/-- An EVENT frame (11 section 11.3): bay, detail word, detail value, code; bid 16 + code. -/
def eventFrame (code : Nat) (bay : Byte) (word : Word32) (value : Nat) (block : Block) : TxFrame :=
  newFrame .event (16 + code) toAll ((bay :: bytes32 word) ++ bytes16 value ++ [BitVec.ofNat 8 code]) block

/-- A bay index as a body byte. -/
def bayByte (b : BayIx) : Byte := BitVec.ofNat 8 b.val

/-- The bay byte of an EVENT that names no bay. -/
def noBay : Byte := 255

/-- Place an EVENT addressed to all stations. -/
def placeEvent (code : Nat) (bay : Byte) (word : Word32) (value : Nat) (block : Block) (w : Work) : Work :=
  place (eventFrame code bay word value block) w

end Sys2Proof.Machine
end

