-- ==== Sys2Proof/Machine/Operands.lean ====
section
/-! DEFINITION. What the bodies of received frames, the data of read dock registers and the
configuration record say (11 sections 11.3, 11.5, 11.6; R94, R170). -/

namespace Sys2Proof.Machine

/-! ## Frame bodies -/

/-- A received HEARTBEAT (R28): the station state byte and the masks are not kept; bits 10 to 15 of the error word
are no flags and are not read (R174). -/
structure HeartbeatBody where
  role      : Role
  digest    : Word16
  claim     : Nat
  draw      : Nat
  allowance : Nat
  errorWord : Word16
deriving DecidableEq, Repr

/-- The fields of a HEARTBEAT body. -/
def readHeartbeat (b : List Byte) : HeartbeatBody :=
  { role := roleOfByte (byteAt b 0), digest := word16At b 2, claim := (word16At b 4).toNat,
    draw := (word16At b 6).toNat, allowance := (word16At b 8).toNat,
    errorWord := word16At b 14 &&& 0x03FF#16 }

/-- The reader of a PRESENT, bits 0 and 1 of byte 0; the other bits are not read (R174). -/
def bodyReader (b : List Byte) : Reader :=
  ⟨(byteAt b 0).toNat % 4, Nat.mod_lt _ (by decide)⟩

/-- The reader of an OFFER or DENY, byte 0 whole; a value above 3 names no reader (assumption 33). -/
def answerReader (b : List Byte) : Option Reader :=
  if h : (byteAt b 0).toNat < 4 then some ⟨(byteAt b 0).toNat, h⟩ else none

/-- The sequence of a PRESENT, OFFER or DENY. -/
def bodySequence (b : List Byte) : Byte := byteAt b 1

/-- A PRESENT's fields (R124); the kind is none when it names no request. -/
structure PresentBody where
  reader      : Reader
  sequence    : Byte
  kind        : Option RequestKind
  credential  : Word32
  openStation : Byte
  openBay     : Byte
deriving DecidableEq, Repr

/-- The fields of a PRESENT body. -/
def readPresent (b : List Byte) : PresentBody :=
  { reader := bodyReader b, sequence := bodySequence b, kind := requestOfByte (byteAt b 2),
    credential := word32At b 3, openStation := byteAt b 7, openBay := byteAt b 8 }

/-- An ENROLL's fields (R118); the role is none when its value names none. -/
structure EnrollBody where
  number    : Word32
  role      : Option CredentialRole
  groups    : Word16
  asset     : Word32
  suspended : Bool
deriving DecidableEq, Repr

/-- The fields of an ENROLL body. -/
def readEnroll (b : List Byte) : EnrollBody :=
  { number := word32At b 0, role := credentialRoleOfByte (byteAt b 4), groups := word16At b 5,
    asset := word32At b 7, suspended := (byteAt b 11).getLsbD 0 }

/-- A BAYSET's fields (R122). -/
structure BaysetBody where
  authoriser   : Word32
  bay          : Nat
  mask         : Byte
  group        : Fin 16
  openLevel    : Nat
  reserved     : Bool
  outOfService : Bool
  optOut       : Bool
deriving DecidableEq, Repr

/-- The fields of a BAYSET body. -/
def readBayset (b : List Byte) : BaysetBody :=
  { authoriser := word32At b 0, bay := (byteAt b 4).toNat, mask := byteAt b 5,
    group := ⟨(byteAt b 6).toNat % 16, Nat.mod_lt _ (by decide)⟩,
    openLevel := (byteAt b 6).toNat / 16, reserved := byteAt b 7 != 0,
    outOfService := byteAt b 8 != 0, optOut := byteAt b 9 != 0 }

/-- A CAMPAIGN's fields (R142). -/
structure CampaignBody where
  operation : Byte
  id        : Byte
  profile   : Nat
  target    : Nat
  model     : Word16
  groups    : Word16
  limit     : Nat
deriving DecidableEq, Repr

/-- The fields of a CAMPAIGN body. -/
def readCampaign (b : List Byte) : CampaignBody :=
  { operation := byteAt b 0, id := byteAt b 1, profile := (byteAt b 2).toNat,
    target := (word16At b 3).toNat, model := word16At b 5, groups := word16At b 7,
    limit := (word16At b 9).toNat }

/-- A QUERY's fields (section 9.1). -/
structure QueryBody where
  item       : Nat
  index      : Nat
  maximum    : Nat
  clear      : Bool
  authoriser : Word32
deriving DecidableEq, Repr

/-- The fields of a QUERY body. -/
def readQuery (b : List Byte) : QueryBody :=
  { item := (byteAt b 0).toNat, index := (byteAt b 1).toNat, maximum := (byteAt b 2).toNat,
    clear := (byteAt b 3).getLsbD 0, authoriser := word32At b 4 }

/-- The asset tag of a RELEASED or RETURNED body. -/
def bodyAsset (b : List Byte) : Word32 := word32At b 1

/-- The contention key of a received frame as a number (R3). -/
def rxKey (f : RxFrame) : Nat := f.cls.toNat * 65536 + f.bid.toNat * 16 + f.source.val

/-! ## Dock registers (R94) -/

/-- The IDENT data, as reported. -/
def readIdentity (d : List Byte) : Identity :=
  { model := word16At d 0, asset := word32At d 2, version := byteAt d 6, capability := byteAt d 7 }

/-- The BATTERY data: SoC and health held at 100, the temperature within −40 to 125. -/
def readBattery (d : List Byte) : Battery :=
  { soc := heldAt 100 (byteAt d 0).toNat,
    temperature := max (-40) (min 125 (signedByte (byteAt d 1))),
    health := heldAt 100 (byteAt d 2).toNat,
    full := (byteAt d 3).getLsbD 0, charging := (byteAt d 3).getLsbD 1,
    fault := (byteAt d 3).getLsbD 2 }

/-- The CHARGE_REQUEST data, as reported. -/
def readRequest (d : List Byte) : ChargeRequest :=
  { code := byteAt d 0, power := (word16At d 1).toNat }

/-- The PROFILE data: an unknown provisioning state is ERROR, the progress is held at 100. -/
def readProfile (d : List Byte) : Profile :=
  { code := (byteAt d 0).toNat, version := (word16At d 1).toNat,
    state := provStateOfByte (byteAt d 3), progress := heldAt 100 (byteAt d 4).toNat }

/-- 11 section 11.5: the capability says that CUSTODY writes are taken. -/
def takesCustody (i : Identity) : Bool := i.capability.getLsbD 0

/-- 11 section 11.5: the capability says that PROV_CONTROL writes are taken. -/
def takesProvControl (i : Identity) : Bool := i.capability.getLsbD 1

/-! ## The configuration record (R169, R170) -/

/-- R170: a value outside its range is replaced by the nearer end. -/
def clampTo (low high n : Nat) : Nat := max low (min high n)

/-- R169: all 64 bytes, the marker 0x5C3E and the CRC-16 of bytes 0 to 61 good. -/
def recordGood (r : List Byte) : Bool :=
  (r.length == 64) && (word16At r 0 == 0x5C3E#16) &&
    (crc16 (bodyBits (r.take 62)) == word16At r 62)

/-- The ratio of a W code; a code naming none is taken as the default 4 (R170). -/
def ratioOfCode (b : Byte) : Ratio :=
  if b = 0 then .two else if b = 2 then .eight else if b = 3 then .strict else .four

/-- The class map: bit (c mod 8) of byte 27 + floor(c / 8) for profile code c. -/
def classMapOf (r : List Byte) : BitVec 64 :=
  BitVec.ofNat 64 ((List.range 8).foldl (fun n i => n + (byteAt r (27 + i)).toNat * 256 ^ i) 0)

/-- The working configuration of a good record, every value clamped (R170); R is clamped after B, and T_hot is a
two's complement byte (R174). -/
def configOfRecord (r : List Byte) : WorkingConfig :=
  let byte (i : Nat) : Nat := (byteAt r i).toNat
  let word (i : Nat) : Nat := (word16At r i).toNat
  let budget := clampTo 100 40000 (word 2)
  { budget := budget, reserve := clampTo 0 (budget / 2) (word 4),
    shelves := clampTo 1 12 (byte 6), bayMax := clampTo 50 450 (word 7),
    bayMin := clampTo 20 100 (byte 9), unmanaged := clampTo 20 200 (byte 10),
    laneExtra := clampTo 0 150 (byte 11), socLow := clampTo 10 50 (byte 12),
    tempHot := (max 35 (min 60 (signedByte (byteAt r 13)))).toNat, releaseTime := clampTo 3 30 (byte 14),
    ajarTime := clampTo 10 600 (word 15), socRelease := clampTo 0 100 (byte 17),
    guestTime := clampTo 30 1440 (word 18), loanTime := clampTo 30 10080 (word 20),
    limitStudent := clampTo 1 8 (byte 22), limitStaff := clampTo 1 8 (byte 23),
    limitGuest := clampTo 1 8 (byte 24), socProv := clampTo 10 90 (byte 25),
    ratio := ratioOfCode (byteAt r 26), classMap := classMapOf r }

end Sys2Proof.Machine
end

