-- ==== Sys2Proof/Machine/Link.lean ====
section
/-! DEFINITION. The Link Controller's operations: composing a frame (R3), the heartbeat in the queue
(R17), the three endings of a transmission (R6, R7, R8), and what is done with a frame received
(R10 to R15). -/

namespace Sys2Proof.Machine

/-! ## Sending -/

/-- R3: the header of a queued frame: class and bid of its kind, the own strap address as source. -/
def frameHeader (own : Addr) (f : TxFrame) : Header :=
  { cls := BitVec.ofNat 4 (kindClass f.kind), bid := BitVec.ofNat 12 f.bid,
    source := BitVec.ofNat 4 own.val, kind := kindCode f.kind, dest := f.dest,
    length := BitVec.ofNat 6 f.body.length }

/-- The bits that go out on the line for a queued frame. -/
def frameBits (own : Addr) (f : TxFrame) : List Bool := lineBits (frameHeader own f) f.body

/-- Rewrite the frames in transmission. -/
def mapSending (f : TxFrame → TxFrame) (queue : List TxFrame) : List TxFrame :=
  queue.map fun g => if g.inTransmission then f g else g

/-- The queue without the frame in transmission. -/
def dropSending (queue : List TxFrame) : List TxFrame := queue.filter fun g => !g.inTransmission

/-- The frame in transmission. -/
def sendingFrame (queue : List TxFrame) : Option TxFrame := queue.find? fun g => g.inTransmission

/-- R5: the head of the queue is marked as in transmission. -/
def markHead : List TxFrame → List TxFrame
  | [] => []
  | f :: fs => { f with inTransmission := true } :: fs

/-- R17: the queued heartbeat, if there is one. -/
def queuedHeartbeat (queue : List TxFrame) : Option TxFrame := queue.find? fun f => f.kind == .heartbeat

/-- R19: write the current error word into the queued heartbeat's body and take it as the carried
copy. -/
def Lkc.refillHeartbeat (l : Lkc) : Lkc :=
  { l.takeCopy with
    queue := l.queue.map fun f =>
      if f.kind == .heartbeat then { f with body := fillWord f.body l.errors } else f }

/-- R17: place a heartbeat body as a new heartbeat under R16, with a fresh copy of the error word. -/
def placeHeartbeat (body : List Byte) (w : Work) : Work :=
  (place (newFrame .heartbeat 0 toAll body .shu) w).upd fun s => s.modLkc Lkc.refillHeartbeat

/-- R17: a body replaces the queued heartbeat's in place, with attempt count 0 and a fresh copy. -/
def Lkc.replaceHeartbeat (l : Lkc) (body : List Byte) : Lkc :=
  Lkc.refillHeartbeat
    { l with queue := l.queue.map fun f =>
        if f.kind == .heartbeat then { f with body := body, attempts := 0 } else f }

/-- R17: a heartbeat body offered by the SHU. -/
def offerHeartbeat (body : List Byte) (w : Work) : Work :=
  match queuedHeartbeat w.st.lkc.queue with
  | none => placeHeartbeat body w
  | some f =>
    if f.inTransmission then w.upd fun s => s.modLkc fun l => { l with pendingHeartbeat := some body }
    else w.upd fun s => s.modLkc fun l => l.replaceHeartbeat body

/-- R17: the pending heartbeat leaves its place and is placed as a new heartbeat. -/
def placePending (w : Work) : Work :=
  match w.st.lkc.pendingHeartbeat with
  | none => w
  | some body =>
    placeHeartbeat body (w.upd fun s => s.modLkc fun l => { l with pendingHeartbeat := none })

/-- R17: the pending heartbeat leaves its place and replaces the body of the queued one. -/
def Lkc.replaceByPending (l : Lkc) : Lkc :=
  match l.pendingHeartbeat with
  | none => l
  | some body => Lkc.replaceHeartbeat { l with pendingHeartbeat := none } body

/-- The station stops driving and follows the frame on the line as its receiver, with the bits read back as that
frame's first bits (R6, R7). -/
def Lkc.followAsReceiver (read : List Bool) (l : Lkc) : Lkc :=
  { l with line := .receiving, driven := [], followed := read }

/-- R6, R18: contention lost. The frame stays with its attempt count; a withdrawal pending on it
removes it; a pending heartbeat takes the body of the queued one. -/
def loseContention (f : TxFrame) (read : List Bool) (l : Lkc) : Lkc :=
  let l' := l.followAsReceiver read
  if f.withdrawal then { l' with queue := dropSending l'.queue }
  else
    let kept : Lkc := { l' with queue := mapSending (fun g => { g with inTransmission := false }) l'.queue }
    if f.kind == .heartbeat then kept.replaceByPending else kept

/-- R7, R17, R18: a transmit bit error. On the third the frame is dropped; a withdrawal pending on the
frame removes it with no more than TX_BIT_ERROR. -/
def transmitError (f : TxFrame) (read : List Bool) (w : Work) : Work :=
  let w := w.upd fun s => (s.setFlag .txBitError).modLkc (Lkc.followAsReceiver read)
  if f.withdrawal then w.upd fun s => s.modLkc fun l => { l with queue := dropSending l.queue }
  else if f.attempts + 1 = 3 then
    let w := w.upd fun s => s.modLkc fun l => { l with queue := dropSending l.queue }
    let w := dropFrame { f with attempts := 3, inTransmission := false } w
    if f.kind == .heartbeat then placePending (w.upd fun s => s.modLkc Lkc.heartbeatDropped) else w
  else
    let w := w.upd fun s => s.modLkc fun l =>
      { l with queue := mapSending (fun g => { g with attempts := g.attempts + 1, inTransmission := false }) l.queue }
    if f.kind == .heartbeat then w.upd fun s => s.modLkc Lkc.replaceByPending else w

/-- R8, R17, R19: a transmission completes at the LKC. -/
def completeTransmission (f : TxFrame) (w : Work) : Work :=
  let w := w.upd fun s =>
    (s.modLkc fun l =>
      { l with line := .idle, idleSince := s.now, idleBits := 0, driven := [], queue := dropSending l.queue }).countLink
      fun c => { c with sent := c.sent + 1 }
  if f.kind == .heartbeat then placePending (w.upd fun s => s.modLkc Lkc.heartbeatDone) else w

/-! ## Receiving -/

/-- R20: one more frame discarded, with a flag. -/
def discardReceived (f : LinkFlag) (s : State) : State :=
  (s.setFlag f).countLink fun c => { c with discarded := c.discarded + 1 }

/-- R9: a corrected header sets HDR_CORRECTED and is counted. -/
def noteCorrected (corrected : Bool) (s : State) : State :=
  if corrected then (s.setFlag .hdrCorrected).countLink fun c => { c with corrected := c.corrected + 1 }
  else s

/-- The LKC stops following a frame before its end (R9, R10), or begins to listen (R21): it is waiting for idle, with
its count of recessive bits at 0 (assumption 5). -/
def waitForIdle (s : State) : State :=
  s.modLkc fun l => { l with line := .waiting, recessive := 0, followed := [] }

/-- The LKC has followed a frame to the end of its end field (R1): the line is idle. -/
def lineFree (s : State) : State :=
  s.modLkc fun l => { l with line := .idle, idleSince := s.now, idleBits := 0, followed := [] }

/-- The most frames the receive queue holds (R13). -/
def rxCapacity : Nat := 6

/-- A frame at the tail of the receive queue. -/
def queueReceived (f : RxFrame) (s : State) : State :=
  s.modLkc fun l => { l with received := l.received ++ [f] }

/-- R14: the storm limit on a PRESENT for which the queue has space. -/
def stormLimit (f : RxFrame) (s : State) : State :=
  let r := bodyReader f.body
  let opened (n : Nat) (start : Nat) : State :=
    queueReceived f (s.modLkc fun l => { l with storm := l.storm.set r (some { start := start, count := n }) })
  match s.lkc.storm[r] with
  | none => opened 1 s.now
  | some win =>
    if win.start + stormTime ≤ s.now then opened 1 s.now
    else if win.count < 4 then opened (win.count + 1) win.start
    else (s.setFlag .storm).countLink fun c => { c with stormed := c.stormed + 1 }

/-- R13: a frame received good. -/
def acceptFrame (f : RxFrame) (s : State) : State :=
  let s := s.countLink fun c => { c with good := c.good + 1 }
  match kindReceiver f.kind with
  | none => s
  | some _ =>
    if rxCapacity ≤ s.lkc.received.length then discardReceived .rxOverrun s
    else if f.kind == .present then stormLimit f s
    else queueReceived f s

/-- R12: the frame's destination is this station or all stations. -/
def addressedHere (own : Addr) (dest : BitVec 5) : Bool := dest == toAll || dest.toNat == own.val

/-- The sender-role check of R15 and R31: the source's entry, LIVE or QUIET, holds the role. -/
def roleCheck (s : State) (f : RxFrame) : Bool :=
  match kindAcceptedFrom f.kind with
  | none => true
  | some role =>
    match s.pmn.peers[f.source] with
    | none => false
    | some p => (p.state != .lost) && (p.role == role)

/-- The hand of a block (R15). -/
def State.hand (s : State) : Block → Option RxFrame
  | .pmn => s.hands.pmn
  | .csu => s.hands.csu
  | .pvs => s.hands.pvs
  | .rpu => s.hands.rpu
  | .lkc | .shu | .bcc | .sbc | .ldc | .cfl => none

/-- The state with the hand of a block set. -/
def State.setHand (s : State) (x : Option RxFrame) : Block → State
  | .pmn => { s with hands := { s.hands with pmn := x } }
  | .csu => { s with hands := { s.hands with csu := x } }
  | .pvs => { s with hands := { s.hands with pvs := x } }
  | .rpu => { s with hands := { s.hands with rpu := x } }
  | .lkc | .shu | .bcc | .sbc | .ldc | .cfl => s

/-- R15: the oldest frame waits while its block is at work on another; one that needs the role check waits while the
PMN, which is asked for the entry, is at work on a heartbeat that arrived before it. -/
def mustWait (s : State) (f : RxFrame) (b : Block) : Bool :=
  (s.hand b).isSome || ((kindAcceptedFrom f.kind).isSome && s.hands.pmn.isSome)

/-- R15: hand the oldest received frame over, or ignore it by role. -/
def handOver (s : State) : State :=
  match s.lkc.received with
  | [] => s
  | f :: rest =>
    match kindReceiver f.kind with
    | none => s.modLkc fun l => { l with received := rest }
    | some b =>
      if mustWait s f b then s
      else
        let s' := s.modLkc fun l => { l with received := rest }
        if roleCheck s f then s'.setHand (some f) b
        else s'.countLink fun c => { c with ignored := c.ignored + 1 }

end Sys2Proof.Machine
end

