-- ==== Sys2Proof/Machine/Share.lean ====
section
/-! DEFINITION. The Share Unit: the cart draw estimate and the guard (R51 to R53), the recomputation
(R38 to R48), the need and the draw presented to it (R39), the claim history (R25) and the heartbeat
body (R24). -/

namespace Sys2Proof.Machine

/-! ## The peer table as the SHU reads it (R38, R42) -/

/-- The entries that are not ABSENT and whose role is SHELF; the own entry takes no part (R27). -/
def State.shelfPeers (s : State) : List Peer :=
  allAddrs.filterMap fun a =>
    if a = s.cfl.address then none
    else
      match s.pmn.peers[a] with
      | some p => if p.role == .shelf then some p else none
      | none => none

/-- R50: MISMATCH is held while at least one entry carries the mismatch flag. -/
def State.mismatchHeld (s : State) : Bool :=
  allAddrs.any fun a => match s.pmn.peers[a] with
    | some p => p.mismatch
    | none => false

/-- R50: CLASH is held while the clash hold runs. -/
def State.clashHeld (s : State) : Bool := s.pmn.clashHold.isSome

/-- R50: borrowing is suspended while a reason is held, and while the station is ISOLATED. -/
def State.suspended (s : State) : Bool :=
  s.mismatchHeld || s.clashHeld || s.shu.guard || s.pmn.isolated

/-- R42: the term of a shelf entry. -/
def peerTerm (floor : Nat) (p : Peer) : Nat :=
  match p.state with
  | .live => p.claim
  | .quiet => max floor p.claim
  | .lost => floor

/-- R42: the terms of the N_eff stations: the station itself, the shelf entries, the unheard. -/
def shareTerms (settled floor unheard : Nat) (shelves : List Peer) : List Nat :=
  settled :: shelves.map (peerTerm floor) ++ List.replicate unheard floor

/-- R43: the surplus S of a list of terms. -/
def surplusOf (floor : Nat) (terms : List Nat) : Nat := (terms.map fun t => floor - t).sum

/-- R43: the total excess X of a list of terms. -/
def excessOf (floor : Nat) (terms : List Nat) : Nat := (terms.map fun t => t - floor).sum

/-- R44, R45: the target T. -/
def targetOf (suspended : Bool) (settled floor surplus total : Nat) : Nat :=
  if suspended then min settled floor
  else if settled ≤ floor then settled
  else if total ≤ surplus then settled
  else floor + surplus * (settled - floor) / total

/-- R40: the cap on the claim. -/
def claimCap (c : WorkingConfig) : Nat := 8 * c.bayMax + 2 * c.laneExtra

/-! ## The guard (R51 to R53) -/

/-- R51: the cart draw estimate, with the F and U of the latest recomputation. -/
def State.drawEstimate (s : State) : Nat :=
  s.shu.draw +
    (s.shelfPeers.map fun p => if p.state == .live then p.draw else s.shu.floor).sum +
    s.shu.unheard * s.shu.floor

/-- R51: the lift threshold, A − floor(A / 20). -/
def liftThreshold (available : Nat) : Nat := available - available / 20

/-- R52, R53: one evaluation of the guard. Each stands by itself, so the guard can depend on which of two triggers of
one moment comes first, which R49 denies; the model follows R52 (assumption 45). -/
def evaluateGuard (s : State) : State :=
  let e := s.drawEstimate
  if s.shu.guard then
    if e < liftThreshold s.shu.available then
      match s.shu.liftTimer with
      | some _ => s
      | none => { s with shu := { s.shu with liftTimer := some (s.now + liftTime) } }
    else { s with shu := { s.shu with liftTimer := none } }
  else if s.shu.available < e then { s with shu := { s.shu with guard := true } }
  else s

/-! ## Recomputation (R48) -/

/-- Step 1 of R48: the claim and the references (R40). -/
def recomputeClaim (s : State) : State :=
  { s with shu := { s.shu with
      claim := min (max s.shu.need s.shu.draw) (claimCap s.cfl.config),
      refNeed := s.shu.need, refDraw := s.shu.draw } }

/-- Step 2 of R48: K, N_eff, F and U (R38). -/
def recomputeFloor (s : State) : State :=
  let k := s.shelfPeers.length
  let n := max s.cfl.config.shelves (1 + k)
  { s with shu := { s.shu with
      heard := k, nEff := n, floor := s.shu.available / n, unheard := n - 1 - k } }

/-- R41: the settled claim, the least of the current claim and the four history slots. -/
def settledOf (claim : Nat) (history : Vector Nat 4) : Nat := history.toList.foldl min claim

/-- Steps 4 to 6 of R48: s, the terms, S, the excesses, T and L. -/
def recomputeTarget (s : State) : State :=
  let settled := settledOf s.shu.claim s.shu.history
  let terms := shareTerms settled s.shu.floor s.shu.unheard s.shelfPeers
  let surplus := surplusOf s.shu.floor terms
  let total := excessOf s.shu.floor terms
  let target := targetOf s.suspended settled s.shu.floor surplus total
  { s with shu := { s.shu with
      settled := settled, surplus := surplus, excess := settled - s.shu.floor,
      totalExcess := total, target := target, allowance := target } }

/-- A whole recomputation (R48) in ACTIVE; in START and LISTEN the SHU lets the trigger pass (R47). -/
def recomputed (s : State) : State :=
  if s.isActive then recomputeTarget (evaluateGuard (recomputeFloor (recomputeClaim s))) else s

/-- R48, R66: a recomputation hands its allowance to the BCC, whose split follows. -/
def recompute (w : Work) : Work :=
  (w.upd recomputed).raiseIf w.st.isActive .split

/-- R39: a difference of 10 dW or more, in either direction. -/
def differsByTen (a b : Nat) : Bool := decide (10 ≤ a - b) || decide (10 ≤ b - a)

/-- R39: the BCC presents the need. -/
def presentNeed (need : Nat) (w : Work) : Work :=
  (w.upd fun s => { s with shu := { s.shu with need := need } }).raiseIf
    (w.st.isActive && differsByTen need w.st.shu.refNeed) .recompute

/-- R39, R52: the BCC presents the measured draw, held at 65535: an evaluation point of the guard,
and a recomputation when it differs from its reference or the guard changes. -/
def presentDraw (draw : Nat) (w : Work) : Work :=
  let d := heldAt 65535 draw
  let s := { w.st with shu := { w.st.shu with draw := d } }
  if s.isActive then
    let s' := evaluateGuard s
    { w with st := s' }.raiseIf (differsByTen d s.shu.refDraw || (s'.shu.guard != s.shu.guard)) .recompute
  else { w with st := s }

/-! ## History and heartbeat (R24, R25) -/

/-- R25: append a claim as the newest slot and drop the oldest. -/
def appendHistory (h : Vector Nat 4) (claim : Nat) : Vector Nat 4 := #v[h[1], h[2], h[3], claim]

/-- A mask byte: bit n for each populated bay n of which `p` holds (R24, R174). -/
def maskOf (s : State) (p : BayIx → Bool) : Byte :=
  BitVec.ofNat 8 (s.populatedBays.foldl (fun n b => if p b then n + 2 ^ b.val else n) 0)

/-- Whether a lane machine serves the bay (its position is on a lane). -/
def State.laneOf (s : State) (b : BayIx) : Option LaneIx :=
  allLanes.find? fun n => match s.pvs.lanes[n] with
    | some x => x.bay == b
    | none => false

/-- The measured power of the populated bays together (R24, R39). -/
def State.measuredDraw (s : State) : Nat := (s.populatedBays.map fun b => (s.bay b).charge.power).sum

/-- R24: station state in bits 0 and 1, CONFIG_DEFAULT, CONFIG_BAD and BORROW_SUSPENDED in bits 4, 5, 6. -/
def heartbeatConditions (s : State) : Byte :=
  BitVec.ofNat 8
    ((if s.pmn.isolated then 3 else 2) + (s.cfl.flag == .byDefault).toNat * 16 +
      (s.cfl.flag == .bad).toNat * 32 + s.suspended.toNat * 64)

/-- R24: the heartbeat body; its last two bytes are written by the LKC (R19). -/
def heartbeatBody (s : State) : List Byte :=
  [BitVec.ofNat 8 (roleCode .shelf), heartbeatConditions s] ++
    bytes16 s.cfl.digest.toNat ++ bytes16 s.shu.claim ++
    bytes16 (heldAt 65535 s.measuredDraw) ++ bytes16 s.shu.allowance ++
    [maskOf s fun _ => true, maskOf s fun b => (s.bay b).present,
      maskOf s fun b => (s.bay b).charge.state == .charging, maskOf s fun b => (s.laneOf b).isSome,
      0, 0]

end Sys2Proof.Machine
end

