-- ==== Sys2Proof/Machine/Sideband.lean ====
section
/-! DEFINITION. The Sideband Commander: write requests and their outcomes (R91, R92), reads asked for
(R95), the start, retry and end of an exchange (R82 to R87), silence, a stuck wire and presence loss
(R88 to R90), readings (R94, R96) and poll timers (R93). -/

namespace Sys2Proof.Machine

/-! ## Requests -/

/-- R92: whether the tablet takes writes of this register, as far as its identity is held. -/
def writeSupported (v : TabletView) : DockWrite → Bool
  | .chargeLimit _ => true
  | .custody _ => match v.identity with
    | some i => takesCustody i
    | none => true
  | .provControl _ => match v.identity with
    | some i => takesProvControl i
    | none => true

/-- The pending write of the same register as a request (R91). -/
def pendingSame (c : Channel) : DockWrite → Option DockWrite
  | .custody _ => c.custody.map .custody
  | .provControl _ => c.provControl.map .provControl
  | .chargeLimit _ => c.chargeLimit.map .chargeLimit

/-- The channel with a write in the pending-exchange list. -/
def addPending (c : Channel) : DockWrite → Channel
  | .custody v => { c with custody := some v }
  | .provControl v => { c with provControl := some v }
  | .chargeLimit v => { c with chargeLimit := some v }

/-- R92: a write request of one of the blocks. A request that is REFUSED without an exchange counts as answered by the
tablet in the table of R85, and sets the drop count to 0 (assumption 38). -/
def requestWrite (b : BayIx) (x : DockWrite) (w : Work) : Work :=
  let bay := w.st.bay b
  if bay.channel.state != .active then w.raise (.writeEnded b x .cancelled)
  else if !writeSupported bay.view x then
    (w.upd fun s => s.modChannel b fun c => { c with drops := 0 }).raise (.writeEnded b x .refused)
  else
    let w' := w.upd fun s => s.modChannel b fun c => addPending c x
    match pendingSame bay.channel x with
    | some old => w'.raise (.writeEnded b old .replaced)
    | none => w'

/-- The pending writes of a channel, in order of priority (R91). -/
def pendingWrites (c : Channel) : List DockWrite :=
  (c.custody.map .custody).toList ++ (c.provControl.map .provControl).toList ++
    (c.chargeLimit.map .chargeLimit).toList

/-- R88, R89, R90: each pending write is removed with the outcome CANCELLED. -/
def cancelWrites (b : BayIx) (w : Work) : Work :=
  let old := pendingWrites (w.st.bay b).channel
  let w' := w.upd fun s => s.modChannel b fun c =>
    { c with custody := none, provControl := none, chargeLimit := none }
  forEach old (fun x => Work.raise (.writeEnded b x .cancelled)) w'

/-- R81: a change of channel state is handed on as a state notice; a channel that is already in the state hands on none,
also at a presence loss (assumption 35). -/
def setChannelState (b : BayIx) (st : ChannelState) (w : Work) : Work :=
  if (w.st.bay b).channel.state == st then w
  else (w.upd fun s => s.modChannel b fun c => { c with state := st }).raise (.channelChanged b st)

/-- The due mark of a read register set; the write registers have none. -/
def markDue (r : DockRegister) (c : Channel) : Channel :=
  match r with
  | .ident => { c with dueIdent := true }
  | .battery => { c with dueBattery := true }
  | .chargeRequest => { c with dueRequest := true }
  | .profile => { c with dueProfile := true }
  | .chargeLimit | .provControl | .custody => c

/-- The due mark of a read register cleared. -/
def clearDue (r : DockRegister) (c : Channel) : Channel :=
  match r with
  | .ident => { c with dueIdent := false }
  | .battery => { c with dueBattery := false }
  | .chargeRequest => { c with dueRequest := false }
  | .profile => { c with dueProfile := false }
  | .chargeLimit | .provControl | .custody => c

/-- The reads that follow IDENT (R58). -/
def followingReads : List DockRegister := [.battery, .chargeRequest, .profile]

/-- R95: reads asked of a channel; a STUCK or OFF channel sets no mark. -/
def requestReads (b : BayIx) (rs : List DockRegister) (s : State) : State :=
  match (s.bay b).channel.state with
  | .active | .silent => s.modChannel b fun c => rs.foldl (fun c r => markDue r c) c
  | .off | .stuck => s

/-- R81, R95: an identification request; an OFF channel becomes ACTIVE first. -/
def requestIdentification (b : BayIx) (w : Work) : Work :=
  let w' :=
    if (w.st.bay b).channel.state == .off then
      setChannelState b .active (w.upd fun s => s.modChannel b fun c => { c with drops := 0 })
    else w
  w'.upd (requestReads b (.ident :: followingReads))

/-- R148, R93: the bay is placed on a lane: the PROFILE read is due at once and its timer stops; where a PROFILE read is in
progress already, its end starts the timer again (assumption 40). -/
def profileAtOnce (b : BayIx) (s : State) : State :=
  s.modChannel b fun c => { c with dueProfile := true, profileTimer := none }

/-! ## Exchanges -/

/-- R91: the highest entry of the list that the channel may start. -/
def nextEntry (c : Channel) : Option ExchangeBody :=
  match c.state with
  | .active =>
    match pendingWrites c with
    | x :: _ => some (.write x)
    | [] =>
      if c.dueIdent then some (.read .ident)
      else if c.dueBattery then some (.read .battery)
      else if c.dueRequest then some (.read .chargeRequest)
      else if c.dueProfile then some (.read .profile)
      else none
  | .silent => if c.dueIdent then some (.read .ident) else none
  | .off | .stuck => none

/-- R91: starting an entry removes it from the list. -/
def removeEntry (x : ExchangeBody) (c : Channel) : Channel :=
  match x with
  | .read r => clearDue r c
  | .write (.custody _) => { c with custody := none }
  | .write (.provControl _) => { c with provControl := none }
  | .write (.chargeLimit _) => { c with chargeLimit := none }

/-- An attempt of an exchange: after a wake pulse the call waits (R87), else it goes out now. -/
def attempt (body : ExchangeBody) (number : BitVec 2) (retry wake : Bool) : Exchange :=
  { body := body, number := number, retry := retry,
    stage := if wake then .waking else .called,
    sent := if wake then [] else attemptBytes body number }

/-! ## The line watches (R80, R87, R89) -/

/-- The counts after a stretch of the wire at one level while the JF816 does not pull it: the high-run count, the
low-run count, and the bit times since a wake pulse, each held at the greatest value that a rule asks for. The wire of
a channel that is OFF is not watched (R89, R97). -/
def watchRun (r : WireRun) (c : Channel) : Channel :=
  if c.state = .off ∨ r.length = 0 then c
  else
    { c with
      highRun := if r.high then heldAt 1920 (c.highRun + r.length) else 0,
      lowRun := if r.high then 0 else heldAt 480 (c.lowRun + r.length),
      wakeIdle := heldAt 384 (c.wakeIdle + r.length) }

/-- R80: the turnaround gap has passed: the wire has been high for 20 bit times. -/
def gapPassed (c : Channel) : Bool := decide (20 ≤ c.highRun)

/-- R87: the call after a wake pulse may begin: 384 bit times have passed since its end, and the wire has been high for
the last 20 of them. -/
def wakePassed (c : Channel) : Bool := decide (384 ≤ c.wakeIdle) && gapPassed c

/-- The JF816 pulls the wire: the counts start anew (R80, R87, R89). -/
def pullWire (c : Channel) : Channel := { c with highRun := 0, lowRun := 0, wakeIdle := 0 }

/-- R80, R82, R87, R91: start the highest entry after the turnaround gap, with the next exchange number; an IDENT
read begins with its wake pulse. -/
def startExchange (c : Channel) : Channel :=
  match c.exchange, nextEntry c with
  | none, some body =>
    if gapPassed c then
      let number := c.counter + 1
      let c' := removeEntry body c
      { pullWire c' with
        counter := number,
        exchange := some (attempt body number false (bodyRegister body == .ident)) }
    else c
  | _, _ => c

/-- R87: the call of an exchange whose wake pulse has been sent. -/
def callAfterWake (c : Channel) : Channel :=
  match c.exchange with
  | some x =>
    if x.stage == .waking && wakePassed c then
      { pullWire c with exchange := some (attempt x.body x.number x.retry false) }
    else c
  | none => c

/-- R80, R86, R87: the retry begins after the turnaround gap; it repeats the exchange number, and a wake pulse comes
before the retry of an IDENT read and the retry after NO_RESPONSE. -/
def startRetry (c : Channel) : Channel :=
  match c.exchange with
  | some x =>
    match x.stage with
    | .retryWait afterNoResponse =>
      if gapPassed c then
        { pullWire c with
          exchange := some
            (attempt x.body x.number true (afterNoResponse || bodyRegister x.body == .ident)) }
      else c
    | .waking | .called => c
  | none => c

/-- R93: a poll timer starts when a read of its register ends on an ACTIVE channel; the PROFILE period
depends on the bay's position. -/
def startPoll (now : Nat) (onLane : Bool) (r : DockRegister) (c : Channel) : Channel :=
  if c.state == .active then
    match r with
    | .battery => { c with batteryTimer := some (now + pollPeriod) }
    | .chargeRequest => { c with requestTimer := some (now + pollPeriod) }
    | .profile =>
      { c with profileTimer := some (now + if onLane then profileLanePeriod else profilePeriod) }
    | .ident | .chargeLimit | .provControl | .custody => c
  else c

/-- R93 at a bay; the read of PROFILE that ends may have begun before the bay was placed on its lane (assumption 40). -/
def startPollAt (b : BayIx) (r : DockRegister) (s : State) : State :=
  s.modChannel b (startPoll s.now (s.laneOf b).isSome r)

/-- R88: the entry to SILENT; `identAtOnce` is the difference R89 makes. -/
def enterSilent (b : BayIx) (identAtOnce : Bool) (w : Work) : Work :=
  let w := cancelWrites b w
  let w := w.upd fun s => s.modChannel b fun c =>
    { c with
      dueIdent := c.dueIdent || identAtOnce, dueBattery := false, dueRequest := false, dueProfile := false,
      batteryTimer := none, requestTimer := none, profileTimer := none,
      identTimer := if identAtOnce then none else some (s.now + identPollPeriod), drops := 0 }
  setChannelState b .silent w

/-- R86, R93, R88: the exchange in progress is dropped. -/
def dropExchange (b : BayIx) (w : Work) : Work :=
  match (w.st.bay b).channel.exchange with
  | none => w
  | some x =>
    let w := w.upd fun s =>
      (s.modChannel b fun c =>
        { c with exchange := none, drops := if c.state == .active then c.drops + 1 else c.drops }).modCounters b
        fun k => { k with failed := k.failed + 1 }
    let w := match x.body with
      | .write v => w.raise (.writeEnded b v .dropped)
      | .read r =>
        let w := w.upd (startPollAt b r)
        if r == .ident && (w.st.bay b).channel.state == .silent then
          w.upd fun s => s.modChannel b fun c => { c with identTimer := some (s.now + identPollPeriod) }
        else w
    if (w.st.bay b).channel.state == .active && decide (3 ≤ (w.st.bay b).channel.drops) then
      enterSilent b false w
    else w

/-- R85, R86: an attempt ends in a failure; a first attempt awaits its retry, a retry is dropped. -/
def failAttempt (b : BayIx) (noResponse : Bool) (w : Work) : Work :=
  match (w.st.bay b).channel.exchange with
  | none => w
  | some x =>
    if x.retry then dropExchange b w
    else w.upd fun s => s.modChannel b fun c =>
      { c with exchange := some { x with stage := .retryWait noResponse } }

/-- R85: an ending in which the tablet answered: the drop count is 0 and the exchange is over. -/
def endAnswered (b : BayIx) (s : State) : State :=
  s.modChannel b fun c => { c with exchange := none, drops := 0 }

/-- R96: the class of an IDENT reading. -/
def classify (held : Option Identity) (new : Identity) : IdentClass :=
  match held with
  | none => .first
  | some old => if old.asset = new.asset then .same else .swap

/-- R96: an IDENT reading is taken into the view; a SWAP clears the other parts, places EVENT SWAP and
sets the marks of the reads that follow. -/
def takeIdentity (b : BayIx) (new : Identity) (w : Work) : Work :=
  let cls := classify (w.st.bay b).view.identity new
  let w :=
    if cls == .swap then
      (placeEvent 8 (bayByte b) new.asset 0 .sbc
        (w.upd fun s => s.modView b fun _ => { identity := some new })).upd (requestReads b followingReads)
    else w.upd fun s => s.modView b fun v => { v with identity := some new }
  w.raise (.reading b .ident cls)

/-- R94: a successful read replaces the fields of its register whole, then its notice goes out. -/
def takeReading (b : BayIx) (r : DockRegister) (data : List Byte) (w : Work) : Work :=
  match r with
  | .ident => takeIdentity b (readIdentity data) w
  | .battery =>
    (w.upd fun s => s.modView b fun v => { v with battery := some (readBattery data) }).raise
      (.reading b .battery .same)
  | .chargeRequest =>
    (w.upd fun s => s.modView b fun v => { v with request := some (readRequest data) }).raise
      (.reading b .chargeRequest .same)
  | .profile =>
    (w.upd fun s => s.modView b fun v => { v with profile := some (readProfile data) }).raise
      (.reading b .profile .same)
  | .chargeLimit | .provControl | .custody => w

/-- R88: an IDENT read that succeeds makes a SILENT channel ACTIVE and sets the marks of the other
reads. -/
def answeredFromSilence (b : BayIx) (w : Work) : Work :=
  if (w.st.bay b).channel.state == .silent then
    (setChannelState b .active
      (w.upd fun s => s.modChannel b fun c => { c with identTimer := none })).upd (requestReads b followingReads)
  else w

/-- R83, R94: a read that succeeds. -/
def readSucceeds (b : BayIx) (r : DockRegister) (data : List Byte) (w : Work) : Work :=
  let w := w.upd (endAnswered b)
  let w := if r == .ident then answeredFromSilence b w else w
  takeReading b r data (w.upd (startPollAt b r))

/-- R83: the bytes of a response have been received inside the window; n + 2 of them end the exchange. -/
def readResponse (b : BayIx) (bytes : List Byte) (w : Work) : Work :=
  match (w.st.bay b).channel.exchange with
  | none => w
  | some x =>
    match x.stage, x.body with
    | .called, .read r =>
      if bytes.length = registerLength r + 2 then
        if byteAt bytes 0 = callByte x.body x.number then
          if sumGood bytes then readSucceeds b r ((bytes.drop 1).take (registerLength r)) w
          else failAttempt b false w
        else failAttempt b false w
      else w
    | _, _ => w

/-- R83, R85: a read's window closes after fewer than n + 2 bytes. -/
def readWindowCloses (b : BayIx) (received : Nat) (w : Work) : Work :=
  match (w.st.bay b).channel.exchange with
  | none => w
  | some x =>
    match x.stage, x.body with
    | .called, .read r =>
      if received ≤ registerLength r + 1 then failAttempt b (decide (received = 0)) w else w
    | _, _ => w

/-- R84, R92: a byte is received in a write's acknowledgement window. -/
def writeAnswer (b : BayIx) (answer : Byte) (w : Work) : Work :=
  match (w.st.bay b).channel.exchange with
  | none => w
  | some x =>
    match x.stage, x.body with
    | .called, .write v =>
      let call := callByte x.body x.number
      if answer = call then (w.upd (endAnswered b)).raise (.writeEnded b v .accepted)
      else if answer = ~~~call then (w.upd (endAnswered b)).raise (.writeEnded b v .refused)
      else failAttempt b false w
    | _, _ => w

/-- R84: a write's acknowledgement window closes with no byte. -/
def writeWindowCloses (b : BayIx) (w : Work) : Work :=
  match (w.st.bay b).channel.exchange with
  | none => w
  | some x =>
    match x.stage, x.body with
    | .called, .write _ => failAttempt b true w
    | _, _ => w

/-- R79: a stop bit sampled low ends the exchange in progress with FRAMING. -/
def framingEnds (b : BayIx) (w : Work) : Work :=
  match (w.st.bay b).channel.exchange with
  | none => w
  | some x => if x.stage == .called then failAttempt b false w else w

/-- R80, R87: the value that an attempt means to send in a bit time: a bit of its bytes, or low in the 96 bit times of a
wake pulse. -/
def meantBit (x : Exchange) (bit : Nat) : Option Bool :=
  match x.stage with
  | .called => (x.sent.flatMap sidebandBits)[bit]?
  | .waking => if bit < 96 then some false else none
  | .retryWait _ => none

/-- R80, R87: a bit that is read back otherwise than it was meant ends the exchange. -/
def bitErrorEnds (b : BayIx) (bit : Nat) (sample : BitSamples) (w : Work) : Work :=
  match (w.st.bay b).channel.exchange with
  | none => w
  | some x =>
    match meantBit x bit with
    | none => w
    | some meant => if majority sample = meant then w else failAttempt b false w

/-! ## A stuck wire and presence loss -/

/-- R89: the entry to STUCK. -/
def enterStuck (b : BayIx) (w : Work) : Work :=
  let w := dropExchange b w
  let w := cancelWrites b w
  let w := w.upd fun s => s.modChannel b fun c =>
    { c with
      dueIdent := false, dueBattery := false, dueRequest := false, dueProfile := false,
      identTimer := none, batteryTimer := none, requestTimer := none, profileTimer := none,
      drops := 0 }
  setChannelState b .stuck w

/-- R89: what a count that has reached its limit does: a wire held low for 480 bit times makes an ACTIVE or SILENT
channel STUCK, and one that has been high for 1920 makes a STUCK channel SILENT. -/
def wireReached (b : BayIx) (w : Work) : Work :=
  let c := (w.st.bay b).channel
  match c.state with
  | .active | .silent => if 480 ≤ c.lowRun then enterStuck b w else w
  | .stuck => if 1920 ≤ c.highRun then enterSilent b true w else w
  | .off => w

/-- The write of the exchange in progress. -/
def exchangeWrite (c : Channel) : List DockWrite :=
  match c.exchange with
  | some x =>
    match x.body with
    | .write v => [v]
    | .read _ => []
  | none => []

/-- R90: presence loss at the channel, whatever its state. The exchange counter keeps its value. -/
def channelLost (b : BayIx) (w : Work) : Work :=
  let own := exchangeWrite (w.st.bay b).channel
  let w := w.upd fun s => s.modChannel b fun c => { c with exchange := none }
  let w := cancelWrites b (forEach own (fun x => Work.raise (.writeEnded b x .cancelled)) w)
  let w := w.upd fun s =>
    (s.modChannel b fun c =>
      { c with
        dueIdent := false, dueBattery := false, dueRequest := false, dueProfile := false,
        identTimer := none, batteryTimer := none, requestTimer := none, profileTimer := none,
        drops := 0, lowRun := 0, highRun := 0, wakeIdle := 0 }).modView b fun _ => {}
  setChannelState b .off w

end Sys2Proof.Machine
end

