-- ==== Sys2Proof/Machine/Charge.lean ====
section
/-! DEFINITION. The Bay Charge Controller: charge states (R57 to R62), port voltage (R63), wishes and
classes (R64, R65), the split (R66 to R70), trips (R72 to R76). -/

namespace Sys2Proof.Machine

/-! ## What a bay is -/

/-- CHARGING, HELD and MAINTAIN are the managed states (section 4.2). -/
def managed : ChargeState → Bool
  | .charging | .held | .maintain => true
  | .vacant | .identifying | .thermal | .unmanaged | .fault | .outOfService => false

/-- The eligible states: those that take part in the split (section 4.2). They are also the four in
which the trip watches run (R72, R73). -/
def takesPart : ChargeState → Bool
  | .charging | .held | .maintain | .unmanaged => true
  | .vacant | .identifying | .thermal | .fault | .outOfService => false

/-- Whether the bay's lane machine is WAKING or CONNECTED for it. -/
def State.laneWorking (s : State) (b : BayIx) : Bool :=
  allLanes.any fun n => match s.pvs.lanes[n] with
    | some x =>
      x.bay == b &&
        (match x.stage with
          | .waking | .connected => true
          | .releasing _ => false)
    | none => false

/-- R64: a nonzero wish below the port voltage in dW is raised to that value. -/
def raiseWish (voltage wish : Nat) : Nat := if wish = 0 then 0 else max voltage wish

/-- R64: the wish of a managed bay before H_prov is added. -/
def requestedWish (c : WorkingConfig) (bay : Bay) : Nat :=
  if bay.view.battery.any (·.fault) then 0
  else
    match bay.view.request with
    | none => 0
    | some r => raiseWish bay.charge.voltage (min c.bayMax r.power)

/-- R64: the wish of a bay. H_prov is added while its lane machine is WAKING or CONNECTED, and the sum
is not below the port voltage either (assumption 10). -/
def State.wishOf (s : State) (b : BayIx) : Nat :=
  let bay := s.bay b
  match bay.charge.state with
  | .charging | .held | .maintain =>
    let wish := requestedWish s.cfl.config bay
    if s.laneWorking b then raiseWish bay.charge.voltage (wish + s.cfl.config.laneExtra) else wish
  | .unmanaged => s.cfl.config.unmanaged
  | .vacant | .identifying | .thermal | .fault | .outOfService => 0

/-- R65: the class of a bay, the lowest whose condition holds. An UNMANAGED bay is named under class 2 and a bay with no
SoC takes no class above it, so both are below class 3 (assumption 34). -/
def State.classOf (s : State) (b : BayIx) : Nat :=
  let bay := s.bay b
  if s.laneWorking b then 0
  else if bay.view.battery.any (fun x => decide (x.soc < s.cfl.config.socLow)) || bay.attrs.reserved then 1
  else if bay.charge.state != .unmanaged &&
      bay.view.battery.any (fun x => decide (90 ≤ x.soc) || bay.charge.state == .maintain) then 3
  else 2

/-- R64: the station's need, the sum of the wishes of the populated bays. -/
def State.needOf (s : State) : Nat := (s.populatedBays.map fun b => (s.bay b).charge.wish).sum

/-- R64, R65: compute the wish and class of a bay afresh; a change presents the need (R39) and starts a
split (R66). -/
def refreshWish (b : BayIx) (w : Work) : Work :=
  let wish := w.st.wishOf b
  let cls := w.st.classOf b
  let old := (w.st.bay b).charge
  let w' := w.upd fun s => s.modCharge b fun c => { c with wish := wish, cls := cls }
  let w' := if wish = old.wish then w' else presentNeed w'.st.needOf w'
  w'.raiseIf (wish != old.wish || cls != old.cls) .split

/-! ## Grants and limits -/

/-- R68: the port limit of a grant g at V volts: floor(g × 100 / V) mA, rounded down to a multiple of
10 mA, held at 3000 mA. -/
def portLimit (grant voltage : Nat) : Nat := min 3000 (grant * 100 / voltage / 10 * 10)

/-- R70: ask the SBC to queue a CHARGE_LIMIT write of the bay's grant, where the channel is ACTIVE and
the bay is not UNMANAGED. -/
def requestLimit (b : BayIx) (w : Work) : Work :=
  let bay := w.st.bay b
  if bay.channel.state == .active && bay.charge.state != .unmanaged then
    requestWrite b (.chargeLimit bay.charge.grant) w
  else w

/-- A new grant with its port limit; a limit of 0 abandons a SHORT hold (R72). -/
def withGrant (g : Nat) (c : Charge) : Charge :=
  let limit := portLimit g c.voltage
  { c with grant := g, limit := limit, shortHold := if limit = 0 then none else c.shortHold }

/-- R69, R70: give a bay a grant; a change requests its CHARGE_LIMIT write. -/
def setGrant (b : BayIx) (g : Nat) (w : Work) : Work :=
  if (w.st.bay b).charge.grant = g then w.upd fun s => s.modCharge b (withGrant g)
  else requestLimit b (w.upd fun s => s.modCharge b (withGrant g))

/-- Move a bay to a charge state. Leaving the four watched states stops the watches (R72, R73);
entering or leaving the eligible states starts a split (R66); the PVS gets a notice (R145). -/
def moveCharge (b : BayIx) (st : ChargeState) (w : Work) : Work :=
  let old := (w.st.bay b).charge.state
  if old == st then w
  else
    let w := w.upd fun s => s.modCharge b fun c =>
      if takesPart st then { c with state := st }
      else { c with state := st, overdraw := 0, shortHold := none }
    (w.raise (.chargeChanged b)).raiseIf (takesPart old != takesPart st) .split

/-! ## Entries into the states -/

/-- R58: the entry to IDENTIFYING: grant, limit and wish 0, the 3 s timer starts. `identRead` says that
a successful IDENT read caused it, and then only the reads that follow are asked for. The state changes before the grant,
so the fall of the grant of an UNMANAGED bay asks for its CHARGE_LIMIT write (assumption 14). -/
def enterIdentifying (b : BayIx) (identRead : Bool) (w : Work) : Work :=
  let w := moveCharge b .identifying w
  let w := setGrant b 0 w
  let w := w.upd fun s => s.modCharge b fun c =>
    { c with
      identTimer := some (s.now + identificationTime), unmanagedTimer := none,
      stage := if identRead then .awaitBattery else .awaitIdent }
  let w := refreshWish b w
  if identRead then w.upd (requestReads b followingReads) else requestIdentification b w

/-- R57: on the way into VACANT grant, limit and wish go to 0, the voltage to 5 V, timers and watches
stop. -/
def enterVacant (b : BayIx) (w : Work) : Work :=
  let w := moveCharge b .vacant w
  let w := setGrant b 0 w
  let w := w.upd fun s => s.modCharge b fun c =>
    { c with voltage := 5, identTimer := none, unmanagedTimer := none, shortHold := none,
             overdraw := 0, limitOwed := false, stage := .awaitIdent }
  (refreshWish b w).raise .split

/-- R58, R61: the entry to UNMANAGED, before the grant changes (assumption 14): grant and limit 0, 5 V, then the wish P_unmanaged and the class, and a split. The
IDENT reads every 10 s are the BCC's while the channel is ACTIVE. -/
def enterUnmanaged (b : BayIx) (w : Work) : Work :=
  let w := moveCharge b .unmanaged w
  let w := setGrant b 0 w
  let w := w.upd fun s => s.modCharge b fun c =>
    { c with
      voltage := 5, identTimer := none,
      unmanagedTimer :=
        if (s.bay b).channel.state == .active then some (s.now + unmanagedPeriod) else none }
  (refreshWish b w).raise .split

/-- R60: the entry to THERMAL: grant, limit and wish 0, with a CHARGE_LIMIT write (R70). -/
def enterThermal (b : BayIx) (w : Work) : Work :=
  let w := moveCharge b .thermal w
  let w := w.upd fun s => s.modCharge b (withGrant 0)
  (refreshWish b (requestLimit b w)).raise .split

/-- R62: the entry to OUT_OF_SERVICE from whatever state; the state changes before the grant (assumption 14). -/
def enterOutOfService (b : BayIx) (w : Work) : Work :=
  let w := moveCharge b .outOfService w
  let w := setGrant b 0 w
  let w := w.upd fun s => s.modCharge b fun c =>
    { c with identTimer := none, unmanagedTimer := none, shortHold := none, overdraw := 0 }
  (refreshWish b w).raise .split

/-- R62, R57, R63: the out-of-service attribute is cleared; a bay that becomes VACANT does so as R57 says, at 5 V. -/
def leaveOutOfService (b : BayIx) (w : Work) : Work :=
  if (w.st.bay b).charge.state == .outOfService then
    if (w.st.bay b).present && w.st.isActive then enterIdentifying b false w
    else enterVacant b w
  else w

/-- R62: the BCC's handling of a change of the out-of-service attribute. -/
def serviceChanged (b : BayIx) (w : Work) : Work :=
  if (w.st.bay b).attrs.outOfService then enterOutOfService b w else leaveOutOfService b w

/-! ## Readings (R58 to R60, R63) -/

/-- R59: the full flag set and SoC at or above 95. -/
def batteryFull (x : Battery) : Bool := x.full && decide (95 ≤ x.soc)

/-- R60: a temperature at or above T_hot. -/
def batteryHot (c : WorkingConfig) (x : Battery) : Bool := decide ((c.tempHot : Int) ≤ x.temperature)

/-- R59: CHARGING and HELD by wish and grant. -/
def heldMoves (b : BayIx) (w : Work) : Work :=
  let c := (w.st.bay b).charge
  match c.state with
  | .charging => if c.wish ≠ 0 ∧ c.grant = 0 then moveCharge b .held w else w
  | .held => if c.grant ≠ 0 ∨ c.wish = 0 then moveCharge b .charging w else w
  | .vacant | .identifying | .maintain | .thermal | .unmanaged | .fault | .outOfService => w

/-- R59: the moves of a managed bay, the row into THERMAL before any other. -/
def managedMoves (b : BayIx) (w : Work) : Work :=
  let bay := w.st.bay b
  if !managed bay.charge.state then w
  else if bay.view.battery.any (batteryHot w.st.cfl.config) then enterThermal b w
  else
    let w' :=
      match bay.view.battery with
      | none => w
      | some x =>
        if bay.charge.state == .maintain then
          if batteryFull x then w else moveCharge b .charging w
        else if batteryFull x then moveCharge b .maintain w
        else w
    heldMoves b (refreshWish b w')

/-- The voltage the tablet requests (R63); 5 V while it has requested none. -/
def requestedVoltage (v : TabletView) : Nat := (v.request.map fun r => voltageOfCode r.code).getD 5

/-- R58: the state that identification gives, the first case that applies. -/
def identifiedState (s : State) (b : BayIx) : ChargeState :=
  let battery := (s.bay b).view.battery
  if battery.any (batteryHot s.cfl.config) then .thermal
  else if battery.any batteryFull then .maintain
  else .charging

/-- R58, R63: the charge section when identification is complete: the timer stops, the voltage is set from the
request, and the first split owes a CHARGE_LIMIT write. -/
def identifiedCharge (v : TabletView) (c : Charge) : Charge :=
  { c with identTimer := none, voltage := requestedVoltage v, limitOwed := true, stage := .awaitIdent }

/-- R58, the per-bay charge counters: a session counts when the bay comes to CHARGING. -/
def countSession (st : ChargeState) (k : BayCounters) : BayCounters :=
  if st = .charging then { k with sessions := k.sessions + 1 } else k

/-- R58: identification is complete, with the state it gives. -/
def identifyAs (b : BayIx) (st : ChargeState) (w : Work) : Work :=
  let w := w.upd fun s =>
    (s.modCharge b (identifiedCharge (s.bay b).view)).modCounters b (countSession st)
  let w := moveCharge b st w
  let w := if st = .thermal then requestLimit b w else w
  (refreshWish b w).raise .split

/-- R58: identification is complete. -/
def completeIdentification (b : BayIx) (w : Work) : Work := identifyAs b (identifiedState w.st b) w

/-- R58: a successful read moves the identification of a bay on. -/
def identificationRead (b : BayIx) (r : DockRegister) (w : Work) : Work :=
  let stage := (w.st.bay b).charge.stage
  if r == .ident && stage == .awaitIdent then
    w.upd fun s => s.modCharge b fun c => { c with stage := .awaitBattery }
  else if r == .battery && stage == .awaitBattery then
    w.upd fun s => s.modCharge b fun c => { c with stage := .awaitRequest }
  else if r == .chargeRequest && stage == .awaitRequest then completeIdentification b w
  else w

/-- R60: a BATTERY reading of a THERMAL bay at or below T_hot − 5. -/
def leaveThermal (b : BayIx) (w : Work) : Work :=
  match (w.st.bay b).view.battery with
  | none => w
  | some x =>
    if x.temperature ≤ (w.st.cfl.config.tempHot : Int) - 5 then
      refreshWish b (moveCharge b (if batteryFull x then .maintain else .charging) w)
    else w

/-- R63: after identification a request of another voltage is taken at once while the grant is 0; a
change of voltage starts a split (R66). -/
def takeVoltage (b : BayIx) (w : Work) : Work :=
  let bay := w.st.bay b
  let v := requestedVoltage bay.view
  if bay.charge.grant = 0 ∧ v ≠ bay.charge.voltage then
    (w.upd fun s => s.modCharge b fun c => { c with voltage := v }).raise .split
  else w

/-- R59, R63, R64: a reading of a bay in a managed state; a SWAP has taken the earlier tablet's battery and
request out of the view (R96), so the wish is computed afresh. -/
def managedReading (b : BayIx) (r : DockRegister) (w : Work) : Work :=
  match r with
  | .ident => refreshWish b w
  | .battery => managedMoves b w
  | .chargeRequest => managedMoves b (takeVoltage b w)
  | .profile | .chargeLimit | .provControl | .custody => w

/-- R60, R63: a reading of a THERMAL bay. -/
def thermalReading (b : BayIx) (r : DockRegister) (w : Work) : Work :=
  match r with
  | .ident => enterIdentifying b true w
  | .battery => leaveThermal b w
  | .chargeRequest => takeVoltage b w
  | .profile | .chargeLimit | .provControl | .custody => w

/-- R61: a reading of an UNMANAGED bay. -/
def unmanagedReading (b : BayIx) (r : DockRegister) (w : Work) : Work :=
  match r with
  | .ident => enterIdentifying b true w
  | .battery | .chargeRequest | .profile | .chargeLimit | .provControl | .custody => refreshWish b w

/-- R63, R65: a reading of a bay in FAULT or OUT_OF_SERVICE. -/
def restingReading (b : BayIx) (r : DockRegister) (w : Work) : Work :=
  match r with
  | .chargeRequest => takeVoltage b w
  | .ident | .battery | .profile | .chargeLimit | .provControl | .custody => refreshWish b w

/-- The BCC takes a reading notice (R58 to R61, R63 to R65). -/
def chargeReading (b : BayIx) (r : DockRegister) (w : Work) : Work :=
  match (w.st.bay b).charge.state with
  | .identifying => identificationRead b r w
  | .charging | .held | .maintain => managedReading b r w
  | .thermal => thermalReading b r w
  | .unmanaged => unmanagedReading b r w
  | .fault | .outOfService => restingReading b r w
  | .vacant => w

/-- The BCC takes a channel state notice: a silent tablet is UNMANAGED (R58, R61); a THERMAL bay stays
(R60); an UNMANAGED bay leaves the IDENT reads to the SBC. -/
def chargeChannel (b : BayIx) (st : ChannelState) (w : Work) : Work :=
  match st with
  | .silent | .stuck =>
    match (w.st.bay b).charge.state with
    | .identifying | .charging | .held | .maintain => enterUnmanaged b w
    | .unmanaged => w.upd fun s => s.modCharge b fun c => { c with unmanagedTimer := none }
    | .vacant | .thermal | .fault | .outOfService => w
  | .off | .active => w

/-! ## The split (R67, R68) -/

/-- What the split knows of a bay, with the grant it has given so far. -/
structure SplitBay where
  bay   : BayIx
  cls   : Nat
  wish  : Nat
  grant : Nat
deriving DecidableEq, Repr

/-- The eligible bays in order of class, and within a class of bay index (R67). -/
def splitOrder (bays : List SplitBay) : List SplitBay :=
  [0, 1, 2, 3].flatMap fun k => bays.filter fun x => x.cls == k

/-- R67: the first pass; each bay in turn is offered the lesser of its wish and P_min. -/
def firstPass (bayMin : Nat) : Nat → List SplitBay → Nat × List SplitBay
  | rem, [] => (rem, [])
  | rem, x :: xs =>
    let offer := min x.wish bayMin
    if offer ≤ rem then
      let r := firstPass bayMin (rem - offer) xs
      (r.1, { x with grant := offer } :: r.2)
    else
      let r := firstPass bayMin rem xs
      (r.1, { x with grant := 0 } :: r.2)

/-- R68: an open bay: a nonzero grant still below its wish. -/
def openBay (x : SplitBay) : Bool := x.grant != 0 && decide (x.grant < x.wish)

/-- What the open bays of a list lack together. -/
def shortSum (xs : List SplitBay) : Nat := ((xs.filter openBay).map fun x => x.wish - x.grant).sum

/-- R68: what raising each open bay by at most t takes. -/
def levelSum (t : Nat) (xs : List SplitBay) : Nat :=
  ((xs.filter openBay).map fun x => min (x.wish - x.grant) t).sum

/-- R68: the largest whole t whose level sum is at most the remaining power. It is below the greatest
amount any open bay lacks, since that level does not fit. -/
def levelOf (rem : Nat) (xs : List SplitBay) : Nat :=
  Nat.findGreatest (fun t => levelSum t xs ≤ rem)
    (((xs.filter openBay).map fun x => x.wish - x.grant).foldl max 0)

/-- R68: give the leftover dW one each to the bays still short after level t, in the order of the
list. -/
def giveLevel (t : Nat) : Nat → List SplitBay → List SplitBay
  | _, [] => []
  | left, x :: xs =>
    if openBay x then
      if t < x.wish - x.grant then
        if 0 < left then { x with grant := x.grant + t + 1 } :: giveLevel t (left - 1) xs
        else { x with grant := x.grant + t } :: giveLevel t 0 xs
      else { x with grant := x.wish } :: giveLevel t left xs
    else x :: giveLevel t left xs

/-- R68: the second pass for one class. -/
def classPass (rem : Nat) (xs : List SplitBay) : Nat × List SplitBay :=
  if shortSum xs ≤ rem then
    (rem - shortSum xs, xs.map fun x => if openBay x then { x with grant := x.wish } else x)
  else
    let t := levelOf rem xs
    (0, giveLevel t (rem - levelSum t xs) xs)

/-- R68: the second pass over a list of classes. -/
def secondPass : List Nat → Nat → List SplitBay → List SplitBay
  | [], _, _ => []
  | k :: ks, rem, xs =>
    let r := classPass rem (xs.filter fun x => x.cls == k)
    r.2 ++ secondPass ks r.1 xs

/-- R67, R68: the grants of a split of allowance L among the eligible bays. -/
def splitGrants (allowance bayMin : Nat) (bays : List SplitBay) : List SplitBay :=
  let r := firstPass bayMin allowance (splitOrder bays)
  secondPass [0, 1, 2, 3] r.1 r.2

/-- The eligible bays as the split reads them. -/
def State.splitBays (s : State) : List SplitBay :=
  (s.populatedBays.filter fun b => takesPart (s.bay b).charge.state).map fun b =>
    { bay := b, cls := (s.bay b).charge.cls, wish := (s.bay b).charge.wish, grant := 0 }

/-- The new grants: bay with grant, for the eligible bays. -/
def State.newGrants (s : State) : List (BayIx × Nat) :=
  (splitGrants s.shu.allowance s.cfl.config.bayMin s.splitBays).map fun x => (x.bay, x.grant)

/-- R69, R63: lower a bay; a bay lowered to 0 takes another voltage its tablet requests, and its wish is
computed afresh. -/
def lowerBay (b : BayIx) (g : Nat) (w : Work) : Work :=
  if g < (w.st.bay b).charge.grant then
    let w := setGrant b g w
    if g = 0 ∧ managed (w.st.bay b).charge.state ∧
        requestedVoltage (w.st.bay b).view ≠ (w.st.bay b).charge.voltage then
      refreshWish b (takeVoltage b w)
    else w
  else w

/-- R69: raise a bay. -/
def raiseBay (b : BayIx) (g : Nat) (w : Work) : Work :=
  if (w.st.bay b).charge.grant < g then setGrant b g w else w

/-- R58, R70: the first split after identification makes the CHARGE_LIMIT request whether the grant
changed or not. -/
def payLimit (b : BayIx) (w : Work) : Work :=
  if (w.st.bay b).charge.limitOwed then
    requestLimit b (w.upd fun s => s.modCharge b fun c => { c with limitOwed := false })
  else w

/-- R66, R69: a split: lowering with the applied allowance, then raising, then the moves between
CHARGING and HELD and the writes. -/
def runSplit (w : Work) : Work :=
  let grants := w.st.newGrants
  let w := forEach grants (fun x => lowerBay x.1 x.2) w
  let w := w.upd fun s => { s with bcc := { s.bcc with applied := s.shu.allowance } }
  let w := forEach grants (fun x => raiseBay x.1 x.2) w
  let w := forEach w.st.populatedBays managedMoves w
  forEach w.st.populatedBays payLimit w

/-! ## Trips (R72 to R76) -/

/-- R72: whether the SHORT watch of a bay runs. -/
def shortWatch (c : Charge) : Bool := takesPart c.state && c.limit != 0

/-- R72: a sensed voltage below half the port voltage. -/
def belowHalf (milliVolts : Nat) (c : Charge) : Bool := decide (2 * milliVolts < 1000 * c.voltage)

/-- R73: whether a measured power lies above the grant plus floor(grant / 10). -/
def overBound (c : Charge) : Bool := decide (c.grant + c.grant / 10 < c.power)

/-- R73: the OVERDRAW count after a measurement; it is held at 11. -/
def overdrawStep (c : Charge) : Charge :=
  if takesPart c.state then
    if overBound c then { c with overdraw := min 11 (c.overdraw + 1) } else { c with overdraw := 0 }
  else c

/-- R71: how often 10000 is taken from the remainder, and what is left. -/
def energyStep (c : Charge) : Nat × Nat :=
  let e := c.remainder + c.power * 100
  (e / 10000, e % 10000)

/-- R75: a second fault: a last fault time is present and less than 600 s old. -/
def secondFault (c : Charge) (now : Nat) : Bool :=
  match c.lastFault with
  | none => false
  | some t => decide (now - t < 600)

end Sys2Proof.Machine
end

