-- ==== Sys2Proof/Machine/Latch.lean ====
section
/-! DEFINITION. The Latch and Door Controller: releases (R103 to R105), opening (R104, R107, R108),
closing and latch faults (R109, R110), open episodes (R102, R111, R112) and the first sample (R100,
R115). -/

namespace Sys2Proof.Machine

/-! ## Episodes (R102) -/

/-- R102: the open episode ends: its end notice goes out, with the release record and the present flag
as they stand, and the record is cleared. -/
def endEpisode (b : BayIx) (w : Work) : Work :=
  let bay := w.st.bay b
  match bay.door.episode with
  | none => w
  | some e =>
    (w.upd fun s => s.modDoor b fun d =>
      { d with episode := none, release := none, closeHold := none }).raise
      (.episodeEnded b e.attr bay.door.release bay.present)

/-- R102: the machine has reached SECURE or UNSECURED; an episode whose close hold has passed ends. -/
def settleEpisode (b : BayIx) (w : Work) : Work :=
  if (w.st.bay b).door.closeHold.isNone then endEpisode b w else w

/-- R102, R111: an episode begins with its attribute, the asset tag held in the view, and the ajar timer. -/
def newEpisode (s : State) (b : BayIx) (attr : OpenAttr) : Episode :=
  { attr := attr, asset := (s.bay b).view.identity.map (·.asset),
    ajar := some (s.now + s.cfl.config.ajarTime * 1000) }

/-- R140: the bay's lane switch opens. It opens in the step in which the door leaves SECURE (R151). -/
def openSwitch (b : BayIx) (s : State) : State := s.modProv b fun p => { p with switch := none }

/-- The door machine enters OPEN and an episode begins. -/
def enterOpen (b : BayIx) (attr : OpenAttr) (w : Work) : Work :=
  w.upd fun s => openSwitch b (s.modDoor b fun d =>
    { d with
      state := .opened attr, latch := .off, pullIn := none, window := none, boltWait := none,
      closeHold := none, episode := some (newEpisode s b attr) })

/-! ## Releases (R103, R104) -/

/-- R103: the conditions that refuse a release request. -/
def releaseBusy (s : State) (b : BayIx) : Bool :=
  let d := (s.bay b).door
  !s.isActive || d.state != .secure || d.episode.isSome || d.release.isSome || d.coolDown.isSome

/-- R104: a release starts: RELEASING, full drive, the window of T_release, the releases counter; the
record's start time is the minute counter. -/
def startRelease (b : BayIx) (r : ReleaseRecord) (w : Work) : Work :=
  let r' := { r with start := w.st.csu.minute }
  let w := w.upd fun s =>
    (openSwitch b (s.modDoor b fun d =>
      { d with
        state := .releasing, latch := .full, release := some r', pendingLane := false,
        pullIn := some (s.now + pullInTime), window := some (s.now + s.cfl.config.releaseTime * 1000),
        boltWait := none })).modCounters b
      fun k => { k with releases := k.releases + 1 }
  (w.raise (.releaseAnswered b r' .started)).raise (.doorMoved b true)

/-- R103: a release request for a bay. -/
def askRelease (b : BayIx) (r : ReleaseRecord) (w : Work) : Work :=
  if releaseBusy w.st b then w.raise (.releaseAnswered b r .refused)
  else if (w.st.laneOf b).isSome then
    let r' := { r with start := w.st.csu.minute }
    (w.upd fun s => s.modDoor b fun d => { d with release := some r', pendingLane := true }).raise
      (.releaseAnswered b r' .pendingLane)
  else startRelease b r w

/-- R103: the PVS reports the bay's lane IDLE; a release pending it starts. -/
def laneReportedIdle (b : BayIx) (w : Work) : Work :=
  let d := (w.st.bay b).door
  match d.release with
  | none => w
  | some r => if d.pendingLane then startRelease b r w else w

/-- R103: a release pending a lane is cancelled: flag and record cleared, outcome CANCELLED. -/
def cancelPending (b : BayIx) (w : Work) : Work :=
  let d := (w.st.bay b).door
  if d.pendingLane then
    let w' := w.upd fun s => s.modDoor b fun d => { d with pendingLane := false, release := none }
    match d.release with
    | some r => w'.raise (.releaseAnswered b r .cancelled)
    | none => w'
  else w

/-- R104: the window expires with the door closed. -/
def releaseUnused (b : BayIx) (w : Work) : Work :=
  let r := (w.st.bay b).door.release
  let w := w.upd fun s => s.modDoor b fun d =>
    { d with
      state := .secure, latch := .off, release := none, pullIn := none, window := none,
      coolDown := some (s.now + coolDownTime), boltWait := some (s.now + boltWaitTime) }
  let w := placeEvent 4 (bayByte b) 0 ((r.map fun x => reasonCode x.reason).getD 0) .ldc w
  let w := match r with
    | some x => w.raise (.releaseAnswered b x .unused)
    | none => w
  w.raise (.doorMoved b false)

/-! ## Opening -/

/-- R107: a door opens from SECURE: FORCED. An episode whose close hold still runs ends first (R102). -/
def openForced (b : BayIx) (w : Work) : Work :=
  let w := cancelPending b (endEpisode b w)
  let w := enterOpen b .forced w
  let w := w.upd fun s => s.modCounters b fun k => { k with forcedOpens := k.forcedOpens + 1 }
  let w := placeEvent 1 (bayByte b) ((newEpisode w.st b .forced).asset.getD 0) 0 .ldc w
  w.raise (.doorMoved b true)

/-- R104, R105: a door opens from RELEASING: AUTHORIZED, and the cool-down starts. -/
def openAuthorized (b : BayIx) (w : Work) : Work :=
  let w := enterOpen b .authorized w
  (w.upd fun s => s.modDoor b fun d => { d with coolDown := some (s.now + coolDownTime) }).raise
    (.doorMoved b false)

/-- R108: a door opens from UNSECURED. -/
def openUnsecured (b : BayIx) (w : Work) : Work :=
  (enterOpen b .unsecured (endEpisode b w)).raise (.doorMoved b false)

/-- R109: a door opens again from CLOSING: OPEN with the attribute it had, in the same episode; the bolt
wait and the close hold stop. -/
def openAgain (b : BayIx) (w : Work) : Work :=
  let attr := ((w.st.bay b).door.episode.map (·.attr)).getD .unsecured
  (w.upd fun s => s.modDoor b fun d =>
    { d with state := .opened attr, boltWait := none, closeHold := none }).raise (.doorMoved b false)

/-- The debounced door flag becomes open (R100). -/
def doorOpened (b : BayIx) (w : Work) : Work :=
  let state := (w.st.bay b).door.state
  let w := w.upd fun s => s.modDoor b fun d => { d with closed := false }
  match state with
  | .secure => openForced b w
  | .releasing => openAuthorized b w
  | .unsecured => openUnsecured b w
  | .closing => openAgain b w
  | .opened _ => w

/-! ## Closing and the bolt -/

/-- The door machine enters SECURE from CLOSING or UNSECURED (R109, R110). -/
def enterSecure (b : BayIx) (w : Work) : Work :=
  settleEpisode b ((w.upd fun s => s.modDoor b fun d => { d with state := .secure, latch := .off, boltWait := none }).raise
    (.doorMoved b false))

/-- The door machine enters UNSECURED with an EVENT LATCH_FAULT of the given cause (R109, R110); a release
pending a lane is cancelled. -/
def enterUnsecured (b : BayIx) (cause : Nat) (w : Work) : Work :=
  let leaves := (w.st.bay b).door.state == .secure
  let w := cancelPending b w
  let w := w.upd fun s => openSwitch b (s.modDoor b fun d =>
    { d with state := .unsecured, latch := .off, boltWait := none })
  let w := placeEvent 3 (bayByte b) 0 cause .ldc w
  settleEpisode b (w.raise (.doorMoved b leaves))

/-- R109: a door closes in OPEN: CLOSING, with bolt wait and close hold; a bolt already thrown makes it
SECURE. -/
def doorClosed (b : BayIx) (w : Work) : Work :=
  let d := (w.st.bay b).door
  let w := w.upd fun s => s.modDoor b fun d => { d with closed := true }
  match d.state with
  | .opened _ =>
    let w := (w.upd fun s => s.modDoor b fun d =>
      { d with
        state := .closing, boltWait := some (s.now + boltWaitTime),
        closeHold := some (s.now + closeHoldTime) }).raise (.doorMoved b false)
    if d.bolt then enterSecure b w else w
  | .secure | .releasing | .closing | .unsecured => w

/-- R109, R110: the debounced bolt flag becomes thrown; with the door closed CLOSING and UNSECURED become
SECURE. -/
def boltBecomesThrown (b : BayIx) (w : Work) : Work :=
  let d := (w.st.bay b).door
  let w := w.upd fun s => s.modDoor b fun d => { d with bolt := true }
  if d.closed then
    match d.state with
    | .closing | .unsecured => enterSecure b w
    | .secure | .releasing | .opened _ => w
  else w

/-- R110: the debounced bolt flag clears; in SECURE with the door closed and no bolt wait it is a latch
fault. -/
def boltBecomesClear (b : BayIx) (w : Work) : Work :=
  let d := (w.st.bay b).door
  let w := w.upd fun s => s.modDoor b fun d => { d with bolt := false }
  if d.closed && d.state == .secure && d.boltWait.isNone then enterUnsecured b 2 w else w

/-! ## Removal (R112) -/

/-- R112: a presence loss in a FORCED episode puts EVENT ASSET_MISSING into the queue. -/
def doorRemoval (b : BayIx) (w : Work) : Work :=
  match (w.st.bay b).door.episode with
  | none => w
  | some e => if e.attr == .forced then placeEvent 5 (bayByte b) (e.asset.getD 0) 0 .ldc w else w

/-! ## First sample (R100, R115) -/

/-- R115: the door machine of the first sample. -/
def firstDoorState (closed bolt : Bool) : DoorState :=
  if closed then (if bolt then .secure else .unsecured) else .opened .unsecured

/-- R115: the door section formed from the first sample; a door found open begins an episode with no
asset. -/
def firstDoor (now ajarTime : Nat) (closed bolt : Bool) : Door :=
  { closed := closed, bolt := bolt, state := firstDoorState closed bolt,
    episode := if closed then none
      else some { attr := .unsecured, asset := none, ajar := some (now + ajarTime * 1000) } }

end Sys2Proof.Machine
end

