-- ==== Sys2Proof/Machine/Custody.lean ====
section
/-! DEFINITION. The Custody Unit: the credential table (R117 to R120), bay attributes and claims (R121,
R131), presentations and their answers (R124 to R130), releases (R132), loans (R133 to R137) and
CUSTODY writes (R138); and a port trip (R75), whose second fault asks for an attribute. -/

namespace Sys2Proof.Machine

/-! ## The credential table (R117 to R120) -/

/-- The most entries of the credential table (R117). -/
def credentialCapacity : Nat := 256

/-- The entry of a credential number. -/
def lookupCredential (table : List CredentialEntry) (number : Word32) : Option CredentialEntry :=
  table.find? fun e => e.number == number

/-- R117, R118: put an entry in its place in number order, replacing an entry of the same number. -/
def putCredential (e : CredentialEntry) : List CredentialEntry → List CredentialEntry
  | [] => [e]
  | x :: xs =>
    if e.number = x.number then e :: xs
    else if e.number.toNat < x.number.toNat then e :: x :: xs
    else x :: putCredential e xs

/-- The table without a number (R119). -/
def dropCredential (table : List CredentialEntry) (number : Word32) : List CredentialEntry :=
  table.filter fun e => e.number != number

/-- R119: REVOKE; the number 0xFFFFFFFF removes every entry. -/
def revokeCredential (table : List CredentialEntry) (number : Word32) : List CredentialEntry :=
  if number = 0xFFFFFFFF#32 then [] else dropCredential table number

/-- R120: whether an entry is a GUEST whose lifetime has passed at a minute. -/
def guestExpired (guestTime minute : Nat) (e : CredentialEntry) : Bool :=
  e.role == .guest && decide (heldAt 65535 (e.enrolled + guestTime) ≤ minute)

/-- Rewrite the CSU's state. -/
def State.modCsu (s : State) (f : Csu → Csu) : State := { s with csu := f s.csu }

/-- The table entry that an accepted ENROLL writes (R118). -/
def enrolledEntry (body : EnrollBody) (role : CredentialRole) (minute : Nat) : CredentialEntry :=
  { number := body.number, role := role, groups := body.groups,
    asset := if body.asset = 0 then none else some body.asset,
    suspended := body.suspended, enrolled := minute }

/-- R118: an ENROLL taken from the receive queue. -/
def takeEnroll (body : EnrollBody) (w : Work) : Work :=
  if body.number = 0 ∨ body.number = 0xFFFFFFFF#32 then w
  else
    match body.role with
    | none => w
    | some role =>
      let table := w.st.csu.credentials
      if (lookupCredential table body.number).isSome ∨ table.length < credentialCapacity then
        w.upd fun s => s.modCsu fun c =>
          { c with credentials := putCredential (enrolledEntry body role s.csu.minute) table }
      else placeEvent 10 noBay body.number 1 .csu w

/-- R122, R123: the authoriser's entry, unless it is unknown or suspended. -/
def authoriser (s : State) (number : Word32) : Option CredentialEntry :=
  (lookupCredential s.csu.credentials number).filter fun e => !e.suspended

/-- R123, R166: whether a number is an unsuspended TECHNICIAN here. -/
def isTechnician (s : State) (number : Word32) : Bool :=
  match authoriser s number with
  | some e => e.role == .technician
  | none => false

/-- R122, R123: EVENT AUTH_REJECT with its kind, 1 BAYSET or 2 RESTART. -/
def rejectAuthority (kind : Nat) (number : Word32) (w : Work) : Work :=
  placeEvent 11 noBay number kind .csu w

/-! ## Presentation slots and claims (R124, R130, R131) -/

/-- The slot of a reader. -/
def State.slot (s : State) (r : Reader) : Option PresentationSlot := s.csu.slots[r]

/-- The state with a slot replaced. -/
def State.setSlot (s : State) (r : Reader) (x : Option PresentationSlot) : State :=
  s.modCsu fun c => { c with slots := c.slots.set r x }

/-- Rewrite the slot of a reader if it holds a sequence. -/
def State.modSlot (s : State) (r : Reader) (sequence : Byte) (f : PresentationSlot → PresentationSlot) :
    State :=
  match s.slot r with
  | some x => if x.sequence = sequence then s.setSlot r (some (f x)) else s
  | none => s

/-- A queued OFFER or DENY of a slot: of that reader and sequence, and not a DENY of R132. -/
def slotAnswer (kind : FrameKind) (r : Reader) (sequence : Byte) (f : TxFrame) : Bool :=
  f.kind == kind && f.deadline.isNone && answerReader f.body == some r && bodySequence f.body == sequence

/-- R18: withdraw the frames that `which` picks. -/
def withdraw (which : TxFrame → Bool) (w : Work) : Work :=
  w.upd fun s => s.modLkc fun l => { l with queue := withdrawFrames which l.queue }

/-- Whether a claim is that of a queued OFFER of this reader and sequence. -/
def queuedClaim (r : Reader) (sequence : Byte) (c : PendingClaim) : Bool :=
  c.reader == r && c.sequence == sequence && !c.inWindow

/-- R131: clear a bay's claim; the PVS receives a claim notice. -/
def clearClaim (b : BayIx) (w : Work) : Work :=
  (w.upd fun s => s.modBay b fun x => { x with claim := none }).raise (.reevaluate b)

/-- R130, R131: remove the claim that a queued OFFER of this reader and sequence made. -/
def removeQueuedClaim (r : Reader) (sequence : Byte) (w : Work) : Work :=
  forEach allBays
    (fun b w => if (w.st.bay b).claim.any (queuedClaim r sequence) then clearClaim b w else w) w

/-- R130: the queued answer of a reader's slot is withdrawn; its own answer becomes NONE and a claim is
removed. A slot without a queued answer stays as it is. -/
def withdrawAnswer (r : Reader) (w : Work) : Work :=
  match w.st.slot r with
  | none => w
  | some x =>
    match x.own with
    | .offerQueued =>
      removeQueuedClaim r x.sequence
        ((withdraw (slotAnswer .offer r x.sequence) w).upd fun s =>
          s.setSlot r (some { x with own := .none }))
    | .denyQueued =>
      (withdraw (slotAnswer .deny r x.sequence) w).upd fun s => s.setSlot r (some { x with own := .none })
    | .none | .claimed => w

/-- R121, R131: a bay's claim is cancelled; the OFFER of a claim that is still queued is withdrawn, and
the slot's own answer becomes NONE if it still holds the claim's sequence. -/
def cancelClaim (b : BayIx) (w : Work) : Work :=
  match (w.st.bay b).claim with
  | none => w
  | some c =>
    let w := if c.inWindow then w else withdraw (slotAnswer .offer c.reader c.sequence) w
    clearClaim b (w.upd fun s => s.modSlot c.reader c.sequence fun x => { x with own := .none })

/-! ## Attributes (R121) -/

/-- R121: whether a change of attributes cancels a pending claim. -/
def cancelsClaim (old new : BayAttrs) : Bool :=
  (new.reserved && !old.reserved) || (new.outOfService && !old.outOfService) || new.group != old.group

/-- R121: a bay's attributes change, and the notices of the change are handed on. A claim the change cancels is cancelled
first, so that its claim notice (PVS) is worked before the notices of the attribute (BCC, then PVS); R121, R131 and R145
give no order among them (assumption 44). -/
def setAttrs (b : BayIx) (new : BayAttrs) (w : Work) : Work :=
  let old := (w.st.bay b).attrs
  let w := w.upd fun s => s.modBay b fun x => { x with attrs := new }
  let w := if cancelsClaim old new then cancelClaim b w else w
  let w := w.raiseIf (new.outOfService != old.outOfService) (.serviceChanged b)
  let w := w.raiseIf (new.reserved != old.reserved) (.wishInput b)
  w.raiseIf (new.group != old.group || new.optOut != old.optOut || new.outOfService != old.outOfService)
    (.reevaluate b)

/-! ## A port trip (R75) -/

/-- R75: a trip puts the bay into FAULT; a second fault takes it out of service. -/
def tripBay (b : BayIx) (kind : FaultKind) (w : Work) : Work :=
  let second := secondFault (w.st.bay b).charge w.st.seconds
  let w := moveCharge b .fault w
  let w := w.upd fun s =>
    (s.modCharge b fun c =>
      { withGrant 0 c with lastFault := some s.seconds, faultKind := some kind, unmanagedTimer := none }).modCounters b
      fun k => { k with faults := k.faults + 1 }
  let w := refreshWish b w
  let w := placeEvent 6 (bayByte b) 0 (faultCode kind) .bcc w
  let w := (requestLimit b w).raise .split
  if second then
    placeEvent 7 (bayByte b) 0 0 .bcc
      (setAttrs b { (w.st.bay b).attrs with outOfService := true } w)
  else w

/-! ## Answers (R126 to R130) -/

/-- DENY reasons (11 section 11.3). -/
inductive DenyReason where
  | loanLimit | overdue | suspended | notPermitted | outOfService | bayBusy | busyProvisioning
deriving DecidableEq, Repr

/-- The code of a DENY reason, which is also its bid. -/
def denyCode : DenyReason → Nat
  | .loanLimit => 1
  | .overdue => 2
  | .suspended => 3
  | .notPermitted => 4
  | .outOfService => 5
  | .bayBusy => 6
  | .busyProvisioning => 7

/-- What R125 decides for a slot: an OFFER with its bay, asset, LOW flag and bid, a DENY, a release
request, or nothing. -/
inductive Answer where
  | nothing
  | offer (bay : BayIx) (asset : Word32) (low : Bool) (bid : Nat)
  | deny (reason : DenyReason)
  | release (bay : BayIx) (reason : ReleaseReason)
deriving DecidableEq, Repr

/-- R126: the loan limit of a role; a TECHNICIAN has none. -/
def loanLimit (c : WorkingConfig) : CredentialRole → Option Nat
  | .technician => none
  | .staff => some c.limitStaff
  | .student => some c.limitStudent
  | .guest => some c.limitGuest

/-- R126: the loans of a credential in this station's list. -/
def loansOf (s : State) (number : Word32) : List Loan :=
  s.csu.loans.filter fun l => l.credential == number

/-- R126: the first check of a CHECKOUT that fails. -/
def checkoutRefusal (s : State) (e : CredentialEntry) : Option DenyReason :=
  let loans := loansOf s e.number
  if e.suspended then some .suspended
  else if loans.any fun l => l.state == .overdue then some .overdue
  else
    match loanLimit s.cfl.config e.role with
    | none => none
    | some limit => if limit ≤ loans.length then some .loanLimit else none

/-- The door conditions of R127, R128 and R129: SECURE, no release record, no running cool-down, no pending
claim. -/
def doorFree (bay : Bay) : Bool :=
  bay.door.state == .secure && bay.door.release.isNone && bay.door.coolDown.isNone && bay.claim.isNone

/-- Whether a group is in a group set. -/
def inGroups (groups : Word16) (g : Fin 16) : Bool := groups.getLsbD g.val

/-- R127: the loan list has room for a credential. -/
def loanRoom (s : State) (e : CredentialEntry) : Bool :=
  e.role == .technician || decide (s.csu.loans.length < 32)

/-- The SoC of a bay whose view holds a battery reading; every eligible bay of `openCheckout` does. -/
def socOf (bay : Bay) : Nat := (bay.view.battery.map fun x => x.soc).getD 0

/-- The SoC an assigned checkout reckons with: the bay's, a free value where the view holds no battery
reading (assumption 15). -/
def offerSoc (s : State) (bay : Bay) : Nat :=
  match bay.view.battery with
  | some x => x.soc
  | none => (Config.absentSoc s.freeCount).val

/-- R127: a bay eligible for a CHECKOUT without an assigned asset. -/
def checkoutEligible (s : State) (e : CredentialEntry) (b : BayIx) : Bool :=
  let bay := s.bay b
  s.populated b && !bay.attrs.outOfService && !bay.attrs.reserved && bay.present &&
    managed bay.charge.state &&
    bay.view.battery.any (fun x => decide (s.cfl.config.socRelease ≤ x.soc)) &&
    doorFree bay && !s.laneWorking b &&
    (e.role == .technician || inGroups e.groups bay.attrs.group) && loanRoom s e

/-- The first bay of a list that is best by a score, a higher score being better. -/
def bestBy (score : BayIx → Nat) : List BayIx → Option BayIx
  | [] => none
  | b :: bs =>
    match bestBy score bs with
    | none => some b
    | some c => if score b < score c then some c else some b

/-- The bid of a checkout OFFER (R4, R127). -/
def checkoutBid (soc : Nat) (b : BayIx) : Nat := 8 + (100 - soc) * 8 + b.val

/-- R127: a CHECKOUT with no assigned asset. -/
def openCheckout (s : State) (e : CredentialEntry) : Answer :=
  match bestBy (fun b => socOf (s.bay b)) (allBays.filter (checkoutEligible s e)) with
  | none => .nothing
  | some b =>
    .offer b (((s.bay b).view.identity.map fun i => i.asset).getD 0) false (checkoutBid (socOf (s.bay b)) b)

/-- R127: the bay that holds an asset; the lowest where several do (assumption 36). -/
def holderOf (s : State) (asset : Word32) : Option BayIx :=
  allBays.find? fun b =>
    s.populated b && (s.bay b).present && (s.bay b).view.identity.any fun i => i.asset == asset

/-- R127: a CHECKOUT with an assigned asset. -/
def assignedCheckout (s : State) (e : CredentialEntry) (asset : Word32) : Answer :=
  match holderOf s asset with
  | none => .nothing
  | some b =>
    let bay := s.bay b
    if s.laneWorking b then .deny .busyProvisioning
    else if bay.attrs.outOfService then .deny .outOfService
    else if !bay.attrs.reserved && managed bay.charge.state && doorFree bay && loanRoom s e then
      let soc := offerSoc s bay
      .offer b asset (decide (soc < s.cfl.config.socRelease)) (checkoutBid soc b)
    else .deny .bayBusy

/-- R126, R127: the answer to a CHECKOUT. -/
def decideCheckout (s : State) (e : CredentialEntry) : Answer :=
  match checkoutRefusal s e with
  | some reason => .deny reason
  | none =>
    match e.asset with
    | none => openCheckout s e
    | some asset => assignedCheckout s e asset

/-- R128, R151: a bay eligible for a RETURN; no bay in WAKING or CONNECTED is offered. -/
def returnEligible (s : State) (b : BayIx) : Bool :=
  let bay := s.bay b
  s.populated b && !bay.attrs.outOfService && !bay.attrs.reserved && bay.charge.state == .vacant &&
    doorFree bay && !s.laneWorking b

/-- R128: the preference of a bay, 0 when its group is in the credential's group set. -/
def returnPreference (s : State) (e : CredentialEntry) (b : BayIx) : Nat :=
  if inGroups e.groups (s.bay b).attrs.group then 0 else 1

/-- R128: the answer to a RETURN. -/
def decideReturn (s : State) (e : CredentialEntry) : Answer :=
  match bestBy (fun b => 1 - returnPreference s e b) (allBays.filter (returnEligible s)) with
  | none => .nothing
  | some b => .offer b 0 false (8 + returnPreference s e b * 8 + b.val)

/-- R129: whether a role may open a bay. -/
def openPermitted (e : CredentialEntry) (attrs : BayAttrs) : Bool :=
  decide (roleLevel e.role ≤ attrs.openLevel.val) ||
    (e.role == .staff && inGroups e.groups attrs.group)

/-- R129: the answer to an OPEN. -/
def decideOpen (s : State) (e : CredentialEntry) (station index : Byte) : Answer :=
  if station.toNat ≠ s.cfl.address.val then .nothing
  else if h : index.toNat < 8 then
    let b : BayIx := ⟨index.toNat, h⟩
    let bay := s.bay b
    if !s.populated b then .deny .notPermitted
    else if e.suspended then .deny .suspended
    else if bay.attrs.outOfService && e.role != .technician then .deny .outOfService
    else if !openPermitted e bay.attrs then .deny .notPermitted
    else if !doorFree bay then .deny .bayBusy
    else .release b (if e.role == .technician then .service else .opening)
  else .deny .notPermitted

/-- R125: the decision for a slot from the state at that moment. -/
def decideSlot (s : State) (x : PresentationSlot) : Answer :=
  if x.decided then .nothing
  else
    match lookupCredential s.csu.credentials x.credential with
    | none => .nothing
    | some e =>
      match x.kind with
      | .checkout => decideCheckout s e
      | .giveBack => decideReturn s e
      | .opening => decideOpen s e x.openStation x.openBay

/-- A reader as a body byte. -/
def readerByte (r : Reader) : Byte := BitVec.ofNat 8 r.val

/-- An OFFER frame (R130, 11 section 11.3). -/
def offerFrame (r : Reader) (sequence : Byte) (kind : RequestKind) (b : BayIx) (asset : Word32)
    (low : Bool) (bid : Nat) : TxFrame :=
  newFrame .offer bid toAll
    ([readerByte r, sequence, BitVec.ofNat 8 (requestCode kind), bayByte b] ++ bytes32 asset ++
      [if low then 1 else 0]) .csu

/-- A DENY frame (R130, 11 section 11.3). -/
def denyFrame (r : Reader) (sequence : Byte) (reason : DenyReason) (credential : Word32) : TxFrame :=
  newFrame .deny (denyCode reason) toAll
    ([readerByte r, sequence, BitVec.ofNat 8 (denyCode reason)] ++ bytes32 credential) .csu

/-- R130: the pending claim of a queued OFFER. -/
def newClaim (r : Reader) (x : PresentationSlot) (key : Nat) : PendingClaim :=
  { reader := r, sequence := x.sequence, kind := x.kind, credential := x.credential,
    endTime := x.deadline.getD (x.arrival + withdrawalTime), inWindow := false, key := key }

/-- R130: an OFFER is queued: own answer, pending claim, claim notice, placement. The next OFFER
draws a free value of its own (assumption 15). -/
def queueOffer (r : Reader) (x : PresentationSlot) (b : BayIx) (f : TxFrame) (w : Work) : Work :=
  let w := w.upd fun s =>
    ({ s with freeCount := s.freeCount + 1 }.setSlot r (some { x with own := .offerQueued })).modBay b fun y =>
      { y with claim := some (newClaim r x (f.key s.cfl.address)) }
  place f (w.raise (.reevaluate b))

/-- R129, R103: a release request for the LDC; the start time is written by the LDC. -/
def releaseFor (reason : ReleaseReason) (credential : Word32) (r : Reader) (sequence : Byte) :
    ReleaseRecord :=
  { reason := reason, credential := credential, reader := r, sequence := sequence, start := 0 }

/-- R125, R130: act on the decision for the slot of a reader. -/
def giveAnswer (r : Reader) (x : PresentationSlot) (a : Answer) (w : Work) : Work :=
  match a with
  | .nothing => w
  | .offer b asset low bid => queueOffer r x b (offerFrame r x.sequence x.kind b asset low bid) w
  | .deny reason =>
    place (denyFrame r x.sequence reason x.credential)
      (w.upd fun s => s.setSlot r (some { x with own := .denyQueued }))
  | .release b reason => w.raise (.releaseAsked b (releaseFor reason x.credential r x.sequence))

/-- R125: the answer delay of a reader's slot ends. -/
def answerDelayEnds (r : Reader) (w : Work) : Work :=
  match w.st.slot r with
  | none => w
  | some x =>
    match x.answerDelay with
    | none => w
    | some t =>
      let x' := { x with answerDelay := none }
      let w := w.upd fun s => (s.advanceTo t).setSlot r (some x')
      giveAnswer r x' (decideSlot w.st x') w

/-- R124: a new presentation for a slot. -/
def newSlot (now : Nat) (p : PresentBody) (kind : RequestKind) : PresentationSlot :=
  { sequence := p.sequence, credential := p.credential, kind := kind, openStation := p.openStation,
    openBay := p.openBay, arrival := now, own := .none, decided := false,
    answerDelay := some (now + answerTime), deadline := some (now + withdrawalTime) }

/-- R124: a PRESENT that reaches the CSU in ACTIVE. -/
def takePresent (p : PresentBody) (w : Work) : Work :=
  match p.kind with
  | none => w
  | some kind =>
    if (lookupCredential w.st.csu.credentials p.credential).isNone then w
    else if (w.st.slot p.reader).any fun x => x.sequence == p.sequence then w
    else
      (withdrawAnswer p.reader w).upd fun s => s.setSlot p.reader (some (newSlot s.now p kind))

/-- R130: an OFFER or DENY heard marks a slot of its reader and sequence decided and withdraws the own
answer that is queued. -/
def heardAnswer (r : Reader) (sequence : Byte) (w : Work) : Work :=
  match w.st.slot r with
  | none => w
  | some x =>
    if x.sequence = sequence then
      withdrawAnswer r (w.upd fun s => s.setSlot r (some { x with decided := true }))
    else w

/-- R131: cancel the claims in their objection window that `which` picks. -/
def cancelWindows (which : PendingClaim → Bool) (w : Work) : Work :=
  forEach allBays
    (fun b w => if (w.st.bay b).claim.any (fun c => c.inWindow && which c) then cancelClaim b w else w) w

/-- R130, R131: another shelf's OFFER is taken from the receive queue. A claim in its window is found by reader and
sequence, also where the frame matches no slot any more (DESIGN CHOICE, assumption 41). -/
def takeOffer (f : RxFrame) (w : Work) : Work :=
  match answerReader f.body with
  | none => w
  | some r =>
    let sequence := bodySequence f.body
    cancelWindows (fun c => c.reader == r && c.sequence == sequence && decide (rxKey f < c.key))
      (heardAnswer r sequence w)

/-- R130, R131: another shelf's DENY is taken from the receive queue; the claims it reaches as in `takeOffer`
(DESIGN CHOICE, assumption 41). -/
def takeDeny (f : RxFrame) (w : Work) : Work :=
  match answerReader f.body with
  | none => w
  | some r =>
    let sequence := bodySequence f.body
    cancelWindows (fun c => c.reader == r && c.sequence == sequence) (heardAnswer r sequence w)

/-- R130: the withdrawal deadline of a reader's slot ends. -/
def deadlineEnds (r : Reader) (w : Work) : Work :=
  match w.st.slot r with
  | none => w
  | some x =>
    match x.deadline with
    | none => w
    | some t =>
      withdrawAnswer r (w.upd fun s => (s.advanceTo t).setSlot r (some { x with deadline := none }))

/-- The bay named in an OFFER body. -/
def offerBay (body : List Byte) : BayIx := ⟨(byteAt body 3).toNat % 8, Nat.mod_lt _ (by decide)⟩

/-- R131: the claim of a completed OFFER, in its objection window. -/
def openWindow (now : Nat) (c : PendingClaim) : PendingClaim :=
  { c with endTime := now + objectionTime, inWindow := true }

/-- R131: an own OFFER completes. -/
def offerCompleted (f : TxFrame) (w : Work) : Work :=
  let sequence := bodySequence f.body
  let b := offerBay f.body
  match answerReader f.body, (w.st.bay b).claim with
  | some r, some c =>
    if queuedClaim r sequence c then
      w.upd fun s =>
        (s.modBay b fun x =>
          { x with claim := some (openWindow s.now c) }).modSlot r sequence fun x => { x with decided := true, own := .claimed }
    else w
  | _, _ => w

/-- Rewrite the slot that an OFFER or DENY of the transmit queue answers. -/
def State.modAnswered (s : State) (f : TxFrame) (g : PresentationSlot → PresentationSlot) : State :=
  match answerReader f.body with
  | none => s
  | some r => s.modSlot r (bodySequence f.body) g

/-- R130: an own DENY completes; one queued by R132 has no effect. -/
def denyCompleted (f : TxFrame) (w : Work) : Work :=
  if f.deadline.isSome then w
  else
    w.upd fun s => s.modAnswered f fun x => { x with decided := true, own := .none }

/-- R130: an OFFER discarded by the transmit queue: own answer NONE, the claim removed, the slot left
undecided. -/
def offerDiscarded (f : TxFrame) (w : Work) : Work :=
  match answerReader f.body with
  | none => w
  | some r =>
    removeQueuedClaim r (bodySequence f.body) (w.upd fun s => s.modAnswered f fun x =>
      if x.own == .offerQueued then { x with own := .none } else x)

/-- R130: a DENY discarded by the transmit queue; one queued by R132 has no effect. -/
def denyDiscarded (f : TxFrame) (w : Work) : Work :=
  if f.deadline.isSome then w
  else
    w.upd fun s => s.modAnswered f fun x => if x.own == .denyQueued then { x with own := .none } else x

/-! ## Releases (R132) and CUSTODY writes (R138) -/

/-- R132: a DENY BAY_BUSY that is no slot's own answer, with its deadline 250 ms on. -/
def ruleDeny (credential : Word32) (r : Reader) (sequence : Byte) (w : Work) : Work :=
  place { denyFrame r sequence .bayBusy credential with deadline := some (w.st.now + withdrawalTime) } w

/-- R132: a queued DENY of R132 of a reader and sequence. -/
def ruleDenyOf (r : Reader) (sequence : Byte) (f : TxFrame) : Bool :=
  f.kind == .deny && f.deadline.isSome && answerReader f.body == some r && bodySequence f.body == sequence

/-- R132: the deadline of the first queued DENY of R132 of a reader and sequence ends: it is withdrawn. -/
def denyDeadlineEnds (r : Reader) (sequence : Byte) (w : Work) : Work :=
  match w.st.lkc.queue.find? (ruleDenyOf r sequence) with
  | none => w
  | some f =>
    withdraw (fun g => ruleDenyOf r sequence g && g.deadline == f.deadline)
      (w.upd fun s => s.advanceTo (f.deadline.getD 0))

/-- R138: ask for a CUSTODY write where the channel is ACTIVE and the capability does not exclude it. -/
def requestCustody (b : BayIx) (v : CustodyWrite) (w : Work) : Work :=
  let bay := w.st.bay b
  if bay.channel.state == .active && writeSupported bay.view (.custody v) then
    requestWrite b (.custody v) w
  else w

/-- The CUSTODY value DOCKED, with credential 0 (R138). -/
def dockedCustody : CustodyWrite := { released := false, credential := 0 }

/-- R132: the check of a claim at the end of its window. -/
def windowCheck (kind : RequestKind) (present : Bool) : Bool :=
  match kind with
  | .checkout => present
  | .giveBack => !present
  | .opening => true

/-- The release reason of a request kind (R132). -/
def reasonOfKind : RequestKind → ReleaseReason
  | .checkout => .checkout
  | .giveBack => .giveBack
  | .opening => .opening

/-- R132: the objection window of a bay's claim ends. -/
def windowEnds (b : BayIx) (w : Work) : Work :=
  match (w.st.bay b).claim with
  | none => w
  | some c =>
    if c.inWindow then
      let w := w.upd fun s => (s.advanceTo c.endTime).modBay b fun x => { x with claim := none }
      let w :=
        if windowCheck c.kind (w.st.bay b).present then
          w.raise (.releaseAsked b (releaseFor (reasonOfKind c.kind) c.credential c.reader c.sequence))
        else ruleDeny c.credential c.reader c.sequence w
      w.raise (.reevaluate b)
    else w

/-- A RELEASED frame (R132, 11 section 11.3). -/
def releasedFrame (b : BayIx) (asset : Word32) (r : ReleaseRecord) : TxFrame :=
  newFrame .released b.val toAll
    ((bayByte b :: bytes32 asset) ++ bytes32 r.credential ++
      [readerByte r.reader, r.sequence, BitVec.ofNat 8 (reasonCode r.reason)] ++ bytes16 r.start) .csu

/-- R132: the reasons for which a tablet in the bay is told its custody. -/
def handsOut : ReleaseReason → Bool
  | .checkout | .opening | .service => true
  | .giveBack => false

/-- R132: the CSU acts on the LDC's outcome for a release. -/
def releaseAnswer (b : BayIx) (r : ReleaseRecord) (o : ReleaseOutcome) (w : Work) : Work :=
  let bay := w.st.bay b
  match o with
  | .started =>
    let w := place (releasedFrame b ((bay.view.identity.map fun i => i.asset).getD 0) r) w
    if handsOut r.reason && bay.present then
      requestCustody b { released := true, credential := r.credential } w
    else w
  | .pendingLane => w
  | .refused | .cancelled => ruleDeny r.credential r.reader r.sequence w
  | .unused => if handsOut r.reason && bay.present then requestCustody b dockedCustody w else w

/-! ## Loans (R133 to R137) -/

/-- The most entries of the loan list (R133). -/
def loanCapacity : Nat := 32

/-- R133: put a loan in its place in due-minute order, behind those of an equal due minute. -/
def insertLoan (l : Loan) : List Loan → List Loan
  | [] => [l]
  | x :: xs => if l.due < x.due then l :: x :: xs else x :: insertLoan l xs

/-- R136: the list without the loan of an asset. -/
def closeLoan (asset : Word32) (loans : List Loan) : List Loan := loans.filter fun l => l.asset != asset

/-- R134, R133: the loan a removal creates. -/
def loanOf (s : State) (b : BayIx) (asset : Word32) (r : ReleaseRecord) : Loan :=
  { asset := asset, credential := r.credential, bay := b, released := r.start,
    due := heldAt 65535 (r.start + s.cfl.config.loanTime), state := .running }

/-- R134: record a loan, or place EVENT LOAN_NOT_RECORDED when the list is full. -/
def recordLoan (b : BayIx) (asset : Word32) (r : ReleaseRecord) (w : Work) : Work :=
  let rest := closeLoan asset w.st.csu.loans
  if rest.length < loanCapacity then
    w.upd fun s => s.modCsu fun c => { c with loans := insertLoan (loanOf s b asset r) rest }
  else place (newFrame .event (16 + 9) toAll (bytes32 asset ++ bytes32 r.credential) .csu) w

/-- R134: the conditions under which a removal creates a loan, and then the loan. -/
def removalNotice (b : BayIx) (attr : OpenAttr) (asset : Option Word32) (record : Option ReleaseRecord)
    (w : Work) : Work :=
  match asset, record with
  | some a, some r =>
    let technician := (lookupCredential w.st.csu.credentials r.credential).any fun e => e.role == .technician
    if attr == .authorized && (r.reason == .checkout || r.reason == .opening) && a != 0 && !technician then
      recordLoan b a r w
    else w
  | _, _ => w

/-- R135: an AUTHORIZED episode ends with the tablet still in the bay. -/
def episodeEndNotice (b : BayIx) (attr : OpenAttr) (record : Option ReleaseRecord) (present : Bool)
    (w : Work) : Work :=
  match record with
  | some r =>
    if attr == .authorized && handsOut r.reason && present then requestCustody b dockedCustody w else w
  | none => w

/-- R136: a RELEASED or RETURNED from another shelf closes the own loan of its asset. -/
def loanSeen (asset : Word32) (w : Work) : Work :=
  w.upd fun s => s.modCsu fun c => { c with loans := closeLoan asset c.loans }

/-- The class code of a RETURNED (11 section 11.3). -/
def classCode : IdentClass → Nat
  | .first => 1
  | .swap => 2
  | .same => 0

/-- A RETURNED frame (R136, 11 section 11.3). -/
def returnedFrame (b : BayIx) (asset : Word32) (minute : Nat) (cls : IdentClass) : TxFrame :=
  newFrame .returned b.val toAll
    ((bayByte b :: bytes32 asset) ++ bytes16 minute ++ [BitVec.ofNat 8 (classCode cls)]) .csu

/-- R136: an IDENT reading of class FIRST or SWAP. -/
def identNotice (b : BayIx) (cls : IdentClass) (w : Work) : Work :=
  match cls with
  | .same => w
  | .first | .swap =>
    let asset := ((w.st.bay b).view.identity.map fun i => i.asset).getD 0
    requestCustody b dockedCustody
      (loanSeen asset (place (returnedFrame b asset w.st.csu.minute cls) w))

/-- R138: the CSU's handling of a CUSTODY write's outcome: EVENT CUSTODY_REFUSED on REFUSED. -/
def custodyEnded (b : BayIx) (v : CustodyWrite) (o : WriteOutcome) (w : Work) : Work :=
  match o with
  | .refused =>
    placeEvent 14 (bayByte b) (((w.st.bay b).view.identity.map fun i => i.asset).getD 0)
      (if v.released then 2 else 1) .csu w
  | .accepted | .dropped | .replaced | .cancelled => w

/-- An OVERDUE frame (R137, 11 section 11.3). -/
def overdueFrame (l : Loan) : TxFrame :=
  newFrame .overdue 64 toAll (bytes32 l.asset ++ bytes32 l.credential ++ [bayByte l.bay] ++ bytes16 l.due) .csu

/-- R137: a loan that falls due at a minute. -/
def fallsDue (minute : Nat) (l : Loan) : Bool := l.state == .running && decide (l.due ≤ minute)

/-- R116, R120, R137: a whole minute. -/
def minutePasses (w : Work) : Work :=
  let w := w.upd fun s =>
    (s.advanceTo s.csu.minuteTimer).modCsu fun c =>
      { c with
        minute := heldAt 65535 (c.minute + 1), minuteTimer := c.minuteTimer + minuteTime,
        credentials := c.credentials.filter fun e =>
          !guestExpired s.cfl.config.guestTime (heldAt 65535 (c.minute + 1)) e }
  let due := w.st.csu.loans.filter (fallsDue w.st.csu.minute)
  let w := w.upd fun s => s.modCsu fun c =>
    { c with loans := c.loans.map fun l => if fallsDue c.minute l then { l with state := .overdue } else l }
  forEach due (fun l => place (overdueFrame l)) w

end Sys2Proof.Machine
end

