-- ==== Sys2Proof/Machine/Lanes.lean ====
section
/-! DEFINITION. The Provisioning Scheduler: campaigns (R141 to R143), eligibility and the queue (R144 to
R146), selection (R147), and the lane machines (R148 to R154). -/

namespace Sys2Proof.Machine

/-- Rewrite the PVS's state. -/
def State.modPvs (s : State) (f : Pvs → Pvs) : State := { s with pvs := f s.pvs }

/-- The campaign of a slot. -/
def State.campaign (s : State) (k : SlotIx) : Option Campaign := s.pvs.campaigns[k]

/-- The session of a lane machine. -/
def State.lane (s : State) (n : LaneIx) : Option LaneSession := s.pvs.lanes[n]

/-- The state with the session of a lane machine replaced. -/
def State.setLane (s : State) (n : LaneIx) (x : Option LaneSession) : State :=
  s.modPvs fun p => { p with lanes := p.lanes.set n x }

/-- Whether a stage is WAKING or CONNECTED. -/
def laneWorks : LaneStage → Bool
  | .waking | .connected => true
  | .releasing _ => false

/-! ## Eligibility (R144) -/

/-- R144: the tablet's side of eligibility: capability, model filter and profile. -/
def tabletEligible (c : Campaign) (v : TabletView) : Bool :=
  v.identity.all takesProvControl &&
    (c.model == 0 || v.identity.any fun i => i.model == c.model) &&
    v.profile.any fun p => p.code != c.profile || decide (p.version < c.target)

/-- R144: the bay's side of eligibility: presence, channel, attributes, door, charge state, SoC. -/
def bayEligible (cfg : WorkingConfig) (c : Campaign) (bay : Bay) : Bool :=
  bay.present && bay.channel.state == .active && inGroups c.groups bay.attrs.group && !bay.attrs.optOut &&
    bay.door.state == .secure && bay.door.release.isNone && bay.claim.isNone &&
    managed bay.charge.state && bay.view.battery.any (fun x => decide (cfg.socProv ≤ x.soc))

/-- R144: whether a bay is eligible for the campaign of a slot. -/
def eligible (s : State) (b : BayIx) (k : SlotIx) : Bool :=
  match s.campaign k with
  | none => false
  | some c =>
    let bay := s.bay b
    s.isActive && s.populated b && bayEligible s.cfl.config c bay && tabletEligible c bay.view &&
      decide (bay.prov.attempts[k] < 3) && !bay.prov.blocked[k] && (s.laneOf b).isNone

/-- Whether the campaign of a slot is URGENT. -/
def State.urgentSlot (s : State) (k : SlotIx) : Bool := (s.campaign k).any fun c => c.urgent

/-- R144: the chosen campaign of a bay: URGENT before ROUTINE, then the lower slot. -/
def chosenCampaign (s : State) (b : BayIx) : Option SlotIx :=
  let slots := allSlots.filter (eligible s b)
  (slots.find? s.urgentSlot).or slots.head?

/-! ## The queue (R145, R146) -/

/-- R146: whether an item stands before another. -/
def itemBefore (x y : QueueItem) : Bool :=
  if x.urgent != y.urgent then x.urgent
  else decide (x.since < y.since) || (x.since == y.since && decide (x.bay.val < y.bay.val))

/-- R146: put an item in its place. -/
def insertItem (x : QueueItem) : List QueueItem → List QueueItem
  | [] => [x]
  | y :: ys => if itemBefore x y then x :: y :: ys else y :: insertItem x ys

/-- The queue without the item of a bay. -/
def dropItem (b : BayIx) (q : List QueueItem) : List QueueItem := q.filter fun x => x.bay != b

/-- The queue item of a bay. -/
def itemOf (b : BayIx) (q : List QueueItem) : Option QueueItem := q.find? fun x => x.bay == b

/-- R145: the queue after the re-evaluation of a bay that is not on a lane. -/
def alignQueue (s : State) (b : BayIx) : List QueueItem :=
  match itemOf b s.pvs.queue, chosenCampaign s b with
  | none, none => s.pvs.queue
  | none, some k => insertItem { bay := b, slot := k, urgent := s.urgentSlot k, since := s.now } s.pvs.queue
  | some _, none => dropItem b s.pvs.queue
  | some x, some k =>
    insertItem { x with slot := k, urgent := s.urgentSlot k } (dropItem b s.pvs.queue)

/-- R145: re-evaluation of a bay. -/
def evaluateBay (b : BayIx) (s : State) : State :=
  if (s.laneOf b).isSome then s else s.modPvs fun p => { p with queue := alignQueue s b }

/-- R145: whether the re-evaluation of a bay adds an item. -/
def addsItem (s : State) (b : BayIx) : Bool :=
  (s.laneOf b).isNone && (itemOf b s.pvs.queue).isNone && (chosenCampaign s b).isSome

/-- R145, R147: the IDLE lane machines select, lane 0 first. -/
def selectIf (added : Bool) (w : Work) : Work :=
  if added then (w.raise (.select 0)).raise (.select 1) else w

/-- R145: re-evaluation of one bay, with the selection that follows an added item. -/
def reevaluate (b : BayIx) (w : Work) : Work := selectIf (addsItem w.st b) (w.upd (evaluateBay b))

/-- R142, R143: re-evaluation of every bay, and then the selection. No item of one bay bears on the eligibility
of another. -/
def reevaluateAll (w : Work) : Work :=
  selectIf (allBays.any (addsItem w.st)) (forEach allBays (fun b => Work.upd (evaluateBay b)) w)

/-! ## Selection (R147, R148) -/

/-- W as a number; STRICT has none. -/
def ratioNumber : Ratio → Option Nat
  | .two => some 2
  | .four => some 4
  | .eight => some 8
  | .strict => none

/-- R147: the item taken and the streak after it. -/
def pickItem (ratio : Ratio) (streak : Nat) (q : List QueueItem) : Option (QueueItem × Nat) :=
  match q.find? (fun x => x.urgent), q.find? (fun x => !x.urgent) with
  | none, none => none
  | none, some r => some (r, 0)
  | some u, routine =>
    match ratioNumber ratio, routine with
    | none, _ => some (u, 0)
    | some n, none => some (u, min n (streak + 1))
    | some n, some r => if streak < n then some (u, streak + 1) else some (r, 0)

/-- R148: the session of a lane machine that enters WAKING. -/
def wakingSession (s : State) (x : QueueItem) (c : Campaign) : LaneSession :=
  { bay := x.bay, slot := x.slot, campaign := c.id,
    asset := (s.bay x.bay).view.identity.map (fun i => i.asset), minute := s.csu.minute, stage := .waking,
    wakeWait := some (s.now + wakeTime), limit := none, entered := none, accepted := false }

/-- R148: a bay is placed on a lane. -/
def enterWaking (n : LaneIx) (x : QueueItem) (c : Campaign) (w : Work) : Work :=
  let w := w.upd fun s => s.setLane n (some (wakingSession s x c))
  let w := requestWrite x.bay (.provControl { enter := true, campaign := c.id }) w
  refreshWish x.bay (w.upd (profileAtOnce x.bay))

/-- R147: selection by an IDLE lane machine; an item whose bay fails the check leaves the queue and the
selection begins again with the streak as it was. The count is the number of items. -/
def selectFrom (n : LaneIx) : Nat → Work → Work
  | 0, w => w
  | k + 1, w =>
    match pickItem w.st.cfl.config.ratio w.st.pvs.streak w.st.pvs.queue with
    | none => w
    | some (x, streak) =>
      let w := w.upd fun s => s.modPvs fun p => { p with queue := dropItem x.bay p.queue }
      match w.st.campaign x.slot with
      | none => selectFrom n k w
      | some c =>
        if eligible w.st x.bay x.slot then
          enterWaking n x c (w.upd fun s => s.modPvs fun p => { p with streak := streak })
        else selectFrom n k w

/-- R147: a lane machine selects when it is IDLE. -/
def selectLane (n : LaneIx) (w : Work) : Work :=
  if (w.st.lane n).isNone then selectFrom n w.st.pvs.queue.length w else w

/-! ## The end of a session (R152 to R154) -/

/-- R153, R154: count an outcome at the bay. -/
def countOutcome (k : SlotIx) (o : LaneOutcome) (x : Bay) : Bay :=
  if outcomeFails o then
    let n := x.prov.attempts[k] + 1
    { x with
      prov := { x.prov with
        attempts := x.prov.attempts.set k n,
        blocked := x.prov.blocked.set k (x.prov.blocked[k] || decide (3 ≤ n)) },
      counters := { x.counters with provFailures := x.counters.provFailures + 1 } }
  else if o = .success then
    { x with counters := { x.counters with provSuccesses := x.counters.provSuccesses + 1 } }
  else x

/-- A PROV_STATUS frame (R154, 11 section 11.3), from the state after the outcome has been counted. -/
def provStatusFrame (s : State) (x : LaneSession) (o : LaneOutcome) : TxFrame :=
  newFrame .provStatus x.bay.val toAll
    ((bayByte x.bay :: bytes32 (x.asset.getD 0)) ++
      [x.campaign, BitVec.ofNat 8 (outcomeCode o), BitVec.ofNat 8 (s.bay x.bay).prov.attempts[x.slot]] ++
      bytes16 (((s.bay x.bay).view.profile.map fun p => p.version).getD 0) ++
      [BitVec.ofNat 8 (heldAt 255 (s.csu.minute - x.minute))]) .pvs

/-- R152: a lane machine in WAKING or CONNECTED enters RELEASING with an outcome. -/
def endSession (n : LaneIx) (o : LaneOutcome) (w : Work) : Work :=
  match w.st.lane n with
  | none => w
  | some x =>
    if laneWorks x.stage then
      let w := w.upd fun s =>
        (s.modProv x.bay fun p => { p with switch := none }).setLane n
          (some { x with stage := .releasing o, wakeWait := none, limit := none })
      let w := refreshWish x.bay w
      let w := w.upd fun s => s.modBay x.bay (countOutcome x.slot o)
      let w := place (provStatusFrame w.st x o) w
      requestWrite x.bay (.provControl { enter := false, campaign := x.campaign }) w
    else w

/-- R151: an abort cause reaches the lane machine of a bay, if one serves it. -/
def abortLane (b : BayIx) (o : LaneOutcome) (w : Work) : Work :=
  match w.st.laneOf b with
  | none => w
  | some n => endSession n o w

/-- R152: a lane machine becomes IDLE: lane-idle report, re-evaluation, selection. -/
def becomeIdle (n : LaneIx) (b : BayIx) (w : Work) : Work :=
  ((((w.upd fun s => s.setLane n none).raise (.laneIdle b)).raise (.reevaluate b)).raise (.select 0)).raise
    (.select 1)

/-! ## Events of a session (R149 to R151) -/

/-- R149, R152: the outcome of a PROV_CONTROL write of a bay. -/
def provEnded (b : BayIx) (v : ProvWrite) (o : WriteOutcome) (w : Work) : Work :=
  match w.st.laneOf b with
  | none => w
  | some n =>
    match w.st.lane n with
    | none => w
    | some x =>
      match x.stage, v.enter, o with
      | .waking, true, .accepted => w.upd fun s => s.setLane n (some { x with accepted := true })
      | .waking, true, .refused => endSession n .failRefused w
      | .releasing _, false, .replaced => w
      | .releasing _, false, _ => becomeIdle n b w
      | _, _, _ => w

/-- R150: entry to CONNECTED; by R140 the switch closes only while the door machine is SECURE. -/
def enterConnected (n : LaneIx) (x : LaneSession) (w : Work) : Work :=
  w.upd fun s =>
    (s.modProv x.bay fun p =>
      { p with switch := if (s.bay x.bay).door.state = .secure then some n else none }).setLane n
      (some { x with
        stage := .connected, wakeWait := none, entered := some s.now,
        limit := some (s.now + ((s.campaign x.slot).map fun c => c.limit).getD 0 * 60000) })

/-- R150: a DONE reading meets the target of a campaign. -/
def meetsTarget (c : Campaign) (p : Profile) : Bool := p.code == c.profile && decide (c.target ≤ p.version)

/-- R149, R150: a PROFILE reading reaches the lane machine of a bay. -/
def profileReading (b : BayIx) (w : Work) : Work :=
  match w.st.laneOf b with
  | none => w
  | some n =>
    match w.st.lane n, (w.st.bay b).view.profile with
    | some x, some p =>
      match x.stage with
      | .waking =>
        if x.accepted then
          match p.state with
          | .ready => enterConnected n x w
          | .error => endSession n .failTablet w
          | .idle | .running | .done => w
        else w
      | .connected =>
        match p.state with
        | .done =>
          endSession n
            (if (w.st.campaign x.slot).any fun c => meetsTarget c p then .success else .failTablet) w
        | .error => endSession n .failTablet w
        | .idle => endSession n .failDropped w
        | .ready | .running => w
      | .releasing _ => w
    | _, _ => w

/-- R151: a BATTERY reading with SoC below SoC_prov − 10 aborts the session of a bay. -/
def batteryAbort (b : BayIx) (w : Work) : Work :=
  if (w.st.bay b).view.battery.any fun x => decide (x.soc + 10 < w.st.cfl.config.socProv) then
    abortLane b .abortCharge w
  else w

/-- R151: a change of charge state reaches the lane machine. -/
def chargeAbort (b : BayIx) (w : Work) : Work :=
  match (w.st.bay b).charge.state with
  | .vacant => abortLane b .abortRemoved w
  | .charging | .held | .maintain => w
  | .identifying | .thermal | .unmanaged | .fault | .outOfService => abortLane b .abortCharge w

/-- R153: all attempt counts and blocked flags of a bay are cleared. -/
def clearAttempts (b : BayIx) (s : State) : State :=
  s.modProv b fun p => { p with attempts := Vector.replicate 4 0, blocked := Vector.replicate 4 false }

/-- R151, R153: the PVS takes a channel state notice. At OFF the session ends before the attempt counts are cleared
(assumption 13). -/
def channelAbort (b : BayIx) (st : ChannelState) (w : Work) : Work :=
  match st with
  | .off => (abortLane b .abortRemoved w).upd (clearAttempts b)
  | .silent | .stuck => abortLane b .abortSilent w
  | .active => w

/-- R149: the wake wait of a lane machine ends. -/
def wakeWaitEnds (n : LaneIx) (w : Work) : Work :=
  match w.st.lane n with
  | none => w
  | some x =>
    match x.stage, x.wakeWait with
    | .waking, some t => endSession n .failTimeout (w.upd fun s => s.advanceTo t)
    | _, _ => w

/-- R150: the lane time limit of a lane machine ends. -/
def laneLimitEnds (n : LaneIx) (w : Work) : Work :=
  match w.st.lane n with
  | none => w
  | some x =>
    match x.stage, x.limit with
    | .connected, some t => endSession n .failTimeout (w.upd fun s => s.advanceTo t)
    | _, _ => w

/-! ## Campaigns (R142, R143) -/

/-- R142: whether a CAMPAIGN frame is acted on. -/
def campaignValid (c : CampaignBody) : Bool := c.id != 0 && decide (c.profile ≤ 63)

/-- R141, R142: the campaign of a START, its limit held within 1 to 120, its class from the class map. -/
def campaignOf (cfg : WorkingConfig) (c : CampaignBody) : Campaign :=
  { id := c.id, profile := c.profile, target := c.target, model := c.model, groups := c.groups,
    limit := clampTo 1 120 c.limit, urgent := cfg.classMap.getLsbD c.profile }

/-- The slot that holds a campaign id. -/
def slotOfId (s : State) (id : Byte) : Option SlotIx :=
  allSlots.find? fun k => (s.campaign k).any fun c => c.id == id

/-- The lowest free slot. -/
def freeSlot (s : State) : Option SlotIx := allSlots.find? fun k => (s.campaign k).isNone

/-- The state with the campaign of a slot replaced. -/
def State.setCampaign (s : State) (k : SlotIx) (c : Option Campaign) : State :=
  s.modPvs fun p => { p with campaigns := p.campaigns.set k c }

/-- R142: a CONNECTED session of a replaced slot runs to its entry plus the new limit; a limit already
passed expires at once. -/
def renewLimit (k : SlotIx) (limit : Nat) (n : LaneIx) (w : Work) : Work :=
  match w.st.lane n with
  | none => w
  | some x =>
    match x.stage, x.entered with
    | .connected, some t =>
      if x.slot = k then
        let e := t + limit * 60000
        let w := w.upd fun s => s.setLane n (some { x with limit := some e })
        if e ≤ w.st.now then endSession n .failTimeout w else w
      else w
    | _, _ => w

/-- R142: a CAMPAIGN START. -/
def startCampaign (body : CampaignBody) (w : Work) : Work :=
  if campaignValid body then
    let c := campaignOf w.st.cfl.config body
    match slotOfId w.st body.id with
    | some k =>
      (forEach allLanes (renewLimit k c.limit) (w.upd fun s => s.setCampaign k (some c))).raise .reevaluateAll
    | none =>
      match freeSlot w.st with
      | some k => (w.upd fun s => s.setCampaign k (some c)).raise .reevaluateAll
      | none => placeEvent 10 noBay (BitVec.ofNat 32 body.id.toNat) 2 .pvs w
  else w

/-- R143: the lane machines in WAKING or CONNECTED for a slot take ABORT_CANCEL. -/
def cancelLanes (k : SlotIx) (w : Work) : Work :=
  forEach allLanes
    (fun n w => if (w.st.lane n).any fun x => x.slot == k then endSession n .abortCancel w else w) w

/-- R143: a bay's attempt count and blocked flag for a slot are cleared. -/
def clearAttemptsFor (k : SlotIx) (b : BayIx) (s : State) : State :=
  s.modProv b fun p => { p with attempts := p.attempts.set k 0, blocked := p.blocked.set k false }

/-- R143: a CAMPAIGN CANCEL. -/
def cancelCampaign (body : CampaignBody) (w : Work) : Work :=
  if campaignValid body then
    match slotOfId w.st body.id with
    | none => w
    | some k =>
      let w := cancelLanes k w
      let w := w.upd fun s => s.modPvs fun p => { p with queue := p.queue.filter fun x => x.slot != k }
      let w := forEach allBays (fun b => Work.upd (clearAttemptsFor k b)) w
      (w.upd fun s => s.setCampaign k none).raise .reevaluateAll
  else w

end Sys2Proof.Machine
end

