-- ==== Sys2Proof/Machine/Peers.lean ====
section
/-! DEFINITION. The Peer Monitor: heartbeats taken (R28, R30, R32), aging (R29), address clash (R33) and
the own heartbeat's completion (R25, R26). -/

namespace Sys2Proof.Machine

/-- Rewrite the PMN's state. -/
def State.modPmn (s : State) (f : Pmn → Pmn) : State := { s with pmn := f s.pmn }

/-- Rewrite the SHU's state. -/
def State.modShu (s : State) (f : Shu → Shu) : State := { s with shu := f s.shu }

/-- The peer entry of an address. -/
def State.peer (s : State) (a : Addr) : Option Peer := s.pmn.peers[a]

/-- The state with a peer entry replaced. -/
def State.setPeer (s : State) (a : Addr) (p : Option Peer) : State :=
  s.modPmn fun m => { m with peers := m.peers.set a p }

/-- R28, R32: the entry after a heartbeat; its mismatch flag compares the digest of a SHELF with the own
digest. -/
def heardPeer (now : Nat) (own : Word16) (h : HeartbeatBody) : Peer :=
  { state := .live, role := h.role, claim := h.claim, draw := h.draw, allowance := h.allowance,
    digest := h.digest, mismatch := h.role == .shelf && h.digest != own, errorWord := h.errorWord,
    heardAt := now }

/-- Whether an entry is a shelf. -/
def isShelf (p : Option Peer) : Bool := p.any fun x => x.role == .shelf

/-- Whether an entry carries the mismatch flag. -/
def isMismatched (p : Option Peer) : Bool := p.any fun x => x.mismatch

/-- R30: whether a heartbeat that changes an entry from `old` to `new` gives the SHU a change notice, as
far as the entry itself tells: a shelf entry, a change of state, a change into or out of SHELF. -/
def entryNotice (old : Option Peer) (new : Peer) : Bool :=
  new.role == .shelf || (old.map fun x => x.state) != some .live || isShelf old

/-- R28, R30, R32: a heartbeat taken from the receive queue. -/
def takeHeartbeat (a : Addr) (h : HeartbeatBody) (w : Work) : Work :=
  let old := w.st.peer a
  let new := heardPeer w.st.now w.st.cfl.digest h
  let held := w.st.mismatchHeld
  let w := w.upd fun s => s.setPeer a (some new)
  let w :=
    if new.mismatch && !isMismatched old then
      placeEvent 12 noBay (BitVec.ofNat 32 a.val) h.digest.toNat .pmn w
    else w
  w.raiseIf (entryNotice old new || w.st.mismatchHeld != held) .recompute

/-- R29: an entry's age reaches a threshold: the state follows, the mismatch flag is cleared, and the SHU
gets a change notice. -/
def agePeer (a : Addr) (limit : Nat) (old new : PeerState) (w : Work) : Work :=
  match w.st.peer a with
  | none => w
  | some p =>
    if p.state = old then
      (w.upd fun s =>
        (s.advanceTo (p.heardAt + limit)).setPeer a (some { p with state := new, mismatch := false })).raise
        .recompute
    else w

/-- R33: the LKC reports a clash. -/
def reportClash (w : Work) : Work :=
  let held := w.st.clashHeld
  let w := w.upd fun s => s.modPmn fun m => { m with clashHold := some (s.now + clashTime) }
  if held then w else (placeEvent 13 noBay 0 0 .pmn w).raise .recompute

/-- R25, R26: an own heartbeat completes: the isolation timer starts again, ISOLATED ends, the claim it
carried is appended to the history, and the SHU recomputes. -/
def heartbeatCompleted (f : TxFrame) (w : Work) : Work :=
  (w.upd fun s =>
    (s.modPmn fun m =>
      { m with isolated := false, isolationTimer := some (s.now + isolationTime) }).modShu fun u =>
      { u with history := appendHistory u.history (word16At f.body 4).toNat }).raise .recompute

end Sys2Proof.Machine
end

