-- ==== Sys2Proof/Machine/Notices.lean ====
section
/-! DEFINITION. What each block does with the notices it is handed, and the working of all notices of a
command until none is left (95: a step is whole and indivisible; assumption 8). -/

namespace Sys2Proof.Machine

/-- R81, R151: the BCC and the PVS take a channel state notice. Where a lane works for a managed bay whose
channel fell SILENT or STUCK, which takes it first is free (assumption 7). -/
def channelNotice (b : BayIx) (st : ChannelState) (w : Work) : Work :=
  let bccLater := (chargeChannel b st (channelAbort b st w)).raise (.reevaluate b)
  let bccFirst := (chargeChannel b st w).raise (.laneChannel b st)
  match st with
  | .silent | .stuck =>
    if w.st.laneWorking b && managed (w.st.bay b).charge.state then
      if Config.bccTakesFirst w.st.freeCount then
        bccFirst.upd fun s => { s with freeCount := s.freeCount + 1 }
      else bccLater.upd fun s => { s with freeCount := s.freeCount + 1 }
    else bccLater
  | .off | .active => bccLater

/-- R94, R96: the blocks take a reading notice: the BCC, then the CSU, then the PVS, whose re-evaluation (R145) so finds
what the others made of the reading (the order is a DESIGN CHOICE, assumption 42). -/
def readingNotice (b : BayIx) (r : DockRegister) (cls : IdentClass) (w : Work) : Work :=
  match r with
  | .ident =>
    let w := identNotice b cls (chargeReading b .ident w)
    let w := if cls == .swap then w.upd (clearAttempts b) else w
    w.raise (.reevaluate b)
  | .battery => (batteryAbort b (chargeReading b .battery w)).raise (.reevaluate b)
  | .chargeRequest => chargeReading b .chargeRequest w
  | .profile => (profileReading b w).raise (.reevaluate b)
  | .chargeLimit | .provControl | .custody => w

/-- R92: the outcome of a write reaches the block that requested it; the BCC takes no action (R70). -/
def writeNotice (b : BayIx) (x : DockWrite) (o : WriteOutcome) (w : Work) : Work :=
  match x with
  | .custody v => custodyEnded b v o w
  | .provControl v => provEnded b v o w
  | .chargeLimit _ => w

/-- R7, R16: a discard notice. Only OFFER and DENY have an action on it (R130). -/
def discardNotice (f : TxFrame) (w : Work) : Work :=
  match f.kind with
  | .offer => offerDiscarded f w
  | .deny => denyDiscarded f w
  | _ => w

/-- R8: the block that placed a completed frame takes its notice. -/
def completionNotice (f : TxFrame) (w : Work) : Work :=
  match f.kind with
  | .heartbeat => heartbeatCompleted f w
  | .offer => offerCompleted f w
  | .deny => denyCompleted f w
  | _ => w

/-- R103, R151: the LDC takes a release request; where it is not refused, the PVS takes its release notice at
once, before any latch is energised on a lane's report. -/
def requestRelease (b : BayIx) (r : ReleaseRecord) (w : Work) : Work :=
  if releaseBusy w.st b then askRelease b r w
  else (abortLane b .abortCustody (askRelease b r w)).raise (.reevaluate b)

/-- The work of one notice. -/
def handle (n : Notice) (w : Work) : Work :=
  match n with
  | .recompute => recompute w
  | .split => runSplit w
  | .wishInput b => refreshWish b w
  | .chargeChanged b => (chargeAbort b w).raise (.reevaluate b)
  | .channelChanged b st => channelNotice b st w
  | .laneChannel b st => (channelAbort b st w).raise (.reevaluate b)
  | .reading b r cls => readingNotice b r cls w
  | .writeEnded b x o => writeNotice b x o w
  | .discarded f => discardNotice f w
  | .doorMoved b leftSecure => (if leftSecure then abortLane b .abortCustody w else w).raise (.reevaluate b)
  | .episodeEnded b attr record present => (episodeEndNotice b attr record present w).raise (.reevaluate b)
  | .releaseAsked b r => requestRelease b r w
  | .releaseAnswered b r o => releaseAnswer b r o w
  | .laneIdle b => laneReportedIdle b w
  | .reevaluate b => reevaluate b w
  | .reevaluateAll => reevaluateAll w
  | .select n => selectLane n w
  | .serviceChanged b => serviceChanged b w

/-- Work the notices, those a notice raises before those that stood behind it. -/
def settle : Nat → Work → Work
  | 0, w => w
  | n + 1, w =>
    match w.todo with
    | [] => w
    | x :: xs =>
      let r := handle x (startWork w.st)
      settle n { st := r.st, todo := r.todo ++ xs }

/-- More notices than a command can raise (assumption 8). -/
def noticeBound : Nat := 4096

/-- The state after all the notices of a command have been worked. -/
def Work.finish (w : Work) : State := (settle noticeBound w).st

/-- The outcome of a command that works from a state. -/
def carryOut (s : State) (f : Work → Work) : Host.Outcome State Fault Refusal :=
  .next (f (startWork s)).finish

end Sys2Proof.Machine
end

