-- ==== Sys2Proof/Machine/CommandsCharge.lean ====
section
/-! DEFINITION. The commands of bay charging (chapter 4). -/

namespace Sys2Proof.Machine

/-- R71: the measured values of a port. -/
def senseBay (p : PortSense) (c : Charge) : Charge :=
  { c with
    milliVolts := p.milliVolts, milliAmps := p.milliAmps, power := p.milliVolts * p.milliAmps / 100000 }

/-- R71: the energy of a measurement is added to the count and the remainder of a bay. -/
def countEnergy (x : Bay) : Bay :=
  let e := energyStep x.charge
  { x with
    charge := { x.charge with remainder := e.2 },
    counters := { x.counters with energy := x.counters.energy + BitVec.ofNat 32 e.1 } }

/-- R71, R73: a bay is measured: the values, the OVERDRAW count against the grant in force (assumption 12),
and the energy. -/
def measureBay (p : PortSense) (x : Bay) : Bay :=
  countEnergy { x with charge := overdrawStep (senseBay p x.charge) }

/-- R73: the OVERDRAW count has reached 11. -/
def overdrawn (c : Charge) : Bool := takesPart c.state && decide (11 ≤ c.overdraw)

/-- R71, R73: a measurement of the populated bays. Two bays that trip at it are taken in the order of their indices
(assumption 39). -/
def takeMeasurement (ports : Vector PortSense 8) (w : Work) : Work :=
  let w := forEach w.st.populatedBays (fun b => Work.upd fun s => s.modBay b (measureBay ports[b])) w
  let w := presentDraw w.st.measuredDraw w
  forEach w.st.populatedBays
    (fun b w => if overdrawn (w.st.bay b).charge then tripBay b .overdraw w else w) w

/-- MEASUREMENT (R71, R73, R39, R52). -/
def execMeasurement (ports : Vector PortSense 8) (s : State) : Host.Outcome State Fault Refusal :=
  match s.bcc.measureTimer with
  | none => .next s
  | some t =>
    carryOut { s.advanceTo t with bcc := { s.bcc with measureTimer := some (t + measurePeriod) } }
      (takeMeasurement ports)

/-- PRESENCE_GAIN (R56, R57). -/
def execPresenceGain (b : BayIx) (s : State) : Host.Outcome State Fault Refusal :=
  if s.populated b && !(s.bay b).present then
    carryOut (s.modBay b fun x => { x with present := true }) fun w =>
      if w.st.isActive && (w.st.bay b).charge.state == .vacant then enterIdentifying b false w else w
  else .next s

/-- R112, R134: the LDC takes a presence loss, and the CSU the removal notice of an open episode. -/
def takeRemoval (b : BayIx) (w : Work) : Work :=
  let d := (w.st.bay b).door
  let w := doorRemoval b w
  match d.episode with
  | none => w
  | some e => removalNotice b e.attr e.asset d.release w

/-- R57, R90, R112, R134: the blocks take a presence loss: SBC, BCC, LDC and, on its removal notice, the CSU
(assumption 9). -/
def losePresence (b : BayIx) (w : Work) : Work :=
  let w := channelLost b w
  takeRemoval b (if (w.st.bay b).charge.state == .outOfService then w else enterVacant b w)

/-- PRESENCE_LOSS (R57, R90, R112). -/
def execPresenceLoss (b : BayIx) (s : State) : Host.Outcome State Fault Refusal :=
  if s.populated b && (s.bay b).present then
    carryOut (s.modBay b fun x => { x with present := false }) (losePresence b)
  else .next s

/-- IDENTIFICATION_TIMER_EXPIRED (R58). -/
def execIdentificationTimerExpired (b : BayIx) (s : State) : Host.Outcome State Fault Refusal :=
  match (s.bay b).charge.identTimer with
  | none => .next s
  | some t =>
    if (s.bay b).charge.state = .identifying then carryOut (s.advanceTo t) (enterUnmanaged b) else .next s

/-- R61: the next IDENT read of an UNMANAGED bay is asked for. -/
def askUnmanagedRead (b : BayIx) (t : Nat) (s : State) : State :=
  requestReads b [.ident] (s.modCharge b fun c => { c with unmanagedTimer := some (t + unmanagedPeriod) })

/-- UNMANAGED_READ_TIMER_EXPIRED (R61). -/
def execUnmanagedReadTimerExpired (b : BayIx) (s : State) : Host.Outcome State Fault Refusal :=
  match (s.bay b).charge.unmanagedTimer with
  | none => .next s
  | some t =>
    if (s.bay b).charge.state = .unmanaged ∧ (s.bay b).channel.state = .active then
      .next (askUnmanagedRead b t (s.advanceTo t))
    else .next s

/-- SHORT_HOLD_START (R72): the sensed voltage falls below half the port voltage. -/
def execShortHoldStart (b : BayIx) (milliVolts : Nat) (s : State) : Host.Outcome State Fault Refusal :=
  let c := (s.bay b).charge
  if s.populated b && shortWatch c && belowHalf milliVolts c && c.shortHold.isNone then
    .next (s.modCharge b fun c => { c with shortHold := some (s.now + shortHoldTime) })
  else .next s

/-- SHORT_HOLD_ABANDONED (R72): the sensed voltage is back at half the port voltage or above. -/
def execShortHoldAbandoned (b : BayIx) (milliVolts : Nat) (s : State) : Host.Outcome State Fault Refusal :=
  if belowHalf milliVolts (s.bay b).charge then .next s
  else .next (s.modCharge b fun c => { c with shortHold := none })

/-- SHORT_TRIP (R72, R75): the hold completes. -/
def execShortTrip (b : BayIx) (s : State) : Host.Outcome State Fault Refusal :=
  match (s.bay b).charge.shortHold with
  | none => .next s
  | some t =>
    if shortWatch (s.bay b).charge then carryOut (s.advanceTo t) (tripBay b .short) else .next s

end Sys2Proof.Machine
end

