-- ==== Sys2Proof/Machine/CommandsPeers.lean ====
section
/-! DEFINITION. The commands of peers, heartbeats and sharing (chapters 2 and 3), and the taking of a frame
from a block's hand (assumption 2). -/

namespace Sys2Proof.Machine

/-- The work of a command that takes the frame in a block's hand. A hand that is empty or holds a frame of
another row leaves the state as it is (assumption 2). -/
def fromHand (s : State) (block : Block) (which : RxFrame → Bool) (f : RxFrame → Work → Work) :
    Host.Outcome State Fault Refusal :=
  match s.hand block with
  | none => .next s
  | some x => if which x then carryOut (s.setHand none block) (f x) else .next s

/-- HEARTBEAT_TIMER_EXPIRED (R23, R24, R17). -/
def execHeartbeatTimerExpired (s : State) : Host.Outcome State Fault Refusal :=
  match s.shu.heartbeatTimer with
  | none => .next s
  | some t =>
    carryOut ((s.advanceTo t).modShu fun u => { u with heartbeatTimer := some (t + heartbeatPeriod) })
      fun w => offerHeartbeat (heartbeatBody w.st) w

/-- ISOLATION_TIMER_EXPIRED (R26). -/
def execIsolationTimerExpired (s : State) : Host.Outcome State Fault Refusal :=
  match s.pmn.isolationTimer with
  | none => .next s
  | some t =>
    carryOut ((s.advanceTo t).modPmn fun m => { m with isolationTimer := none, isolated := true })
      (Work.raise .recompute)

/-- HEARTBEAT (R28, R30, R32). The source has passed the clash check (R12), so it is not the own address. -/
def execHeartbeat (s : State) : Host.Outcome State Fault Refusal :=
  fromHand s .pmn (fun f => f.kind == .heartbeat) fun f w =>
    if f.source = w.st.cfl.address then w else takeHeartbeat f.source (readHeartbeat f.body) w

/-- PEER_QUIET (R29, R30, R32). -/
def execPeerQuiet (peer : Addr) (s : State) : Host.Outcome State Fault Refusal :=
  carryOut s (agePeer peer quietAge .live .quiet)

/-- PEER_LOST (R29, R30). -/
def execPeerLost (peer : Addr) (s : State) : Host.Outcome State Fault Refusal :=
  carryOut s (agePeer peer lostAge .quiet .lost)

/-- CLASH_HOLD_EXPIRED (R33, R50). -/
def execClashHoldExpired (s : State) : Host.Outcome State Fault Refusal :=
  match s.pmn.clashHold with
  | none => .next s
  | some t =>
    carryOut ((s.advanceTo t).modPmn fun m => { m with clashHold := none }) (Work.raise .recompute)

/-- GUARD_LIFT_TIMER_EXPIRED (R53). -/
def execGuardLiftTimerExpired (s : State) : Host.Outcome State Fault Refusal :=
  match s.shu.liftTimer with
  | none => .next s
  | some t =>
    carryOut ((s.advanceTo t).modShu fun u => { u with guard := false, liftTimer := none })
      (Work.raise .recompute)

end Sys2Proof.Machine
end

