-- ==== Sys2Proof/Machine/Start.lean ====
section
/-! DEFINITION. The Configuration Loader: power-on and station restart (R171, with R22, R35, R55, R78, R98,
R115, R139, R156), the straps (R168), the configuration read (R169) and the phases (R167, R54, R77). -/

namespace Sys2Proof.Machine

/-- Rewrite the CFL's state. -/
def State.modCfl (s : State) (f : Cfl → Cfl) : State := { s with cfl := f s.cfl }

/-- R168: the populated count of the count straps. -/
def countOf (count : BitVec 3) : Nat := count.toNat + 1

/-- R56: a bay record that is not sampled: what is kept through a restart, and VACANT. -/
def unsampledBay (x : Bay) : Bay := { attrs := x.attrs, counters := x.counters }

/-- R78: the charge section after a reset: VACANT, or OUT_OF_SERVICE where the attribute is kept set. -/
def resetCharge (a : BayAttrs) : Charge :=
  { state := if a.outOfService then .outOfService else .vacant }

/-- R100, R115: the record of a populated bay when the straps are read: its door from the first sample. -/
def sampledBay (now ajarTime : Nat) (closed bolt : Bool) (x : Bay) : Bay :=
  { attrs := x.attrs, counters := x.counters, charge := resetCharge x.attrs,
    door := firstDoor now ajarTime closed bolt }

/-- R168, R115: the bay records after a strap reading: every populated bay is sampled for the first time, since the
restart before it left no bay sampled (R171, assumption 11). -/
def sampleBays (s : State) (pins : StartPins) : Vector Bay 8 :=
  Vector.ofFn fun b : BayIx =>
    let x := s.bay b
    if b.val < countOf pins.count then
      sampledBay s.now s.cfl.config.ajarTime (pins.doors.getLsbD b.val) (pins.bolts.getLsbD b.val) x
    else unsampledBay x

/-- R169: the configuration read as it starts. -/
def startRead (now : Nat) : ConfigRead :=
  { device := 0x50, pointer := 0x00, length := 64, limit := now + configReadLimit }

/-- R168, R169: read the straps, begin sampling and measuring (R77; the first measurement: assumption 37), and start the
configuration read. -/
def readStraps (pins : StartPins) (s : State) : State :=
  { s with
    bays := sampleBays s pins,
    bcc := { s.bcc with measureTimer := some (s.now + measurePeriod) },
    cfl := { s.cfl with
      address := pins.address.toFin, populated := countOf pins.count,
      configRead := some (startRead s.now) } }

/-- R78, R98, R115, R139, R156: a bay record at a station restart. -/
def restartBay (x : Bay) : Bay :=
  { attrs := x.attrs, counters := x.counters, charge := resetCharge x.attrs }

/-- R171: every block takes its station restart values, the listen timer stops and the phase is START. -/
def restartValues (s : State) : State :=
  { s with
    cfl := { s.cfl with phase := .start, populated := 0, configRead := none, listenTimer := none },
    lkc := { counters := s.lkc.counters },
    hands := {}, pmn := {},
    shu := { available := s.shu.available },
    bcc := { since := s.now },
    bays := s.bays.map restartBay,
    csu := { s.csu with slots := Vector.replicate 4 none },
    pvs := {} }

/-- R171, R172: a station restart; straps and record are read once the line is not held. -/
def stationRestart (pins : StartPins) (s : State) : State :=
  let s := restartValues s
  if s.cfl.restartHeld then s else readStraps pins s

/-- R167, R172: power-on. The queue of waiting commands and the count of free choices are no part of the
chip and stay (assumption 28). -/
def poweredOn (restartLow : Bool) (pins : StartPins) (s : State) : State :=
  let fresh : State :=
    { State.reset with
      pending := s.pending, freeCount := s.freeCount,
      cfl := { cflReset with restartHeld := restartLow } }
  if restartLow then fresh else readStraps pins fresh

/-- R169: what the reading of a record gives: the working configuration and the flag. -/
def configResult (record : Option (List Byte)) : WorkingConfig × ConfigFlag :=
  match record with
  | none => (defaultConfig, .byDefault)
  | some r =>
    if r.length = 64 then
      if recordGood r then (configOfRecord r, .good) else (defaultConfig, .bad)
    else (defaultConfig, .byDefault)

/-- R37, R169, R24: the working configuration is loaded: flag, digest and A. -/
def loadConfig (r : WorkingConfig × ConfigFlag) (s : State) : State :=
  (s.modCfl fun c =>
    { c with configRead := none, config := r.1, flag := r.2, digest := configDigest r.1 }).modShu fun u =>
    { u with available := r.1.budget - r.1.reserve }

/-- R167, R21: the entry to LISTEN. -/
def enterListen (s : State) : State :=
  waitForIdle (s.modCfl fun c => { c with phase := .listen, listenTimer := some (s.now + listenTime) })

/-- R169: the end of the configuration read; LISTEN begins unless the restart line is held. -/
def endConfigRead (record : Option (List Byte)) (s : State) : State :=
  let s := loadConfig (configResult record) s
  if s.cfl.restartHeld then s else enterListen s

/-- R54, R26: the SHU and the PMN at the entry to ACTIVE: zero history, a recomputation, the heartbeat timer
with the first body, the isolation timer. -/
def enterActiveShare (w : Work) : Work :=
  let w := w.upd fun s => s.modShu fun u =>
    { u with history := Vector.replicate 4 0, guard := false, liftTimer := none }
  let w := recompute w
  let w := w.upd fun s =>
    (s.modShu fun u => { u with heartbeatTimer := some (s.now + heartbeatPeriod) }).modPmn fun m =>
      { m with isolationTimer := some (s.now + isolationTime) }
  offerHeartbeat (heartbeatBody w.st) w

/-- R77: at the entry to ACTIVE a VACANT bay whose present flag is set enters IDENTIFYING. -/
def identifyPresent (b : BayIx) (w : Work) : Work :=
  if (w.st.bay b).present && (w.st.bay b).charge.state == .vacant then enterIdentifying b false w else w

/-- R167, R171: the entry to ACTIVE. -/
def enterActive (w : Work) : Work :=
  let w := w.upd fun s => s.modCfl fun c => { c with phase := .active, listenTimer := none }
  let w := enterActiveShare w
  forEach w.st.populatedBays identifyPresent w

end Sys2Proof.Machine
end

