-- ==== Sys2Proof/Machine/CommandsCustody.lean ====
section
/-! DEFINITION. The commands of credentials, checkout and loans (chapter 7), and RESTART (R123, R173). -/

namespace Sys2Proof.Machine

/-- A received frame is of a kind. -/
def isKind (k : FrameKind) (f : RxFrame) : Bool := f.kind == k

/-- MINUTE_TICK (R116, R120, R137). -/
def execMinuteTick (s : State) : Host.Outcome State Fault Refusal := carryOut s minutePasses

/-- ENROLL (R118). -/
def execEnroll (s : State) : Host.Outcome State Fault Refusal :=
  fromHand s .csu (isKind .enroll) fun f => takeEnroll (readEnroll f.body)

/-- REVOKE (R119). -/
def execRevoke (s : State) : Host.Outcome State Fault Refusal :=
  fromHand s .csu (isKind .revoke) fun f => Work.upd fun s =>
    s.modCsu fun c => { c with credentials := revokeCredential c.credentials (word32At f.body 0) }

/-! ## BAYSET (R122, assumption 24) -/

/-- The fields of a BAYSET, by the bits of its field mask (11 section 11.3). -/
inductive BaysetField where
  | group | openLevel | reserved | outOfService | optOut | clearFault
deriving DecidableEq, Repr

/-- The mask bit of a field. -/
def fieldBit : BaysetField → Nat
  | .group => 0
  | .openLevel => 1
  | .reserved => 2
  | .outOfService => 3
  | .optOut => 4
  | .clearFault => 5

/-- R122: the role level a field requires. -/
def fieldLevel : BaysetField → Nat
  | .group | .reserved => 1
  | .openLevel | .outOfService | .optOut | .clearFault => 0

/-- R122: the attributes after a permitted field has been applied. An open level above 3 is taken as 3. -/
def applyField (f : BaysetField) (body : BaysetBody) (a : BayAttrs) : BayAttrs :=
  match f with
  | .group => { a with group := body.group }
  | .openLevel => { a with openLevel := if body.openLevel = 0 then 0 else if body.openLevel = 1 then 1
                                         else if body.openLevel = 2 then 2 else 3 }
  | .reserved => { a with reserved := body.reserved }
  | .outOfService => { a with outOfService := body.outOfService }
  | .optOut => { a with optOut := body.optOut }
  | .clearFault => a

/-- R76: a permitted CLEAR_FAULT. -/
def clearFault (b : BayIx) (w : Work) : Work :=
  if (w.st.bay b).charge.state == .fault then enterIdentifying b false w else w

/-- R122: a field of a BAYSET is applied to a bay when the authoriser's role level permits it. -/
def takeField (f : BaysetField) (e : CredentialEntry) (body : BaysetBody) (b : BayIx) (w : Work) : Work :=
  if roleLevel e.role ≤ fieldLevel f then
    match f with
    | .clearFault => clearFault b w
    | .group | .openLevel | .reserved | .outOfService | .optOut =>
      setAttrs b (applyField f body (w.st.bay b).attrs) w
  else w

/-- The mask bits that name a field. -/
def namedBits (mask : Byte) : Byte := mask &&& 0x3F#8

/-- The mask without the bit of a field. -/
def takenMask (f : BaysetField) (mask : Byte) : Byte := namedBits mask &&& ~~~(1#8 <<< fieldBit f)

/-- Assumption 24: a field is the next one of a mask when its bit is the lowest that is set. -/
def isNext (f : BaysetField) (mask : Byte) : Bool :=
  mask.getLsbD (fieldBit f) && (namedBits mask &&& ((1#8 <<< fieldBit f) - 1)) == 0

/-- What stays in the CSU's hand after a field has been taken: the frame with the fields that remain, or
nothing. -/
def remainingBayset (f : BaysetField) (x : RxFrame) : Option RxFrame :=
  let mask := takenMask f (readBayset x.body).mask
  if mask = 0 then none else some { x with body := x.body.set 5 mask }

/-- R122: a BAYSET in the CSU's hand, as far as one field goes. An unknown or suspended authoriser, a bay that
is not populated and a mask that names no field end the BAYSET. -/
def takeBayset (f : BaysetField) (s : State) : Host.Outcome State Fault Refusal :=
  match s.hand .csu with
  | none => .next s
  | some x =>
    if x.kind = .bayset then
      let body := readBayset x.body
      match authoriser s body.authoriser with
      | none => carryOut (s.setHand none .csu) (rejectAuthority 1 body.authoriser)
      | some e =>
        if h : body.bay < 8 ∧ body.bay < s.cfl.populated then
          if isNext f body.mask then
            carryOut (s.setHand (remainingBayset f x) .csu) (takeField f e body ⟨body.bay, h.1⟩)
          else if namedBits body.mask = 0 then .next (s.setHand none .csu)
          else .next s
        else .next (s.setHand none .csu)
    else .next s

/-- BAYSET_GROUP (R122, R121). -/
def execBaysetGroup (s : State) : Host.Outcome State Fault Refusal := takeBayset .group s

/-- BAYSET_OPEN_LEVEL (R122). -/
def execBaysetOpenLevel (s : State) : Host.Outcome State Fault Refusal := takeBayset .openLevel s

/-- BAYSET_RESERVED (R122, R121). -/
def execBaysetReserved (s : State) : Host.Outcome State Fault Refusal := takeBayset .reserved s

/-- BAYSET_OUT_OF_SERVICE (R122, R62). -/
def execBaysetOutOfService (s : State) : Host.Outcome State Fault Refusal := takeBayset .outOfService s

/-- BAYSET_PROV_OPT_OUT (R122). -/
def execBaysetProvOptOut (s : State) : Host.Outcome State Fault Refusal := takeBayset .optOut s

/-- BAYSET_CLEAR_FAULT (R122, R76). -/
def execBaysetClearFault (s : State) : Host.Outcome State Fault Refusal := takeBayset .clearFault s

/-- RESTART (R123, R173, R171). -/
def execRestart (pins : StartPins) (s : State) : Host.Outcome State Fault Refusal :=
  match s.hand .csu with
  | none => .next s
  | some x =>
    if x.kind = .restart then
      if isTechnician s (word32At x.body 0) then .next (stationRestart pins s)
      else carryOut (s.setHand none .csu) (rejectAuthority 2 (word32At x.body 0))
    else .next s

/-! ## Presentations -/

/-- PRESENT (R124); in LISTEN it is discarded (R139). -/
def execPresent (s : State) : Host.Outcome State Fault Refusal :=
  fromHand s .csu (isKind .present) fun f w =>
    if w.st.isActive then takePresent (readPresent f.body) w else w

/-- ANSWER_DELAY_END (R125 to R130). -/
def execAnswerDelayEnd (r : Reader) (s : State) : Host.Outcome State Fault Refusal :=
  carryOut s (answerDelayEnds r)

/-- OFFER_HEARD (R130, R131); in LISTEN it is discarded (R139). -/
def execOfferHeard (s : State) : Host.Outcome State Fault Refusal :=
  fromHand s .csu (isKind .offer) fun f w => if w.st.isActive then takeOffer f w else w

/-- DENY_HEARD (R130, R131); in LISTEN it is discarded (R139). -/
def execDenyHeard (s : State) : Host.Outcome State Fault Refusal :=
  fromHand s .csu (isKind .deny) fun f w => if w.st.isActive then takeDeny f w else w

/-- WITHDRAWAL_DEADLINE (R130). -/
def execWithdrawalDeadline (r : Reader) (s : State) : Host.Outcome State Fault Refusal :=
  carryOut s (deadlineEnds r)

/-- OBJECTION_WINDOW_END (R132). -/
def execObjectionWindowEnd (b : BayIx) (s : State) : Host.Outcome State Fault Refusal :=
  carryOut s (windowEnds b)

/-- DENY_DEADLINE (R132). -/
def execDenyDeadline (r : Reader) (sequence : Byte) (s : State) : Host.Outcome State Fault Refusal :=
  carryOut s (denyDeadlineEnds r sequence)

/-- RELEASED_HEARD (R136). -/
def execReleasedHeard (s : State) : Host.Outcome State Fault Refusal :=
  fromHand s .csu (isKind .released) fun f => loanSeen (bodyAsset f.body)

/-- RETURNED_HEARD (R136). -/
def execReturnedHeard (s : State) : Host.Outcome State Fault Refusal :=
  fromHand s .csu (isKind .returned) fun f => loanSeen (bodyAsset f.body)

end Sys2Proof.Machine
end

