-- ==== Sys2Proof/Machine/CommandsDoors.lean ====
section
/-! DEFINITION. The commands of latches and doors (chapter 6). -/

namespace Sys2Proof.Machine

/-- DOOR_OPENS (R100, R104, R107, R108, R109): the debounced door flag becomes open. -/
def execDoorOpens (b : BayIx) (s : State) : Host.Outcome State Fault Refusal :=
  if s.populated b && (s.bay b).door.closed then carryOut s (doorOpened b) else .next s

/-- DOOR_CLOSES (R100, R109): the debounced door flag becomes closed. -/
def execDoorCloses (b : BayIx) (s : State) : Host.Outcome State Fault Refusal :=
  if s.populated b && !(s.bay b).door.closed then carryOut s (doorClosed b) else .next s

/-- BOLT_THROWN (R100, R109, R110): the debounced bolt flag becomes thrown. -/
def execBoltThrown (b : BayIx) (s : State) : Host.Outcome State Fault Refusal :=
  if s.populated b && !(s.bay b).door.bolt then carryOut s (boltBecomesThrown b) else .next s

/-- BOLT_CLEARS (R100, R110): the debounced bolt flag becomes clear. -/
def execBoltClears (b : BayIx) (s : State) : Host.Outcome State Fault Refusal :=
  if s.populated b && (s.bay b).door.bolt then carryOut s (boltBecomesClear b) else .next s

/-- PULL_IN_END (R99): full drive falls to reduced. -/
def execPullInEnd (b : BayIx) (s : State) : Host.Outcome State Fault Refusal :=
  match (s.bay b).door.pullIn with
  | none => .next s
  | some t =>
    if (s.bay b).door.state = .releasing then
      .next ((s.advanceTo t).modDoor b fun d => { d with pullIn := none, latch := .reduced })
    else .next s

/-- RELEASE_WINDOW_EXPIRED (R104). -/
def execReleaseWindowExpired (b : BayIx) (s : State) : Host.Outcome State Fault Refusal :=
  match (s.bay b).door.window with
  | none => .next s
  | some t =>
    if (s.bay b).door.state = .releasing then carryOut (s.advanceTo t) (releaseUnused b) else .next s

/-- COOL_DOWN_END (R105). -/
def execCoolDownEnd (b : BayIx) (s : State) : Host.Outcome State Fault Refusal :=
  match (s.bay b).door.coolDown with
  | none => .next s
  | some t => .next ((s.advanceTo t).modDoor b fun d => { d with coolDown := none })

/-- BOLT_WAIT_CLOSING_EXPIRED (R109): EVENT LATCH_FAULT, cause 1. -/
def execBoltWaitClosingExpired (b : BayIx) (s : State) : Host.Outcome State Fault Refusal :=
  match (s.bay b).door.boltWait with
  | none => .next s
  | some t =>
    if (s.bay b).door.state = .closing then carryOut (s.advanceTo t) (enterUnsecured b 1) else .next s

/-- BOLT_WAIT_RELEASE_EXPIRED (R110): a clear bolt gives EVENT LATCH_FAULT, cause 3. -/
def execBoltWaitReleaseExpired (b : BayIx) (s : State) : Host.Outcome State Fault Refusal :=
  match (s.bay b).door.boltWait with
  | none => .next s
  | some t =>
    if (s.bay b).door.state = .secure then
      let s' := (s.advanceTo t).modDoor b fun d => { d with boltWait := none }
      if (s.bay b).door.bolt then .next s' else carryOut s' (enterUnsecured b 3)
    else .next s

/-- R102: the close hold has passed; in SECURE and UNSECURED the episode ends. -/
def closeHoldPasses (b : BayIx) (w : Work) : Work :=
  match (w.st.bay b).door.state with
  | .secure | .unsecured => endEpisode b w
  | .releasing | .opened _ | .closing => w

/-- CLOSE_HOLD_END (R102). -/
def execCloseHoldEnd (b : BayIx) (s : State) : Host.Outcome State Fault Refusal :=
  match (s.bay b).door.closeHold with
  | none => .next s
  | some t =>
    carryOut ((s.advanceTo t).modDoor b fun d => { d with closeHold := none }) (closeHoldPasses b)

/-- R111: the ajar timer of an episode expires. -/
def ajarPasses (b : BayIx) (e : Episode) (w : Work) : Work :=
  placeEvent 2 (bayByte b) 0 (attrCode e.attr) .ldc
    (w.upd fun s => s.modDoor b fun d => { d with episode := some { e with ajar := none } })

/-- AJAR_TIMER_EXPIRED (R111). -/
def execAjarTimerExpired (b : BayIx) (s : State) : Host.Outcome State Fault Refusal :=
  match (s.bay b).door.episode with
  | none => .next s
  | some e =>
    match e.ajar with
    | none => .next s
    | some t => carryOut (s.advanceTo t) (ajarPasses b e)

end Sys2Proof.Machine
end

