-- ==== Sys2Proof/Machine/CommandsLanes.lean ====
section
/-! DEFINITION. The commands of the provisioning lanes (chapter 8). -/

namespace Sys2Proof.Machine

/-- A CAMPAIGN whose operation is not the other row's (assumption 24). -/
def isCampaign (other : Byte) (f : RxFrame) : Bool :=
  f.kind == .campaign && (readCampaign f.body).operation != other

/-- CAMPAIGN_START (R142). -/
def execCampaignStart (s : State) : Host.Outcome State Fault Refusal :=
  fromHand s .pvs (isCampaign 2) fun f w =>
    if (readCampaign f.body).operation = 1 then startCampaign (readCampaign f.body) w else w

/-- CAMPAIGN_CANCEL (R143). -/
def execCampaignCancel (s : State) : Host.Outcome State Fault Refusal :=
  fromHand s .pvs (isCampaign 1) fun f w =>
    if (readCampaign f.body).operation = 2 then cancelCampaign (readCampaign f.body) w else w

/-- WAKE_WAIT_EXPIRED (R149). -/
def execWakeWaitExpired (n : LaneIx) (s : State) : Host.Outcome State Fault Refusal :=
  carryOut s (wakeWaitEnds n)

/-- LANE_TIME_LIMIT_EXPIRED (R150). -/
def execLaneTimeLimitExpired (n : LaneIx) (s : State) : Host.Outcome State Fault Refusal :=
  carryOut s (laneLimitEnds n)

end Sys2Proof.Machine
end

