-- ==== Sys2Proof/Machine/CommandsLink.lean ====
section
/-! DEFINITION. The commands of the cart link (chapter 1). -/

namespace Sys2Proof.Machine

/-- R1: the count of consecutive recessive bits of a waiting station after more bits of the line; a dominant bit
returns it to 0, and at 12 the line is idle. The bits behind the twelfth are dropped (DESIGN CHOICE, assumption 5). -/
def waitBits : Nat → List Bool → Nat
  | n, [] => n
  | n, b :: bits => if 12 ≤ n then n else waitBits (if b then n + 1 else 0) bits

/-- LINE_IDLE_DETECTED (R1): the bits of the line that a waiting station has seen; twelve recessive ones in a row make
the line idle. -/
def execLineIdleDetected (s : State) (bits : List Bool := []) : Host.Outcome State Fault Refusal :=
  if s.hearing && s.lkc.line == .waiting then
    let n := waitBits s.lkc.recessive bits
    if 12 ≤ n then .next (lineFree (s.modLkc fun l => { l with recessive := 0 }))
    else .next (s.modLkc fun l => { l with recessive := n })
  else .next s

/-- START_BIT_RECEIVED (R1): a dominant bit on an idle line is a start bit, the first bit of the frame followed. -/
def execStartBitReceived (s : State) : Host.Outcome State Fault Refusal :=
  if s.hearing && s.lkc.line == .idle then
    .next (s.modLkc fun l => { l with line := .receiving, idleBits := 0, followed := [false] })
  else .next s

/-- R5: the head of the queue goes out. -/
def beginSending (own : Addr) (l : Lkc) : Lkc :=
  { l with
    line := .sending, idleBits := 0,
    driven := ((l.queue.head?.map (frameBits own)).getD []), queue := markHead l.queue }

/-- R1: idle bit times pass that the clock has not counted. -/
def passIdle (bits : Nat) (s : State) : State :=
  if s.lkc.line = .idle then s.modLkc fun l => { l with idleBits := heldAt 11 (l.idleBits + bits) } else s

/-- TRANSMISSION_START (R5): after more idle bit times, in ACTIVE, on a line that is idle with an idle count of 11, the
head frame is sent. -/
def execTransmissionStart (s : State) (idleBits : Nat := 0) : Host.Outcome State Fault Refusal :=
  let s := passIdle idleBits s
  if s.isActive && s.idleCount == 11 && !s.lkc.queue.isEmpty then
    .next (s.modLkc (beginSending s.cfl.address))
  else .next s

/-- The frame whose transmission can end: the one in transmission while the station sends. -/
def sentFrame (s : State) : Option TxFrame :=
  if s.lkc.line = .sending then sendingFrame s.lkc.queue else none

/-- CONTENTION_LOST (R6, R17, R18): the bits read back first differ from those driven at a recessive key bit. -/
def execContentionLost (s : State) (read : List Bool := []) : Host.Outcome State Fault Refusal :=
  match sentFrame s, readBack s.lkc.driven read with
  | some f, .lost => .next (s.modLkc (loseContention f read))
  | _, _ => .next s

/-- TRANSMIT_BIT_ERROR (R6, R7, R17, R18): the bits read back first differ from those driven at another bit. -/
def execTransmitBitError (s : State) (read : List Bool := []) : Host.Outcome State Fault Refusal :=
  match sentFrame s, readBack s.lkc.driven read with
  | some f, .bitError => carryOut s (transmitError f read)
  | _, _ => .next s

/-- TRANSMISSION_COMPLETE (R8, R17, R19): the LKC's part, and then the completion notice. -/
def execTransmissionComplete (s : State) : Host.Outcome State Fault Refusal :=
  match sentFrame s with
  | none => .next s
  | some f => carryOut s fun w => completionNotice f (completeTransmission f w)

/-- RECEPTION_ABORTED (R2, R9, R10): a wrong header, a length above 32 or a form error in the bits followed so far and
those since. -/
def execReceptionAborted (bits : List Bool) (s : State) : Host.Outcome State Fault Refusal :=
  if s.lkc.line = .receiving then
    match receiveBits (s.lkc.followed ++ bits) with
    | .headerBad => .next (waitForIdle (discardReceived .hdrBad s))
    | .lengthBad corrected => .next (waitForIdle (discardReceived .lengthBad (noteCorrected corrected s)))
    | .formError corrected => .next (waitForIdle (discardReceived .bodyBad (noteCorrected corrected s)))
    | .ended _ _ _ _ => .next s
    | .incomplete => .next s
  else .next s

/-- The received frame with its corrected header fields (R13). -/
def receivedFrame (kind : FrameKind) (h : Header) (body : List Byte) : RxFrame :=
  { cls := h.cls, bid := h.bid, source := h.source.toFin, kind := kind, dest := h.dest, body := body }

/-- R10 to R13: a frame followed to the end of its end field. -/
def takeFrame (h : Header) (body : List Byte) (crcGood : Bool) (w : Work) : Work :=
  if !crcGood then w.upd (discardReceived .bodyBad)
  else
    match kindOfCode h.kind with
    | none => w.upd (discardReceived .kindUnknown)
    | some kind =>
      if !kindLengthGood kind body.length then w.upd (discardReceived .lengthBad)
      else if h.source.toFin = w.st.cfl.address then reportClash (w.upd (discardReceived .clash))
      else if addressedHere w.st.cfl.address h.dest then
        w.upd (acceptFrame (receivedFrame kind h body))
      else w

/-- FRAME_RECEIVED (R10 to R14): a frame ends its end field, with the bits followed so far and those since. -/
def execFrameReceived (bits : List Bool) (s : State) : Host.Outcome State Fault Refusal :=
  if s.lkc.line = .receiving then
    match receiveBits (s.lkc.followed ++ bits) with
    | .ended corrected h body crcGood =>
      carryOut (lineFree (noteCorrected corrected s)) (takeFrame h body crcGood)
    | .headerBad => .next s
    | .lengthBad _ => .next s
    | .formError _ => .next s
    | .incomplete => .next s
  else .next s

/-- FRAME_HANDOVER (R15). -/
def execFrameHandover (s : State) : Host.Outcome State Fault Refusal := .next (handOver s)

end Sys2Proof.Machine
end

