-- ==== Sys2Proof/Machine/Report.lean ====
section
/-! DEFINITION. The Report Unit: the payloads of the items (R161 to R165), the empty answer (R160), the parts
of an answer (R158, R159) and the clearing of counters (R166). -/

namespace Sys2Proof.Machine

/-- A value held at 65535, in two bytes. -/
def bytesHeld (n : Nat) : List Byte := bytes16 (heldAt 65535 n)

/-- A flag as a number with a weight. -/
def weighed (flag : Bool) (weight : Nat) : Nat := if flag then weight else 0

/-- R161: the conditions byte. -/
def stationConditions (s : State) : Byte :=
  BitVec.ofNat 8
    (weighed s.isActive 1 + weighed s.pmn.isolated 2 + weighed s.mismatchHeld 4 + weighed s.clashHeld 8 +
      weighed s.shu.guard 16 + weighed (s.cfl.flag == .byDefault) 32 + weighed (s.cfl.flag == .bad) 64)

/-- R161: the STATION payload. -/
def stationPayload (s : State) : List Byte :=
  stationConditions s :: bytesHeld s.shu.allowance ++ bytesHeld s.shu.settled ++ bytesHeld s.shu.floor ++
    [BitVec.ofNat 8 s.shu.nEff] ++ bytes16 s.lkc.errors.toNat ++ bytesHeld s.shu.surplus ++
    bytesHeld s.shu.excess

/-- R162: a bay's position, with its campaign slot when it is queued. -/
def positionByte (s : State) (b : BayIx) : Byte :=
  match s.laneOf b with
  | some n => BitVec.ofNat 8 (2 + n.val)
  | none =>
    match s.pvs.queue.find? fun x => x.bay == b with
    | some x => BitVec.ofNat 8 (1 + 16 * x.slot.val)
    | none => 0

/-- R162: the battery bytes: SoC, temperature, health, flags, with the absent values. -/
def batteryBytes : Option Battery → List Byte
  | none => [255, 128, 255, 0]
  | some x =>
    [BitVec.ofNat 8 x.soc, BitVec.ofInt 8 x.temperature, BitVec.ofNat 8 x.health,
      BitVec.ofNat 8 (weighed x.full 1 + weighed x.charging 2 + weighed x.fault 4)]

/-- R162: the attribute bytes. -/
def attrBytes (a : BayAttrs) : List Byte :=
  [BitVec.ofNat 8 a.group.val,
    BitVec.ofNat 8 (a.openLevel.val + weighed a.reserved 4 + weighed a.outOfService 8 + weighed a.optOut 16)]

/-- R162: the BAY payload. -/
def bayPayload (s : State) (b : BayIx) : List Byte :=
  let x := s.bay b
  [BitVec.ofNat 8 (chargeCode x.charge.state), BitVec.ofNat 8 (doorCode x.door.state),
      BitVec.ofNat 8 (channelCode x.channel.state)] ++
    batteryBytes x.view.battery ++ [((x.view.identity.map fun i => i.version).getD 255)] ++
    bytesHeld x.charge.grant ++ bytesHeld x.charge.limit ++ [BitVec.ofNat 8 x.charge.voltage] ++
    bytesHeld x.charge.wish ++ attrBytes x.attrs ++ [positionByte s b] ++
    bytes32 ((x.view.identity.map fun i => i.asset).getD 0) ++ bytesHeld x.charge.milliVolts ++
    bytesHeld x.charge.milliAmps ++
    [BitVec.ofNat 8 ((x.view.profile.map fun p => p.progress).getD 255)]

/-- R163: the counters of a bay in order. -/
def bayCounterPayload (k : BayCounters) : List Byte :=
  [k.energy, k.sessions, k.releases, k.forcedOpens, k.faults, k.failed, k.provSuccesses,
    k.provFailures].flatMap bytes32

/-- R163: the station's counters in order. -/
def stationCounterPayload (s : State) : List Byte :=
  [s.lkc.counters.sent, s.lkc.counters.good, s.lkc.counters.corrected, s.lkc.counters.discarded,
    s.lkc.counters.dropped, s.lkc.counters.stormed, s.lkc.counters.ignored, s.rpu.answered].flatMap bytes32

/-- R164: the LOAN payload. -/
def loanPayload (l : Loan) : List Byte :=
  bytes32 l.asset ++ bytes32 l.credential ++ [bayByte l.bay] ++ bytesHeld l.released ++ bytesHeld l.due ++
    [BitVec.ofNat 8 (loanStateCode l.state)]

/-- R165: the PEER payload. -/
def peerPayload (now : Nat) : Option Peer → List Byte
  | none => List.replicate 12 0
  | some p =>
    [BitVec.ofNat 8 (peerStateCode p.state + 4 * roleCode p.role + weighed p.mismatch 16)] ++
      bytesHeld p.claim ++ bytesHeld p.draw ++ bytesHeld p.allowance ++ bytes16 p.digest.toNat ++
      bytes16 p.errorWord.toNat ++ [BitVec.ofNat 8 (heldAt 255 (peerAge now p / 100))]

/-- R165: the CAMPAIGN payload. -/
def campaignPayload : Option Campaign → List Byte
  | none => List.replicate 10 0
  | some c =>
    [c.id, BitVec.ofNat 8 c.profile] ++ bytesHeld c.target ++ bytes16 c.model.toNat ++
      bytes16 c.groups.toNat ++ [BitVec.ofNat 8 c.limit, if c.urgent then 1 else 2]

/-! ## Empty answers (R160) -/

/-- R160: the empty answer NOT_POPULATED. -/
def notPopulated : List Byte := [1]

/-- R160: the empty answer NO_ENTRY. -/
def noEntry : List Byte := [2]

/-- R162, R160: the BAY answer of an index. -/
def bayAnswer (s : State) (index : Nat) : List Byte :=
  if h : index < 8 then
    if s.populated ⟨index, h⟩ then bayPayload s ⟨index, h⟩ else notPopulated
  else noEntry

/-- R163, R160: the COUNTERS answer of an index. -/
def countersAnswer (s : State) (index : Nat) : List Byte :=
  if h : index < 8 then
    if s.populated ⟨index, h⟩ then bayCounterPayload (s.bay ⟨index, h⟩).counters else notPopulated
  else if index = 8 then stationCounterPayload s
  else noEntry

/-- R164, R160: the LOAN answer of an index. -/
def loanAnswer (s : State) (index : Nat) : List Byte :=
  match s.csu.loans[index]? with
  | some l => loanPayload l
  | none => noEntry

/-- R165, R160: the PEER answer of an index; the own address is ABSENT. -/
def peerAnswer (s : State) (index : Nat) : List Byte :=
  if h : index < 16 then
    peerPayload s.now (if (⟨index, h⟩ : Addr) = s.cfl.address then none else s.pmn.peers[index])
  else noEntry

/-- R165, R160: the CAMPAIGN answer of an index. -/
def campaignAnswer (s : State) (index : Nat) : List Byte :=
  if h : index < 4 then campaignPayload s.pvs.campaigns[index] else noEntry

/-! ## Parts (R158, R159) -/

/-- R158: the payload a part carries at most. -/
def pieceSize (maximum : Nat) : Nat := clampTo 8 32 maximum - 3

/-- Cut a list into pieces; the first number bounds how many. -/
def piecesOf (size : Nat) : Nat → List Byte → List (List Byte)
  | 0, _ => []
  | _, [] => []
  | n + 1, x :: xs => (x :: xs).take size :: piecesOf size n ((x :: xs).drop size)

/-- R158: one STATUS frame. -/
def partFrame (source : Addr) (item index : Nat) (count part : Nat) (piece : List Byte) : TxFrame :=
  newFrame .status (item * 16 + part) (BitVec.ofNat 5 source.val)
    ([BitVec.ofNat 8 item, BitVec.ofNat 8 index, BitVec.ofNat 8 (part * 16 + count)] ++ piece) .rpu

/-- R158: the parts of an answer. -/
def answerParts (source : Addr) (q : QueryBody) (payload : List Byte) : List TxFrame :=
  let pieces := piecesOf (pieceSize q.maximum) payload.length payload
  pieces.mapIdx fun i p => partFrame source q.item q.index pieces.length i p

/-- R159: place the parts, part 0 first; the note says whether every part found a place. -/
def placeParts : List TxFrame → Work × Bool → Work × Bool
  | [], r => r
  | f :: fs, r => placeParts fs (place f r.1, r.2 && findsPlace f r.1.st.lkc.queue)

/-- R157: one more query answered. -/
def countAnswer (s : State) : State := { s with rpu := { s.rpu with answered := s.rpu.answered + 1 } }

/-- R157: an answer whose payload is read from the state after the count; whether every part found a
place. -/
def answerQuery (source : Addr) (q : QueryBody) (payload : State → List Byte) (w : Work) : Work × Bool :=
  let w := w.upd countAnswer
  placeParts (answerParts source q (payload w.st)) (w, true)

/-! ## Clearing (R166) -/

/-- R166: the eight counters of a set become 0. -/
def clearSet (index : Nat) (s : State) : State :=
  if h : index < 8 then s.modCounters ⟨index, h⟩ fun _ => {}
  else if index = 8 then
    { (s.modLkc fun l => { l with counters := {} }) with rpu := { s.rpu with answered := 0 } }
  else s

/-- R163, R166: whether an index names a counter set. -/
def namesSet (s : State) (index : Nat) : Bool :=
  index == 8 || (decide (index < 8) && decide (index < s.cfl.populated))

/-- R166: whether a clear is carried out. -/
def clears (s : State) (q : QueryBody) (allPlaced : Bool) : Bool :=
  q.clear && namesSet s q.index && isTechnician s q.authoriser && allPlaced

end Sys2Proof.Machine
end

