-- ==== Sys2Proof/Machine/CommandsReport.lean ====
section
/-! DEFINITION. The commands of queries (chapter 9). -/

namespace Sys2Proof.Machine

/-- A QUERY for an item, as the table's rows tell them apart. -/
def isQuery (which : QueryBody → Bool) (f : RxFrame) : Bool :=
  f.kind == .query && which (readQuery f.body)

/-- R157: a QUERY in the RPU's hand is answered with a payload. -/
def answerFrom (s : State) (which : QueryBody → Bool) (payload : QueryBody → State → List Byte) :
    Host.Outcome State Fault Refusal :=
  fromHand s .rpu (isQuery which) fun f w =>
    (answerQuery f.source (readQuery f.body) (payload (readQuery f.body)) w).1

/-- QUERY_STATION (R161). -/
def execQueryStation (s : State) : Host.Outcome State Fault Refusal :=
  answerFrom s (fun q => q.item == 0) fun _ => stationPayload

/-- QUERY_BAY (R162, R160). -/
def execQueryBay (s : State) : Host.Outcome State Fault Refusal :=
  answerFrom s (fun q => q.item == 1) fun q s => bayAnswer s q.index

/-- QUERY_COUNTERS (R163, R160): a COUNTERS query without the clear flag. -/
def execQueryCounters (s : State) : Host.Outcome State Fault Refusal :=
  answerFrom s (fun q => q.item == 2 && !q.clear) fun q s => countersAnswer s q.index

/-- R166: a COUNTERS query with the clear flag is answered, and then cleared where R166 says so. -/
def answerAndClear (f : RxFrame) (w : Work) : Work :=
  let q := readQuery f.body
  let r := answerQuery f.source q (fun s => countersAnswer s q.index) w
  if clears r.1.st q r.2 then r.1.upd (clearSet q.index) else r.1

/-- QUERY_COUNTERS_CLEAR (R163, R160, R166): a COUNTERS query with the clear flag. -/
def execQueryCountersClear (s : State) : Host.Outcome State Fault Refusal :=
  fromHand s .rpu (isQuery fun q => q.item == 2 && q.clear) answerAndClear

/-- QUERY_LOAN (R164, R160). -/
def execQueryLoan (s : State) : Host.Outcome State Fault Refusal :=
  answerFrom s (fun q => q.item == 3) fun q s => loanAnswer s q.index

/-- QUERY_PEER (R165, R160). -/
def execQueryPeer (s : State) : Host.Outcome State Fault Refusal :=
  answerFrom s (fun q => q.item == 4) fun q s => peerAnswer s q.index

/-- QUERY_CAMPAIGN (R165, R160). -/
def execQueryCampaign (s : State) : Host.Outcome State Fault Refusal :=
  answerFrom s (fun q => q.item == 5) fun q s => campaignAnswer s q.index

/-- QUERY_UNKNOWN_ITEM (R157, R160). -/
def execQueryUnknownItem (s : State) : Host.Outcome State Fault Refusal :=
  answerFrom s (fun q => decide (5 < q.item)) fun _ _ => noEntry

end Sys2Proof.Machine
end

