-- ==== Sys2Proof/Machine/CommandsSideband.lean ====
section
/-! DEFINITION. The commands of the dock sideband (chapter 5). -/

namespace Sys2Proof.Machine

/-- R89: one stretch of a bay's wire: the counts step, and what a count that reaches its limit does is done, with all
its notices, before the next stretch. -/
def watchStretch (b : BayIx) (s : State) (r : WireRun) : State :=
  (wireReached b (startWork (s.modChannel b (watchRun r)))).finish

/-- R80, R87, R89: the levels of a bay's wire since they were last counted, in order. -/
def watchWire (b : BayIx) (wire : List WireRun) (s : State) : State := wire.foldl (watchStretch b) s

/-- EXCHANGE_START (R91, R80, R82, R87), after the levels of the wire since they were last counted. -/
def execExchangeStart (b : BayIx) (s : State) (wire : List WireRun := []) :
    Host.Outcome State Fault Refusal :=
  .next ((watchWire b wire s).modChannel b startExchange)

/-- CALL_AFTER_WAKE (R87), after the levels of the wire since they were last counted. -/
def execCallAfterWake (b : BayIx) (s : State) (wire : List WireRun := []) :
    Host.Outcome State Fault Refusal :=
  .next ((watchWire b wire s).modChannel b callAfterWake)

/-- RETRY_START (R80, R86, R87), after the levels of the wire since they were last counted. -/
def execRetryStart (b : BayIx) (s : State) (wire : List WireRun := []) :
    Host.Outcome State Fault Refusal :=
  .next ((watchWire b wire s).modChannel b startRetry)

/-- READ_RESPONSE_RECEIVED (R79, R83, R94, R96): the falling edges seen in the window. -/
def execReadResponseReceived (b : BayIx) (answer : List SampledByte) (s : State) :
    Host.Outcome State Fault Refusal :=
  match receivedBytes answer with
  | none => .next s
  | some bytes => carryOut s (readResponse b bytes)

/-- RESPONSE_WINDOW_EXPIRED (R79, R83, R85, R86): the falling edges seen in the window. -/
def execResponseWindowExpired (b : BayIx) (answer : List SampledByte) (s : State) :
    Host.Outcome State Fault Refusal :=
  match receivedBytes answer with
  | none => .next s
  | some bytes => carryOut s (readWindowCloses b bytes.length)

/-- WRITE_ACK_RECEIVED (R79, R84, R92): the falling edges seen in the window, up to the first byte. -/
def execWriteAckReceived (b : BayIx) (answer : List SampledByte) (s : State) :
    Host.Outcome State Fault Refusal :=
  match receivedBytes answer with
  | some [byte] => carryOut s (writeAnswer b byte)
  | _ => .next s

/-- ACK_WINDOW_EXPIRED (R84, R85, R86). -/
def execAckWindowExpired (b : BayIx) (s : State) : Host.Outcome State Fault Refusal :=
  carryOut s (writeWindowCloses b)

/-- FRAMING_ERROR (R79): the ten sampled bits have a low start bit and a low stop bit. -/
def execFramingError (b : BayIx) (samples : SampledByte) (s : State) : Host.Outcome State Fault Refusal :=
  if readWireByte samples = .framing then carryOut s (framingEnds b) else .next s

/-- SIDEBAND_BIT_ERROR (R80, R87): a bit time of what is sent, with its samples. -/
def execSidebandBitError (b : BayIx) (bit : Nat) (sample : BitSamples) (s : State) :
    Host.Outcome State Fault Refusal :=
  carryOut s (bitErrorEnds b bit sample)

/-- The poll timer of a polled register (R93). -/
def pollTimer (r : PollRegister) (c : Channel) : Option Nat :=
  match r with
  | .battery => c.batteryTimer
  | .chargeRequest => c.requestTimer
  | .profile => c.profileTimer

/-- R93: a poll timer stops and its read becomes due. -/
def pollDue (r : PollRegister) (c : Channel) : Channel :=
  match r with
  | .battery => { c with batteryTimer := none, dueBattery := true }
  | .chargeRequest => { c with requestTimer := none, dueRequest := true }
  | .profile => { c with profileTimer := none, dueProfile := true }

/-- POLL_TIMER_EXPIRED (R93). -/
def execPollTimerExpired (b : BayIx) (r : PollRegister) (s : State) : Host.Outcome State Fault Refusal :=
  match pollTimer r (s.bay b).channel with
  | none => .next s
  | some t =>
    if (s.bay b).channel.state = .active then .next ((s.advanceTo t).modChannel b (pollDue r)) else .next s

/-- IDENT_POLL_TIMER_EXPIRED (R88). -/
def execIdentPollTimerExpired (b : BayIx) (s : State) : Host.Outcome State Fault Refusal :=
  match (s.bay b).channel.identTimer with
  | none => .next s
  | some t =>
    if (s.bay b).channel.state = .silent then
      .next ((s.advanceTo t).modChannel b fun c => { c with identTimer := none, dueIdent := true })
    else .next s

/-- WIRE_STUCK (R89): the levels of the wire; the stretch in which the low-run count reaches 480 makes the channel
STUCK. -/
def execWireStuck (b : BayIx) (s : State) (wire : List WireRun := []) :
    Host.Outcome State Fault Refusal :=
  .next (watchWire b wire s)

/-- WIRE_RECOVERED (R89, R88): the levels of the wire; the stretch in which the high-run count reaches 1920 ends
STUCK. -/
def execWireRecovered (b : BayIx) (s : State) (wire : List WireRun := []) :
    Host.Outcome State Fault Refusal :=
  .next (watchWire b wire s)

end Sys2Proof.Machine
end

