-- ==== Sys2Proof/Machine/CommandsStart.lean ====
section
/-! DEFINITION. The commands of start-up and station restart (chapter 10). RESTART stands with the commands
of the CSU, which authorises it. -/

namespace Sys2Proof.Machine

/-- POWER_ON (R167, R172). -/
def execPowerOn (restartLow : Bool) (pins : StartPins) (s : State) : Host.Outcome State Fault Refusal :=
  .next (poweredOn restartLow pins s)

/-- RESTART_LINE_HELD (R171, R172): a station restart in START as in LISTEN and ACTIVE (assumption 11), and the station
stays in START. -/
def execRestartLineHeld (s : State) : Host.Outcome State Fault Refusal :=
  if s.cfl.restartHeld then .next s
  else .next (restartValues (s.modCfl fun c => { c with restartHeld := true }))

/-- RESTART_LINE_RELEASED (R172): in START the straps and the record are read afresh. -/
def execRestartLineReleased (pins : StartPins) (s : State) : Host.Outcome State Fault Refusal :=
  if s.cfl.restartHeld then
    let s' := s.modCfl fun c => { c with restartHeld := false }
    if s.hearing then .next s' else .next (readStraps pins s')
  else .next s

/-- CONFIG_READ_END (R169, R170): the read in progress ends with its bytes, or without an answer. -/
def execConfigReadEnd (record : Option (List Byte)) (s : State) : Host.Outcome State Fault Refusal :=
  match s.cfl.configRead with
  | none => .next s
  | some _ => .next (endConfigRead record s)

/-- CONFIG_READ_TIMEOUT (R169): the 50 ms pass before the 64th byte. -/
def execConfigReadTimeout (s : State) : Host.Outcome State Fault Refusal :=
  match s.cfl.configRead with
  | none => .next s
  | some r => .next (endConfigRead none (s.advanceTo r.limit))

/-- LISTEN_TIMER_EXPIRED (R167): the entry to ACTIVE (R54, R77). -/
def execListenTimerExpired (s : State) : Host.Outcome State Fault Refusal :=
  match s.cfl.listenTimer with
  | none => .next s
  | some t =>
    if s.cfl.phase = .listen then carryOut (s.advanceTo t) enterActive else .next s

end Sys2Proof.Machine
end

