-- ==== Sys2Proof/Machine/Dispatch.lean ====
section
/-! DEFINITION. The effect of each command on everything but the queue: one arm for each row. -/

namespace Sys2Proof.Machine

def exec (i : Instr) (s : State) : Host.Outcome State Fault Refusal :=
  match i with
  | .powerOn restartLow pins => Sys2Proof.Machine.execPowerOn restartLow pins s
  | .restartLineHeld => Sys2Proof.Machine.execRestartLineHeld s
  | .restartLineReleased pins => Sys2Proof.Machine.execRestartLineReleased pins s
  | .configReadEnd record => Sys2Proof.Machine.execConfigReadEnd record s
  | .configReadTimeout => Sys2Proof.Machine.execConfigReadTimeout s
  | .listenTimerExpired => Sys2Proof.Machine.execListenTimerExpired s
  | .lineIdleDetected bits => Sys2Proof.Machine.execLineIdleDetected s bits
  | .transmissionStart idleBits => Sys2Proof.Machine.execTransmissionStart s idleBits
  | .contentionLost read => Sys2Proof.Machine.execContentionLost s read
  | .transmitBitError read => Sys2Proof.Machine.execTransmitBitError s read
  | .transmissionComplete => Sys2Proof.Machine.execTransmissionComplete s
  | .receptionAborted bits => Sys2Proof.Machine.execReceptionAborted bits s
  | .frameReceived bits => Sys2Proof.Machine.execFrameReceived bits s
  | .frameHandover => Sys2Proof.Machine.execFrameHandover s
  | .heartbeatTimerExpired => Sys2Proof.Machine.execHeartbeatTimerExpired s
  | .isolationTimerExpired => Sys2Proof.Machine.execIsolationTimerExpired s
  | .heartbeat => Sys2Proof.Machine.execHeartbeat s
  | .peerQuiet peer => Sys2Proof.Machine.execPeerQuiet peer s
  | .peerLost peer => Sys2Proof.Machine.execPeerLost peer s
  | .clashHoldExpired => Sys2Proof.Machine.execClashHoldExpired s
  | .guardLiftTimerExpired => Sys2Proof.Machine.execGuardLiftTimerExpired s
  | .measurement ports => Sys2Proof.Machine.execMeasurement ports s
  | .presenceGain bay => Sys2Proof.Machine.execPresenceGain bay s
  | .presenceLoss bay => Sys2Proof.Machine.execPresenceLoss bay s
  | .identificationTimerExpired bay => Sys2Proof.Machine.execIdentificationTimerExpired bay s
  | .unmanagedReadTimerExpired bay => Sys2Proof.Machine.execUnmanagedReadTimerExpired bay s
  | .shortTrip bay => Sys2Proof.Machine.execShortTrip bay s
  | .exchangeStart bay wire => Sys2Proof.Machine.execExchangeStart bay s wire
  | .callAfterWake bay wire => Sys2Proof.Machine.execCallAfterWake bay s wire
  | .retryStart bay wire => Sys2Proof.Machine.execRetryStart bay s wire
  | .readResponseReceived bay answer => Sys2Proof.Machine.execReadResponseReceived bay answer s
  | .responseWindowExpired bay answer => Sys2Proof.Machine.execResponseWindowExpired bay answer s
  | .writeAckReceived bay answer => Sys2Proof.Machine.execWriteAckReceived bay answer s
  | .ackWindowExpired bay => Sys2Proof.Machine.execAckWindowExpired bay s
  | .framingError bay samples => Sys2Proof.Machine.execFramingError bay samples s
  | .sidebandBitError bay bit sample => Sys2Proof.Machine.execSidebandBitError bay bit sample s
  | .pollTimerExpired bay register => Sys2Proof.Machine.execPollTimerExpired bay register s
  | .identPollTimerExpired bay => Sys2Proof.Machine.execIdentPollTimerExpired bay s
  | .wireStuck bay wire => Sys2Proof.Machine.execWireStuck bay s wire
  | .wireRecovered bay wire => Sys2Proof.Machine.execWireRecovered bay s wire
  | .doorOpens bay => Sys2Proof.Machine.execDoorOpens bay s
  | .doorCloses bay => Sys2Proof.Machine.execDoorCloses bay s
  | .boltThrown bay => Sys2Proof.Machine.execBoltThrown bay s
  | .boltClears bay => Sys2Proof.Machine.execBoltClears bay s
  | .pullInEnd bay => Sys2Proof.Machine.execPullInEnd bay s
  | .releaseWindowExpired bay => Sys2Proof.Machine.execReleaseWindowExpired bay s
  | .coolDownEnd bay => Sys2Proof.Machine.execCoolDownEnd bay s
  | .boltWaitClosingExpired bay => Sys2Proof.Machine.execBoltWaitClosingExpired bay s
  | .boltWaitReleaseExpired bay => Sys2Proof.Machine.execBoltWaitReleaseExpired bay s
  | .closeHoldEnd bay => Sys2Proof.Machine.execCloseHoldEnd bay s
  | .ajarTimerExpired bay => Sys2Proof.Machine.execAjarTimerExpired bay s
  | .minuteTick => Sys2Proof.Machine.execMinuteTick s
  | .enroll => Sys2Proof.Machine.execEnroll s
  | .revoke => Sys2Proof.Machine.execRevoke s
  | .baysetGroup => Sys2Proof.Machine.execBaysetGroup s
  | .baysetOpenLevel => Sys2Proof.Machine.execBaysetOpenLevel s
  | .baysetReserved => Sys2Proof.Machine.execBaysetReserved s
  | .baysetOutOfService => Sys2Proof.Machine.execBaysetOutOfService s
  | .baysetProvOptOut => Sys2Proof.Machine.execBaysetProvOptOut s
  | .baysetClearFault => Sys2Proof.Machine.execBaysetClearFault s
  | .restart pins => Sys2Proof.Machine.execRestart pins s
  | .present => Sys2Proof.Machine.execPresent s
  | .answerDelayEnd reader => Sys2Proof.Machine.execAnswerDelayEnd reader s
  | .offerHeard => Sys2Proof.Machine.execOfferHeard s
  | .denyHeard => Sys2Proof.Machine.execDenyHeard s
  | .withdrawalDeadline reader => Sys2Proof.Machine.execWithdrawalDeadline reader s
  | .objectionWindowEnd bay => Sys2Proof.Machine.execObjectionWindowEnd bay s
  | .denyDeadline reader sequence => Sys2Proof.Machine.execDenyDeadline reader sequence s
  | .releasedHeard => Sys2Proof.Machine.execReleasedHeard s
  | .returnedHeard => Sys2Proof.Machine.execReturnedHeard s
  | .campaignStart => Sys2Proof.Machine.execCampaignStart s
  | .campaignCancel => Sys2Proof.Machine.execCampaignCancel s
  | .wakeWaitExpired lane => Sys2Proof.Machine.execWakeWaitExpired lane s
  | .laneTimeLimitExpired lane => Sys2Proof.Machine.execLaneTimeLimitExpired lane s
  | .queryStation => Sys2Proof.Machine.execQueryStation s
  | .queryBay => Sys2Proof.Machine.execQueryBay s
  | .queryCounters => Sys2Proof.Machine.execQueryCounters s
  | .queryCountersClear => Sys2Proof.Machine.execQueryCountersClear s
  | .queryLoan => Sys2Proof.Machine.execQueryLoan s
  | .queryPeer => Sys2Proof.Machine.execQueryPeer s
  | .queryCampaign => Sys2Proof.Machine.execQueryCampaign s
  | .queryUnknownItem => Sys2Proof.Machine.execQueryUnknownItem s
  | .startBitReceived => Sys2Proof.Machine.execStartBitReceived s
  | .shortHoldStart bay milliVolts => Sys2Proof.Machine.execShortHoldStart bay milliVolts s
  | .shortHoldAbandoned bay milliVolts => Sys2Proof.Machine.execShortHoldAbandoned bay milliVolts s

end Sys2Proof.Machine
end

