-- ==== Sys2Proof/Safety.lean ====
section
/-! DEFINITION. What the statements speak of: the laws of the device as predicates on a state, and the steady
part of a state, the part that no notice between blocks changes. -/

namespace Sys2Proof.Machine

/-! ## The laws of the device -/

/-- R1, R3, R5, R16, R17, R21, R169: the transmit queue and the line. -/
structure LinkLaw (s : State) : Prop where
  /-- R16: at most 8 frames -/
  capacity : s.lkc.queue.length ≤ txCapacity
  /-- R16: in ascending key order -/
  ordered : s.lkc.queue.Pairwise fun f g => f.rank ≤ g.rank
  /-- R3: the bid of a key has 12 bits -/
  bids : ∀ f ∈ s.lkc.queue, f.bid < 4096
  /-- R5: at most one frame is in transmission -/
  oneSending : (s.lkc.queue.filter fun f => f.inTransmission).length ≤ 1
  /-- R5: it is so only while the station sends -/
  sendingLine : ∀ f ∈ s.lkc.queue, f.inTransmission = true → s.lkc.line = .sending
  /-- R17: the queue holds at most one HEARTBEAT -/
  oneHeartbeat : (s.lkc.queue.filter fun f => f.kind == .heartbeat).length ≤ 1
  /-- R21: in START the LKC neither receives nor sends -/
  startLine : s.cfl.phase = .start → s.lkc.line = .waiting
  /-- R169: the configuration record is read in START alone -/
  readInStart : s.cfl.configRead.isSome = true → s.cfl.phase = .start

/-- R13, R14: the receive queue holds up to 6 frames, and an open storm window a count of 1 to 4. -/
structure ReceiveLaw (s : State) : Prop where
  capacity : s.lkc.received.length ≤ rxCapacity
  windows : ∀ (r : Reader) (win : StormWindow), s.lkc.storm[r] = some win → 1 ≤ win.count ∧ win.count ≤ 4

/-- R27, R32, R34: the peer table. -/
structure PeerLaw (s : State) : Prop where
  /-- R27: the entry of the own address stays ABSENT -/
  ownAbsent : s.peer s.cfl.address = none
  /-- R32: the mismatch flag is set only while the entry is a LIVE shelf -/
  mismatched : ∀ (a : Addr) (p : Peer), s.peer a = some p → p.mismatch = true →
    p.state = .live ∧ p.role = .shelf
  /-- R34: in START all entries are ABSENT -/
  startAbsent : s.cfl.phase = .start → ∀ a : Addr, s.peer a = none
  /-- R21, R34: in START no frame is received and none waits -/
  startQuiet : s.cfl.phase = .start →
    s.lkc.line = .waiting ∧ s.lkc.received = [] ∧ s.hands.pmn = none

/-- R46: the allowance is 0 in START and LISTEN, never exceeds the settled claim nor A, and in ACTIVE is
never below the lesser of the settled claim and the floor share. -/
structure AllowanceLaw (s : State) : Prop where
  readInStart : s.cfl.configRead.isSome = true → s.cfl.phase = .start
  zeroBefore : s.cfl.phase ≠ .active → s.shu.allowance = 0
  belowSettled : s.shu.allowance ≤ s.shu.settled
  belowAvailable : s.shu.allowance ≤ s.shu.available
  aboveFloor : s.cfl.phase = .active → min s.shu.settled s.shu.floor ≤ s.shu.allowance

/-- R63, R64, R66, R68, R76: what holds of one bay's charge section. -/
structure BayChargeLaw (x : Bay) : Prop where
  /-- R63: the five port voltages -/
  voltage : x.charge.voltage ∈ [5, 9, 12, 15, 20]
  /-- R63: the voltage of a VACANT bay -/
  vacant : x.charge.state = .vacant → x.charge.voltage = 5
  /-- R66, R64: a bay that takes no part in the split has grant 0 and wish 0 -/
  resting : takesPart x.charge.state = false → x.charge.grant = 0 ∧ x.charge.wish = 0
  /-- R68: the port limit is formed from grant and voltage -/
  limit : x.charge.limit = portLimit x.charge.grant x.charge.voltage
  /-- R68: a nonzero grant is at least V dW -/
  grantFloor : x.charge.grant = 0 ∨ x.charge.voltage ≤ x.charge.grant
  /-- R64: a nonzero wish is at least V dW -/
  wishFloor : x.charge.wish = 0 ∨ x.charge.voltage ≤ x.charge.wish
  /-- R65: the classes are 0 to 3 -/
  cls : x.charge.cls ≤ 3
  /-- R57, R62, R76: a bay with no tablet is VACANT or OUT_OF_SERVICE -/
  stocked : x.present = true ∨ x.charge.state = .vacant ∨ x.charge.state = .outOfService

/-- The grants of the station's bays together. -/
def State.grantSum (s : State) : Nat := (allBays.map fun b => (s.bay b).charge.grant).sum

/-- R56, R69, R170: the charge sections together: the sum of the grants never exceeds the applied
allowance. -/
structure ChargeLaw (s : State) : Prop where
  bays : ∀ b : BayIx, BayChargeLaw (s.bay b)
  applied : s.grantSum ≤ s.bcc.applied
  /-- R56: a bay at or above the populated count has no grant -/
  unpopulated : ∀ b : BayIx, s.populated b = false → (s.bay b).charge.grant = 0
  /-- R170: P_min and P_unmanaged are at least 20 dW -/
  minimum : 20 ≤ s.cfl.config.bayMin ∧ 20 ≤ s.cfl.config.unmanaged

/-- R99, R100, R102, R103: what holds of one door section. -/
structure BayDoorLaw (d : Door) : Prop where
  /-- R99: a latch is energised only while the door machine is RELEASING -/
  latch : d.latch ≠ .off → d.state = .releasing
  /-- R103: a release waits for a lane only at a SECURE door, with its record and outside an episode -/
  pendingLane : d.pendingLane = true → d.state = .secure ∧ d.release.isSome = true ∧ d.episode = none
  /-- section 6.3: the door machine is in OPEN exactly while the door flag is open -/
  openFlag : (∃ a, d.state = .opened a) ↔ d.closed = false
  /-- R102: an episode lasts in OPEN and in CLOSING -/
  episode : (∃ a, d.state = .opened a) ∨ d.state = .closing → d.episode.isSome = true

/-- The door law of every bay. -/
def DoorLaw (s : State) : Prop := ∀ b : BayIx, BayDoorLaw (s.bay b).door

/-- R117: the credential table never holds two entries with the same number, nor more than 256 entries; it is
in ascending order of number. -/
structure CredentialLaw (s : State) : Prop where
  capacity : s.csu.credentials.length ≤ credentialCapacity
  ordered : s.csu.credentials.Pairwise fun x y => x.number.toNat < y.number.toNat

/-- R133: the loan list never holds two entries with the same asset tag, nor more than 32 entries; it is in
ascending order of due minute. -/
structure LoanLaw (s : State) : Prop where
  capacity : s.csu.loans.length ≤ loanCapacity
  assets : s.csu.loans.Pairwise fun x y => x.asset ≠ y.asset
  ordered : s.csu.loans.Pairwise fun x y => x.due ≤ y.due

/-- R140, R146, R151: the provisioning queue, the lane machines and the switches. -/
structure LaneLaw (s : State) : Prop where
  /-- R146: the queue holds each bay at most once -/
  once : s.pvs.queue.Pairwise fun x y => x.bay ≠ y.bay
  /-- R146: no bay is at the same time in the queue and on a lane -/
  notBoth : ∀ x ∈ s.pvs.queue, ∀ (n : LaneIx) (y : LaneSession), s.lane n = some y → y.bay ≠ x.bay
  /-- R140: the two lane machines serve different bays -/
  apart : ∀ x y : LaneSession, s.lane 0 = some x → s.lane 1 = some y → x.bay ≠ y.bay
  /-- R140: a switch is closed only while the door machine is SECURE and its lane machine is CONNECTED -/
  switch : ∀ (b : BayIx) (n : LaneIx), (s.bay b).prov.switch = some n →
    (s.bay b).door.state = .secure ∧ ∃ x, s.lane n = some x ∧ x.bay = b ∧ x.stage = .connected
  /-- R103: a release waits for a lane only at a SECURE door -/
  pendingLane : ∀ b : BayIx, (s.bay b).door.pendingLane = true → (s.bay b).door.state = .secure
  /-- R151: a bay with a pending claim or a release in progress has no lane machine in WAKING or CONNECTED -/
  free : ∀ (n : LaneIx) (x : LaneSession), s.lane n = some x → laneWorks x.stage = true →
    (s.bay x.bay).claim = none ∧ (s.bay x.bay).door.release = none

/-! ## A station restart -/

/-- R115: the door section that the first sample gives: SECURE for a closed door with its bolt thrown, UNSECURED for one
whose bolt is clear, OPEN(UNSECURED) for an open door, which begins an episode with no asset and the ajar timer. The latch
is off, and there is no release record and no timer. -/
def Door.found (ajarEnd : Nat) (closed bolt : Bool) : Door :=
  match closed, bolt with
  | true, true => { closed := true, bolt := true, state := .secure }
  | true, false => { closed := true, bolt := false, state := .unsecured }
  | false, _ =>
    { closed := false, bolt := bolt, state := .opened .unsecured,
      episode := some { attr := .unsecured, asset := none, ajar := some ajarEnd } }

/-- R22, R35, R55, R78, R98, R115, R139, R156, R163, R171: what a bay record is after a station restart: attributes
and counters are kept, the rest is at its restart value. The door is as its first sample finds it, or as before that
sample. -/
structure BayRestartedFrom (ajarEnd : Nat) (x y : Bay) : Prop where
  attrs : y.attrs = x.attrs
  counters : y.counters = x.counters
  present : y.present = false
  view : y.view = {}
  channel : y.channel = {}
  claim : y.claim = none
  prov : y.prov = {}
  door : y.door = {} ∨ ∃ closed bolt : Bool, y.door = Door.found ajarEnd closed bolt

/-- R171: the state a station restart leaves: the phase is START, the credential table, the loan list, the minute
counter, the bay attributes and all counters are kept, and every block is at its restart values. A bay with the
out-of-service attribute is OUT_OF_SERVICE, every other VACANT (R78); a bay the straps rule out keeps no state. -/
structure RestartedFrom (s t : State) : Prop where
  phase : t.cfl.phase = .start
  listenTimer : t.cfl.listenTimer = none
  lkc : t.lkc = { counters := s.lkc.counters }
  hands : t.hands = {}
  pmn : t.pmn = {}
  shu : t.shu = { available := s.shu.available }
  applied : t.bcc.applied = 0
  seconds : t.bcc.since = s.now
  csu : t.csu = { s.csu with slots := Vector.replicate 4 none }
  pvs : t.pvs = {}
  rpu : t.rpu = s.rpu
  bays : ∀ b : BayIx, BayRestartedFrom (s.now + s.cfl.config.ajarTime * 1000) (s.bay b) (t.bay b)
  charge : ∀ b : BayIx, t.cfl.populated = 0 ∨ b.val < t.cfl.populated →
    (t.bay b).charge = { state := if (s.bay b).attrs.outOfService then .outOfService else .vacant }
  now : t.now = s.now
  pending : t.pending = s.pending

/-! ## The steady part of a state -/

/-- A charge section without what notices write: the measured values, the fault history and the energy
remainder stay. -/
def Charge.steady (c : Charge) : Charge :=
  { milliVolts := c.milliVolts, milliAmps := c.milliAmps, power := c.power, lastFault := c.lastFault,
    faultKind := c.faultKind, remainder := c.remainder }

/-- A channel without what notices write: the exchange, its counter, three poll timers and the counts of the wire
stay. -/
def Channel.steady (c : Channel) : Channel :=
  { exchange := c.exchange, counter := c.counter, identTimer := c.identTimer,
    batteryTimer := c.batteryTimer, requestTimer := c.requestTimer, highRun := c.highRun,
    lowRun := c.lowRun, wakeIdle := c.wakeIdle }

/-- A door section without what notices write: the two flags, the cool-down, the close hold and the episode
stay. -/
def Door.steady (d : Door) : Door :=
  { closed := d.closed, bolt := d.bolt, coolDown := d.coolDown, closeHold := d.closeHold,
    episode := d.episode }

/-- The counters of a bay that no notice increases. -/
def BayCounters.steady (k : BayCounters) : BayCounters :=
  { energy := k.energy, forcedOpens := k.forcedOpens, faults := k.faults, failed := k.failed }

/-- A bay record without what notices write: presence, view and attributes stay. -/
def Bay.steady (x : Bay) : Bay :=
  { present := x.present, view := x.view, channel := x.channel.steady, charge := x.charge.steady,
    door := x.door.steady, attrs := x.attrs, counters := x.counters.steady }

/-- The LKC without its queue, its flags and the count of dropped frames. -/
def Lkc.steady (l : Lkc) : Lkc :=
  { l with queue := [], errors := 0, renewal := 0, counters := { l.counters with dropped := 0 } }

/-- The SHU without what a recomputation or a presented need writes. -/
def Shu.steady (u : Shu) : Shu :=
  { heartbeatTimer := u.heartbeatTimer, history := u.history, available := u.available, draw := u.draw }

/-- A presentation slot without its own answer. -/
def PresentationSlot.steady (x : PresentationSlot) : PresentationSlot := { x with own := .none }

/-- The state without what notices write. What stays: the waiting commands, the time, the CFL, the LKC's line,
receive queue, storm windows and other counters, the hands, the PMN, the RPU, the heartbeat timer, the claim
history, A and the measured draw, the credentials, the minute counter, the slots but for their own answers, the
campaigns, and of each bay what `Bay.steady` keeps. -/
def State.steady (s : State) : State :=
  { s with
    freeCount := 0, lkc := s.lkc.steady, shu := s.shu.steady, bcc := { s.bcc with applied := 0 },
    bays := s.bays.map Bay.steady,
    csu := { s.csu with loans := [], slots := s.csu.slots.map (Option.map PresentationSlot.steady) },
    pvs := { campaigns := s.pvs.campaigns } }

/-- The steady part of every bay but `b`, and of all that is no bay record, is in `t` as it is in `s`. -/
def SteadyBut (b : BayIx) (s t : State) : Prop :=
  { t with bays := s.bays }.steady = s.steady ∧ ∀ c : BayIx, c ≠ b → (t.bay c).steady = (s.bay c).steady

/-- No lane machine serves a bay and no slot holds a campaign: no re-evaluation then places a bay on a lane, and no
lane ends a session. -/
def lanesQuiet (s : State) : Prop :=
  (∀ n : LaneIx, s.lane n = none) ∧ ∀ k : SlotIx, s.campaign k = none

/-- No campaign is held, and each lane machine is IDLE or RELEASING: a door that moves adds nothing to what the lanes
do. -/
def lanesEnding (s : State) : Prop :=
  (∀ (n : LaneIx) (x : LaneSession), s.lane n = some x → ∃ o, x.stage = .releasing o) ∧
    ∀ k : SlotIx, s.campaign k = none

/-! ## The error accumulation word -/

/-- R19: events set their flags in the error word, and the renewal marks of those in the carried copy. -/
def Lkc.flagged (mask : Word16) (l : Lkc) : Lkc :=
  { l with errors := l.errors ||| mask, renewal := l.renewal ||| (l.carried &&& mask) }

end Sys2Proof.Machine
end

