-- ==== Sys2Proof/Certificates/Slice0/Obligations.lean ====
section
/-! DEFINITION. The statements for the provers. -/

open Sys2Proof Sys2Proof.Machine

/-! ## The queue of commands and the reset -/

/-- A step takes the command at the front of the queue and runs it on the state with the queue's rest. -/
def Obligations.StepRunsTheFrontCommand : Prop :=
  ∀ (c : Instr) (rest : List Instr) (s : State), s.pending = c :: rest →
    step s = exec c { s with pending := rest }

/-- On an empty queue 1 ms passes and nothing else happens: no timer acts, and the idle count of the line is read from
the clock. This is the model's choice (entry 4). -/
def Obligations.EmptyQueueLetsTimePass : Prop :=
  ∀ s : State, s.pending = [] → step s = .next { s with now := s.now + 1 }

/-- The state after reset meets every law of the device that the later statements say each step keeps. -/
def Obligations.ResetMeetsTheLaws : Prop :=
  LinkLaw State.reset ∧ ReceiveLaw State.reset ∧ PeerLaw State.reset ∧ AllowanceLaw State.reset ∧
    ChargeLaw State.reset ∧ DoorLaw State.reset ∧ CredentialLaw State.reset ∧ LoanLaw State.reset ∧
    LaneLaw State.reset

/-! ## Start-up and station restart -/

/-- POWER_ON: every block takes its power-on values; with the restart line released the straps are read and the
configuration read starts, and the door of each populated bay is as its first sample finds it; with the line held none
of this happens. (The model's choices in it: A, K, U and X at 0, the configuration at its defaults and the doors closed
before they are formed, entry 6; the queue of commands that stays, entry 28; the levels of the pins, entry 1.) -/
def Obligations.PowerOnStartsAfresh : Prop :=
  ∀ (low : Bool) (pins : StartPins) (s : State),
    ∃ t, exec (.powerOn low pins) s = .next t ∧
      t.cfl.phase = .start ∧ t.cfl.restartHeld = low ∧ t.cfl.listenTimer = none ∧
      t.lkc = {} ∧ t.hands = {} ∧ t.pmn = {} ∧ t.shu = {} ∧ t.csu = {} ∧ t.pvs = {} ∧ t.rpu = {} ∧
      t.bcc.applied = 0 ∧ t.bcc.since = t.now ∧ t.cfl.config = defaultConfig ∧ t.pending = s.pending ∧
      (∀ b : BayIx, (t.bay b).attrs = {} ∧ (t.bay b).counters = {} ∧ (t.bay b).present = false ∧
        (t.bay b).view = {} ∧ (t.bay b).channel = {} ∧ (t.bay b).charge = {} ∧ (t.bay b).claim = none ∧
        (t.bay b).prov = {}) ∧
      (low = true → t.cfl.configRead = none ∧ ∀ b : BayIx, (t.bay b).door = {}) ∧
      (low = false →
        t.cfl.address = pins.address.toFin ∧ t.cfl.populated = pins.count.toNat + 1 ∧
        t.cfl.configRead = some { device := 0x50, pointer := 0x00, length := 64, limit := t.now + 50 } ∧
        ∀ b : BayIx,
          (b.val < pins.count.toNat + 1 → (t.bay b).door =
            Door.found (t.now + defaultConfig.ajarTime * 1000) (pins.doors.getLsbD b.val) (pins.bolts.getLsbD b.val)) ∧
          (pins.count.toNat + 1 ≤ b.val → (t.bay b).door = {}))

/-- RESTART_LINE_HELD is a station restart in every phase, and the station stays in START: no read is in progress, no
bay is populated or sampled, and nothing is measured. RESTART_LINE_RELEASED in START: the straps are read, the
configuration read starts, and each populated bay begins at its restart values with the door of its first sample; in
another phase the line alone changes. A line that is held already, or released already, changes nothing. (Straps: entry
1; a line held in START: entry 11; A, K, U and X until they are formed anew and T_ajar: entry 6; the first measurement:
entry 37; an event that cannot occur: entry 3.) -/
def Obligations.RestartLineHoldsTheStation : Prop :=
  ∀ s : State,
    (s.cfl.restartHeld = false →
      ∃ t, exec .restartLineHeld s = .next t ∧ RestartedFrom s t ∧
        t.cfl.restartHeld = true ∧ t.cfl.configRead = none ∧ t.cfl.populated = 0 ∧ t.bcc.measureTimer = none ∧
        ∀ b : BayIx, (t.bay b).door = {}) ∧
    (s.cfl.restartHeld = true → exec .restartLineHeld s = .next s) ∧
    ∀ pins : StartPins,
      (s.cfl.restartHeld = false → exec (.restartLineReleased pins) s = .next s) ∧
      (s.cfl.restartHeld = true → s.cfl.phase ≠ .start →
        exec (.restartLineReleased pins) s = .next { s with cfl := { s.cfl with restartHeld := false } }) ∧
      (s.cfl.restartHeld = true → s.cfl.phase = .start →
        ∃ t, exec (.restartLineReleased pins) s = .next t ∧
          t = { s with
            cfl := { s.cfl with
              restartHeld := false, address := pins.address.toFin, populated := pins.count.toNat + 1,
              configRead := some { device := 0x50, pointer := 0x00, length := 64, limit := s.now + 50 } },
            bcc := { s.bcc with measureTimer := some (s.now + 100) }, bays := t.bays } ∧
          ∀ b : BayIx,
            let x := s.bay b
            (b.val < pins.count.toNat + 1 → t.bay b =
              { attrs := x.attrs, counters := x.counters,
                charge := { state := if x.attrs.outOfService then .outOfService else .vacant },
                door := Door.found (s.now + s.cfl.config.ajarTime * 1000)
                  (pins.doors.getLsbD b.val) (pins.bolts.getLsbD b.val) }) ∧
            (pins.count.toNat + 1 ≤ b.val → t.bay b = { attrs := x.attrs, counters := x.counters }))

/-- CONFIG_READ_END: the three endings of R169 give configuration and flag; digest and A follow from them, and LISTEN
begins with its 2000 ms timer unless the restart line is held. CONFIG_READ_TIMEOUT is the ending with no answer, at the
limit of the read. Nothing else changes. R169, R174, R175: a record is good when all 64 bytes are read, the marker is
0x5C3E and bytes 62 and 63 are the CRC of the others. R170: each value of a good record is held within its range, R
after B within floor(B / 2), T_hot as a signed byte; a W code that names no ratio gives 4; the class map is taken bit by
bit. The defaults are those of chapter 11. (Time: entry 4.) -/
def Obligations.ConfigReadLoadsTheConfiguration : Prop :=
  (∀ bits : List Bool, crc16 bits =
    bits.foldl (fun (r : BitVec 16) b => if r.msb != b then (r <<< 1) ^^^ 0x1021#16 else r <<< 1) 0xFFFF#16) ∧
  (∀ bytes : List Byte,
    let byte (i : Nat) : Nat := (bytes.getD i 0).toNat
    let word (i : Nat) : Nat := 256 * byte i + byte (i + 1)
    let c := configOfRecord bytes
    let within (low high n v : Nat) : Prop := (n < low → v = low) ∧ (low ≤ n → n ≤ high → v = n) ∧ (high < n → v = high)
    (recordGood bytes = true ↔ bytes.length = 64 ∧ byte 0 = 0x5C ∧ byte 1 = 0x3E ∧
      word 62 = (crc16 ((bytes.take 62).flatMap fun b => (List.range 8).map fun i => b.getMsbD i)).toNat) ∧
    within 100 40000 (word 2) c.budget ∧ within 0 (c.budget / 2) (word 4) c.reserve ∧ within 1 12 (byte 6) c.shelves ∧
    within 50 450 (word 7) c.bayMax ∧ within 20 100 (byte 9) c.bayMin ∧ within 20 200 (byte 10) c.unmanaged ∧
    within 0 150 (byte 11) c.laneExtra ∧ within 10 50 (byte 12) c.socLow ∧ within 3 30 (byte 14) c.releaseTime ∧
    within 10 600 (word 15) c.ajarTime ∧ within 0 100 (byte 17) c.socRelease ∧ within 30 1440 (word 18) c.guestTime ∧
    within 30 10080 (word 20) c.loanTime ∧ within 1 8 (byte 22) c.limitStudent ∧ within 1 8 (byte 23) c.limitStaff ∧
    within 1 8 (byte 24) c.limitGuest ∧ within 10 90 (byte 25) c.socProv ∧
    (let hot : Int := (bytes.getD 13 0).toInt
     (hot < 35 → c.tempHot = 35) ∧ (35 ≤ hot → hot ≤ 60 → (c.tempHot : Int) = hot) ∧ (60 < hot → c.tempHot = 60)) ∧
    (byte 26 = 0 → c.ratio = .two) ∧ (byte 26 = 1 → c.ratio = .four) ∧ (byte 26 = 2 → c.ratio = .eight) ∧
    (byte 26 = 3 → c.ratio = .strict) ∧ (3 < byte 26 → c.ratio = .four) ∧
    ∀ k : Nat, k < 64 → c.classMap.getLsbD k = (bytes.getD (27 + k / 8) 0).getLsbD (k % 8)) ∧
  defaultConfig =
    { budget := 4800, reserve := 400, shelves := 8, bayMax := 180, bayMin := 25, unmanaged := 75, laneExtra := 50,
      socLow := 30, tempHot := 45, releaseTime := 8, ajarTime := 60, socRelease := 50, guestTime := 480, loanTime := 480,
      limitStudent := 1, limitStaff := 4, limitGuest := 1, socProv := 30, ratio := .four, classMap := 0 } ∧
  ∀ (r : ConfigRead) (s : State), s.cfl.configRead = some r →
    let loaded (c : WorkingConfig) (f : ConfigFlag) (now : Nat) : State :=
      { s with
        now := now,
        cfl := { s.cfl with configRead := none, config := c, flag := f, digest := configDigest c },
        shu := { s.shu with available := c.budget - c.reserve } }
    let listening (u : State) : State :=
      if u.cfl.restartHeld then u
      else { u with
        cfl := { u.cfl with phase := .listen, listenTimer := some (u.now + 2000) },
        lkc := { u.lkc with line := .waiting, recessive := 0, followed := [] } }
    (∀ bytes : List Byte, bytes.length = 64 → recordGood bytes = true →
      exec (.configReadEnd (some bytes)) s = .next (listening (loaded (configOfRecord bytes) .good s.now))) ∧
    (∀ bytes : List Byte, bytes.length = 64 → recordGood bytes = false →
      exec (.configReadEnd (some bytes)) s = .next (listening (loaded defaultConfig .bad s.now))) ∧
    (∀ bytes : List Byte, bytes.length ≠ 64 →
      exec (.configReadEnd (some bytes)) s = .next (listening (loaded defaultConfig .byDefault s.now))) ∧
    exec (.configReadEnd none) s = .next (listening (loaded defaultConfig .byDefault s.now)) ∧
    exec .configReadTimeout s = .next (listening (loaded defaultConfig .byDefault (max s.now r.limit)))

/-- LISTEN_TIMER_EXPIRED: ACTIVE begins with a zero history, an allowance of 0, the heartbeat timer and the isolation
timer running. Every populated VACANT bay whose present flag is set enters IDENTIFYING with the 3 s timer and grant, limit
and wish 0, its OFF channel becoming ACTIVE with the four reads due; one whose flag is clear stays VACANT, and
OUT_OF_SERVICE stays. The body of the recomputation's claim and allowance goes into the queue as the first heartbeat, with
the error word (the queue is said for a station that holds no campaign and serves no lane). (Time: entry 4.) -/
def Obligations.ListenTimerEntersActive : Prop :=
  ∀ (d : Nat) (s : State), s.cfl.phase = .listen → s.cfl.listenTimer = some d →
    ∃ t, exec .listenTimerExpired s = .next t ∧
      t.now = max s.now d ∧ t.cfl = { s.cfl with phase := .active, listenTimer := none } ∧
      t.shu.history = #v[0, 0, 0, 0] ∧ t.shu.allowance = 0 ∧ t.shu.settled = 0 ∧
      t.shu.heartbeatTimer = some (max s.now d + 500) ∧
      t.pmn = { s.pmn with isolationTimer := some (max s.now d + 1500) } ∧
      t.lkc.line = s.lkc.line ∧ t.lkc.received = s.lkc.received ∧ t.hands = s.hands ∧
      t.csu.credentials = s.csu.credentials ∧ t.csu.minute = s.csu.minute ∧
      t.pvs.campaigns = s.pvs.campaigns ∧ t.rpu = s.rpu ∧ t.pending = s.pending ∧
      (∀ b : BayIx, (t.bay b).present = (s.bay b).present ∧ (t.bay b).view = (s.bay b).view ∧
        (t.bay b).attrs = (s.bay b).attrs) ∧
      (∀ b : BayIx,
        let c := (t.bay b).charge
        let y := (t.bay b).channel
        (s.populated b = true → (s.bay b).present = true → (s.bay b).charge.state = .vacant →
          c.state = .identifying ∧ c.identTimer = some (max s.now d + 3000) ∧ c.grant = 0 ∧ c.limit = 0 ∧ c.wish = 0 ∧
          ((s.bay b).channel.state = .off →
            y.state = .active ∧ y.drops = 0 ∧ y.dueIdent = true ∧ y.dueBattery = true ∧ y.dueRequest = true ∧
            y.dueProfile = true)) ∧
        ((s.bay b).present = false → (s.bay b).charge.state = .vacant → c.state = .vacant) ∧
        ((s.bay b).charge.state = .outOfService → c.state = .outOfService)) ∧
      let entered : State := { s with
        now := max s.now d, cfl := { s.cfl with phase := .active, listenTimer := none },
        shu := { s.shu with history := #v[0, 0, 0, 0], guard := false, liftTimer := none } }
      let body := heartbeatBody (recomputed entered)
      lanesQuiet s → (∀ f ∈ s.lkc.queue, f.kind ≠ .heartbeat) → s.lkc.queue.length < 8 →
        t.lkc = { s.lkc with
          carried := s.lkc.errors, renewal := 0,
          queue :=
            { newFrame .heartbeat 0 toAll body .shu with body := body.take 14 ++ bytes16 s.lkc.errors.toNat } ::
              s.lkc.queue }

/-! ## Cart link -/

/-- R1, R5: twelve recessive bits in a row make a waiting line idle, and a dominant bit begins their count anew; a
dominant bit on an idle line starts a reception, as the first bit of its frame; in ACTIVE, when the idle count has
reached 11, the head of the queue goes out, marked as in transmission, and before that it stays. The idle count is 250
for each ms since the line became idle, and the bit times counted beside the clock. Nothing else changes. (How the bits
and idle bit times reach the model, and the count at which a station begins to wait, and that bits behind the twelfth
recessive one are dropped: entry 5.) -/
def Obligations.LineIsFollowed : Prop :=
  ∀ s : State,
    let seen (l : Lkc) : State := { s with lkc := l }
    (s.cfl.phase ≠ .start → s.lkc.line = .waiting →
      (∀ k : Nat, s.lkc.recessive + k < 12 →
        exec (.lineIdleDetected (List.replicate k true)) s =
          .next (seen { s.lkc with recessive := s.lkc.recessive + k }) ∧
        ∀ bits : List Bool, exec (.lineIdleDetected (List.replicate k true ++ false :: bits)) s =
          exec (.lineIdleDetected bits) (seen { s.lkc with recessive := 0 })) ∧
      (∀ (k : Nat) (bits : List Bool), 12 ≤ s.lkc.recessive + k →
        exec (.lineIdleDetected (List.replicate k true ++ bits)) s =
          .next (seen { s.lkc with line := .idle, recessive := 0, idleSince := s.now, idleBits := 0, followed := [] }))) ∧
    (s.cfl.phase ≠ .start → s.lkc.line = .idle →
      exec .startBitReceived s =
        .next (seen { s.lkc with line := .receiving, idleBits := 0, followed := [false] })) ∧
    (∀ k : Nat, s.lkc.line = .idle →
      let count := s.lkc.idleBits + k + 250 * (s.now - s.lkc.idleSince)
      (∀ (f : TxFrame) (rest : List TxFrame), s.cfl.phase = .active → s.lkc.queue = f :: rest → 11 ≤ count →
        exec (.transmissionStart k) s = .next (seen { s.lkc with
          line := .sending, idleBits := 0,
          driven := lineBits
            { cls := BitVec.ofNat 4 (kindClass f.kind), bid := BitVec.ofNat 12 f.bid,
              source := BitVec.ofNat 4 s.cfl.address.val, kind := kindCode f.kind, dest := f.dest,
              length := BitVec.ofNat 6 f.body.length } f.body,
          queue := { f with inTransmission := true } :: rest })) ∧
      (s.cfl.phase ≠ .active ∨ s.lkc.queue = [] ∨ count < 11 →
        exec (.transmissionStart k) s = .next (seen { s.lkc with idleBits := min (s.lkc.idleBits + k) 11 })))

/-- R6, R17, R18: contention is lost at the first bit that reads back other than driven, where that is a recessive key
bit that reads dominant: the station stops driving and follows as a receiver, the bits read back being that frame's
first bits, and its own frame stays with its attempt count; a frame with a pending withdrawal leaves the queue; a
pending heartbeat takes the body of a queued one. Bits read back that show no such mismatch change nothing. The key bits
are the 20 bits behind the start bit, stuff bits not counted (entry 43), and without its stuff bits a stuffed part is
what was stuffed (R2). (The bits read back as an operand: entry 1; an event that cannot occur: entry 3.) -/
def Obligations.ContentionLostKeepsTheFrame : Prop :=
  (∀ (f : TxFrame) (read : List Bool) (s : State),
    LinkLaw s → s.lkc.line = .sending → f ∈ s.lkc.queue → f.inTransmission = true →
    let lostAt (i : Nat) : Prop := read.take i = s.lkc.driven.take i ∧ s.lkc.driven[i]? = some true ∧
      read[i]? = some false ∧ keyBit s.lkc.driven i = true
    let follows : Lkc := { s.lkc with line := .receiving, driven := [], followed := read }
    ((¬ ∃ i, lostAt i) → exec (.contentionLost read) s = .next s) ∧
    ∀ i : Nat, lostAt i → ∃ t, exec (.contentionLost read) s = .next t ∧ t = { s with lkc := t.lkc } ∧
      (f.withdrawal = true →
        t.lkc = { follows with queue := s.lkc.queue.filter fun g => !g.inTransmission }) ∧
      (f.withdrawal = false → f.kind ≠ .heartbeat ∨ s.lkc.pendingHeartbeat = none →
        t.lkc = { follows with queue := s.lkc.queue.map fun g => { g with inTransmission := false } }) ∧
      (∀ body : List Byte, f.withdrawal = false → f.kind = .heartbeat → s.lkc.pendingHeartbeat = some body →
        t.lkc = { follows with
          pendingHeartbeat := none, carried := s.lkc.errors, renewal := 0,
          queue := s.lkc.queue.map fun g =>
            if g.inTransmission then
              { g with
                inTransmission := false, attempts := 0, body := body.take 14 ++ bytes16 s.lkc.errors.toNat }
            else g })) ∧
  ∀ bits rest : List Bool,
    let driven := stuff bits ++ rest
    let marks := stuffMarks true 0 driven
    marks.length = driven.length ∧
    (((stuff bits).zip marks).filter fun x => !x.2).map (fun x => x.1) = bits ∧
    ∀ i : Nat, keyBit driven i = true ↔
      marks[i]? = some false ∧ 1 ≤ (marks.take i).count false ∧ (marks.take i).count false ≤ 20

/-- R6, R7, R17, R18, R19, R130: a transmit bit error is the first bit that reads back other than driven, except where
it is a recessive key bit; without one nothing changes. The station then follows as a receiver, the bits read back being
that frame's first bits: TX_BIT_ERROR, and the attempt count increases; a HEARTBEAT takes the pending body, with a fresh
copy of the error word and attempt count 0. On the third the frame is dropped with TX_DROPPED and counted. A HEARTBEAT
then empties the carried copy, and the pending body is placed as a new heartbeat; an OFFER makes the own answer of its
slot NONE and its claim goes, a DENY makes it NONE (queue and other claims are said whole for a station that holds no
campaign and serves no lane). A frame with a pending withdrawal leaves the queue with no more than TX_BIT_ERROR. (The
bits read back: entry 1; a stuff bit within the key: entry 43.) -/
def Obligations.TransmitBitErrorCounts : Prop :=
  ∀ (f : TxFrame) (read : List Bool) (s : State), LinkLaw s → s.lkc.line = .sending → f ∈ s.lkc.queue → f.inTransmission = true →
    let errorAt (i : Nat) : Prop := read.take i = s.lkc.driven.take i ∧
      ∃ b : Bool, s.lkc.driven[i]? = some b ∧ read[i]? = some (!b) ∧ ¬ (b = true ∧ keyBit s.lkc.driven i = true)
    let rest : List TxFrame := s.lkc.queue.filter fun g => !g.inTransmission
    let failed : Lkc := { s.lkc.flagged 0x0020 with line := .receiving, driven := [], followed := read }
    let gone : Lkc := { s.lkc.flagged 0x0060 with
      line := .receiving, driven := [], followed := read, queue := rest,
      counters := { s.lkc.counters with dropped := s.lkc.counters.dropped + 1 } }
    let filled (body : List Byte) (word : Word16) : List Byte := body.take 14 ++ bytes16 word.toNat
    ((¬ ∃ i, errorAt i) → exec (.transmitBitError read) s = .next s) ∧
    ∀ i : Nat, errorAt i → ∃ t, exec (.transmitBitError read) s = .next t ∧
      (f.withdrawal = true → t = { s with lkc := { failed with queue := rest } }) ∧
      (f.withdrawal = false → f.attempts ≠ 2 → f.kind ≠ .heartbeat ∨ s.lkc.pendingHeartbeat = none →
        t = { s with lkc := { failed with
          queue := s.lkc.queue.map fun g =>
            if g.inTransmission then { g with inTransmission := false, attempts := g.attempts + 1 } else g } }) ∧
      (∀ body : List Byte, f.withdrawal = false → f.attempts ≠ 2 → f.kind = .heartbeat →
        s.lkc.pendingHeartbeat = some body →
        t = { s with lkc := { failed with
          pendingHeartbeat := none, carried := failed.errors, renewal := 0,
          queue := s.lkc.queue.map fun g =>
            if g.inTransmission then
              { g with inTransmission := false, attempts := 0, body := filled body failed.errors }
            else g } }) ∧
      (f.withdrawal = false → f.attempts = 2 →
        (f.kind ≠ .heartbeat → f.kind ≠ .offer → f.kind ≠ .deny → t = { s with lkc := gone }) ∧
        (f.kind = .heartbeat → s.lkc.pendingHeartbeat = none →
          t = { s with lkc := { gone with carried := 0, renewal := 0 } }) ∧
        (∀ body : List Byte, f.kind = .heartbeat → s.lkc.pendingHeartbeat = some body →
          t = { s with lkc := { gone with
            pendingHeartbeat := none, carried := gone.errors, renewal := 0,
            queue := { newFrame .heartbeat 0 toAll body .shu with body := filled body gone.errors } :: rest } }) ∧
        (f.kind = .deny → f.deadline ≠ none → t = { s with lkc := gone }) ∧
        (f.kind = .offer ∨ (f.kind = .deny ∧ f.deadline = none) →
          (answerReader f.body = none → t = { s with lkc := gone }) ∧
          ∀ r : Reader, answerReader f.body = some r →
            let sequence := bodySequence f.body
            let own : OwnAnswer := if f.kind = .offer then .offerQueued else .denyQueued
            let held (x : PresentationSlot) : Prop := s.slot r = some x ∧ x.sequence = sequence ∧ x.own = own
            let queued (c : PendingClaim) : Prop := f.kind = .offer ∧ c.inWindow = false ∧ c.reader = r ∧ c.sequence = sequence
            t.steady = { s with lkc := gone }.steady ∧
            (∀ x : PresentationSlot, held x → t.slot r = some { x with own := .none } ∧
              (f.kind = .deny → t = { s with lkc := gone }.setSlot r (some { x with own := .none }))) ∧
            ((¬ ∃ x, held x) → f.kind = .deny → t = { s with lkc := gone }) ∧
            (∀ (b : BayIx) (c : PendingClaim), (s.bay b).claim = some c → queued c → (t.bay b).claim = none) ∧
            (lanesQuiet s → t.lkc = gone ∧ ((¬ ∃ x, held x) → t.slot r = s.slot r) ∧
              ∀ b : BayIx, (∀ c : PendingClaim, (s.bay b).claim = some c → ¬ queued c) →
                (t.bay b).claim = (s.bay b).claim))) ∧
      t.lkc.line = .receiving ∧ t.lkc.followed = read ∧ t.lkc.received = s.lkc.received ∧ t.cfl = s.cfl ∧ t.pmn = s.pmn ∧
      t.hands = s.hands ∧ t.rpu = s.rpu ∧ t.shu.history = s.shu.history

/-- R8, R17, R19, R25, R26, R130, R131: a transmission completes: the frame leaves the queue, sent increases by 1 and the
line is idle. A HEARTBEAT appends its claim to the history and ends ISOLATED; the carried flags without a renewal mark are
cleared, and a pending heartbeat body is placed with a fresh copy of the error word (the queue and the word are said for a
station that holds no campaign and serves no lane). An OFFER opens the objection window of its claim, a DENY decides its
slot; an OFFER that finds no such claim, a DENY of R132 and every other frame do no more. -/
def Obligations.TransmissionCompletes : Prop :=
  ∀ (f : TxFrame) (s : State), LinkLaw s → s.lkc.line = .sending → f ∈ s.lkc.queue → f.inTransmission = true →
    let rest : List TxFrame := s.lkc.queue.filter fun g => !g.inTransmission
    let freed : Lkc := { s.lkc with
      line := .idle, idleSince := s.now, idleBits := 0, driven := [], queue := rest,
      counters := { s.lkc.counters with sent := s.lkc.counters.sent + 1 } }
    let sent : State := { s with lkc := freed }
    let kept : Word16 := s.lkc.errors &&& ~~~(s.lkc.carried &&& ~~~s.lkc.renewal)
    let claimed (c : PendingClaim) : Prop := (s.bay (offerBay f.body)).claim = some c ∧ c.inWindow = false ∧
      answerReader f.body = some c.reader ∧ c.sequence = bodySequence f.body
    let held (r : Reader) (x : PresentationSlot) : Prop :=
      answerReader f.body = some r ∧ s.slot r = some x ∧ x.sequence = bodySequence f.body
    ∃ t, exec .transmissionComplete s = .next t ∧
      (f.kind ≠ .heartbeat → f.kind ≠ .offer → f.kind ≠ .deny → t = sent) ∧
      (f.kind = .offer → (¬ ∃ c, claimed c) → t = sent) ∧
      (∀ c : PendingClaim, f.kind = .offer → claimed c →
        let opened : State := sent.modBay (offerBay f.body) fun y =>
          { y with claim := some { c with endTime := s.now + 60, inWindow := true } }
        (∀ x : PresentationSlot, held c.reader x →
          t = opened.setSlot c.reader (some { x with decided := true, own := .claimed })) ∧
        ((¬ ∃ x, held c.reader x) → t = opened)) ∧
      (f.kind = .deny → (f.deadline ≠ none ∨ ¬ ∃ r x, held r x) → t = sent) ∧
      (∀ (r : Reader) (x : PresentationSlot), f.kind = .deny → f.deadline = none → held r x →
        t = sent.setSlot r (some { x with decided := true, own := .none })) ∧
      (f.kind = .heartbeat →
        t.lkc.line = .idle ∧ t.lkc.counters.sent = s.lkc.counters.sent + 1 ∧
        t.pmn = { s.pmn with isolated := false, isolationTimer := some (s.now + 1500) } ∧
        t.shu.history = #v[s.shu.history[1], s.shu.history[2], s.shu.history[3], (word16At f.body 4).toNat] ∧
        t.shu.heartbeatTimer = s.shu.heartbeatTimer ∧ t.lkc.received = s.lkc.received ∧ t.cfl = s.cfl ∧
        t.hands = s.hands ∧ t.rpu = s.rpu ∧ (∀ b : BayIx, (t.bay b).view = (s.bay b).view) ∧
        (∀ g ∈ t.lkc.queue, g.inTransmission = false) ∧ t.lkc.pendingHeartbeat = none ∧
        (lanesQuiet s → s.lkc.pendingHeartbeat = none →
          t.lkc = { freed with errors := kept, carried := 0, renewal := 0 }) ∧
        ∀ body : List Byte, lanesQuiet s → s.lkc.pendingHeartbeat = some body →
          t.lkc = { freed with
            pendingHeartbeat := none, errors := kept, carried := kept, renewal := 0,
            queue := { newFrame .heartbeat 0 toAll body .shu with body := body.take 14 ++ bytes16 kept.toNat } :: rest })

/-- R9 to R12, R19, R20, R33: a frame that is not accepted, read from the bits followed so far and those since: each
reason with its flag and discarded, and a corrected header with HDR_CORRECTED and its count. A form error, a wrong
header and a length above 32 make the line wait for idle; at the end of an end field the line is idle. A frame to
another station sets no flag. A frame from the own address sets CLASH and starts the clash hold again, and where the
hold was stopped EVENT ADDRESS_CLASH goes into the queue (said for a station in LISTEN, or that holds no campaign and
serves no lane). (The count of recessive bits at which a station that stops following begins to wait: entry 5, the
model's choice; the bits a command brings: entry 1.) -/
def Obligations.FramesAreDiscarded : Prop :=
  ∀ (bits : List Bool) (s : State), s.lkc.line = .receiving →
    let mark (c : Bool) : Word16 := if c then 0x0001 else 0
    let waits (l : Lkc) : Lkc := { l with line := .waiting, recessive := 0, followed := [] }
    let frees (l : Lkc) : Lkc := { l with line := .idle, idleSince := s.now, idleBits := 0, followed := [] }
    let after (follow : Lkc → Lkc) (mask : Word16) (c : Bool) (d : Nat) : State :=
      { s with lkc := follow { s.lkc.flagged mask with
          counters := { s.lkc.counters with
            corrected := s.lkc.counters.corrected + (if c then 1 else 0),
            discarded := s.lkc.counters.discarded + BitVec.ofNat 32 d } } }
    (receiveBits (s.lkc.followed ++ bits) = .headerBad →
      exec (.receptionAborted bits) s = .next (after waits 0x0002 false 1)) ∧
    (∀ c : Bool, receiveBits (s.lkc.followed ++ bits) = .lengthBad c →
      exec (.receptionAborted bits) s = .next (after waits (mark c ||| 0x0010) c 1)) ∧
    (∀ c : Bool, receiveBits (s.lkc.followed ++ bits) = .formError c →
      exec (.receptionAborted bits) s = .next (after waits (mark c ||| 0x0004) c 1)) ∧
    ∀ (c good : Bool) (h : Header) (body : List Byte), receiveBits (s.lkc.followed ++ bits) = .ended c h body good →
      (good = false → exec (.frameReceived bits) s = .next (after frees (mark c ||| 0x0004) c 1)) ∧
      (good = true → kindOfCode h.kind = none →
        exec (.frameReceived bits) s = .next (after frees (mark c ||| 0x0008) c 1)) ∧
      ∀ kind : FrameKind, good = true → kindOfCode h.kind = some kind →
        (kindLengthGood kind body.length = false →
          exec (.frameReceived bits) s = .next (after frees (mark c ||| 0x0010) c 1)) ∧
        (kindLengthGood kind body.length = true → h.source.toFin ≠ s.cfl.address → h.dest ≠ 31 →
          h.dest.toNat ≠ s.cfl.address.val → exec (.frameReceived bits) s = .next (after frees (mark c) c 0)) ∧
        (kindLengthGood kind body.length = true → h.source.toFin = s.cfl.address →
          let clash : State := { after frees (mark c ||| 0x0200) c 1 with
            pmn := { s.pmn with clashHold := some (s.now + 10000) } }
          ∃ t, exec (.frameReceived bits) s = .next t ∧ t.lkc.line = .idle ∧ t.lkc.errors.getLsbD 9 = true ∧
            t.lkc.counters.discarded = s.lkc.counters.discarded + 1 ∧
            t.lkc.counters.corrected = s.lkc.counters.corrected + (if c then 1 else 0) ∧
            t.lkc.received = s.lkc.received ∧
            t.pmn = { s.pmn with clashHold := some (s.now + 10000) } ∧ t.cfl = s.cfl ∧ t.hands = s.hands ∧
            (s.pmn.clashHold ≠ none → t = clash) ∧
            (s.pmn.clashHold = none → s.lkc.queue.length < 8 → s.cfl.phase ≠ .active ∨ lanesQuiet s →
              t.lkc = { clash.lkc with
                queue := insertFrame (newFrame .event 29 toAll [255, 0, 0, 0, 0, 0, 0, 13] .pmn) s.lkc.queue }))

/-- R12, R13, R14: a good frame for this station is counted; a frame with a receiving block goes to the tail of the
receive queue with its corrected fields, and is discarded with RX_OVERRUN when 6 wait; PRESENT passes the storm limit;
a frame with no receiving block stays uncollected. Nothing else changes. -/
def Obligations.FramesAreAccepted : Prop :=
  ∀ (bits : List Bool) (c : Bool) (h : Header) (body : List Byte) (kind : FrameKind) (s : State),
    s.lkc.line = .receiving → receiveBits (s.lkc.followed ++ bits) = .ended c h body true → kindOfCode h.kind = some kind →
    kindLengthGood kind body.length = true → h.source.toFin ≠ s.cfl.address →
    h.dest = 31 ∨ h.dest.toNat = s.cfl.address.val →
    let frame : RxFrame :=
      { cls := h.cls, bid := h.bid, source := h.source.toFin, kind := kind, dest := h.dest, body := body }
    let good : State :=
      { s with lkc := { s.lkc.flagged (if c then 0x0001 else 0) with
          line := .idle, idleSince := s.now, idleBits := 0, followed := [],
          counters := { s.lkc.counters with
            good := s.lkc.counters.good + 1,
            corrected := s.lkc.counters.corrected + (if c then 1 else 0) } } }
    (kindReceiver kind = none → exec (.frameReceived bits) s = .next good) ∧
    (kindReceiver kind ≠ none → 6 ≤ s.lkc.received.length →
      exec (.frameReceived bits) s = .next
        { good with lkc := { good.lkc.flagged 0x0080 with
            counters := { good.lkc.counters with discarded := s.lkc.counters.discarded + 1 } } }) ∧
    (kindReceiver kind ≠ none → s.lkc.received.length < 6 → kind ≠ .present →
      exec (.frameReceived bits) s = .next
        { good with lkc := { good.lkc with received := s.lkc.received ++ [frame] } }) ∧
    (s.lkc.received.length < 6 → kind = .present →
      exec (.frameReceived bits) s = .next (stormLimit frame good))

/-- R14: the storm limit: with no open window, or one that opened 1 s ago or more, a PRESENT opens a new window with
count 1 and is queued; a count below 4 increases and it is queued; at 4 it is discarded with STORM. -/
def Obligations.StormWindowAdmitsFour : Prop :=
  ∀ (f : RxFrame) (s : State),
    let r := bodyReader f.body
    let admitted (win : StormWindow) : State :=
      { s with lkc := { s.lkc with storm := s.lkc.storm.set r (some win), received := s.lkc.received ++ [f] } }
    (s.lkc.storm[r] = none → stormLimit f s = admitted { start := s.now, count := 1 }) ∧
    ∀ win : StormWindow, s.lkc.storm[r] = some win →
      (win.start + 1000 ≤ s.now → stormLimit f s = admitted { start := s.now, count := 1 }) ∧
      (s.now < win.start + 1000 → win.count < 4 →
        stormLimit f s = admitted { start := win.start, count := win.count + 1 }) ∧
      (s.now < win.start + 1000 → 4 ≤ win.count →
        stormLimit f s = { s with lkc := { s.lkc.flagged 0x0100 with
          counters := { s.lkc.counters with stormed := s.lkc.counters.stormed + 1 } } })

/-- R15, R31: the oldest received frame is handed to its block when that block is at work on no other; a frame whose
source does not hold the role it needs, in a LIVE or QUIET entry, is counted as ignored instead. It waits while its
block is at work, and where it needs the role check also while the PMN is at work on a heartbeat that came before it.
Nothing else changes. (The hand in which a frame lies until its command takes it: entry 2.) -/
def Obligations.FramesAreHandedOver : Prop :=
  ∀ (f : RxFrame) (rest : List RxFrame) (k : Block) (s : State),
    s.lkc.received = f :: rest → kindReceiver f.kind = some k →
    let waits : Prop := s.hand k ≠ none ∨ (kindAcceptedFrom f.kind ≠ none ∧ s.hands.pmn ≠ none)
    let permitted : Prop := ∀ role : Role, kindAcceptedFrom f.kind = some role →
      ∃ p : Peer, s.peer f.source = some p ∧ p.state ≠ .lost ∧ p.role = role
    (waits → exec .frameHandover s = .next s) ∧
    (¬ waits → permitted →
      exec .frameHandover s = .next ({ s with lkc := { s.lkc with received := rest } }.setHand (some f) k)) ∧
    (¬ waits → ¬ permitted →
      exec .frameHandover s = .next
        { s with lkc := { s.lkc with
            received := rest,
            counters := { s.lkc.counters with ignored := s.lkc.counters.ignored + 1 } } })

/-! ## Peers and sharing -/

/-- R16, R17, R23, R24: the heartbeat timer starts again from its own expiry and the body of that moment is offered, its
16 bytes as R24 gives them: it waits as the pending heartbeat while one is in transmission, replaces the body of one
that is queued, and else is placed at the head of the queue. A full queue discards for it the last frame that is not in
transmission, with TX_DROPPED and its count (the rest of the link is said for a station that holds no campaign and
serves no lane). (Time: entry 4; the error word of a heartbeat placed in a full queue: entry 29.) -/
def Obligations.HeartbeatIsOffered : Prop :=
  (∀ s : State,
    let lane (b : BayIx) : Prop := ∃ n x, s.lane n = some x ∧ x.bay = b
    let mismatch : Prop := ∃ (a : Addr) (p : Peer), s.peer a = some p ∧ p.mismatch = true
    ∃ conditions populated stocked charging provisioning : Byte,
      heartbeatBody s =
        [1, conditions] ++ bytes16 s.cfl.digest.toNat ++ bytes16 s.shu.claim ++
          bytes16 (min ((s.populatedBays.map fun b => (s.bay b).charge.power).sum) 65535) ++
          bytes16 s.shu.allowance ++ [populated, stocked, charging, provisioning, 0, 0] ∧
      conditions.toNat % 16 = (if s.pmn.isolated = true then 3 else 2) ∧
      (conditions.getLsbD 4 = true ↔ s.cfl.flag = .byDefault) ∧ (conditions.getLsbD 5 = true ↔ s.cfl.flag = .bad) ∧
      (conditions.getLsbD 6 = true ↔
        mismatch ∨ s.pmn.clashHold ≠ none ∨ s.shu.guard = true ∨ s.pmn.isolated = true) ∧
      conditions.getLsbD 7 = false ∧
      ∀ b : BayIx,
        (populated.getLsbD b.val = true ↔ b.val < s.cfl.populated) ∧
        (stocked.getLsbD b.val = true ↔ b.val < s.cfl.populated ∧ (s.bay b).present = true) ∧
        (charging.getLsbD b.val = true ↔ b.val < s.cfl.populated ∧ (s.bay b).charge.state = .charging) ∧
        (provisioning.getLsbD b.val = true ↔ b.val < s.cfl.populated ∧ lane b)) ∧
  ∀ (d : Nat) (s : State), s.shu.heartbeatTimer = some d →
    let u : State := { s with now := max s.now d, shu := { s.shu with heartbeatTimer := some (d + 500) } }
    let filled : List Byte := (heartbeatBody u).take 14 ++ bytes16 s.lkc.errors.toNat
    ∃ t, exec .heartbeatTimerExpired s = .next t ∧ t.now = max s.now d ∧
      t.shu.heartbeatTimer = some (d + 500) ∧ t.cfl = s.cfl ∧ t.pmn = s.pmn ∧ t.hands = s.hands ∧
      (∀ f : TxFrame, LinkLaw s → f ∈ s.lkc.queue → f.kind = .heartbeat → f.inTransmission = true →
        t = { u with lkc := { s.lkc with pendingHeartbeat := some (heartbeatBody u) } }) ∧
      (∀ f : TxFrame, LinkLaw s → f ∈ s.lkc.queue → f.kind = .heartbeat → f.inTransmission = false →
        t = { u with lkc := { s.lkc with
          carried := s.lkc.errors, renewal := 0,
          queue := s.lkc.queue.map fun g =>
            if g.kind = .heartbeat then { g with body := filled, attempts := 0 } else g } }) ∧
      ((∀ f ∈ s.lkc.queue, f.kind ≠ .heartbeat) → s.lkc.queue.length < 8 →
        t = { u with lkc := { s.lkc with
          carried := s.lkc.errors, renewal := 0,
          queue := { newFrame .heartbeat 0 toAll (heartbeatBody u) .shu with body := filled } :: s.lkc.queue } }) ∧
      (LinkLaw s → (∀ f ∈ s.lkc.queue, f.kind ≠ .heartbeat) → s.lkc.queue.length = 8 →
        ∃ (front back : List TxFrame) (victim : TxFrame),
          s.lkc.queue = front ++ victim :: back ∧ victim.inTransmission = false ∧
          (∀ g ∈ back, g.inTransmission = true) ∧
          let word : Word16 := s.lkc.errors ||| 0x0040
          let placed : Lkc := { s.lkc with
            errors := word, carried := word, renewal := 0,
            counters := { s.lkc.counters with dropped := s.lkc.counters.dropped + 1 },
            queue :=
              { newFrame .heartbeat 0 toAll (heartbeatBody u) .shu with
                body := (heartbeatBody u).take 14 ++ bytes16 word.toNat } :: (front ++ back) }
          t.steady = { u with lkc := placed }.steady ∧ (lanesQuiet s → t.lkc = placed))

/-- R26, R33, R46, R50, R53: the three timers of sharing. ISOLATED is entered, and in ACTIVE the allowance is then the
lesser of settled claim and floor; the clash hold ends; the guard ends, and in ACTIVE is set again at once where the
estimate exceeds A. The recomputation that follows changes nothing outside what notices change. (Time: entry 4.) -/
def Obligations.SharingTimersExpire : Prop :=
  ∀ (d : Nat) (s : State),
    (s.pmn.isolationTimer = some d →
      ∃ t, exec .isolationTimerExpired s = .next t ∧
        t.steady = { s with
          now := max s.now d, pmn := { s.pmn with isolationTimer := none, isolated := true } }.steady ∧
        (s.cfl.phase = .active → t.shu.allowance = min t.shu.settled t.shu.floor)) ∧
    (s.pmn.clashHold = some d →
      ∃ t, exec .clashHoldExpired s = .next t ∧
        t.steady = { s with now := max s.now d, pmn := { s.pmn with clashHold := none } }.steady) ∧
    (s.shu.liftTimer = some d →
      ∃ t, exec .guardLiftTimerExpired s = .next t ∧
        t.steady = { s with now := max s.now d }.steady ∧ t.shu.liftTimer = none ∧
        (s.cfl.phase = .active → (t.shu.guard = true ↔ t.shu.available < t.drawEstimate)) ∧
        (s.cfl.phase ≠ .active → t.shu.guard = false))

/-- R28, R32: a HEARTBEAT in the PMN's hand: the entry of its source becomes LIVE at age 0 with the role, claim, draw,
allowance, digest and error word of the body, and a mismatch flag where a SHELF's digest differs from the own. A flag
that is set where none was puts EVENT CONFIG_MISMATCH with address and digest into the queue, else none goes there (said
for a station that holds no campaign and serves no lane). The hand is free; nothing else changes outside what notices
change. (Hand: entry 2.) -/
def Obligations.HeartbeatUpdatesThePeer : Prop :=
  ∀ (f : RxFrame) (s : State), s.hands.pmn = some f → f.kind = .heartbeat → f.source ≠ s.cfl.address →
    let role := roleOfByte (byteAt f.body 0)
    let entry : Peer :=
      { state := .live, role := role, claim := (word16At f.body 4).toNat, draw := (word16At f.body 6).toNat,
        allowance := (word16At f.body 8).toNat, digest := word16At f.body 2,
        mismatch := decide (role = .shelf ∧ word16At f.body 2 ≠ s.cfl.digest),
        errorWord := word16At f.body 14 &&& 0x03FF, heardAt := s.now }
    ∃ t, exec .heartbeat s = .next t ∧
      t.steady = { s with
        hands := { s.hands with pmn := none },
        pmn := { s.pmn with peers := s.pmn.peers.set f.source (some entry) } }.steady ∧
      let held : Prop := ∃ p : Peer, s.peer f.source = some p ∧ p.mismatch = true
      (entry.mismatch = true → ¬ held → lanesQuiet s → s.lkc.queue.length < 8 →
        t.lkc = { s.lkc with
          queue := insertFrame
            (newFrame .event 28 toAll
              ([255] ++ bytes32 (BitVec.ofNat 32 f.source.val) ++ [byteAt f.body 2, byteAt f.body 3, 12]) .pmn)
            s.lkc.queue }) ∧
      (entry.mismatch = false ∨ held → lanesQuiet s → t.lkc = s.lkc)

/-- R29, R32: at 1500 ms a LIVE entry becomes QUIET and at 4000 ms a QUIET one LOST, with its mismatch flag cleared;
its other fields stay. Nothing else changes outside what notices change. (Time: entry 4.) -/
def Obligations.PeersAge : Prop :=
  ∀ (a : Addr) (p : Peer) (s : State), s.peer a = some p →
    (p.state = .live →
      ∃ t, exec (.peerQuiet a) s = .next t ∧
        t.steady = { s with
          now := max s.now (p.heardAt + 1500),
          pmn := { s.pmn with
            peers := s.pmn.peers.set a (some { p with state := .quiet, mismatch := false }) } }.steady) ∧
    (p.state = .quiet →
      ∃ t, exec (.peerLost a) s = .next t ∧
        t.steady = { s with
          now := max s.now (p.heardAt + 4000),
          pmn := { s.pmn with
            peers := s.pmn.peers.set a (some { p with state := .lost, mismatch := false }) } }.steady)

/-- R51, R52, R53: an evaluation of the guard compares the cart draw estimate with A while it is clear, and with A −
floor(A / 20) while it is active, where the lift timer of 2 s starts, runs on or stops. R38, R40, R41, R42, R43, R44,
R45: a recomputation in ACTIVE: the current claim is the greater of need and draw, held at its cap; K, N_eff, F and U
follow from the peer table; the settled claim is the least of the current claim and the four slots; the terms are the
settled claim, that of each shelf entry, and F for each unheard station; surplus and excesses are formed from the terms;
the target is the lesser of s and F while borrowing is suspended, and else s up to F or while S is at least X, and F +
floor(S × E_self / X) beyond; the allowance takes it. The guard is evaluated in it with the new F and U. That every
evaluation of the guard stands by itself, inside a recomputation too and also where two triggers come at one moment, is
the model's choice: R49 and R52 conflict there (entry 45). -/
def Obligations.RecomputationSetsTheTarget : Prop :=
  (∀ s : State,
    let u := s.shu
    let estimate : Nat := u.draw + (s.shelfPeers.map fun p => if p.state = .live then p.draw else u.floor).sum +
      u.unheard * u.floor
    let lift : Nat := u.available - u.available / 20
    s.drawEstimate = estimate ∧
    (u.guard = false → u.available < estimate → evaluateGuard s = { s with shu := { u with guard := true } }) ∧
    (u.guard = false → estimate ≤ u.available → evaluateGuard s = s) ∧
    (u.guard = true → estimate < lift → u.liftTimer = none →
      evaluateGuard s = { s with shu := { u with liftTimer := some (s.now + 2000) } }) ∧
    (u.guard = true → estimate < lift → u.liftTimer ≠ none → evaluateGuard s = s) ∧
    (u.guard = true → lift ≤ estimate → evaluateGuard s = { s with shu := { u with liftTimer := none } })) ∧
  ∀ s : State, s.cfl.phase = .active →
    let u := (recomputed s).shu
    let term (p : Peer) : Nat :=
      if p.state = .live then p.claim else if p.state = .quiet then max u.floor p.claim else u.floor
    let terms : List Nat := u.settled :: (s.shelfPeers.map term ++ List.replicate u.unheard u.floor)
    u.claim = min (max s.shu.need s.shu.draw) (8 * s.cfl.config.bayMax + 2 * s.cfl.config.laneExtra) ∧
    u.refNeed = s.shu.need ∧ u.refDraw = s.shu.draw ∧
    (∀ p : Peer, p ∈ s.shelfPeers ↔ ∃ a : Addr, a ≠ s.cfl.address ∧ s.peer a = some p ∧ p.role = .shelf) ∧
    u.heard = s.shelfPeers.length ∧ u.nEff = max s.cfl.config.shelves (1 + u.heard) ∧
    u.floor = s.shu.available / u.nEff ∧ u.unheard = u.nEff - 1 - u.heard ∧
    u.settled = min u.claim (min (min s.shu.history[0] s.shu.history[1]) (min s.shu.history[2] s.shu.history[3])) ∧
    u.surplus = (terms.map fun x => u.floor - x).sum ∧ u.totalExcess = (terms.map fun x => x - u.floor).sum ∧
    u.excess = u.settled - u.floor ∧ u.allowance = u.target ∧
    (let watched := (evaluateGuard { s with shu := { s.shu with floor := u.floor, unheard := u.unheard } }).shu
     u.guard = watched.guard ∧ u.liftTimer = watched.liftTimer) ∧
    ((recomputed s).suspended = true → u.target = min u.settled u.floor) ∧
    ((recomputed s).suspended = false →
      (u.settled ≤ u.floor → u.target = u.settled) ∧
      (u.floor < u.settled → u.totalExcess ≤ u.surplus → u.target = u.settled) ∧
      (u.floor < u.settled → u.surplus < u.totalExcess →
        u.target = u.floor + u.surplus * u.excess / u.totalExcess))

/-! ## Bay charging -/

/-- R70, R71, R73, R75: a measurement takes voltage, current and power = floor(mV × mA / 100000) of every populated bay,
presents their sum as the draw (R39), adds power × 100 to the energy remainder and counts 1 for each 10000 in it. The
OVERDRAW count of a bay that takes part increases above grant + floor(grant / 10) and returns to 0 at or below it; a bay
whose count reaches 11 trips: it is in FAULT with grant, limit, wish and count 0, the fault counted with its time and
kind; at a second fault within 600 s the out-of-service attribute is set and it is OUT_OF_SERVICE. On an ACTIVE channel
the CHARGE_LIMIT write of 0 is pending (R70). An unpopulated bay is not measured. R39, R52: a draw presented in ACTIVE
is an evaluation of the guard, and a recomputation follows it where it differs by 10 dW or more from its reference or
the guard changes. Each trip puts EVENT BAY_FAULT into the queue, a second fault EVENT OUT_OF_SERVICE behind it, in the
order of the bays (said for a station that holds no campaign and serves no lane, where the queue has room and no bay of
a second fault a claim). (Time: entry 4; grants in force: entry 12; a bay that was UNMANAGED: entry 14; the order of two
trips: entry 39.) -/
def Obligations.MeasurementTakesEveryPort : Prop :=
  (∀ (draw : Nat) (s : State),
    let presented : State := { s with shu := { s.shu with draw := min draw 65535 } }
    let watched := evaluateGuard presented
    let starts : Prop := s.shu.refDraw + 10 ≤ min draw 65535 ∨ min draw 65535 + 10 ≤ s.shu.refDraw ∨
      watched.shu.guard ≠ s.shu.guard
    (s.cfl.phase ≠ .active → presentDraw draw (startWork s) = startWork presented) ∧
    (s.cfl.phase = .active → starts →
      presentDraw draw (startWork s) = { st := watched, todo := [.recompute] }) ∧
    (s.cfl.phase = .active → ¬ starts → presentDraw draw (startWork s) = startWork watched)) ∧
  ∀ (d : Nat) (ports : Vector PortSense 8) (s : State), s.bcc.measureTimer = some d →
    let power (b : BayIx) : Nat := ports[b].milliVolts * ports[b].milliAmps / 100000
    let energy (b : BayIx) : Nat := (s.bay b).charge.remainder + power b * 100
    let exceeds (b : BayIx) : Prop := (s.bay b).charge.grant + (s.bay b).charge.grant / 10 < power b
    let trips (b : BayIx) : Prop := takesPart (s.bay b).charge.state = true ∧ exceeds b ∧ 10 ≤ (s.bay b).charge.overdraw
    let time : Nat := min ((max s.now d - s.bcc.since) / 1000) 4294967295
    let second (b : BayIx) : Bool := (s.bay b).charge.lastFault.any fun last => decide (time - last < 600)
    let total : Nat := min 65535 ((s.populatedBays.map power).sum)
    let watched := evaluateGuard { s with now := max s.now d, shu := { s.shu with draw := total } }
    ∃ t, exec (.measurement ports) s = .next t ∧ t.now = max s.now d ∧
      t.bcc.measureTimer = some (d + 100) ∧ t.bcc.since = s.bcc.since ∧
      t.shu.draw = total ∧ (s.cfl.phase = .active → watched.shu.guard = true → t.shu.guard = true) ∧
      ((∀ b : BayIx, s.populated b = true → ¬ trips b) →
        (s.cfl.phase ≠ .active → t.shu = { s.shu with draw := total }) ∧
        (s.cfl.phase = .active → total < s.shu.refDraw + 10 → s.shu.refDraw < total + 10 →
          watched.shu.guard = s.shu.guard → t.shu = watched.shu)) ∧
      (let tripping : List BayIx := allBays.filter fun b =>
        s.populated b && takesPart (s.bay b).charge.state &&
          decide ((s.bay b).charge.grant + (s.bay b).charge.grant / 10 < power b) && decide (10 ≤ (s.bay b).charge.overdraw)
       let events : List TxFrame := tripping.flatMap fun b =>
        newFrame .event 22 toAll ([BitVec.ofNat 8 b.val, 0, 0, 0, 0, 0, 2, 6]) .bcc ::
          (if second b then [newFrame .event 23 toAll ([BitVec.ofNat 8 b.val, 0, 0, 0, 0, 0, 0, 7]) .bcc] else [])
       (∀ b ∈ tripping, second b = true → (s.bay b).claim = none) → lanesQuiet s →
         s.lkc.queue.length + events.length ≤ 8 →
         t.lkc = { s.lkc with queue := events.foldl (fun q f => insertFrame f q) s.lkc.queue }) ∧
      t.cfl = s.cfl ∧ t.pmn = s.pmn ∧ t.hands = s.hands ∧ t.rpu = s.rpu ∧ t.shu.history = s.shu.history ∧
      t.csu.credentials = s.csu.credentials ∧ t.csu.minute = s.csu.minute ∧ t.pvs.campaigns = s.pvs.campaigns ∧
      (∀ b : BayIx, s.populated b = true →
        (t.bay b).charge.milliVolts = ports[b].milliVolts ∧ (t.bay b).charge.milliAmps = ports[b].milliAmps ∧
        (t.bay b).charge.power = power b ∧ (t.bay b).charge.remainder = energy b % 10000 ∧
        (t.bay b).counters.energy = (s.bay b).counters.energy + BitVec.ofNat 32 (energy b / 10000) ∧
        (takesPart (s.bay b).charge.state = true → ¬ exceeds b → (t.bay b).charge.overdraw = 0) ∧
        (takesPart (s.bay b).charge.state = true → exceeds b → (s.bay b).charge.overdraw < 10 →
          takesPart (t.bay b).charge.state = true →
          (t.bay b).charge.overdraw = (s.bay b).charge.overdraw + 1) ∧
        (takesPart (s.bay b).charge.state = false → (t.bay b).charge.overdraw = (s.bay b).charge.overdraw) ∧
        (trips b → (t.bay b).counters.faults = (s.bay b).counters.faults + 1 ∧
          (t.bay b).charge.faultKind = some .overdraw ∧ (t.bay b).charge.overdraw = 0 ∧
          (t.bay b).charge.shortHold = none ∧ (t.bay b).charge.lastFault = some time ∧
          (t.bay b).charge.grant = 0 ∧ (t.bay b).charge.limit = 0 ∧ (t.bay b).charge.wish = 0 ∧
          (second b = false → (t.bay b).charge.state = .fault ∧ (t.bay b).attrs = (s.bay b).attrs) ∧
          (second b = true → (t.bay b).attrs = { (s.bay b).attrs with outOfService := true } ∧
            ((s.bay b).attrs.outOfService = false → (t.bay b).charge.state = .outOfService)) ∧
          ((s.bay b).channel.state = .active → (t.bay b).channel.chargeLimit = some 0)) ∧
        (¬ trips b → (t.bay b).counters.faults = (s.bay b).counters.faults ∧
          (t.bay b).attrs = (s.bay b).attrs ∧ (t.bay b).charge.faultKind = (s.bay b).charge.faultKind)) ∧
      (∀ b : BayIx, s.populated b = false → (t.bay b).steady = (s.bay b).steady) ∧
      ∀ b : BayIx, (t.bay b).view = (s.bay b).view ∧ (t.bay b).present = (s.bay b).present ∧
        (t.bay b).channel.exchange = (s.bay b).channel.exchange

/-- R56, R57, R58: a presence gain sets the flag; in ACTIVE a VACANT bay enters IDENTIFYING with the 3 s timer and
grant, limit and wish 0, and its OFF channel becomes ACTIVE with the four reads due. In every other case the flag is all
that changes. -/
def Obligations.PresenceGainIdentifies : Prop :=
  ∀ (b : BayIx) (s : State), s.populated b = true → (s.bay b).present = false →
    ∃ t, exec (.presenceGain b) s = .next t ∧
      t.steady = (s.modBay b fun x => { x with present := true }).steady ∧
      (s.cfl.phase ≠ .active ∨ (s.bay b).charge.state ≠ .vacant →
        t = s.modBay b fun x => { x with present := true }) ∧
      (s.cfl.phase = .active → (s.bay b).charge.state = .vacant →
        (t.bay b).charge.state = .identifying ∧ (t.bay b).charge.identTimer = some (s.now + 3000) ∧
        (t.bay b).charge.grant = 0 ∧ (t.bay b).charge.limit = 0 ∧ (t.bay b).charge.wish = 0 ∧
        ((s.bay b).channel.state = .off →
          (t.bay b).channel.state = .active ∧ (t.bay b).channel.drops = 0 ∧
          (t.bay b).channel.dueIdent = true ∧ (t.bay b).channel.dueBattery = true ∧
          (t.bay b).channel.dueRequest = true ∧ (t.bay b).channel.dueProfile = true))

/-- R57, R90, R112, R134: a presence loss clears the flag and the view; the channel is OFF with no exchange, no pending
write, no due mark and no timer; the bay is VACANT at 5 V with grant, limit and wish 0, or stays OUT_OF_SERVICE. In a
FORCED episode EVENT ASSET_MISSING goes into the queue (said for a station that holds no campaign and serves no lane).
In an AUTHORIZED episode of a CHECKOUT or OPEN, with an asset, the loan is recorded in the place of an earlier one of
the asset, where the list has room and the credential is no known TECHNICIAN; where it has none, EVENT LOAN_NOT_RECORDED
with asset and credential goes into the queue; else the loans stay. No other episode places a frame. (Order of the
blocks: entry 9.) -/
def Obligations.PresenceLossVacates : Prop :=
  ∀ (b : BayIx) (s : State), s.populated b = true → (s.bay b).present = true →
    let d := (s.bay b).door
    let lends (r : ReleaseRecord) (asset : Word32) : Prop :=
      (∃ e, d.episode = some e ∧ e.attr = .authorized ∧ e.asset = some asset) ∧ asset ≠ 0 ∧ d.release = some r ∧
      (r.reason = .checkout ∨ r.reason = .opening) ∧
      ¬ ∃ c, lookupCredential s.csu.credentials r.credential = some c ∧ c.role = .technician
    ∃ t, exec (.presenceLoss b) s = .next t ∧
      t.steady = (s.modBay b fun x => { x with
        present := false, view := {},
        channel := { x.channel with
          exchange := none, identTimer := none, batteryTimer := none, requestTimer := none, highRun := 0,
          lowRun := 0, wakeIdle := 0 } }).steady ∧
      (t.bay b).channel.state = .off ∧ (t.bay b).channel.drops = 0 ∧ pendingWrites (t.bay b).channel = [] ∧
      (t.bay b).channel.dueIdent = false ∧ (t.bay b).channel.dueBattery = false ∧
      (t.bay b).channel.dueRequest = false ∧ (t.bay b).channel.dueProfile = false ∧
      (t.bay b).channel.profileTimer = none ∧
      ((s.bay b).charge.state = .outOfService → (t.bay b).charge.state = .outOfService) ∧
      ((s.bay b).charge.state ≠ .outOfService →
        (t.bay b).charge.state = .vacant ∧ (t.bay b).charge.voltage = 5 ∧ (t.bay b).charge.grant = 0 ∧
        (t.bay b).charge.limit = 0 ∧ (t.bay b).charge.wish = 0 ∧ (t.bay b).charge.identTimer = none ∧
        (t.bay b).charge.unmanagedTimer = none ∧ (t.bay b).charge.overdraw = 0) ∧
      (∀ e : Episode, d.episode = some e → e.attr = .forced → lanesQuiet s → s.lkc.queue.length < 8 →
        t.lkc = { s.lkc with
          queue := insertFrame
            (newFrame .event 21 toAll ([BitVec.ofNat 8 b.val] ++ bytes32 (e.asset.getD 0) ++ [0, 0, 5]) .ldc)
            s.lkc.queue }) ∧
      (∀ (r : ReleaseRecord) (asset : Word32), lends r asset →
        let others : List Loan := s.csu.loans.filter fun l => l.asset != asset
        (others.length < 32 → t.csu.loans = insertLoan
          { asset := asset, credential := r.credential, bay := b, released := r.start,
            due := min (r.start + s.cfl.config.loanTime) 65535, state := .running } others) ∧
        (32 ≤ others.length → t.csu.loans = s.csu.loans ∧
          (lanesQuiet s → s.lkc.queue.length < 8 → t.lkc = { s.lkc with
            queue := insertFrame (newFrame .event 25 toAll (bytes32 asset ++ bytes32 r.credential) .csu) s.lkc.queue })) ∧
        (others.length < 32 → lanesQuiet s → t.lkc = s.lkc)) ∧
      ((∀ e : Episode, d.episode = some e → e.attr ≠ .forced) → (¬ ∃ r asset, lends r asset) → lanesQuiet s →
        t.lkc = s.lkc) ∧
      ((¬ ∃ r asset, lends r asset) → t.csu.loans = s.csu.loans)

/-- R58, R59, R60, R61, R63, R64: the identification timer expires: the bay is UNMANAGED at 5 V with the wish
P_unmanaged, and on an ACTIVE channel its IDENT reads follow every 10 s; nothing else changes outside what notices
change. The IDENT, BATTERY and CHARGE_REQUEST readings of an IDENTIFYING bay, in this order, complete its
identification: THERMAL, MAINTAIN or CHARGING by the battery, at the requested voltage, a session counted for CHARGING.
A BATTERY reading moves a managed bay to THERMAL, MAINTAIN or back, and a THERMAL bay out of it at T_hot − 5. A
CHARGE_REQUEST reading makes the moves of a managed bay by the battery of the view, CHARGING and HELD by the wish and
the grant; at grant 0 the port voltage takes the requested voltage at once, at another grant it stays until a split
lowers the grant to 0, and the wish is computed at the voltage of the port. An IDENT reading of a THERMAL or UNMANAGED
bay makes it IDENTIFYING with the 3 s timer and grant, limit and wish 0, the BATTERY, CHARGE_REQUEST and PROFILE reads
due. (The split that follows may make CHARGING HELD. Time: entry 4; a voltage taken in THERMAL, FAULT and
OUT_OF_SERVICE: entry 16; H_prov: entry 10.) -/
def Obligations.IdentificationTimesOut : Prop :=
  (∀ (b : BayIx) (d : Nat) (s : State), (s.bay b).charge.identTimer = some d →
    (s.bay b).charge.state = .identifying →
    ∃ t, exec (.identificationTimerExpired b) s = .next t ∧
      t.steady = { s with now := max s.now d }.steady ∧
      (t.bay b).charge.state = .unmanaged ∧ (t.bay b).charge.voltage = 5 ∧
      (t.bay b).charge.wish = s.cfl.config.unmanaged ∧ (t.bay b).charge.identTimer = none ∧
      (t.bay b).charge.unmanagedTimer =
        if (s.bay b).channel.state = .active then some (max s.now d + 10000) else none) ∧
  (∀ (b : BayIx) (s : State), managed (s.bay b).charge.state = true → (s.bay b).charge.grant ≠ 0 →
    let y := ((chargeReading b .chargeRequest (startWork s)).st.bay b).charge
    y.voltage = (s.bay b).charge.voltage ∧
    ((∀ z : Battery, (s.bay b).view.battery = some z → z.temperature < (s.cfl.config.tempHot : Int)) →
      y.grant = (s.bay b).charge.grant)) ∧
  ∀ (b : BayIx) (x : Exchange) (r : DockRegister) (data : List Byte) (check : Byte) (answer : List SampledByte)
    (s : State),
    (s.bay b).channel.exchange = some x → x.stage = .called → x.body = .read r →
    receivedBytes answer = some (callByte x.body x.number :: data ++ [check]) →
    data.length = registerLength r → sumGood (callByte x.body x.number :: data ++ [check]) = true →
    let c := (s.bay b).charge
    let hot (z : Battery) : Prop := (s.cfl.config.tempHot : Int) ≤ z.temperature
    let full (z : Battery) : Prop := z.full = true ∧ 95 ≤ z.soc
    ∃ t, exec (.readResponseReceived b answer) s = .next t ∧
      (c.state = .identifying →
        (r = .ident → c.stage = .awaitIdent →
          (t.bay b).charge.state = .identifying ∧ (t.bay b).charge.stage = .awaitBattery) ∧
        (r = .battery → c.stage = .awaitBattery →
          (t.bay b).charge.state = .identifying ∧ (t.bay b).charge.stage = .awaitRequest) ∧
        (r = .chargeRequest → c.stage = .awaitRequest →
          (t.bay b).charge.identTimer = none ∧
          (t.bay b).charge.voltage = voltageOfCode (readRequest data).code ∧
          (∀ z : Battery, (s.bay b).view.battery = some z →
            (hot z → (t.bay b).charge.state = .thermal ∧
              (t.bay b).counters.sessions = (s.bay b).counters.sessions) ∧
            (¬ hot z → full z → (t.bay b).charge.state = .maintain ∧
              (t.bay b).counters.sessions = (s.bay b).counters.sessions)) ∧
          ((∀ z : Battery, (s.bay b).view.battery = some z → ¬ hot z ∧ ¬ full z) →
            ((t.bay b).charge.state = .charging ∨ (t.bay b).charge.state = .held) ∧
            (t.bay b).counters.sessions = (s.bay b).counters.sessions + 1))) ∧
      (r = .ident → c.state = .thermal ∨ c.state = .unmanaged →
        let y := (t.bay b).charge
        y.state = .identifying ∧ y.stage = .awaitBattery ∧ y.identTimer = some (s.now + 3000) ∧
        y.unmanagedTimer = none ∧ y.grant = 0 ∧ y.limit = 0 ∧ y.wish = 0 ∧
        ((s.bay b).channel.state = .active ∨ (s.bay b).channel.state = .silent →
          (t.bay b).channel.state = .active ∧ (t.bay b).channel.dueBattery = true ∧
          (t.bay b).channel.dueRequest = true ∧ (t.bay b).channel.dueProfile = true)) ∧
      (r = .battery →
        let z := readBattery data
        (managed c.state = true →
          (hot z → (t.bay b).charge.state = .thermal ∧ (t.bay b).charge.grant = 0 ∧
            (t.bay b).charge.limit = 0 ∧ (t.bay b).charge.wish = 0) ∧
          (¬ hot z → full z → (t.bay b).charge.state = .maintain) ∧
          (¬ hot z → ¬ full z → (t.bay b).charge.state = .charging ∨ (t.bay b).charge.state = .held)) ∧
        (c.state = .thermal →
          ((s.cfl.config.tempHot : Int) - 5 < z.temperature → (t.bay b).charge.state = .thermal) ∧
          (z.temperature ≤ (s.cfl.config.tempHot : Int) - 5 → full z → (t.bay b).charge.state = .maintain) ∧
          (z.temperature ≤ (s.cfl.config.tempHot : Int) - 5 → ¬ full z →
            (t.bay b).charge.state = .charging ∨ (t.bay b).charge.state = .held))) ∧
      (r = .chargeRequest →
        let y := (t.bay b).charge
        let voltage : Nat := voltageOfCode (readRequest data).code
        let raised (wish : Nat) : Nat := if wish = 0 then 0 else max y.voltage wish
        let asked : Nat :=
          if (s.bay b).view.battery.any (fun z => z.fault) = true then 0
          else raised (min s.cfl.config.bayMax (readRequest data).power)
        let follows : Prop :=
          s.populated b = true → y.state = if y.wish ≠ 0 ∧ y.grant = 0 then .held else .charging
        (managed c.state = true →
          (∀ z : Battery, (s.bay b).view.battery = some z →
            (hot z → y.state = .thermal ∧ y.grant = 0 ∧ y.limit = 0 ∧ y.wish = 0 ∧
              y.voltage = if c.grant = 0 then voltage else c.voltage) ∧
            (¬ hot z → full z → y.state = .maintain) ∧
            (¬ hot z → ¬ full z → follows)) ∧
          ((s.bay b).view.battery = none → c.state = .maintain → y.state = .maintain) ∧
          ((s.bay b).view.battery = none → c.state ≠ .maintain → follows) ∧
          ((∀ z : Battery, (s.bay b).view.battery = some z → ¬ hot z) →
            (c.grant = 0 ∨ y.grant = 0 → y.voltage = voltage) ∧
            (y.voltage = c.voltage ∨ y.voltage = voltage) ∧
            y.wish = if t.laneWorking b = true then raised (asked + s.cfl.config.laneExtra) else asked)) ∧
        (c.state = .thermal ∨ c.state = .fault ∨ c.state = .outOfService →
          y.state = c.state ∧ y.voltage = if c.grant = 0 then voltage else c.voltage) ∧
        (c.state = .unmanaged → y.state = .unmanaged ∧ y.voltage = c.voltage))

/-- R61, R72: an UNMANAGED bay on an ACTIVE channel asks for its IDENT read every 10 s; a SHORT hold starts where the
watch runs and the voltage is below half the port voltage, and is abandoned at half of it or above. Nothing else
changes. (Time: entry 4.) -/
def Obligations.BayTimersAndShortHold : Prop :=
  ∀ (b : BayIx) (s : State),
    (∀ d : Nat, (s.bay b).charge.unmanagedTimer = some d → (s.bay b).charge.state = .unmanaged →
      (s.bay b).channel.state = .active →
      exec (.unmanagedReadTimerExpired b) s = .next
        ({ s with now := max s.now d }.modBay b fun x =>
          { x with
            charge := { x.charge with unmanagedTimer := some (d + 10000) },
            channel := { x.channel with dueIdent := true } })) ∧
    (∀ mV : Nat, s.populated b = true → takesPart (s.bay b).charge.state = true → (s.bay b).charge.limit ≠ 0 →
      2 * mV < 1000 * (s.bay b).charge.voltage → (s.bay b).charge.shortHold = none →
      exec (.shortHoldStart b mV) s = .next
        (s.modBay b fun x => { x with charge := { x.charge with shortHold := some (s.now + 50) } })) ∧
    (∀ mV : Nat, 1000 * (s.bay b).charge.voltage ≤ 2 * mV →
      exec (.shortHoldAbandoned b mV) s = .next
        (s.modBay b fun x => { x with charge := { x.charge with shortHold := none } }))

/-- R70, R72, R75: a completed SHORT hold trips the bay: FAULT with grant, limit and wish 0, the fault counted with its
time and kind; a second fault within 600 s sets the out-of-service attribute and the bay is OUT_OF_SERVICE. On an ACTIVE
channel the CHARGE_LIMIT write of 0 is pending. EVENT BAY_FAULT with the kind goes into the queue, and behind a second
fault EVENT OUT_OF_SERVICE (said for a station that holds no campaign and serves no lane, and for a second fault at a
bay without a claim). (Time: entry 4; a bay that was UNMANAGED: entry 14.) -/
def Obligations.ShortTripFaults : Prop :=
  ∀ (b : BayIx) (d : Nat) (s : State), (s.bay b).charge.shortHold = some d →
    takesPart (s.bay b).charge.state = true → (s.bay b).charge.limit ≠ 0 →
    let time : Nat := min ((max s.now d - s.bcc.since) / 1000) 4294967295
    let second : Prop := ∃ last : Nat, (s.bay b).charge.lastFault = some last ∧ time - last < 600
    ∃ t, exec (.shortTrip b) s = .next t ∧
      (second → t.steady = ({ s with now := max s.now d }.modBay b fun x =>
        { x with
          charge := { x.charge with lastFault := some time, faultKind := some .short },
          counters := { x.counters with faults := x.counters.faults + 1 },
          attrs := { x.attrs with outOfService := true } }).steady) ∧
      (¬ second → t.steady = ({ s with now := max s.now d }.modBay b fun x =>
        { x with
          charge := { x.charge with lastFault := some time, faultKind := some .short },
          counters := { x.counters with faults := x.counters.faults + 1 } }).steady) ∧
      (t.bay b).charge.grant = 0 ∧ (t.bay b).charge.limit = 0 ∧ (t.bay b).charge.wish = 0 ∧
      ((s.bay b).channel.state = .active → (t.bay b).channel.chargeLimit = some 0) ∧
      (let event : TxFrame := newFrame .event 22 toAll ([BitVec.ofNat 8 b.val, 0, 0, 0, 0, 0, 1, 6]) .bcc
       (¬ second → lanesQuiet s → s.lkc.queue.length < 8 →
         t.lkc = { s.lkc with queue := insertFrame event s.lkc.queue }) ∧
       (second → (s.bay b).claim = none → lanesQuiet s → s.lkc.queue.length < 7 →
         t.lkc = { s.lkc with
           queue := insertFrame (newFrame .event 23 toAll ([BitVec.ofNat 8 b.val, 0, 0, 0, 0, 0, 0, 7]) .bcc)
             (insertFrame event s.lkc.queue) })) ∧
      (¬ second → (t.bay b).charge.state = .fault) ∧
      (second → (s.bay b).attrs.outOfService = false → (t.bay b).charge.state = .outOfService)

/-- R64, R65: the wish and the class of a bay, by the tables of these rules; a bay computed afresh presents the need,
the sum of the wishes, where its wish changed, and starts a split where wish or class changed. R67, R68: the grants of a
split: one for every bay in order of class and within it of the list; the first pass gives the lesser of wish and P_min
where the remaining power allows it; the second pass lowers none and raises the open bays alone, so that while one stays
short all of the allowance is given, no bay of a later class is raised, and none of its class gains more than 1 dW
beyond it, nor any behind it more than it gains; no open bay stays short where power is left. R66, R69, R59, R70: a
split that runs gives each eligible bay its grant and the port limit of R68, every other bay none; the applied allowance
takes the allowance read; a bay lowered to 0 takes the voltage its tablet requests; a managed bay takes its wish, and is
HELD exactly with a wish and no grant (said for a bay whose battery is not hot, and full exactly in MAINTAIN, as
readings leave it); and a CHARGE_LIMIT write is pending at an ACTIVE channel of a bay whose grant changed or whose first
write is owed, unless it is UNMANAGED. Nothing else changes. (H_prov on a wish of 0: entry 10; class 2 of an UNMANAGED
bay whose view keeps a SoC: entry 34; the moments at which class and write are formed: entries 25 and 14.) -/
def Obligations.SplitStaysWithinTheAllowance : Prop :=
  (∀ (s : State) (b : BayIx),
    let x := s.bay b
    let c := x.charge
    let working : Prop := ∃ (n : LaneIx) (y : LaneSession),
      s.lane n = some y ∧ y.bay = b ∧ (y.stage = .waking ∨ y.stage = .connected)
    let raised (v : Nat) : Nat := if v = 0 then 0 else max c.voltage v
    let faulty : Prop := ∃ y : Battery, x.view.battery = some y ∧ y.fault = true
    let wishes (v : Nat) : Prop :=
      (¬ working → s.wishOf b = v) ∧ (working → s.wishOf b = raised (v + s.cfl.config.laneExtra))
    (c.state ∈ [.vacant, .identifying, .thermal, .fault, .outOfService] → s.wishOf b = 0) ∧
    (c.state = .unmanaged → s.wishOf b = s.cfl.config.unmanaged) ∧
    (c.state ∈ [.charging, .held, .maintain] →
      (faulty ∨ x.view.request = none → wishes 0) ∧
      ∀ r : ChargeRequest, ¬ faulty → x.view.request = some r → wishes (raised (min s.cfl.config.bayMax r.power))) ∧
    (let low : Prop := (∃ y : Battery, x.view.battery = some y ∧ y.soc < s.cfl.config.socLow) ∨ x.attrs.reserved = true
     let high : Prop := c.state ≠ .unmanaged ∧
       ∃ y : Battery, x.view.battery = some y ∧ (90 ≤ y.soc ∨ c.state = .maintain)
     (working → s.classOf b = 0) ∧ (¬ working → low → s.classOf b = 1) ∧
     (¬ working → ¬ low → high → s.classOf b = 3) ∧ (¬ working → ¬ low → ¬ high → s.classOf b = 2)) ∧
    let w := refreshWish b (startWork s)
    let fresh : State := s.setBay b { x with charge := { c with wish := s.wishOf b, cls := s.classOf b } }
    w.st = { fresh with
      shu := { s.shu with
        need := if s.wishOf b = c.wish then s.shu.need
          else ((allBays.filter fun b => s.populated b).map fun b => (fresh.bay b).charge.wish).sum } } ∧
    (.split ∈ w.todo ↔ s.wishOf b ≠ c.wish ∨ s.classOf b ≠ c.cls)) ∧
  (∀ (allowance bayMin : Nat) (bays : List SplitBay), (∀ x ∈ bays, x.cls ≤ 3 ∧ x.grant = 0) →
    let out := splitGrants allowance bayMin bays
    out.map (fun x => (x.bay, x.cls, x.wish)) =
      [0, 1, 2, 3].flatMap (fun k => (bays.filter fun x => x.cls == k).map fun x => (x.bay, x.cls, x.wish)) ∧
    (out.map fun x => x.grant).sum ≤ allowance ∧
    (∀ x ∈ out, x.grant ≤ x.wish ∧ (x.grant = 0 ∨ min x.wish bayMin ≤ x.grant)) ∧
    (∀ x ∈ out, x.grant < x.wish → 0 < x.grant → (out.map fun y => y.grant).sum = allowance) ∧
    ∃ first : List Nat, first.length = out.length ∧
      (∀ (i g : Nat) (x : SplitBay), first[i]? = some g → out[i]? = some x →
        g = (if min x.wish bayMin + (first.take i).sum ≤ allowance then min x.wish bayMin else 0) ∧
        g ≤ x.grant ∧ (g = 0 ∨ g = x.wish → x.grant = g)) ∧
      ∀ (i j g h : Nat) (x y : SplitBay), first[i]? = some g → out[i]? = some x → first[j]? = some h → out[j]? = some y →
        0 < g → x.grant < x.wish →
        (x.cls < y.cls → y.grant = h) ∧
        (x.cls = y.cls → y.grant - h ≤ x.grant - g + 1) ∧
        (x.cls = y.cls → i < j → y.grant - h ≤ x.grant - g)) ∧
  ∀ s : State,
    let eligible : List SplitBay :=
      (allBays.filter fun b =>
        s.populated b && decide ((s.bay b).charge.state ∈ [.charging, .held, .maintain, .unmanaged])).map fun b =>
          { bay := b, cls := (s.bay b).charge.cls, wish := (s.bay b).charge.wish, grant := 0 }
    let t := (handle .split (startWork s)).st
    t = { s with
      bcc := { s.bcc with applied := s.shu.allowance }, shu := { s.shu with need := t.shu.need }, bays := t.bays } ∧
    (∀ b : BayIx, s.populated b = false → t.bay b = s.bay b) ∧
    ∀ b : BayIx, s.populated b = true →
      let x := s.bay b
      let c := x.charge
      let writes (g : Nat) (owed : Bool) : Channel :=
        if x.channel.state = .active ∧ owed = true then { x.channel with chargeLimit := some g } else x.channel
      t.bay b = { x with charge := (t.bay b).charge, channel := (t.bay b).channel } ∧
      (c.state ∈ [.vacant, .identifying, .thermal, .fault, .outOfService] →
        (t.bay b).charge = { c with limitOwed := false } ∧ (t.bay b).channel = writes c.grant c.limitOwed) ∧
      ∀ y : SplitBay, c.state ∈ [.charging, .held, .maintain, .unmanaged] →
        y ∈ splitGrants s.shu.allowance s.cfl.config.bayMin eligible → y.bay = b →
        let g := y.grant
        let given : Charge :=
          if g = c.grant then { c with limitOwed := false }
          else
            let limit := min 3000 (g * 100 / c.voltage / 10 * 10)
            { c with
              grant := g, limit := limit, limitOwed := false, shortHold := if limit = 0 then none else c.shortHold }
        (c.state = .unmanaged → (t.bay b).charge = given ∧ (t.bay b).channel = x.channel) ∧
        ((c.state ∈ [.charging, .held, .maintain]) →
          (∀ z : Battery, x.view.battery = some z → z.temperature < s.cfl.config.tempHot ∧
            (z.full = true ∧ 95 ≤ z.soc ↔ c.state = .maintain)) →
          (t.bay b).charge = { given with
            voltage := if g = 0 ∧ g < c.grant then (x.view.request.map fun r => voltageOfCode r.code).getD 5 else c.voltage,
            wish := t.wishOf b, cls := t.classOf b,
            state := if c.state = .maintain then .maintain
              else if t.wishOf b ≠ 0 ∧ g = 0 then .held else .charging } ∧
          (t.bay b).channel = writes g (c.limitOwed || g != c.grant))

/-! ## Dock sideband -/

/-- R82, R83, R84, R91: the list is taken in the order CUSTODY, PROV_CONTROL and CHARGE_LIMIT writes, IDENT, BATTERY,
CHARGE_REQUEST and PROFILE reads, a SILENT channel taking an IDENT read alone; a call byte holds write, exchange number
and register; a read sends call and complement, a write also its data and a check byte that makes the sum 0. R80, R86,
R87, R88, R89, R93: what starts on a channel, after the levels of its wire: each stretch steps the counts, and changes
nothing else unless it makes the channel STUCK or ends STUCK. The highest entry of the list leaves it and begins with
the next exchange number once the wire has been high for 20 bit times, an IDENT read with its wake pulse; the call 384
bit times after a wake pulse; the retry after the gap, with the same number; before that, and where there is nothing to
start, the command does no more than the levels did. The reads that the timers make due. Nothing else changes. (Time:
entry 4; how the levels of the wire reach the counts: entry 5.) -/
def Obligations.SidebandStarts : Prop :=
  (∀ c : Channel,
    (c.state = .off ∨ c.state = .stuck → nextEntry c = none) ∧
    (c.state = .silent → nextEntry c = if c.dueIdent then some (.read .ident) else none) ∧
    (c.state = .active →
      (∀ v, c.custody = some v → nextEntry c = some (.write (.custody v))) ∧
      (∀ v, c.custody = none → c.provControl = some v → nextEntry c = some (.write (.provControl v))) ∧
      (∀ g, c.custody = none → c.provControl = none → c.chargeLimit = some g →
        nextEntry c = some (.write (.chargeLimit g))) ∧
      (c.custody = none → c.provControl = none → c.chargeLimit = none → nextEntry c =
        if c.dueIdent then some (.read .ident) else if c.dueBattery then some (.read .battery)
        else if c.dueRequest then some (.read .chargeRequest) else if c.dueProfile then some (.read .profile)
        else none)) ∧
    removeEntry (.read .ident) c = { c with dueIdent := false } ∧
    removeEntry (.read .battery) c = { c with dueBattery := false } ∧
    removeEntry (.read .chargeRequest) c = { c with dueRequest := false } ∧
    removeEntry (.read .profile) c = { c with dueProfile := false } ∧
    (∀ v, removeEntry (.write (.custody v)) c = { c with custody := none }) ∧
    (∀ v, removeEntry (.write (.provControl v)) c = { c with provControl := none }) ∧
    ∀ g, removeEntry (.write (.chargeLimit g)) c = { c with chargeLimit := none }) ∧
  (∀ number : BitVec 2,
    let call (body : ExchangeBody) : Byte := callByte body number
    let sends (w : DockWrite) (data : List Byte) : Prop := ∃ check : Byte,
      attemptBytes (.write w) number = [call (.write w), ~~~call (.write w)] ++ data ++ [check] ∧
      (call (.write w) :: data ++ [check]).foldl (· + ·) 0 = 0
    (call (.read .ident)).toNat = 32 * number.toNat ∧ (call (.read .battery)).toNat = 32 * number.toNat + 1 ∧
    (call (.read .chargeRequest)).toNat = 32 * number.toNat + 2 ∧
    (call (.read .profile)).toNat = 32 * number.toNat + 4 ∧
    (∀ r : DockRegister, attemptBytes (.read r) number = [call (.read r), ~~~call (.read r)]) ∧
    (∀ g : Nat, (call (.write (.chargeLimit g))).toNat = 128 + 32 * number.toNat + 3 ∧
      sends (.chargeLimit g) (bytes16 g)) ∧
    (∀ v : ProvWrite, (call (.write (.provControl v))).toNat = 128 + 32 * number.toNat + 5 ∧
      sends (.provControl v) [if v.enter then 1 else 2, v.campaign]) ∧
    ∀ v : CustodyWrite, (call (.write (.custody v))).toNat = 128 + 32 * number.toNat + 6 ∧
      sends (.custody v) ((if v.released then 2 else 1) :: bytes32 v.credential)) ∧
  (∀ (c : Channel) (r : WireRun),
    (c.state = .off ∨ r.length = 0 → watchRun r c = c) ∧
    (c.state ≠ .off → 0 < r.length → r.high = true → watchRun r c =
      { c with
        highRun := min (c.highRun + r.length) 1920, lowRun := 0, wakeIdle := min (c.wakeIdle + r.length) 384 }) ∧
    (c.state ≠ .off → 0 < r.length → r.high = false → watchRun r c =
      { c with
        highRun := 0, lowRun := min (c.lowRun + r.length) 480, wakeIdle := min (c.wakeIdle + r.length) 384 })) ∧
  (∀ (b : BayIx) (r : WireRun) (wire : List WireRun) (s : State),
    let seen := watchRun r (s.bay b).channel
    watchWire b [] s = s ∧ watchWire b (r :: wire) s = watchWire b wire (watchWire b [r] s) ∧
    ((seen.state = .active ∨ seen.state = .silent → seen.lowRun < 480) →
      (seen.state = .stuck → seen.highRun < 1920) →
      watchWire b [r] s = s.modBay b fun x => { x with channel := seen })) ∧
  ∀ (b : BayIx) (wire : List WireRun) (s : State),
    let u := watchWire b wire s
    let c := (u.bay b).channel
    let put (c' : Channel) : State := u.modBay b fun x => { x with channel := c' }
    let sent (body : ExchangeBody) (number : BitVec 2) (wake : Bool) : List Byte :=
      if wake then [] else attemptBytes body number
    (∀ body : ExchangeBody, c.exchange = none → nextEntry c = some body →
      (c.highRun < 20 → exec (.exchangeStart b wire) s = .next u) ∧
      (20 ≤ c.highRun → exec (.exchangeStart b wire) s = .next (put { removeEntry body c with
        counter := c.counter + 1, highRun := 0, lowRun := 0, wakeIdle := 0,
        exchange := some
          { body := body, number := c.counter + 1, retry := false,
            stage := if body = .read .ident then .waking else .called,
            sent := sent body (c.counter + 1) (decide (body = .read .ident)) } }))) ∧
    (c.exchange ≠ none ∨ nextEntry c = none → exec (.exchangeStart b wire) s = .next u) ∧
    (∀ x : Exchange, c.exchange = some x → x.stage = .waking →
      (c.highRun < 20 ∨ c.wakeIdle < 384 → exec (.callAfterWake b wire) s = .next u) ∧
      (20 ≤ c.highRun → 384 ≤ c.wakeIdle → exec (.callAfterWake b wire) s = .next (put { c with
        highRun := 0, lowRun := 0, wakeIdle := 0,
        exchange := some { x with stage := .called, sent := attemptBytes x.body x.number } }))) ∧
    ((∀ x : Exchange, c.exchange = some x → x.stage ≠ .waking) →
      exec (.callAfterWake b wire) s = .next u) ∧
    (∀ (x : Exchange) (silent : Bool), c.exchange = some x → x.stage = .retryWait silent →
      let wake : Bool := silent || decide (x.body = .read .ident)
      (c.highRun < 20 → exec (.retryStart b wire) s = .next u) ∧
      (20 ≤ c.highRun → exec (.retryStart b wire) s = .next (put { c with
        highRun := 0, lowRun := 0, wakeIdle := 0,
        exchange := some
          { x with
            retry := true, stage := if wake then .waking else .called, sent := sent x.body x.number wake } }))) ∧
    ((∀ (x : Exchange) (silent : Bool), c.exchange = some x → x.stage ≠ .retryWait silent) →
      exec (.retryStart b wire) s = .next u) ∧
    let was := (s.bay b).channel
    let due (now : Nat) (c' : Channel) : State := { s with now := now }.modBay b fun x => { x with channel := c' }
    (∀ d : Nat, was.state = .active →
      (was.batteryTimer = some d → exec (.pollTimerExpired b .battery) s = .next
        (due (max s.now d) { was with batteryTimer := none, dueBattery := true })) ∧
      (was.requestTimer = some d → exec (.pollTimerExpired b .chargeRequest) s = .next
        (due (max s.now d) { was with requestTimer := none, dueRequest := true })) ∧
      (was.profileTimer = some d → exec (.pollTimerExpired b .profile) s = .next
        (due (max s.now d) { was with profileTimer := none, dueProfile := true }))) ∧
    (∀ d : Nat, was.state = .silent → was.identTimer = some d →
      exec (.identPollTimerExpired b) s = .next
        (due (max s.now d) { was with identTimer := none, dueIdent := true }))

/-- R79, R83, R88, R93, R94, R96, R136, R138: a response that repeats the call byte and sums to 0, its bits the
majorities of their samples: the exchange is over and the part of the view that its register gives is replaced whole,
the others staying but for an IDENT of another asset, which clears them. A SILENT channel is ACTIVE again after an IDENT
read, and the poll timer of the register starts again on an ACTIVE channel. An identity of class FIRST or SWAP closes
the own loan of its asset and puts RETURNED into the queue, behind an EVENT SWAP placed first, and the CUSTODY write
DOCKED is pending where the new identity takes it; no other reading asks for a CUSTODY write (queue and PROFILE timer
are said for a station that holds no campaign and serves no lane, the timer also for a bay on a lane). (A PROFILE read
in progress when the bay was placed on a lane: entry 40.) -/
def Obligations.ReadResponseReplacesTheView : Prop :=
  (∀ (byte : Byte) (samples : SampledByte), samples.map majority = sidebandBits byte →
    readWireByte samples = .byte byte) ∧
  ∀ (b : BayIx) (x : Exchange) (r : DockRegister) (data : List Byte) (check : Byte) (answer : List SampledByte)
    (s : State),
    (s.bay b).channel.exchange = some x → x.stage = .called → x.body = .read r →
    receivedBytes answer = some (callByte x.body x.number :: data ++ [check]) →
    data.length = registerLength r → sumGood (callByte x.body x.number :: data ++ [check]) = true →
    let v := (s.bay b).view
    let new := (readIdentity data).asset
    let same : Prop := ∃ old : Identity, v.identity = some old ∧ old.asset = new
    ∃ t, exec (.readResponseReceived b answer) s = .next t ∧
      SteadyBut b s t ∧ (t.bay b).channel.exchange = none ∧ (t.bay b).present = (s.bay b).present ∧
      (t.bay b).attrs = (s.bay b).attrs ∧ (t.bay b).counters.steady = (s.bay b).counters.steady ∧
      (t.bay b).door.steady = (s.bay b).door.steady ∧ (t.bay b).channel.drops = 0 ∧
      (r = .ident → (∀ old : Identity, v.identity = some old → old.asset = (readIdentity data).asset) →
        (t.bay b).view = { v with identity := some (readIdentity data) }) ∧
      (∀ old : Identity, r = .ident → v.identity = some old → old.asset ≠ (readIdentity data).asset →
        (t.bay b).view = { identity := some (readIdentity data) }) ∧
      (r = .battery → (t.bay b).view = { v with battery := some (readBattery data) }) ∧
      (r = .chargeRequest → (t.bay b).view = { v with request := some (readRequest data) }) ∧
      (r = .profile → (t.bay b).view = { v with profile := some (readProfile data) }) ∧
      (r = .ident → (s.bay b).channel.state = .silent → (t.bay b).channel.state = .active) ∧
      ((s.bay b).channel.state = .active →
        (r = .battery → (t.bay b).channel.batteryTimer = some (s.now + 2000)) ∧
        (r = .chargeRequest → (t.bay b).channel.requestTimer = some (s.now + 2000)) ∧
        (r = .profile →
          lanesQuiet s ∨
            (s.laneOf b ≠ none ∧ ∀ i, (s.bay b).view.identity = some i → takesProvControl i = true) →
          (t.bay b).channel.profileTimer = some (s.now + if s.laneOf b = none then 30000 else 5000))) ∧
      (r ≠ .ident ∨ same →
        t.csu.loans = s.csu.loans ∧ (t.bay b).channel.custody = (s.bay b).channel.custody) ∧
      ((s.bay b).channel.state = .active ∨ (s.bay b).channel.state = .silent → r = .ident → ¬ same →
        (t.bay b).channel.custody =
          if takesCustody (readIdentity data) = true then some { released := false, credential := 0 }
          else (s.bay b).channel.custody) ∧
      (r = .ident → ¬ same →
        (lanesQuiet s ∨ (s.bay b).channel.state = .active →
          t.csu.loans = (s.csu.loans.filter fun l => l.asset != new)) ∧
        (lanesQuiet s → s.lkc.queue.length < 7 →
          let returned (cls : Byte) : TxFrame := newFrame .returned b.val toAll
            ([BitVec.ofNat 8 b.val] ++ bytes32 new ++ bytes16 s.csu.minute ++ [cls]) .csu
          (v.identity = none → t.lkc = { s.lkc with queue := insertFrame (returned 1) s.lkc.queue }) ∧
          (v.identity ≠ none → t.lkc = { s.lkc with
            queue := insertFrame (returned 2) (insertFrame
              (newFrame .event 24 toAll ([BitVec.ofNat 8 b.val] ++ bytes32 new ++ [0, 0, 8]) .sbc) s.lkc.queue) })))

/-- R58, R60, R61, R79, R80, R83, R84, R85, R86, R87, R88, R93: the failing endings. A first attempt awaits its retry,
which remembers whether no byte came, and nothing else changes; a retry that fails drops the exchange and counts it as
failed. A drop increases the drop count of an ACTIVE channel and starts the poll timer of a read again, on a SILENT one
that of IDENT; the third in a row makes the channel SILENT, with no pending write, the due marks of the other reads
clear and the IDENT poll timer running: a bay being identified or managed is then UNMANAGED at 5 V with the wish
P_unmanaged, its IDENT reads left to the channel, and a bay in THERMAL stays there, as every other does in its state. (A
PROFILE read in progress when the bay was placed on a lane: entry 40.) -/
def Obligations.FailedAttemptsAreRetriedOnce : Prop :=
  ∀ (b : BayIx) (x : Exchange) (s : State), (s.bay b).channel.exchange = some x →
    let c := (s.bay b).channel
    let polled (r : DockRegister) (c' : Channel) : Channel :=
      if r = .battery then { c' with batteryTimer := some (s.now + 2000) }
      else if r = .chargeRequest then { c' with requestTimer := some (s.now + 2000) }
      else if r = .profile then
        { c' with profileTimer := some (s.now + if s.laneOf b = none then 30000 else 5000) }
      else c'
    let dropped (c' : Channel) : State := s.modBay b fun y =>
      { y with channel := c', counters := { y.counters with failed := y.counters.failed + 1 } }
    let ends (i : Instr) (silent : Bool) : Prop :=
      (x.retry = false → exec i s = .next (s.modBay b fun y =>
        { y with channel := { y.channel with exchange := some { x with stage := .retryWait silent } } })) ∧
      (x.retry = true → ∃ t, exec i s = .next t ∧ SteadyBut b s t ∧ (t.bay b).channel.exchange = none ∧
        (t.bay b).counters.failed = (s.bay b).counters.failed + 1 ∧ (t.bay b).view = (s.bay b).view ∧
        (t.bay b).attrs = (s.bay b).attrs ∧ (t.bay b).present = (s.bay b).present ∧
        (c.state = .active → c.drops < 2 →
          (t.bay b).channel.state = .active ∧ (t.bay b).channel.drops = c.drops + 1 ∧
          ∀ r : DockRegister, x.body = .read r →
            t = dropped (polled r { c with exchange := none, drops := c.drops + 1 })) ∧
        (c.state = .active → 2 ≤ c.drops →
          (t.bay b).channel.state = .silent ∧ (t.bay b).channel.drops = 0 ∧
          pendingWrites (t.bay b).channel = [] ∧ (t.bay b).channel.dueBattery = false ∧
          (t.bay b).channel.dueRequest = false ∧ (t.bay b).channel.dueProfile = false ∧
          (t.bay b).channel.batteryTimer = none ∧ (t.bay b).channel.requestTimer = none ∧
          (t.bay b).channel.profileTimer = none ∧
          (t.bay b).channel.identTimer = some (s.now + 10000) ∧
          (managed (s.bay b).charge.state = true ∨ (s.bay b).charge.state = .identifying →
            (t.bay b).charge.state = .unmanaged ∧ (t.bay b).charge.voltage = 5 ∧
            (t.bay b).charge.wish = s.cfl.config.unmanaged ∧ (t.bay b).charge.identTimer = none ∧
            (t.bay b).charge.unmanagedTimer = none) ∧
          ((s.bay b).charge.state = .unmanaged →
            (t.bay b).charge.state = .unmanaged ∧ (t.bay b).charge.unmanagedTimer = none) ∧
          ((s.bay b).charge.state = .thermal →
            (t.bay b).charge.state = .thermal ∧ (t.bay b).charge.voltage = (s.bay b).charge.voltage ∧
            (t.bay b).charge.grant = (s.bay b).charge.grant ∧ (t.bay b).charge.limit = (s.bay b).charge.limit ∧
            ((s.bay b).charge.wish = 0 → (t.bay b).charge.wish = 0)) ∧
          ((s.bay b).charge.state = .vacant ∨ (s.bay b).charge.state = .fault ∨ (s.bay b).charge.state = .outOfService →
            (t.bay b).charge.state = (s.bay b).charge.state)) ∧
        (c.state = .silent → x.body = .read .ident →
          t = dropped { c with exchange := none, identTimer := some (s.now + 10000) }))
    (∀ (r : DockRegister) (answer : List SampledByte) (bytes : List Byte), x.stage = .called → x.body = .read r →
      receivedBytes answer = some bytes → bytes.length = registerLength r + 2 →
      byteAt bytes 0 ≠ callByte x.body x.number ∨ sumGood bytes = false →
      ends (.readResponseReceived b answer) false) ∧
    (∀ (r : DockRegister) (answer : List SampledByte) (bytes : List Byte), x.stage = .called → x.body = .read r →
      receivedBytes answer = some bytes → bytes.length ≤ registerLength r + 1 →
      ends (.responseWindowExpired b answer) (decide (bytes = []))) ∧
    (∀ (w : DockWrite) (answer : List SampledByte) (byte : Byte), x.stage = .called → x.body = .write w →
      receivedBytes answer = some [byte] → byte ≠ callByte x.body x.number → byte ≠ ~~~callByte x.body x.number →
      ends (.writeAckReceived b answer) false) ∧
    (∀ w : DockWrite, x.stage = .called → x.body = .write w → ends (.ackWindowExpired b) true) ∧
    (∀ samples : SampledByte, x.stage = .called → samples.length = 10 →
      (samples.map majority)[0]? = some false → (samples.map majority)[9]? = some false →
      ends (.framingError b samples) false) ∧
    (∀ (bit : Nat) (meant : Bool) (sample : BitSamples), x.stage = .called →
      (x.sent.flatMap sidebandBits)[bit]? = some meant → majority sample ≠ meant →
      ends (.sidebandBitError b bit sample) false) ∧
    (∀ (bit : Nat) (sample : BitSamples), x.stage = .waking → bit < 96 → majority sample = true →
      ends (.sidebandBitError b bit sample) false)

/-- R84, R85, R92, R138, R149, R152, R153: an acknowledgement or a refusal ends a write: the exchange is over and the
drop count 0. Nothing else changes for a CHARGE_LIMIT and for an accepted CUSTODY; a refused CUSTODY puts EVENT
CUSTODY_REFUSED into the queue. An accepted ENTER is noted by a lane machine in WAKING and a refused one ends its
session in FAIL_REFUSED; in every other stage an ENTER does nothing. An EXIT makes a lane machine in RELEASING IDLE, and
a release that waited for it starts (said for a station that holds no campaign); in every other stage it does nothing. A
write requested of a channel that is not ACTIVE is CANCELLED; one of a register that the held capability excludes is
REFUSED without an exchange, which also sets the drop count to 0 (entry 38); any other enters the list, where a pending
write of its register is REPLACED. -/
def Obligations.WriteAnswersEndTheExchange : Prop :=
  (∀ (b : BayIx) (x : DockWrite) (s : State),
    let c := (s.bay b).channel
    let put (c' : Channel) : State := s.modBay b fun y => { y with channel := c' }
    let excluded : Prop := ∃ i : Identity, (s.bay b).view.identity = some i ∧
      ((∃ v, x = .custody v) ∧ takesCustody i = false ∨ (∃ v, x = .provControl v) ∧ takesProvControl i = false)
    let entered : Channel := match x with
      | .custody v => { c with custody := some v }
      | .provControl v => { c with provControl := some v }
      | .chargeLimit g => { c with chargeLimit := some g }
    let old : Option DockWrite := match x with
      | .custody _ => c.custody.map .custody
      | .provControl _ => c.provControl.map .provControl
      | .chargeLimit _ => c.chargeLimit.map .chargeLimit
    (c.state ≠ .active → requestWrite b x (startWork s) = { st := s, todo := [.writeEnded b x .cancelled] }) ∧
    (c.state = .active → excluded →
      requestWrite b x (startWork s) = { st := put { c with drops := 0 }, todo := [.writeEnded b x .refused] }) ∧
    (c.state = .active → ¬ excluded →
      requestWrite b x (startWork s) =
        { st := put entered, todo := (old.map fun z => Notice.writeEnded b z .replaced).toList })) ∧
  ∀ (b : BayIx) (x : Exchange) (w : DockWrite) (answer : List SampledByte) (byte : Byte) (s : State),
    (s.bay b).channel.exchange = some x → x.stage = .called → x.body = .write w →
    receivedBytes answer = some [byte] →
    byte = callByte x.body x.number ∨ byte = ~~~callByte x.body x.number →
    let accepted : Prop := byte = callByte x.body x.number
    let ended : State := s.modBay b fun y => { y with channel := { y.channel with exchange := none, drops := 0 } }
    ∃ t, exec (.writeAckReceived b answer) s = .next t ∧ t.steady = ended.steady ∧
      (t.bay b).channel.drops = 0 ∧
      (∀ g : Nat, w = .chargeLimit g → t = ended) ∧
      (∀ v : CustodyWrite, w = .custody v →
        (accepted → t = ended) ∧
        (¬ accepted → s.lkc.queue.length < 8 → t = { ended with lkc := { s.lkc with
          queue := insertFrame
            (newFrame .event 30 toAll
              ([BitVec.ofNat 8 b.val] ++ bytes32 (((s.bay b).view.identity.map fun i => i.asset).getD 0) ++
                [0, if v.released then 2 else 1, 14]) .csu) s.lkc.queue } })) ∧
      (∀ v : ProvWrite, w = .provControl v →
        (s.laneOf b = none → t = ended) ∧
        ∀ (n : LaneIx) (y : LaneSession), s.laneOf b = some n → s.lane n = some y →
          (v.enter = true → y.stage = .waking → accepted → t = ended.setLane n (some { y with accepted := true })) ∧
          (v.enter = true → y.stage = .waking → ¬ accepted → (s.bay b).channel.state = .active →
            (∀ i, (s.bay b).view.identity = some i → takesProvControl i = true) →
            t.lane n = some { y with stage := .releasing .failRefused, wakeWait := none, limit := none } ∧
            (t.bay b).channel.provControl = some { enter := false, campaign := y.campaign } ∧
            (t.bay b).prov.attempts[y.slot] = (s.bay b).prov.attempts[y.slot] + 1 ∧
            (t.bay b).counters.provFailures = (s.bay b).counters.provFailures + 1) ∧
          (v.enter = true → y.stage ≠ .waking → t = ended) ∧
          (v.enter = false → (∀ o, y.stage ≠ .releasing o) → t = ended) ∧
          (∀ o : LaneOutcome, v.enter = false → y.stage = .releasing o → (∀ k : SlotIx, s.campaign k = none) →
            t.lane n = none ∧
            (∀ r : ReleaseRecord, (s.bay b).door.pendingLane = true → (s.bay b).door.release = some r →
              (t.bay b).door.state = .releasing ∧ (t.bay b).door.latch = .full ∧
              (t.bay b).door.pendingLane = false)))

/-- R58, R60, R61, R88, R89: the stretch of its wire in which the low-run count of an ACTIVE or SILENT channel reaches
480 makes it STUCK, with no exchange, no pending write, no due mark and no timer, whatever the wire does afterwards; the
stretch in which the high-run count of a STUCK channel reaches 1920 makes it SILENT with its IDENT read due at once.
Every other stretch changes the counts of the wire alone. After the first a bay being identified or managed is UNMANAGED
at 5 V with the wish P_unmanaged, and a bay in THERMAL stays there, as every other does in its state. (How the levels of
the wire reach the counts: entry 5; an exchange at any stage is dropped: entry 20.) -/
def Obligations.StuckWireSilences : Prop :=
  ∀ (b : BayIx) (s : State),
    let watches (i : List WireRun → Instr) : Prop :=
      (∀ wire : List WireRun, exec (i wire) s = .next (watchWire b wire s)) ∧
      ∀ r : WireRun,
        let was := (s.bay b).channel.state
        let seen := watchRun r (s.bay b).channel
        ∃ t, exec (i [r]) s = .next t ∧
          (∀ wire : List WireRun, exec (i (r :: wire)) s = exec (i wire) t) ∧
          ((was = .active ∨ was = .silent → seen.lowRun < 480) → (was = .stuck → seen.highRun < 1920) →
            t = s.modBay b fun x => { x with channel := seen }) ∧
          (was = .active ∨ was = .silent → 480 ≤ seen.lowRun →
            SteadyBut b s t ∧
            (t.bay b).channel.state = .stuck ∧ (t.bay b).channel.exchange = none ∧
            pendingWrites (t.bay b).channel = [] ∧ (t.bay b).channel.dueIdent = false ∧
            (t.bay b).channel.dueBattery = false ∧ (t.bay b).channel.dueRequest = false ∧
            (t.bay b).channel.dueProfile = false ∧ (t.bay b).channel.identTimer = none ∧
            (t.bay b).channel.batteryTimer = none ∧ (t.bay b).channel.requestTimer = none ∧
            (t.bay b).channel.profileTimer = none ∧ (t.bay b).channel.drops = 0 ∧ (t.bay b).view = (s.bay b).view ∧
            (t.bay b).attrs = (s.bay b).attrs ∧ (t.bay b).present = (s.bay b).present ∧
            (managed (s.bay b).charge.state = true ∨ (s.bay b).charge.state = .identifying →
              (t.bay b).charge.state = .unmanaged ∧ (t.bay b).charge.voltage = 5 ∧
              (t.bay b).charge.wish = s.cfl.config.unmanaged ∧ (t.bay b).charge.identTimer = none ∧
              (t.bay b).charge.unmanagedTimer = none) ∧
            ((s.bay b).charge.state = .unmanaged →
              (t.bay b).charge.state = .unmanaged ∧ (t.bay b).charge.unmanagedTimer = none) ∧
            ((s.bay b).charge.state = .thermal →
              (t.bay b).charge.state = .thermal ∧ (t.bay b).charge.voltage = (s.bay b).charge.voltage ∧
              (t.bay b).charge.grant = (s.bay b).charge.grant ∧ (t.bay b).charge.limit = (s.bay b).charge.limit ∧
              ((s.bay b).charge.wish = 0 → (t.bay b).charge.wish = 0)) ∧
            ((s.bay b).charge.state = .vacant ∨ (s.bay b).charge.state = .fault ∨ (s.bay b).charge.state = .outOfService →
              (t.bay b).charge.state = (s.bay b).charge.state)) ∧
          (was = .stuck → 1920 ≤ seen.highRun →
            SteadyBut b s t ∧
            (t.bay b).channel.state = .silent ∧ (t.bay b).channel.dueIdent = true ∧
            (t.bay b).channel.dueBattery = false ∧ (t.bay b).channel.dueRequest = false ∧
            (t.bay b).channel.dueProfile = false ∧ pendingWrites (t.bay b).channel = [] ∧
            (t.bay b).channel.identTimer = none ∧ (t.bay b).channel.drops = 0 ∧
            (t.bay b).view = (s.bay b).view ∧ (t.bay b).attrs = (s.bay b).attrs ∧
            (t.bay b).present = (s.bay b).present)
    watches (fun wire => .wireStuck b wire) ∧ watches (fun wire => .wireRecovered b wire)

/-! ## Latches and doors -/

/-- R102, R104, R105, R107, R108, R109: a door opens: from SECURE it is FORCED and counted, from RELEASING AUTHORIZED
with the cool-down running, from UNSECURED it is UNSECURED, each with a new episode that holds the asset of the view and
the ajar timer; from CLOSING it is OPEN again in its episode. An opening from RELEASING or CLOSING leaves the release
record as it is. The latch is off. A FORCED opening puts EVENT FORCED_OPEN with the asset into the queue, and cancels a
release that waits for a lane: its record is cleared and a DENY BAY_BUSY of 250 ms goes out; no other opening places a
frame (the queue is said for a station that holds no campaign and whose lane machines are IDLE or RELEASING). -/
def Obligations.DoorOpens : Prop :=
  ∀ (b : BayIx) (s : State), DoorLaw s → s.populated b = true → (s.bay b).door.closed = true →
    let asset : Option Word32 := (s.bay b).view.identity.map fun i => i.asset
    let begun (a : OpenAttr) : Option Episode :=
      some { attr := a, asset := asset, ajar := some (s.now + s.cfl.config.ajarTime * 1000) }
    ∃ t, exec (.doorOpens b) s = .next t ∧ SteadyBut b s t ∧ (t.bay b).door.closed = false ∧
      (t.bay b).door.bolt = (s.bay b).door.bolt ∧ (t.bay b).door.latch = .off ∧
      (t.bay b).door.closeHold = none ∧ (t.bay b).door.boltWait = none ∧ (t.bay b).door.pendingLane = false ∧
      (t.bay b).view = (s.bay b).view ∧ (t.bay b).present = (s.bay b).present ∧ (t.bay b).attrs = (s.bay b).attrs ∧
      ((s.bay b).door.state = .secure →
        (t.bay b).door.state = .opened .forced ∧ (t.bay b).door.episode = begun .forced ∧
        (t.bay b).counters.forcedOpens = (s.bay b).counters.forcedOpens + 1 ∧ (t.bay b).prov.switch = none ∧
        (let event : TxFrame := newFrame .event 17 toAll
          ([BitVec.ofNat 8 b.val] ++ bytes32 (asset.getD 0) ++ [0, 0, 1]) .ldc
         (lanesEnding s → (s.bay b).door.pendingLane = false → s.lkc.queue.length < 8 →
           t.lkc = { s.lkc with queue := insertFrame event s.lkc.queue }) ∧
         ∀ r : ReleaseRecord, (s.bay b).door.pendingLane = true → (s.bay b).door.release = some r →
           (t.bay b).door.release = none ∧
           (lanesEnding s → s.lkc.queue.length < 7 → t.lkc = { s.lkc with
             queue := insertFrame
               { newFrame .deny 6 toAll ([BitVec.ofNat 8 r.reader.val, r.sequence, 6] ++ bytes32 r.credential) .csu with
                 deadline := some (s.now + 250) } (insertFrame event s.lkc.queue) })) ∧
        (t.bay b).door.coolDown = (s.bay b).door.coolDown) ∧
      ((s.bay b).door.state ≠ .secure → lanesEnding s → t.lkc = s.lkc) ∧
      ((s.bay b).door.state = .releasing →
        (t.bay b).door.state = .opened .authorized ∧ (t.bay b).door.episode = begun .authorized ∧
        (t.bay b).counters.forcedOpens = (s.bay b).counters.forcedOpens ∧
        (t.bay b).door.window = none ∧ (t.bay b).door.coolDown = some (s.now + 2000) ∧
        (t.bay b).door.release = (s.bay b).door.release) ∧
      ((s.bay b).door.state = .unsecured →
        (t.bay b).door.state = .opened .unsecured ∧ (t.bay b).door.episode = begun .unsecured ∧
        (t.bay b).counters.forcedOpens = (s.bay b).counters.forcedOpens ∧
        (t.bay b).door.coolDown = (s.bay b).door.coolDown) ∧
      (∀ e : Episode, (s.bay b).door.state = .closing → (s.bay b).door.episode = some e →
        (t.bay b).door.state = .opened e.attr ∧ (t.bay b).door.episode = some e ∧
        (t.bay b).door.release = (s.bay b).door.release ∧
        (t.bay b).counters.forcedOpens = (s.bay b).counters.forcedOpens ∧
        (t.bay b).door.coolDown = (s.bay b).door.coolDown)

/-- R102, R109, R110: a door closes: CLOSING with bolt wait and close hold, or SECURE at once with a thrown bolt. A bolt
thrown behind a closed door makes CLOSING and UNSECURED SECURE, and the episode ends unless the close hold runs; one
that clears at a SECURE door outside the bolt wait makes it UNSECURED, with EVENT LATCH_FAULT of cause 2, and cancels a
release that waits for a lane: its record is cleared and a DENY BAY_BUSY of 250 ms goes out. In every other case the flag
alone changes. (The queue is said for a station that holds no campaign and whose lane machines are IDLE or RELEASING.) -/
def Obligations.DoorClosesAndBoltMoves : Prop :=
  ∀ (b : BayIx) (s : State), DoorLaw s → s.populated b = true →
    let d := (s.bay b).door
    let flag (c bolt : Bool) : State := s.modBay b fun x => { x with door := { x.door with closed := c, bolt := bolt } }
    (d.closed = false →
      ∃ t, exec (.doorCloses b) s = .next t ∧ SteadyBut b s t ∧ (t.bay b).door.closed = true ∧
        (t.bay b).door.bolt = d.bolt ∧ (t.bay b).door.closeHold = some (s.now + 250) ∧
        (t.bay b).door.episode = d.episode ∧ (t.bay b).door.coolDown = d.coolDown ∧
        (d.bolt = false →
          (t.bay b).door.state = .closing ∧ (t.bay b).door.boltWait = some (s.now + 1000)) ∧
        (d.bolt = true → (t.bay b).door.state = .secure ∧ (t.bay b).door.boltWait = none) ∧
        (lanesEnding s → t.lkc = s.lkc)) ∧
    (d.bolt = false →
      (d.closed = true → d.state = .closing ∨ d.state = .unsecured →
        ∃ t, exec (.boltThrown b) s = .next t ∧ SteadyBut b s t ∧ (t.bay b).door.bolt = true ∧
          (t.bay b).door.state = .secure ∧ (t.bay b).door.boltWait = none ∧
          (t.bay b).door.episode = (if d.closeHold = none then none else d.episode) ∧
          (lanesEnding s → t.lkc = s.lkc)) ∧
      (d.closed = false ∨ d.state = .secure ∨ d.state = .releasing →
        exec (.boltThrown b) s = .next (flag d.closed true))) ∧
    (d.bolt = true →
      (d.closed = true → d.state = .secure → d.boltWait = none →
        ∃ t, exec (.boltClears b) s = .next t ∧ SteadyBut b s t ∧ (t.bay b).door.bolt = false ∧
          (t.bay b).door.state = .unsecured ∧ (t.bay b).door.pendingLane = false ∧ (t.bay b).prov.switch = none ∧
          (t.bay b).door.episode = (if d.closeHold = none then none else d.episode) ∧
          let event : TxFrame := newFrame .event 19 toAll ([BitVec.ofNat 8 b.val, 0, 0, 0, 0, 0, 2, 3]) .ldc
          (lanesEnding s → d.pendingLane = false → s.lkc.queue.length < 8 →
            t.lkc = { s.lkc with queue := insertFrame event s.lkc.queue }) ∧
          ∀ r : ReleaseRecord, d.pendingLane = true → d.release = some r →
            (t.bay b).door.release = none ∧
            (lanesEnding s → s.lkc.queue.length < 7 → t.lkc = { s.lkc with
              queue := insertFrame
                { newFrame .deny 6 toAll ([BitVec.ofNat 8 r.reader.val, r.sequence, 6] ++ bytes32 r.credential) .csu with
                  deadline := some (s.now + 250) } (insertFrame event s.lkc.queue) })) ∧
      (d.closed = false ∨ d.state ≠ .secure ∨ d.boltWait ≠ none →
        exec (.boltClears b) s = .next (flag d.closed false)))

/-- R99, R104, R105, R132, R138: the pull-in ends with reduced drive and the cool-down ends, and nothing else changes;
the release window that expires with the door closed ends the release: SECURE, latch off, no record, cool-down and bolt
wait running, and a release of reason CHECKOUT, OPEN or SERVICE with a tablet present leaves the CUSTODY write DOCKED
pending on an ACTIVE channel whose tablet takes it, and no other does. EVENT RELEASE_UNUSED with the release's reason
goes into the queue (the queue is said for a station that holds no campaign and whose lane machines are IDLE or
RELEASING). (Time: entry 4.) -/
def Obligations.LatchTimersExpire : Prop :=
  ∀ (b : BayIx) (d : Nat) (s : State),
    let x := (s.bay b).door
    ((s.bay b).door.pullIn = some d → x.state = .releasing →
      exec (.pullInEnd b) s = .next ({ s with now := max s.now d }.modBay b fun y =>
        { y with door := { y.door with pullIn := none, latch := .reduced } })) ∧
    (x.coolDown = some d →
      exec (.coolDownEnd b) s = .next ({ s with now := max s.now d }.modBay b fun y =>
        { y with door := { y.door with coolDown := none } })) ∧
    (DoorLaw s → x.window = some d → x.state = .releasing →
      ∃ t, exec (.releaseWindowExpired b) s = .next t ∧
        t.steady = ({ s with now := max s.now d }.modBay b fun y =>
          { y with door := { y.door with coolDown := some (max s.now d + 2000) } }).steady ∧
        (t.bay b).door.state = .secure ∧ (t.bay b).door.latch = .off ∧ (t.bay b).door.release = none ∧
        (t.bay b).door.window = none ∧ (t.bay b).door.pullIn = none ∧
        (t.bay b).door.boltWait = some (max s.now d + 1000) ∧
        (∀ r : ReleaseRecord, x.release = some r →
          (t.bay b).channel.custody =
            if (r.reason = .checkout ∨ r.reason = .opening ∨ r.reason = .service) ∧ (s.bay b).present = true ∧
                (s.bay b).channel.state = .active ∧ (s.bay b).view.identity.all takesCustody = true then
              some { released := false, credential := 0 }
            else (s.bay b).channel.custody) ∧
        ∀ r : ReleaseRecord, x.release = some r → lanesEnding s → s.lkc.queue.length < 8 →
          t.lkc = { s.lkc with
            queue := insertFrame
              (newFrame .event 20 toAll ([BitVec.ofNat 8 b.val, 0, 0, 0, 0, 0, BitVec.ofNat 8 (reasonCode r.reason), 4]) .ldc)
              s.lkc.queue })

/-- R109, R110: the bolt wait expires: in CLOSING the door is UNSECURED; in SECURE the wait alone ends while the bolt is
thrown, and with a clear bolt the door is UNSECURED. EVENT LATCH_FAULT goes into the queue, with cause 1 in CLOSING and
cause 3 in SECURE, where a release that waits for a lane is cancelled as well: its record is cleared and a DENY BAY_BUSY
of 250 ms goes out (the queue is said for a station that holds no campaign and whose lane machines are IDLE or
RELEASING). An episode whose close hold has passed ends with it. (Time: entry 4.) -/
def Obligations.BoltWaitExpires : Prop :=
  ∀ (b : BayIx) (d : Nat) (s : State), (s.bay b).door.boltWait = some d →
    let x := (s.bay b).door
    let unlocked (cause : Byte) (t : State) : Prop := t.now = max s.now d ∧ SteadyBut b { s with now := max s.now d } t ∧
      (t.bay b).door.state = .unsecured ∧ (t.bay b).door.latch = .off ∧ (t.bay b).door.boltWait = none ∧
      (t.bay b).door.pendingLane = false ∧ (t.bay b).prov.switch = none ∧
      (t.bay b).door.closed = x.closed ∧ (t.bay b).door.bolt = x.bolt ∧
      (t.bay b).door.episode = (if x.closeHold = none then none else x.episode) ∧
      let event : TxFrame := newFrame .event 19 toAll ([BitVec.ofNat 8 b.val, 0, 0, 0, 0, 0, cause, 3]) .ldc
      (lanesEnding s → x.pendingLane = false → s.lkc.queue.length < 8 →
        t.lkc = { s.lkc with queue := insertFrame event s.lkc.queue }) ∧
      ∀ r : ReleaseRecord, x.pendingLane = true → x.release = some r →
        (t.bay b).door.release = none ∧
        (lanesEnding s → s.lkc.queue.length < 7 → t.lkc = { s.lkc with
          queue := insertFrame
            { newFrame .deny 6 toAll ([BitVec.ofNat 8 r.reader.val, r.sequence, 6] ++ bytes32 r.credential) .csu with
              deadline := some (max s.now d + 250) } (insertFrame event s.lkc.queue) })
    (x.state = .closing → ∃ t, exec (.boltWaitClosingExpired b) s = .next t ∧ unlocked 1 t) ∧
    (x.state = .secure → x.bolt = false → ∃ t, exec (.boltWaitReleaseExpired b) s = .next t ∧ unlocked 3 t) ∧
    (x.state = .secure → x.bolt = true →
      exec (.boltWaitReleaseExpired b) s = .next ({ s with now := max s.now d }.modBay b fun y =>
        { y with door := { y.door with boltWait := none } }))

/-- R102, R111, R135, R138: the close hold ends: in SECURE and UNSECURED the episode ends with it and the release record
is cleared, elsewhere nothing else changes; where the episode is AUTHORIZED, the release of reason CHECKOUT, OPEN or
SERVICE and a tablet present, the CUSTODY write DOCKED is pending on an ACTIVE channel whose tablet takes it; the ajar
timer of an episode stops and EVENT AJAR goes into the queue. (Time: entry 4.) -/
def Obligations.EpisodeTimersExpire : Prop :=
  ∀ (b : BayIx) (d : Nat) (s : State),
    let x := (s.bay b).door
    let held : State := { s with now := max s.now d }
    (x.closeHold = some d →
      ∃ t, exec (.closeHoldEnd b) s = .next t ∧
        (x.state ≠ .secure → x.state ≠ .unsecured →
          t = held.modBay b fun y => { y with door := { y.door with closeHold := none } }) ∧
        (x.state = .secure ∨ x.state = .unsecured →
          t.steady = (held.modBay b fun y =>
            { y with door := { y.door with closeHold := none, episode := none } }).steady ∧
          (x.pendingLane = false → (t.bay b).door.state = x.state ∧
            (x.episode ≠ none → (t.bay b).door.release = none) ∧
            ∀ (e : Episode) (r : ReleaseRecord), x.episode = some e → x.release = some r →
              (t.bay b).channel.custody =
                if e.attr = .authorized ∧
                    (r.reason = .checkout ∨ r.reason = .opening ∨ r.reason = .service) ∧ (s.bay b).present = true ∧
                    (s.bay b).channel.state = .active ∧ (s.bay b).view.identity.all takesCustody = true then
                  some { released := false, credential := 0 }
                else (s.bay b).channel.custody))) ∧
    (∀ e : Episode, x.episode = some e → e.ajar = some d →
      let stopped : State := held.modBay b fun y => { y with door := { y.door with episode := some { e with ajar := none } } }
      ∃ t, exec (.ajarTimerExpired b) s = .next t ∧ t.steady = stopped.steady ∧
        (s.lkc.queue.length < 8 →
          t = { stopped with lkc := { s.lkc with
            queue := insertFrame
              (newFrame .event 18 toAll
                ([BitVec.ofNat 8 b.val, 0, 0, 0, 0, 0, BitVec.ofNat 8 (attrCode e.attr), 2]) .ldc) s.lkc.queue } }))

/-! ## Credentials, checkout and loans -/

/-- R116, R120, R137: a minute: the counter increases by 1, held at 65535; the GUEST entries whose lifetime has passed
leave the table; the running loans that fall due are overdue, and for each of them, in the order of the list, an OVERDUE
frame goes into the queue (said where it has room for them), and nothing else changes. (Time: entry 4.) -/
def Obligations.MinutePasses : Prop :=
  ∀ s : State,
    let minute : Nat := min (s.csu.minute + 1) 65535
    ∃ t, exec .minuteTick s = .next t ∧
      t.steady = { s with
        now := max s.now s.csu.minuteTimer,
        csu := { s.csu with
          minute := minute, minuteTimer := s.csu.minuteTimer + 60000,
          credentials := s.csu.credentials.filter fun e =>
            !(e.role == CredentialRole.guest && decide (min (e.enrolled + s.cfl.config.guestTime) 65535 ≤ minute)) } }.steady ∧
      (t.csu.loans = s.csu.loans.map fun l =>
        if l.state = .running ∧ l.due ≤ minute then { l with state := .overdue } else l) ∧
      let due : List Loan := s.csu.loans.filter fun l => l.state == .running && decide (l.due ≤ minute)
      (s.lkc.queue.length + due.length ≤ 8 →
        t = { s with
          now := max s.now s.csu.minuteTimer, csu := t.csu,
          lkc := { s.lkc with
            queue := due.foldl (fun q l => insertFrame
              (newFrame .overdue 64 toAll
                (bytes32 l.asset ++ bytes32 l.credential ++ [BitVec.ofNat 8 l.bay.val] ++ bytes16 l.due) .csu) q)
              s.lkc.queue } })

/-- R117, R118: an ENROLL of a usable number and role writes its entry, enrolled at this minute, where the number
is known or the table has room; the other entries stay, and the entry is the one found for the number. In a full table
EVENT TABLE_FULL goes out instead; a number of 0 or 0xFFFFFFFF and a value that is no role change nothing. The hand is
free. (Hand: entry 2.) -/
def Obligations.EnrollWritesTheEntry : Prop :=
  ∀ (f : RxFrame) (s : State), s.hands.csu = some f → f.kind = .enroll →
    let number := word32At f.body 0
    let usable : Prop := number ≠ 0 ∧ number ≠ 0xFFFFFFFF
    let known : Prop := ∃ e ∈ s.csu.credentials, e.number = number
    let free : State := { s with hands := { s.hands with csu := none } }
    ∃ t, exec .enroll s = .next t ∧
      (∀ role : CredentialRole, credentialRoleOfByte (byteAt f.body 4) = some role → usable →
        CredentialLaw s → known ∨ s.csu.credentials.length < 256 →
        t = { free with csu := { s.csu with credentials := t.csu.credentials } } ∧
        lookupCredential t.csu.credentials number = some
          { number := number, role := role, groups := word16At f.body 5,
            asset := if word32At f.body 7 = 0 then none else some (word32At f.body 7),
            suspended := (byteAt f.body 11).getLsbD 0, enrolled := s.csu.minute } ∧
        ∀ other : Word32, other ≠ number →
          lookupCredential t.csu.credentials other = lookupCredential s.csu.credentials other) ∧
      (∀ role : CredentialRole, credentialRoleOfByte (byteAt f.body 4) = some role → usable → ¬ known →
        256 ≤ s.csu.credentials.length → s.lkc.queue.length < 8 →
        t = { free with lkc := { s.lkc with
          queue := insertFrame
            (newFrame .event 26 toAll ([255] ++ bytes32 number ++ [0, 1, 10]) .csu) s.lkc.queue } }) ∧
      (credentialRoleOfByte (byteAt f.body 4) = none ∨ ¬ usable → t = free)

/-- R119, R136: REVOKE removes the entry of its number, or every entry for 0xFFFFFFFF; a RELEASED or RETURNED of
another shelf closes the loan of its asset. The hand is free; nothing else changes. (Hand: entry 2.) -/
def Obligations.EntriesAreRemoved : Prop :=
  ∀ (f : RxFrame) (s : State), s.hands.csu = some f →
    let free : State := { s with hands := { s.hands with csu := none } }
    let closed : State := { free with csu := { s.csu with
      loans := s.csu.loans.filter fun l => l.asset != word32At f.body 1 } }
    (f.kind = .revoke → exec .revoke s = .next { free with csu := { s.csu with
      credentials :=
        if word32At f.body 0 = 0xFFFFFFFF then []
        else s.csu.credentials.filter fun e => e.number != word32At f.body 0 } }) ∧
    (f.kind = .released → exec .releasedHeard s = .next closed) ∧
    (f.kind = .returned → exec .returnedHeard s = .next closed)

/-- R62, R76, R121, R122, R131: a BAYSET whose authoriser is known and not suspended, for a populated bay: the next
field of its mask is taken into the attributes where the role level permits it (group and reserved: up to STAFF; the
others: TECHNICIAN), and a permitted CLEAR_FAULT makes a bay in FAULT IDENTIFYING; a field that is not permitted changes
nothing but the hand. A change that sets reserved or out-of-service or changes the group cancels the bay's claim: it
goes, its OFFER is withdrawn where it is still queued, and the own answer of its slot becomes NONE (the queue and what
else stays are said for a station that holds no campaign and serves no lane). Out-of-service set makes the bay
OUT_OF_SERVICE with grant, limit and wish 0 and its timers and watches off; cleared, it makes the bay IDENTIFYING where
a tablet is present in ACTIVE, and else VACANT at 5 V. An unknown or suspended authoriser ends the BAYSET with EVENT
AUTH_REJECT of kind 1; a bay index at or above the populated count, or a mask that names no field, ends it with no
event. (Order of fields and hand: entries 2 and 24; order of the notices of a change that cancels a claim: entry 44.) -/
def Obligations.BaysetFieldsAreTaken : Prop :=
  ∀ (f : RxFrame) (s : State), s.hands.csu = some f → f.kind = .bayset →
    let fields : List Instr :=
      [.baysetGroup, .baysetOpenLevel, .baysetReserved, .baysetOutOfService, .baysetProvOptOut, .baysetClearFault]
    let author := word32At f.body 0
    let known (e : CredentialEntry) : Prop :=
      lookupCredential s.csu.credentials author = some e ∧ e.suspended = false
    let mask := byteAt f.body 5
    let free : State := { s with hands := { s.hands with csu := none } }
    ((¬ ∃ e, known e) → ∀ i ∈ fields, ∃ t, exec i s = .next t ∧ t.steady = free.steady ∧
      (s.lkc.queue.length < 8 → t = { free with lkc := { s.lkc with
        queue := insertFrame
          (newFrame .event 27 toAll ([255] ++ bytes32 author ++ [0, 1, 11]) .csu) s.lkc.queue } })) ∧
    ∀ e : CredentialEntry, known e →
      (8 ≤ (byteAt f.body 4).toNat ∨ s.cfl.populated ≤ (byteAt f.body 4).toNat ∨ mask &&& 0x3F = 0 →
        ∀ i ∈ fields, exec i s = .next free) ∧
      ∀ b : BayIx, (byteAt f.body 4).toNat = b.val → b.val < s.cfl.populated →
        let a := (s.bay b).attrs
        let next (k : Nat) : Prop := mask.getLsbD k = true ∧ ∀ j < k, mask.getLsbD j = false
        let held (k : Nat) : Option RxFrame :=
          let rest := (mask &&& 0x3F) &&& ~~~(1#8 <<< k)
          if rest = 0 then none else some { f with body := f.body.set 5 rest }
        let put (k : Nat) (new : BayAttrs) : State :=
          { s with hands := { s.hands with csu := held k } }.modBay b fun x => { x with attrs := new }
        let cancels (new : BayAttrs) : Prop := (new.reserved = true ∧ a.reserved = false) ∨
          (new.outOfService = true ∧ a.outOfService = false) ∨ new.group ≠ a.group
        let cancelled (c : PendingClaim) (t : State) : Prop :=
          (t.bay b).claim = none ∧
          (∀ x : PresentationSlot, s.slot c.reader = some x → x.sequence = c.sequence →
            t.slot c.reader = some { x with own := .none }) ∧
          (lanesQuiet s →
            (∀ x : PresentationSlot, s.slot c.reader = some x → x.sequence ≠ c.sequence →
              t.slot c.reader = some x) ∧
            (c.inWindow = true → t.lkc = s.lkc) ∧
            (c.inWindow = false → t.lkc = { s.lkc with
              queue := withdrawFrames (slotAnswer .offer c.reader c.sequence) s.lkc.queue }))
        let taken (i : Instr) (k level : Nat) (new : BayAttrs) : Prop := next k →
          ∃ t, exec i s = .next t ∧
            (roleLevel e.role ≤ level → t.steady = (put k new).steady ∧ (new = a → t = put k a) ∧
              (cancels new → ∀ c : PendingClaim, (s.bay b).claim = some c → cancelled c t) ∧
              (¬ cancels new → lanesQuiet s → t.lkc = s.lkc ∧ t.csu.slots = s.csu.slots ∧ (t.bay b).claim = (s.bay b).claim)) ∧
            (level < roleLevel e.role → t = put k a)
        taken .baysetGroup 0 1 { a with group := ⟨(byteAt f.body 6).toNat % 16, Nat.mod_lt _ (by decide)⟩ } ∧
        taken .baysetOpenLevel 1 0 { a with
          openLevel := ⟨min 3 ((byteAt f.body 6).toNat / 16), Nat.lt_succ_of_le (Nat.min_le_left _ _)⟩ } ∧
        taken .baysetReserved 2 1 { a with reserved := byteAt f.body 7 != 0 } ∧
        taken .baysetOutOfService 3 0 { a with outOfService := byteAt f.body 8 != 0 } ∧
        taken .baysetProvOptOut 4 0 { a with optOut := byteAt f.body 9 != 0 } ∧
        (next 3 → roleLevel e.role = 0 → ∃ t, exec .baysetOutOfService s = .next t ∧
          let y := (t.bay b).charge
          let rests : Prop := y.grant = 0 ∧ y.limit = 0 ∧ y.wish = 0 ∧ y.unmanagedTimer = none ∧ y.shortHold = none ∧
            y.overdraw = 0
          let tablet : Prop := (s.bay b).present = true ∧ s.cfl.phase = .active
          (byteAt f.body 8 ≠ 0 → a.outOfService = false →
            y.state = .outOfService ∧ y.identTimer = none ∧ rests) ∧
          (byteAt f.body 8 = 0 → a.outOfService = true → (s.bay b).charge.state = .outOfService →
            rests ∧
            (tablet → y.state = .identifying ∧ y.identTimer = some (s.now + 3000)) ∧
            (¬ tablet → y.state = .vacant ∧ y.voltage = 5 ∧ y.identTimer = none))) ∧
        (next 5 → ∃ t, exec .baysetClearFault s = .next t ∧ t.steady = (put 5 a).steady ∧
          (roleLevel e.role = 0 → (s.bay b).charge.state = .fault →
            (t.bay b).charge.state = .identifying ∧ (t.bay b).charge.grant = 0 ∧
            (t.bay b).charge.identTimer = some (s.now + 3000)) ∧
          (roleLevel e.role ≠ 0 ∨ (s.bay b).charge.state ≠ .fault → t = put 5 a))

/-- R115, R123, R171, R173: a RESTART of an unsuspended TECHNICIAN is a station restart, after which the doors are as
their first sample finds them unless the restart line is held; any other leaves the state as it is but for the hand and
an EVENT AUTH_REJECT of kind 2 (said where the queue has room). (Hand: entry 2; straps: entry 1; A, K, U and X until
they are formed anew, and T_ajar: entry 6.) -/
def Obligations.RestartNeedsATechnician : Prop :=
  ∀ (f : RxFrame) (pins : StartPins) (s : State), s.hands.csu = some f → f.kind = .restart →
    let permitted : Prop := ∃ e : CredentialEntry,
      lookupCredential s.csu.credentials (word32At f.body 0) = some e ∧ e.suspended = false ∧ e.role = .technician
    (permitted → ∃ t, exec (.restart pins) s = .next t ∧ RestartedFrom s t ∧
      (s.cfl.restartHeld = true →
        t.cfl.configRead = none ∧ t.cfl.populated = 0 ∧ ∀ b : BayIx, (t.bay b).door = {}) ∧
      (s.cfl.restartHeld = false →
        t.cfl.address = pins.address.toFin ∧ t.cfl.populated = pins.count.toNat + 1 ∧
        t.cfl.configRead = some { device := 0x50, pointer := 0x00, length := 64, limit := s.now + 50 } ∧
        ∀ b : BayIx,
          (b.val < pins.count.toNat + 1 → (t.bay b).door =
            Door.found (s.now + s.cfl.config.ajarTime * 1000)
              (pins.doors.getLsbD b.val) (pins.bolts.getLsbD b.val)) ∧
          (pins.count.toNat + 1 ≤ b.val → (t.bay b).door = {}))) ∧
    (¬ permitted → s.lkc.queue.length < 8 →
      exec (.restart pins) s = .next
        { s with
          hands := { s.hands with csu := none },
          lkc := { s.lkc with
            queue := insertFrame
              (newFrame .event 27 toAll ([255] ++ bytes32 (word32At f.body 0) ++ [0, 2, 11]) .csu)
              s.lkc.queue } })

/-- R124, R130, R139: a PRESENT in ACTIVE of one of the three request kinds whose credential is known, with a sequence
its reader's slot does not hold, takes the slot: undecided, with the answer delay of 20 ms and the deadline of 250 ms. A
queued answer of the slot is withdrawn before: out of the queue, or marked while in transmission, and the claim of a
queued OFFER is removed (queue and claims are said whole for a station that holds no campaign and serves no lane). A
PRESENT of another kind, of an unknown credential or of the sequence that the slot holds, and one in START or LISTEN,
does no more than free the hand. (Hand: entry 2.) -/
def Obligations.PresentTakesTheSlot : Prop :=
  ∀ (f : RxFrame) (s : State), s.hands.csu = some f → f.kind = .present →
    let r := bodyReader f.body
    let sequence := byteAt f.body 1
    let free : State := { s with hands := { s.hands with csu := none } }
    let known : Prop := ∃ e ∈ s.csu.credentials, e.number = word32At f.body 3
    let repeats : Prop := ∃ x : PresentationSlot, s.slot r = some x ∧ x.sequence = sequence
    (s.cfl.phase ≠ .active ∨ requestOfByte (byteAt f.body 2) = none ∨ ¬ known ∨ repeats →
      exec .present s = .next free) ∧
    ∀ kind : RequestKind, s.cfl.phase = .active → requestOfByte (byteAt f.body 2) = some kind → known → ¬ repeats →
      let slot : PresentationSlot :=
        { sequence := sequence, credential := word32At f.body 3, kind := kind,
          openStation := byteAt f.body 7, openBay := byteAt f.body 8, arrival := s.now, own := .none,
          decided := false, answerDelay := some (s.now + 20), deadline := some (s.now + 250) }
      let put : State := free.setSlot r (some slot)
      let withdrawn (kind : FrameKind) (x : PresentationSlot) : Lkc :=
        { s.lkc with queue := withdrawFrames (slotAnswer kind r x.sequence) s.lkc.queue }
      ∃ t, exec .present s = .next t ∧ t.steady = put.steady ∧ t.slot r = some slot ∧
        ((∀ x : PresentationSlot, s.slot r = some x → x.own ≠ .offerQueued ∧ x.own ≠ .denyQueued) → t = put) ∧
        ∀ x : PresentationSlot, s.slot r = some x →
          let queued (c : PendingClaim) : Prop := c.inWindow = false ∧ c.reader = r ∧ c.sequence = x.sequence
          (x.own = .denyQueued → t = { put with lkc := withdrawn .deny x }) ∧
          (x.own = .offerQueued →
            (∀ (b : BayIx) (c : PendingClaim), (s.bay b).claim = some c → queued c → (t.bay b).claim = none) ∧
            (lanesQuiet s → t.lkc = withdrawn .offer x ∧
              ∀ b : BayIx, (∀ c : PendingClaim, (s.bay b).claim = some c → ¬ queued c) →
                (t.bay b).claim = (s.bay b).claim))

/-- R125, R126, R127, R128, R129, R130: the answer delay ends: the slot is decided from the state of that moment. What a
CHECKOUT, a RETURN and an OPEN are answered is said case by case. An OFFER makes the bay's claim and goes into the
queue, a DENY goes into the queue, an OPEN that is permitted asks for its release, and where there is nothing to say the
slot stays silent. R103, R104, R132, R138, R151: such a release is started, with its RELEASED frame and the CUSTODY
write of a tablet that takes it; or it waits behind the bay's lane machine, with its record written and a session that
works ended in ABORT_CUSTODY; or, in an open episode or outside ACTIVE, it is refused and answered with a DENY BAY_BUSY
of 250 ms. (Time: entry 4; SoC of a bay without a battery reading: entry 15; key of the claim: entry 26; the lowest bay
where two hold the asset: entry 36; a full queue discards a frame, and then the steady part says what stays.) -/
def Obligations.AnswerDelayDecides : Prop :=
  (∀ (x : PresentationSlot) (s : State),
    x.decided = true ∨ lookupCredential s.csu.credentials x.credential = none → decideSlot s x = .nothing) ∧
  (∀ (e : CredentialEntry) (x : PresentationSlot) (s : State), x.decided = false →
    lookupCredential s.csu.credentials x.credential = some e →
    let cfg := s.cfl.config
    let technician : Prop := e.role = .technician
    let loans : List Loan := s.csu.loans.filter fun l => l.credential == e.number
    let overdue : Prop := ∃ l ∈ loans, l.state = .overdue
    let limit : Nat := if e.role = .staff then cfg.limitStaff else if e.role = .student then cfg.limitStudent
      else cfg.limitGuest
    let atLimit : Prop := ¬ technician ∧ limit ≤ loans.length
    let passes : Prop := e.suspended = false ∧ ¬ overdue ∧ ¬ atLimit
    let inGroup (b : BayIx) : Prop := e.groups.getLsbD (s.bay b).attrs.group.val = true
    let free (b : BayIx) : Prop := (s.bay b).door.state = .secure ∧ (s.bay b).door.release = none ∧
      (s.bay b).door.coolDown = none ∧ (s.bay b).claim = none
    let fit (b : BayIx) : Prop := (s.bay b).attrs.reserved = false ∧ managed (s.bay b).charge.state = true ∧ free b ∧
      (technician ∨ s.csu.loans.length < 32)
    let can (b : BayIx) (z : Battery) : Prop := s.populated b = true ∧ (s.bay b).attrs.outOfService = false ∧
      (s.bay b).present = true ∧ (s.bay b).view.battery = some z ∧ cfg.socRelease ≤ z.soc ∧ fit b ∧
      s.laneWorking b = false ∧ (technician ∨ inGroup b)
    let holds (asset : Word32) (b : BayIx) : Prop := s.populated b = true ∧ (s.bay b).present = true ∧
      ∃ i, (s.bay b).view.identity = some i ∧ i.asset = asset
    let takes (b : BayIx) : Prop := s.populated b = true ∧ (s.bay b).attrs.outOfService = false ∧
      (s.bay b).attrs.reserved = false ∧ (s.bay b).charge.state = .vacant ∧ free b ∧ s.laneWorking b = false
    let preference (b : BayIx) : Nat := if e.groups.getLsbD (s.bay b).attrs.group.val then 0 else 1
    (x.kind = .checkout →
      (e.suspended = true → decideSlot s x = .deny .suspended) ∧
      (e.suspended = false → overdue → decideSlot s x = .deny .overdue) ∧
      (e.suspended = false → ¬ overdue → atLimit → decideSlot s x = .deny .loanLimit) ∧
      (passes → e.asset = none →
        ((¬ ∃ b z, can b z) → decideSlot s x = .nothing) ∧
        ∀ (b : BayIx) (z : Battery), can b z →
          (∀ (c : BayIx) (y : Battery), can c y → y.soc < z.soc ∨ (y.soc = z.soc ∧ b ≤ c)) →
          decideSlot s x = .offer b (((s.bay b).view.identity.map fun i => i.asset).getD 0) false
            (8 + (100 - z.soc) * 8 + b.val)) ∧
      (∀ asset : Word32, passes → e.asset = some asset →
        ((¬ ∃ b, holds asset b) → decideSlot s x = .nothing) ∧
        ∀ b : BayIx, holds asset b → (∀ c < b, ¬ holds asset c) →
          (s.laneWorking b = true → decideSlot s x = .deny .busyProvisioning) ∧
          (s.laneWorking b = false → (s.bay b).attrs.outOfService = true → decideSlot s x = .deny .outOfService) ∧
          (s.laneWorking b = false → (s.bay b).attrs.outOfService = false → ¬ fit b →
            decideSlot s x = .deny .bayBusy) ∧
          (s.laneWorking b = false → (s.bay b).attrs.outOfService = false → fit b →
            ∃ soc : Nat, (∀ z, (s.bay b).view.battery = some z → soc = z.soc) ∧
              ((s.bay b).view.battery = none → soc ≤ 100) ∧
              decideSlot s x = .offer b asset (decide (soc < cfg.socRelease)) (8 + (100 - soc) * 8 + b.val)))) ∧
    (x.kind = .giveBack →
      ((¬ ∃ b, takes b) → decideSlot s x = .nothing) ∧
      ∀ b : BayIx, takes b →
        (∀ c : BayIx, takes c → preference b < preference c ∨ (preference b = preference c ∧ b ≤ c)) →
        decideSlot s x = .offer b 0 false (8 + preference b * 8 + b.val)) ∧
    (x.kind = .opening →
      (x.openStation.toNat ≠ s.cfl.address.val → decideSlot s x = .nothing) ∧
      (x.openStation.toNat = s.cfl.address.val →
        (8 ≤ x.openBay.toNat ∨ s.cfl.populated ≤ x.openBay.toNat → decideSlot s x = .deny .notPermitted) ∧
        ∀ b : BayIx, x.openBay.toNat = b.val → b.val < s.cfl.populated →
          let out : Prop := (s.bay b).attrs.outOfService = true ∧ ¬ technician
          let permitted : Prop := roleLevel e.role ≤ (s.bay b).attrs.openLevel.val ∨ (e.role = .staff ∧ inGroup b)
          (e.suspended = true → decideSlot s x = .deny .suspended) ∧
          (e.suspended = false → out → decideSlot s x = .deny .outOfService) ∧
          (e.suspended = false → ¬ out → ¬ permitted → decideSlot s x = .deny .notPermitted) ∧
          (e.suspended = false → ¬ out → permitted → ¬ free b → decideSlot s x = .deny .bayBusy) ∧
          (e.suspended = false → ¬ out → permitted → free b →
            decideSlot s x = .release b (if e.role = .technician then .service else .opening))))) ∧
  ∀ (r : Reader) (x : PresentationSlot) (d : Nat) (s : State), s.slot r = some x → x.answerDelay = some d →
    let slot : PresentationSlot := { x with answerDelay := none }
    let u : State := { s with now := max s.now d }.setSlot r (some slot)
    ∃ t, exec (.answerDelayEnd r) s = .next t ∧ t.steady = u.steady ∧
      (decideSlot u slot = .nothing → t = u) ∧
      (∀ reason : DenyReason, decideSlot u slot = .deny reason → s.lkc.queue.length < 8 →
        t = { s with now := max s.now d, lkc := { s.lkc with
          queue := insertFrame (denyFrame r x.sequence reason x.credential) s.lkc.queue } }.setSlot r
            (some { slot with own := .denyQueued })) ∧
      (∀ (b : BayIx) (asset : Word32) (low : Bool) (bid : Nat), decideSlot u slot = .offer b asset low bid →
        s.lkc.queue.length < 8 →
        t.lkc = { s.lkc with
          queue := insertFrame (offerFrame r x.sequence x.kind b asset low bid) s.lkc.queue } ∧
        t.slot r = some { slot with own := .offerQueued } ∧
        (t.bay b).claim = some
          { reader := r, sequence := x.sequence, kind := x.kind, credential := x.credential,
            endTime := x.deadline.getD (x.arrival + 250), inWindow := false,
            key := (kindClass .offer * 4096 + bid) * 16 + s.cfl.address.val } ∧
        ∀ c : BayIx, c ≠ b → t.bay c = s.bay c) ∧
      (∀ (b : BayIx) (reason : ReleaseReason), decideSlot u slot = .release b reason →
        let record : ReleaseRecord :=
          { reason := reason, credential := x.credential, reader := r, sequence := x.sequence, start := s.csu.minute }
        (s.cfl.phase ≠ .active ∨ (s.bay b).door.episode ≠ none → s.lkc.queue.length < 8 →
          t = { u with lkc := { s.lkc with
            queue := insertFrame
              { newFrame .deny 6 toAll ([BitVec.ofNat 8 r.val, x.sequence, 6] ++ bytes32 x.credential) .csu with
                deadline := some (max s.now d + 250) } s.lkc.queue } }) ∧
        (s.cfl.phase = .active → (s.bay b).door.episode = none →
          (s.laneOf b = none →
            (t.bay b).door = { (s.bay b).door with
              state := .releasing, latch := .full, release := some record, pendingLane := false,
              pullIn := some (max s.now d + 150), window := some (max s.now d + s.cfl.config.releaseTime * 1000),
              boltWait := none } ∧
            (t.bay b).counters.releases = (s.bay b).counters.releases + 1 ∧
            (s.lkc.queue.length < 8 → t.lkc = { s.lkc with
              queue := insertFrame
                (newFrame .released b.val toAll
                  ([BitVec.ofNat 8 b.val] ++ bytes32 (((s.bay b).view.identity.map fun i => i.asset).getD 0) ++
                    bytes32 record.credential ++
                    [BitVec.ofNat 8 record.reader.val, record.sequence, BitVec.ofNat 8 (reasonCode record.reason)] ++
                    bytes16 record.start) .csu) s.lkc.queue }) ∧
            ((s.bay b).present = true → (s.bay b).channel.state = .active →
              (∀ v, (s.bay b).view.identity = some v → takesCustody v = true) →
              (t.bay b).channel.custody = some { released := true, credential := x.credential })) ∧
          (∀ (n : LaneIx) (y : LaneSession), s.laneOf b = some n → s.lane n = some y →
            let session : LaneSession := { y with stage := .releasing .abortCustody, wakeWait := none, limit := none }
            let pends : Prop := (t.bay b).door = { (s.bay b).door with release := some record, pendingLane := true } ∧
              (t.bay b).counters.releases = (s.bay b).counters.releases
            (∀ o : LaneOutcome, y.stage = .releasing o → pends ∧ t.lane n = some y) ∧
            (y.stage = .waking ∨ y.stage = .connected → (s.bay b).channel.state = .active →
              (∀ v, (s.bay b).view.identity = some v → takesProvControl v = true) →
              pends ∧ t.lane n = some session ∧ (t.bay b).prov.switch = none ∧
                (t.bay b).channel.provControl = some { enter := false, campaign := y.campaign }))))

/-- R130, R131, R139: another shelf's OFFER or DENY in ACTIVE decides the slot of its reader and sequence, whose own
queued answer is withdrawn: out of the queue, or marked while in transmission, and the claim of a queued OFFER is
removed. A claim in its objection window is cancelled by a DENY, and by an OFFER of a lower key. A frame that matches no
slot and no such claim changes nothing. In START and LISTEN an OFFER or DENY changes nothing. The hand is free; nothing
else changes outside what notices change (queue and claims are said whole for a station that holds no campaign and
serves no lane). (Hand: entry 2; a reader byte above 3: entry 33.) (A heard frame that matches no slot any more reaches
a claim in its window all the same: entry 41.) -/
def Obligations.HeardAnswersDecide : Prop :=
  ∀ (f : RxFrame) (s : State), s.hands.csu = some f →
    let free : State := { s with hands := { s.hands with csu := none } }
    let decides (i : Instr) : Prop :=
      (s.cfl.phase ≠ .active ∨ answerReader f.body = none → exec i s = .next free) ∧
      ∀ r : Reader, s.cfl.phase = .active → answerReader f.body = some r →
        let queued (c : PendingClaim) : Prop :=
          c.inWindow = false ∧ c.reader = r ∧ c.sequence = bodySequence f.body
        let hit (c : PendingClaim) : Prop := c.inWindow = true ∧ c.reader = r ∧ c.sequence = bodySequence f.body ∧
          (f.kind = .offer → rxKey f < c.key)
        let anyHit : Prop := ∃ b c, (s.bay b).claim = some c ∧ hit c
        ∃ t, exec i s = .next t ∧
          (∀ (b : BayIx) (c : PendingClaim), (s.bay b).claim = some c → hit c → (t.bay b).claim = none) ∧
          ((∀ x : PresentationSlot, s.slot r = some x → x.sequence ≠ bodySequence f.body) →
            t.steady = free.steady ∧ (¬ anyHit → t = free)) ∧
          ∀ x : PresentationSlot, s.slot r = some x → x.sequence = bodySequence f.body →
            let put (own : OwnAnswer) : State := free.setSlot r (some { x with decided := true, own := own })
            let gone (c : PendingClaim) : Prop := hit c ∨ (x.own = .offerQueued ∧ queued c)
            let withdrawn (kind : FrameKind) : List TxFrame :=
              withdrawFrames (slotAnswer kind r (bodySequence f.body)) s.lkc.queue
            t.steady = (put x.own).steady ∧
            (x.own = .none → ¬ anyHit → t = put .none) ∧
            (x.own = .claimed → ¬ anyHit → t = put .claimed) ∧
            (x.own = .claimed → anyHit → t.slot r = some { x with decided := true, own := .none }) ∧
            (x.own = .offerQueued ∨ x.own = .denyQueued →
              t.slot r = some { x with decided := true, own := .none }) ∧
            (∀ (b : BayIx) (c : PendingClaim), (s.bay b).claim = some c → gone c → (t.bay b).claim = none) ∧
            (x.own = .denyQueued → ¬ anyHit →
              t = { put .none with lkc := { s.lkc with queue := withdrawn .deny } }) ∧
            (lanesQuiet s →
              (x.own = .offerQueued → t.lkc = { s.lkc with queue := withdrawn .offer }) ∧
              (x.own = .denyQueued → t.lkc = { s.lkc with queue := withdrawn .deny }) ∧
              (x.own = .none ∨ x.own = .claimed → t.lkc = s.lkc) ∧
              ∀ b : BayIx, (∀ c : PendingClaim, (s.bay b).claim = some c → ¬ gone c) →
                (t.bay b).claim = (s.bay b).claim)
    (f.kind = .offer → decides .offerHeard) ∧ (f.kind = .deny → decides .denyHeard)

/-- R130, R132: the withdrawal deadline of a slot ends and withdraws a queued answer: out of the queue, or marked while in
transmission, and the claim of a queued OFFER is removed (queue and claims are said whole for a station that holds no
campaign and serves no lane); the deadline of a DENY of R132 withdraws it in the same way. Nothing else changes outside
what notices change. (Time: entry 4.) -/
def Obligations.DeadlinesWithdraw : Prop :=
  ∀ (r : Reader) (d : Nat) (s : State),
    (∀ x : PresentationSlot, s.slot r = some x → x.deadline = some d →
      let put (own : OwnAnswer) : State :=
        { s with now := max s.now d }.setSlot r (some { x with deadline := none, own := own })
      let queued (c : PendingClaim) : Prop := c.inWindow = false ∧ c.reader = r ∧ c.sequence = x.sequence
      ∃ t, exec (.withdrawalDeadline r) s = .next t ∧ t.steady = (put x.own).steady ∧
        (x.own = .none ∨ x.own = .claimed → t = put x.own) ∧
        (x.own = .denyQueued → t = { put .none with lkc := { s.lkc with
          queue := withdrawFrames (slotAnswer .deny r x.sequence) s.lkc.queue } }) ∧
        (x.own = .offerQueued → t.slot r = some { x with deadline := none, own := .none } ∧
          (∀ (b : BayIx) (c : PendingClaim), (s.bay b).claim = some c → queued c → (t.bay b).claim = none) ∧
          (lanesQuiet s →
            t.lkc = { s.lkc with queue := withdrawFrames (slotAnswer .offer r x.sequence) s.lkc.queue } ∧
            ∀ b : BayIx, (∀ c : PendingClaim, (s.bay b).claim = some c → ¬ queued c) →
              (t.bay b).claim = (s.bay b).claim))) ∧
    (∀ (sequence : Byte) (f : TxFrame), s.lkc.queue.find? (ruleDenyOf r sequence) = some f → f.deadline = some d →
      exec (.denyDeadline r sequence) s = .next
        { s with
          now := max s.now d,
          lkc := { s.lkc with
            queue := s.lkc.queue.flatMap fun g =>
              if ruleDenyOf r sequence g = true ∧ g.deadline = some d then
                if g.inTransmission then [{ g with withdrawal := true }] else []
              else [g] } })

/-- R103, R104, R131, R132, R138, R151: the objection window of a claim ends and the claim is gone. A claim that fails
its check is answered with a DENY BAY_BUSY of 250 ms. One that holds is released: RELEASING with full drive, pull-in,
window and record, counted, with its RELEASED frame in the queue and, for a tablet in the bay that takes it, the CUSTODY
write; or, at a bay on a lane, its record is written and the release waits, a session that works ending in
ABORT_CUSTODY; or it is refused (outside ACTIVE, at a door not SECURE, in an episode, with a record or in the cool-down)
and answered with the same DENY. (Time: entry 4; the release is asked for before the claim notice reaches the PVS: entry
8; a claim of kind OPEN: entry 31.) -/
def Obligations.ObjectionWindowReleases : Prop :=
  ∀ (b : BayIx) (c : PendingClaim) (s : State), (s.bay b).claim = some c → c.inWindow = true →
    let now := max s.now c.endTime
    let holds : Prop := (c.kind = .checkout → (s.bay b).present = true) ∧
      (c.kind = .giveBack → (s.bay b).present = false)
    let busy : Prop := s.cfl.phase ≠ .active ∨ (s.bay b).door.state ≠ .secure ∨ (s.bay b).door.episode ≠ none ∨
      (s.bay b).door.release ≠ none ∨ (s.bay b).door.coolDown ≠ none
    ∃ t, exec (.objectionWindowEnd b) s = .next t ∧ t.steady = { s with now := now }.steady ∧
      (t.bay b).claim = none ∧
      (holds → ¬ busy →
        let record : ReleaseRecord :=
          { reason := reasonOfKind c.kind, credential := c.credential, reader := c.reader, sequence := c.sequence,
            start := s.csu.minute }
        (s.laneOf b = none →
          (t.bay b).door = { (s.bay b).door with
            state := .releasing, latch := .full, release := some record, pendingLane := false,
            pullIn := some (now + 150), window := some (now + s.cfl.config.releaseTime * 1000), boltWait := none } ∧
          (t.bay b).counters.releases = (s.bay b).counters.releases + 1 ∧
          (s.lkc.queue.length < 8 → t.lkc = { s.lkc with
            queue := insertFrame
              (newFrame .released b.val toAll
                ([BitVec.ofNat 8 b.val] ++ bytes32 (((s.bay b).view.identity.map fun i => i.asset).getD 0) ++
                  bytes32 record.credential ++
                  [BitVec.ofNat 8 record.reader.val, record.sequence, BitVec.ofNat 8 (reasonCode record.reason)] ++
                  bytes16 record.start) .csu) s.lkc.queue }) ∧
          (c.kind ≠ .giveBack → (s.bay b).present = true → (s.bay b).channel.state = .active →
            (∀ v, (s.bay b).view.identity = some v → takesCustody v = true) →
            (t.bay b).channel.custody = some { released := true, credential := c.credential })) ∧
        (∀ (n : LaneIx) (y : LaneSession), s.laneOf b = some n → s.lane n = some y →
          let session : LaneSession := { y with stage := .releasing .abortCustody, wakeWait := none, limit := none }
          let pends : Prop := (t.bay b).door = { (s.bay b).door with release := some record, pendingLane := true } ∧
            (t.bay b).counters.releases = (s.bay b).counters.releases
          (∀ o : LaneOutcome, y.stage = .releasing o → pends ∧ t.lane n = some y) ∧
          (y.stage = .waking ∨ y.stage = .connected → (s.bay b).channel.state = .active →
            (∀ v, (s.bay b).view.identity = some v → takesProvControl v = true) →
            pends ∧ t.lane n = some session ∧ (t.bay b).prov.switch = none ∧
              (t.bay b).channel.provControl = some { enter := false, campaign := y.campaign }))) ∧
      (¬ holds ∨ busy → (∀ k : SlotIx, s.campaign k = none) → s.pvs.queue = [] → s.lkc.queue.length < 8 →
        t = { s with now := now, lkc := { s.lkc with
          queue := insertFrame
            { newFrame .deny 6 toAll
                ([BitVec.ofNat 8 c.reader.val, c.sequence, 6] ++ bytes32 c.credential) .csu with
              deadline := some (now + 250) } s.lkc.queue } }.modBay b fun x => { x with claim := none })

/-! ## Provisioning lanes -/

/-- R142, R143, R144, R145, R146: a bay is eligible for the campaign of a slot as the list of R144 says, and its chosen
campaign is an URGENT one before a ROUTINE one, then that of the lower slot. A re-evaluation brings the queue into line
with it: an item is added in its place, removed, or takes slot and class of the chosen campaign. A CAMPAIGN START of a
valid id and profile fills the slot of its id, or else the lowest free slot, and re-evaluates every bay (said where both
lane machines are busy and the id is new). At a held id a CONNECTED lane machine of the slot keeps its moment of entry
and takes the new limit from it, ending in FAIL_TIMEOUT where that has passed, and any other goes on as it was (of the
whole command, what goes on is said where both lane machines are busy); with no free slot EVENT TABLE_FULL goes into the
queue (said where it has room) and the table stays. A CANCEL ends the lane sessions of the slot of its id in
ABORT_CANCEL and empties it, with its queue items, attempt counts and blocked flags; that of an id no slot holds, an id
of 0, a profile above 63 and another operation change nothing. The hand is free; nothing else changes outside what
notices change. (Hand and the rows of an operation: entries 2 and 24; the order of notices: entry 8.) -/
def Obligations.CampaignsStartAndCancel : Prop :=
  (∀ (b : BayIx) (s : State),
    let y := s.bay b
    let urgent (k : SlotIx) : Prop := ∃ c, s.campaign k = some c ∧ c.urgent = true
    let onLane : Prop := ∃ n x, s.lane n = some x ∧ x.bay = b
    let q := s.pvs.queue
    let queued (items : List QueueItem) : State := { s with pvs := { s.pvs with queue := items } }
    (∀ k : SlotIx, eligible s b k = true ↔ ∃ c : Campaign, s.campaign k = some c ∧
      s.cfl.phase = .active ∧ b.val < s.cfl.populated ∧ y.present = true ∧ y.channel.state = .active ∧
      (∀ i, y.view.identity = some i → i.capability.getLsbD 1 = true) ∧
      (c.model = 0 ∨ ∃ i, y.view.identity = some i ∧ i.model = c.model) ∧
      c.groups.getLsbD y.attrs.group.val = true ∧ y.attrs.optOut = false ∧
      (∃ p, y.view.profile = some p ∧ (p.code ≠ c.profile ∨ p.version < c.target)) ∧
      y.door.state = .secure ∧ y.door.release = none ∧ y.claim = none ∧
      (y.charge.state = .charging ∨ y.charge.state = .held ∨ y.charge.state = .maintain) ∧
      (∃ z, y.view.battery = some z ∧ s.cfl.config.socProv ≤ z.soc) ∧
      y.prov.attempts[k] < 3 ∧ y.prov.blocked[k] = false ∧ ¬ onLane) ∧
    (chosenCampaign s b = none ↔ ∀ k, eligible s b k = false) ∧
    (∀ k : SlotIx, chosenCampaign s b = some k ↔ eligible s b k = true ∧
      ∀ j : SlotIx, eligible s b j = true → (urgent k ∧ ¬ urgent j) ∨ ((urgent j → urgent k) ∧ k ≤ j)) ∧
    (onLane → evaluateBay b s = s) ∧
    (¬ onLane → (∀ x ∈ q, x.bay ≠ b) →
      (chosenCampaign s b = none → evaluateBay b s = s) ∧
      ∀ (k : SlotIx) (c : Campaign), chosenCampaign s b = some k → s.campaign k = some c →
        evaluateBay b s = queued (insertItem { bay := b, slot := k, urgent := c.urgent, since := s.now } q)) ∧
    (∀ x : QueueItem, ¬ onLane → q.find? (fun y => y.bay == b) = some x →
      let rest := q.filter fun y => y.bay != b
      (chosenCampaign s b = none → evaluateBay b s = queued rest) ∧
      ∀ (k : SlotIx) (c : Campaign), chosenCampaign s b = some k → s.campaign k = some c →
        evaluateBay b s = queued (insertItem { x with slot := k, urgent := c.urgent } rest)) ∧
    reevaluate b (startWork s) =
      { st := evaluateBay b s,
        todo := if q.length < (evaluateBay b s).pvs.queue.length then [.select 0, .select 1] else [] }) ∧
  (∀ (x : QueueItem) (q : List QueueItem), ∃ before after : List QueueItem,
    q = before ++ after ∧ insertItem x q = before ++ x :: after ∧
    let first (x y : QueueItem) : Prop := (x.urgent = true ∧ y.urgent = false) ∨
      (x.urgent = y.urgent ∧ (x.since < y.since ∨ (x.since = y.since ∧ x.bay < y.bay)))
    (∀ y ∈ before, ¬ first x y) ∧ ∀ y, after.head? = some y → first x y) ∧
  (∀ (f : RxFrame) (s : State), s.hands.pvs = some f → f.kind = .campaign →
    let operation := byteAt f.body 0
    let id := byteAt f.body 1
    let ignored : Prop := id = 0 ∨ 63 < (byteAt f.body 2).toNat
    let holds (j : SlotIx) : Prop := ∃ c, s.campaign j = some c ∧ c.id = id
    let free : State := { s with hands := { s.hands with pvs := none } }
    (operation = 1 → ignored → exec .campaignStart s = .next free) ∧
    (operation = 2 → ignored ∨ (∀ j, ¬ holds j) → exec .campaignCancel s = .next free) ∧
    (operation ≠ 1 → operation ≠ 2 →
      exec .campaignStart s = .next free ∧ exec .campaignCancel s = .next free) ∧
    (operation = 1 → ¬ ignored → (∀ j, ¬ holds j) → (∀ j, s.campaign j ≠ none) → s.lkc.queue.length < 8 →
      exec .campaignStart s = .next { free with lkc := { s.lkc with
        queue := insertFrame (newFrame .event 26 toAll [255, 0, 0, 0, id, 0, 2, 10] .pvs) s.lkc.queue } })) ∧
  (∀ (k : SlotIx) (limit : Nat) (n : LaneIx) (s : State),
    let connected (x : LaneSession) (entry : Nat) : Prop :=
      s.lane n = some x ∧ x.slot = k ∧ x.stage = .connected ∧ x.entered = some entry
    ((¬ ∃ x entry, connected x entry) → renewLimit k limit n (startWork s) = startWork s) ∧
    ∀ (x : LaneSession) (entry : Nat), connected x entry →
      let u : State := s.setLane n (some { x with limit := some (entry + limit * 60000) })
      (s.now < entry + limit * 60000 → renewLimit k limit n (startWork s) = startWork u) ∧
      (entry + limit * 60000 ≤ s.now → renewLimit k limit n (startWork s) = endSession n .failTimeout (startWork u))) ∧
  ∀ (f : RxFrame) (k : SlotIx) (s : State), s.hands.pvs = some f → f.kind = .campaign →
    byteAt f.body 1 ≠ 0 → (byteAt f.body 2).toNat ≤ 63 →
    let id := byteAt f.body 1
    let holds (j : SlotIx) : Prop := ∃ c, s.campaign j = some c ∧ c.id = id
    let new : Campaign :=
      { id := id, profile := (byteAt f.body 2).toNat, target := (word16At f.body 3).toNat,
        model := word16At f.body 5, groups := word16At f.body 7,
        limit := max 1 (min 120 (word16At f.body 9).toNat),
        urgent := s.cfl.config.classMap.getLsbD (byteAt f.body 2).toNat }
    let put (c : Option Campaign) : State := { s with
      hands := { s.hands with pvs := none }, pvs := { s.pvs with campaigns := s.pvs.campaigns.set k c } }
    (byteAt f.body 0 = 1 →
      (holds k ∧ ∀ j < k, ¬ holds j) ∨
        ((∀ j, ¬ holds j) ∧ s.campaign k = none ∧ ∀ j < k, s.campaign j ≠ none) →
      ∃ t, exec .campaignStart s = .next t ∧ t.steady = (put (some new)).steady ∧
        ((∀ j, ¬ holds j) → (∀ n : LaneIx, s.lane n ≠ none) →
          t = allBays.foldl (fun u b => evaluateBay b u) (put (some new))) ∧
        (holds k →
          let limitOf (entry : Nat) : Nat := entry + new.limit * 60000
          let apart : Prop := ∀ x y : LaneSession, s.lane 0 = some x → s.lane 1 = some y → x.bay ≠ y.bay
          ((∀ n : LaneIx, s.lane n ≠ none) →
            (∀ (n : LaneIx) (x : LaneSession) (entry : Nat), s.lane n = some x → x.slot = k → x.stage = .connected →
              x.entered = some entry → s.now < limitOf entry) →
            ∀ (n : LaneIx) (x : LaneSession), s.lane n = some x →
              (x.slot ≠ k ∨ x.stage ≠ .connected ∨ x.entered = none → t.lane n = some x) ∧
              (∀ entry : Nat, x.slot = k → x.stage = .connected → x.entered = some entry →
                t.lane n = some { x with limit := some (limitOf entry) })) ∧
          ∀ (n : LaneIx) (x : LaneSession) (entry : Nat), s.lane n = some x → x.slot = k → x.stage = .connected →
            x.entered = some entry → limitOf entry ≤ s.now → apart →
            (s.bay x.bay).channel.state = .active →
            (∀ i, (s.bay x.bay).view.identity = some i → takesProvControl i = true) →
            t.lane n = some { x with stage := .releasing .failTimeout, wakeWait := none, limit := none } ∧
            (t.bay x.bay).channel.provControl = some { enter := false, campaign := x.campaign } ∧
            (t.bay x.bay).prov.switch = none ∧
            (t.bay x.bay).prov.attempts[k] = (s.bay x.bay).prov.attempts[k] + 1 ∧
            (t.bay x.bay).counters.provFailures = (s.bay x.bay).counters.provFailures + 1)) ∧
    (byteAt f.body 0 = 2 → holds k → (∀ j < k, ¬ holds j) →
      ∃ t, exec .campaignCancel s = .next t ∧ t.steady = (put none).steady ∧
        (∀ x ∈ t.pvs.queue, x.slot ≠ k) ∧
        (∀ b : BayIx, (t.bay b).prov.attempts[k] = 0 ∧ (t.bay b).prov.blocked[k] = false) ∧
        ∀ (n : LaneIx) (x : LaneSession), s.lane n = some x → x.slot = k →
          x.stage = .waking ∨ x.stage = .connected →
          (∀ (m : LaneIx) (z : LaneSession), m ≠ n → s.lane m = some z → z.bay ≠ x.bay) →
          (s.bay x.bay).channel.state = .active →
          (∀ i, (s.bay x.bay).view.identity = some i → takesProvControl i = true) →
          t.lane n = some { x with stage := .releasing .abortCancel, wakeWait := none, limit := none } ∧
          (t.bay x.bay).channel.provControl = some { enter := false, campaign := x.campaign } ∧
          (t.bay x.bay).prov.switch = none)

/-- R147 to R154: an IDLE lane machine takes the item that the table of R147 gives: one that fails the check leaves the
queue and the selection begins again, one that passes is placed on the lane in WAKING, with the ENTER write pending, the
PROFILE read due and class 0. A session that ends opens the switch, counts attempt, blocking and outcome, and puts
PROV_STATUS into the queue. On an ACTIVE channel whose tablet takes PROV_CONTROL the lane machine is then RELEASING with
the outcome and the EXIT write is pending: so end the wake wait and the lane time limit in FAIL_TIMEOUT, and PROFILE
readings as R149 and R150 say; READY after the ENTER was accepted is the entry to CONNECTED, and every other reading
leaves the machine as it is. R151: a session that works ends in ABORT_CUSTODY when its door is forced open, in
ABORT_CHARGE at a trip and at a BATTERY reading more than 10 below SoC_prov, in ABORT_REMOVED at a presence loss, and in
ABORT_SILENT or ABORT_CHARGE (entry 7) when its channel falls SILENT, where the lane machine is IDLE at once and
PROV_STATUS tells the outcome (said where no other lane machine is at work, no other bay waits, and no release waits for
the lane). The attempts byte of the PROV_STATUS of a presence loss is the model's choice: the count before the channel
that goes OFF clears it (entry 13); its version byte pair is that of the view the SBC has cleared by then (entry 9).
(Time: entry 4; a switch at a door that is not SECURE: entry 31.) -/
def Obligations.LaneTimersFail : Prop :=
  (∀ (ratio : Ratio) (streak : Nat) (q : List QueueItem),
    let urgent := q.find? fun x => x.urgent
    let routine := q.find? fun x => !x.urgent
    let w : Nat := if ratio = .two then 2 else if ratio = .four then 4 else 8
    (q = [] → pickItem ratio streak q = none) ∧
    (∀ r, urgent = none → routine = some r → pickItem ratio streak q = some (r, 0)) ∧
    (∀ u, urgent = some u → ratio = .strict → pickItem ratio streak q = some (u, 0)) ∧
    (∀ u, urgent = some u → ratio ≠ .strict → routine = none →
      pickItem ratio streak q = some (u, min w (streak + 1))) ∧
    ∀ u r, urgent = some u → ratio ≠ .strict → routine = some r →
      (streak < w → pickItem ratio streak q = some (u, streak + 1)) ∧
      (w ≤ streak → pickItem ratio streak q = some (r, 0))) ∧
  (∀ (n : LaneIx) (s : State),
    (s.lane n ≠ none ∨ s.pvs.queue = [] → selectLane n (startWork s) = startWork s) ∧
    ∀ (x : QueueItem) (streak : Nat), s.lane n = none →
      pickItem s.cfl.config.ratio s.pvs.streak s.pvs.queue = some (x, streak) →
      let rest := s.pvs.queue.filter fun y => y.bay != x.bay
      (eligible s x.bay x.slot = false → selectLane n (startWork s) =
        selectLane n (startWork { s with pvs := { s.pvs with queue := rest } })) ∧
      ∀ c : Campaign, eligible s x.bay x.slot = true → s.campaign x.slot = some c →
        let t := (selectLane n (startWork s)).st
        t.steady = s.steady ∧ t.pvs.queue = rest ∧ t.pvs.streak = streak ∧
        (∀ m : LaneIx, m ≠ n → t.lane m = s.lane m) ∧
        t.lane n = some
          { bay := x.bay, slot := x.slot, campaign := c.id,
            asset := (s.bay x.bay).view.identity.map fun i => i.asset, minute := s.csu.minute, stage := .waking,
            wakeWait := some (s.now + 20000), limit := none, entered := none, accepted := false } ∧
        (t.bay x.bay).channel.provControl = some { enter := true, campaign := c.id } ∧
        (t.bay x.bay).channel.dueProfile = true ∧ (t.bay x.bay).channel.profileTimer = none ∧
        (t.bay x.bay).charge.cls = 0 ∧ (t.bay x.bay).prov = (s.bay x.bay).prov) ∧
  (∀ (n : LaneIx) (x : LaneSession) (o : LaneOutcome) (s : State), s.lane n = some x →
    x.stage = .waking ∨ x.stage = .connected →
    let y := s.bay x.bay
    let t := (endSession n o (startWork s)).st
    let z := t.bay x.bay
    let fails : Prop := o = .failRefused ∨ o = .failTimeout ∨ o = .failTablet ∨ o = .failDropped
    t.lane n = some { x with stage := .releasing o, wakeWait := none, limit := none } ∧ z.prov.switch = none ∧
    (fails → z.prov.attempts = y.prov.attempts.set x.slot (y.prov.attempts[x.slot] + 1) ∧
      z.prov.blocked =
        y.prov.blocked.set x.slot (y.prov.blocked[x.slot] || decide (3 ≤ y.prov.attempts[x.slot] + 1)) ∧
      z.counters = { y.counters with provFailures := y.counters.provFailures + 1 }) ∧
    (¬ fails → z.prov.attempts = y.prov.attempts ∧ z.prov.blocked = y.prov.blocked) ∧
    (o = .success → z.counters = { y.counters with provSuccesses := y.counters.provSuccesses + 1 }) ∧
    (¬ fails → o ≠ .success → z.counters = y.counters) ∧
    (s.lkc.queue.length < 8 → t.lkc.queue = insertFrame
      (newFrame .provStatus x.bay.val toAll
        ([BitVec.ofNat 8 x.bay.val] ++ bytes32 (x.asset.getD 0) ++
          [x.campaign, BitVec.ofNat 8 (outcomeCode o), BitVec.ofNat 8 z.prov.attempts[x.slot]] ++
          bytes16 ((y.view.profile.map fun p => p.version).getD 0) ++
          [BitVec.ofNat 8 (min (s.csu.minute - x.minute) 255)]) .pvs) s.lkc.queue)) ∧
  (∀ (n : LaneIx) (x : LaneSession) (s : State), s.lane n = some x → s.laneOf x.bay = some n →
    x.stage = .waking ∨ x.stage = .connected → (s.bay x.bay).channel.state = .active →
    let y := s.bay x.bay
    let aborts (i : Instr) (o : LaneOutcome) : Prop := ∃ t, exec i s = .next t ∧
      t.lane n = some { x with stage := .releasing o, wakeWait := none, limit := none } ∧
      (t.bay x.bay).channel.provControl = some { enter := false, campaign := x.campaign } ∧
      (t.bay x.bay).prov.switch = none ∧ (t.bay x.bay).prov.attempts = y.prov.attempts
    let ends (i : Instr) (os : List LaneOutcome) : Prop := ∃ t o, exec i s = .next t ∧ o ∈ os ∧ t.lane n = none ∧
      (t.bay x.bay).prov.switch = none ∧
      t.lkc = { s.lkc with
        queue := insertFrame
          (newFrame .provStatus x.bay.val toAll
            ([BitVec.ofNat 8 x.bay.val] ++ bytes32 (x.asset.getD 0) ++
              [x.campaign, BitVec.ofNat 8 (outcomeCode o), BitVec.ofNat 8 y.prov.attempts[x.slot]] ++
              bytes16 (((t.bay x.bay).view.profile.map fun p => p.version).getD 0) ++
              [BitVec.ofNat 8 (min (s.csu.minute - x.minute) 255)]) .pvs) s.lkc.queue }
    ((∀ v, y.view.identity = some v → takesProvControl v = true) →
      (s.populated x.bay = true → y.door.closed = true → y.door.state = .secure →
        aborts (.doorOpens x.bay) .abortCustody) ∧
      (∀ d : Nat, y.charge.shortHold = some d → takesPart y.charge.state = true → y.charge.limit ≠ 0 →
        aborts (.shortTrip x.bay) .abortCharge) ∧
      ∀ (e : Exchange) (data : List Byte) (check : Byte) (answer : List SampledByte),
        y.channel.exchange = some e → e.stage = .called → e.body = .read .battery →
        receivedBytes answer = some (callByte e.body e.number :: data ++ [check]) →
        data.length = 4 → sumGood (callByte e.body e.number :: data ++ [check]) = true →
        (readBattery data).soc + 10 < s.cfl.config.socProv → aborts (.readResponseReceived x.bay answer) .abortCharge) ∧
    ((∀ m : LaneIx, m ≠ n → s.lane m = none) → s.pvs.queue = [] →
      (∀ (b : BayIx) (k : SlotIx), b ≠ x.bay → eligible s b k = false) → y.door.pendingLane = false →
      s.lkc.queue.length < 8 →
      (s.populated x.bay = true → y.present = true → y.door.episode = none → ends (.presenceLoss x.bay) [.abortRemoved]) ∧
      ∀ (e : Exchange) (w : DockWrite), y.channel.exchange = some e → e.stage = .called → e.body = .write w →
        e.retry = true → 2 ≤ y.channel.drops → ends (.ackWindowExpired x.bay) [.abortSilent, .abortCharge])) ∧
  ∀ (n : LaneIx) (x : LaneSession) (s : State), s.lane n = some x → s.laneOf x.bay = some n →
    let y := s.bay x.bay
    let released (o : LaneOutcome) (t : State) : Prop :=
      y.channel.state = .active → (∀ v, y.view.identity = some v → takesProvControl v = true) →
        t.lane n = some { x with stage := .releasing o, wakeWait := none, limit := none } ∧
        (t.bay x.bay).channel.provControl = some { enter := false, campaign := x.campaign } ∧
        (t.bay x.bay).prov.switch = none ∧
        (o = .success → (t.bay x.bay).prov.attempts[x.slot] = y.prov.attempts[x.slot] ∧
          (t.bay x.bay).counters.provSuccesses = y.counters.provSuccesses + 1) ∧
        (o ≠ .success → (t.bay x.bay).prov.attempts[x.slot] = y.prov.attempts[x.slot] + 1 ∧
          (t.bay x.bay).counters.provFailures = y.counters.provFailures + 1)
    (∀ d : Nat,
      let ends (i : Instr) : Prop := ∃ t, exec i s = .next t ∧ t.steady = { s with now := max s.now d }.steady ∧
        (t.bay x.bay).prov.switch = none ∧
        y.prov.attempts[x.slot] + 1 ≤ (t.bay x.bay).prov.attempts[x.slot] ∧
        (3 ≤ y.prov.attempts[x.slot] + 1 → (t.bay x.bay).prov.blocked[x.slot] = true) ∧
        released .failTimeout t
      (x.stage = .waking → x.wakeWait = some d → ends (.wakeWaitExpired n)) ∧
      (x.stage = .connected → x.limit = some d → ends (.laneTimeLimitExpired n))) ∧
    ∀ (e : Exchange) (data : List Byte) (check : Byte) (answer : List SampledByte),
      y.channel.exchange = some e → e.stage = .called → e.body = .read .profile →
      receivedBytes answer = some (callByte e.body e.number :: data ++ [check]) →
      data.length = 5 → sumGood (callByte e.body e.number :: data ++ [check]) = true →
      let p := readProfile data
      ∃ t, exec (.readResponseReceived x.bay answer) s = .next t ∧
        (x.stage = .waking → x.accepted = true →
          (p.state = .ready → ∀ c : Campaign, s.campaign x.slot = some c →
            t.lane n = some { x with
              stage := .connected, wakeWait := none, entered := some s.now,
              limit := some (s.now + c.limit * 60000) } ∧
            (y.door.state = .secure → (t.bay x.bay).prov.switch = some n) ∧
            (y.door.state ≠ .secure → (t.bay x.bay).prov.switch = none)) ∧
          (p.state = .error → released .failTablet t) ∧
          (p.state ≠ .ready → p.state ≠ .error → t.lane n = some x)) ∧
        (x.stage = .waking → x.accepted = false → t.lane n = some x) ∧
        (x.stage = .connected →
          (∀ c : Campaign, p.state = .done → s.campaign x.slot = some c →
            (p.code = c.profile → c.target ≤ p.version → released .success t) ∧
            (p.code ≠ c.profile ∨ p.version < c.target → released .failTablet t)) ∧
          (p.state = .error → released .failTablet t) ∧ (p.state = .idle → released .failDropped t) ∧
          (p.state = .ready ∨ p.state = .running → t.lane n = some x)) ∧
        (∀ o : LaneOutcome, x.stage = .releasing o → t.lane n = some x)

/-! ## Queries -/

/-- R157 to R165: a QUERY in the RPU's hand counts as answered and its payload goes into the queue in parts, part 0
first, when the queue has room for them. Nothing else changes. The payloads are those of the Formats chapter, byte by
byte; an index that names nothing has the empty answer. The payload is cut in order into pieces of the maximum, held
within 8 to 32, less 3 bytes, and each piece is the STATUS frame of its part. (Hand: entry 2; a full queue discards a
frame, and then the steady part says what stays.) -/
def Obligations.QueriesAreAnswered : Prop :=
  (∀ (asker : Addr) (q : QueryBody) (payload : List Byte),
    let size : Nat := max 8 (min 32 q.maximum) - 3
    let count : Nat := (payload.length + size - 1) / size
    answerParts asker q payload = (List.range count).map fun i =>
      newFrame .status (q.item * 16 + i) (BitVec.ofNat 5 asker.val)
        ([BitVec.ofNat 8 q.item, BitVec.ofNat 8 q.index, BitVec.ofNat 8 (16 * i + count)] ++
          (payload.drop (size * i)).take size) .rpu) ∧
  (∀ s : State,
    let held (n : Nat) : List Byte := bytes16 (min n 65535)
    let link := s.lkc.counters
    (∃ conditions : Byte,
      stationPayload s = conditions :: (held s.shu.allowance ++ held s.shu.settled ++ held s.shu.floor ++
        [BitVec.ofNat 8 s.shu.nEff] ++ bytes16 s.lkc.errors.toNat ++ held s.shu.surplus ++ held s.shu.excess) ∧
      (conditions.getLsbD 0 = true ↔ s.cfl.phase = .active) ∧
      (conditions.getLsbD 1 = true ↔ s.pmn.isolated = true) ∧
      (conditions.getLsbD 2 = true ↔ ∃ (a : Addr) (p : Peer), s.peer a = some p ∧ p.mismatch = true) ∧
      (conditions.getLsbD 3 = true ↔ s.pmn.clashHold ≠ none) ∧
      (conditions.getLsbD 4 = true ↔ s.shu.guard = true) ∧
      (conditions.getLsbD 5 = true ↔ s.cfl.flag = .byDefault) ∧
      (conditions.getLsbD 6 = true ↔ s.cfl.flag = .bad) ∧ conditions.getLsbD 7 = false) ∧
    (∀ b : BayIx,
      let x := s.bay b
      (s.cfl.populated ≤ b.val → bayAnswer s b.val = [1] ∧ countersAnswer s b.val = [1]) ∧
      (b.val < s.cfl.populated →
        (∃ battery switches position,
          bayAnswer s b.val =
            [BitVec.ofNat 8 (chargeCode x.charge.state), BitVec.ofNat 8 (doorCode x.door.state),
              BitVec.ofNat 8 (channelCode x.channel.state)] ++ battery ++
            [(x.view.identity.map fun i => i.version).getD 255] ++ held x.charge.grant ++ held x.charge.limit ++
            [BitVec.ofNat 8 x.charge.voltage] ++ held x.charge.wish ++
            [BitVec.ofNat 8 x.attrs.group.val, switches, position] ++
            bytes32 ((x.view.identity.map fun i => i.asset).getD 0) ++ held x.charge.milliVolts ++
            held x.charge.milliAmps ++ [BitVec.ofNat 8 ((x.view.profile.map fun p => p.progress).getD 255)] ∧
          (x.view.battery = none → battery = [255, 128, 255, 0]) ∧
          (∀ z, x.view.battery = some z → ∃ flags : Byte,
            battery = [BitVec.ofNat 8 z.soc, BitVec.ofInt 8 z.temperature, BitVec.ofNat 8 z.health, flags] ∧
            flags.getLsbD 0 = z.full ∧ flags.getLsbD 1 = z.charging ∧ flags.getLsbD 2 = z.fault ∧ flags.toNat < 8) ∧
          switches.toNat % 4 = x.attrs.openLevel.val ∧ switches.getLsbD 2 = x.attrs.reserved ∧
          switches.getLsbD 3 = x.attrs.outOfService ∧ switches.getLsbD 4 = x.attrs.optOut ∧ switches.toNat < 32 ∧
          (∀ n : LaneIx, s.laneOf b = some n → position = BitVec.ofNat 8 (2 + n.val)) ∧
          (∀ i : QueueItem, s.laneOf b = none → s.pvs.queue.find? (fun i => i.bay == b) = some i →
            position = BitVec.ofNat 8 (1 + 16 * i.slot.val)) ∧
          (s.laneOf b = none → (∀ i ∈ s.pvs.queue, i.bay ≠ b) → position = 0)) ∧
        countersAnswer s b.val = [x.counters.energy, x.counters.sessions, x.counters.releases,
          x.counters.forcedOpens, x.counters.faults, x.counters.failed, x.counters.provSuccesses,
          x.counters.provFailures].flatMap bytes32)) ∧
    (∀ i : Nat, 8 ≤ i → bayAnswer s i = [2]) ∧
    (countersAnswer s 8 = [link.sent, link.good, link.corrected, link.discarded, link.dropped, link.stormed,
      link.ignored, s.rpu.answered].flatMap bytes32) ∧
    (∀ i : Nat, 8 < i → countersAnswer s i = [2]) ∧
    (∀ (i : Nat) (l : Loan), s.csu.loans[i]? = some l → loanAnswer s i =
      bytes32 l.asset ++ bytes32 l.credential ++ [BitVec.ofNat 8 l.bay.val] ++ held l.released ++ held l.due ++
        [if l.state = .overdue then 2 else 1]) ∧
    (∀ i : Nat, s.csu.loans.length ≤ i → loanAnswer s i = [2]) ∧
    (∀ a : Addr, a = s.cfl.address ∨ s.peer a = none → peerAnswer s a.val = List.replicate 12 0) ∧
    (∀ (a : Addr) (p : Peer), a ≠ s.cfl.address → s.peer a = some p →
      ∃ first : Byte,
        peerAnswer s a.val = first :: (held p.claim ++ held p.draw ++ held p.allowance ++ bytes16 p.digest.toNat ++
          bytes16 p.errorWord.toNat ++ [BitVec.ofNat 8 (min (min (s.now - p.heardAt) 65535 / 100) 255)]) ∧
        first.toNat % 4 = (if p.state = .live then 1 else if p.state = .quiet then 2 else 3) ∧
        first.toNat / 4 % 4 = roleCode p.role ∧ first.getLsbD 4 = p.mismatch ∧ first.toNat < 32) ∧
    (∀ i : Nat, 16 ≤ i → peerAnswer s i = [2]) ∧
    (∀ k : SlotIx, s.campaign k = none → campaignAnswer s k.val = List.replicate 10 0) ∧
    (∀ (k : SlotIx) (c : Campaign), s.campaign k = some c → campaignAnswer s k.val =
      [c.id, BitVec.ofNat 8 c.profile] ++ held c.target ++ bytes16 c.model.toNat ++ bytes16 c.groups.toNat ++
        [BitVec.ofNat 8 c.limit, if c.urgent then 1 else 2]) ∧
    ∀ i : Nat, 4 ≤ i → campaignAnswer s i = [2]) ∧
  ∀ (f : RxFrame) (s : State), s.hands.rpu = some f → f.kind = .query →
    let q := readQuery f.body
    let u : State := { s with
      hands := { s.hands with rpu := none }, rpu := { s.rpu with answered := s.rpu.answered + 1 } }
    let answers (i : Instr) (payload : List Byte) : Prop :=
      let parts := answerParts f.source q payload
      ∃ t, exec i s = .next t ∧ t.steady = u.steady ∧
        (s.lkc.queue.length + parts.length ≤ 8 →
          t = { u with lkc := { s.lkc with queue := parts.foldl (fun l p => insertFrame p l) s.lkc.queue } })
    (q.item = 0 → answers .queryStation (stationPayload u)) ∧
    (q.item = 1 → answers .queryBay (bayAnswer u q.index)) ∧
    (q.item = 2 → q.clear = false → answers .queryCounters (countersAnswer u q.index)) ∧
    (q.item = 3 → answers .queryLoan (loanAnswer u q.index)) ∧
    (q.item = 4 → answers .queryPeer (peerAnswer u q.index)) ∧
    (q.item = 5 → answers .queryCampaign (campaignAnswer u q.index)) ∧
    (5 < q.item → answers .queryUnknownItem [2])

/-- R16, R159, R163, R166: a COUNTERS query with the clear flag is answered like one without: its parts are placed one
after another, each in key order, in the place of the frame of the highest key in a full queue, or refused where that
key is no higher. Then, where the authoriser is an unsuspended TECHNICIAN, the index names a set and every part found a
place, the counters of that set are 0 and nothing else changes; else they stay. (Hand: entry 2.) -/
def Obligations.ClearingNeedsATechnician : Prop :=
  (∀ (p : TxFrame) (queue : List TxFrame),
    (queue.length < 8 → placeInQueue p queue = (insertFrame p queue, none)) ∧
    (8 ≤ queue.length → (∀ g ∈ queue, g.inTransmission = true) → placeInQueue p queue = (queue, some p)) ∧
    ∀ (front back : List TxFrame) (victim : TxFrame), 8 ≤ queue.length → queue = front ++ victim :: back →
      victim.inTransmission = false → (∀ g ∈ back, g.inTransmission = true) →
      (p.rank < victim.rank → placeInQueue p queue = (insertFrame p (front ++ back), some victim)) ∧
      (victim.rank ≤ p.rank → placeInQueue p queue = (queue, some p))) ∧
  ∀ (f : RxFrame) (s : State), LinkLaw s → s.hands.rpu = some f → f.kind = .query →
    let q := readQuery f.body
    let u : State := { s with
      hands := { s.hands with rpu := none }, rpu := { s.rpu with answered := s.rpu.answered + 1 } }
    let placed (x : Lkc × Bool) (p : TxFrame) : Lkc × Bool :=
      let r := placeInQueue p x.1.queue
      match r.2 with
      | none => ({ x.1 with queue := r.1 }, x.2)
      | some g =>
        ({ x.1.flagged 0x0040 with
            queue := r.1, counters := { x.1.counters with dropped := x.1.counters.dropped + 1 } },
          x.2 && decide (g ≠ p))
    let parts := answerParts f.source q (countersAnswer u q.index)
    let all : Lkc × Bool := parts.foldl placed (s.lkc, true)
    let sent : State := { u with lkc := all.1 }
    let permitted : Prop := ∃ e : CredentialEntry,
      lookupCredential s.csu.credentials q.authoriser = some e ∧ e.suspended = false ∧ e.role = .technician
    q.item = 2 → q.clear = true →
    (∀ b : BayIx, permitted → all.2 = true → q.index = b.val → b.val < s.cfl.populated →
      exec .queryCountersClear s = .next (sent.modBay b fun x => { x with counters := {} })) ∧
    (permitted → all.2 = true → q.index = 8 →
      exec .queryCountersClear s = .next
        { sent with lkc := { sent.lkc with counters := {} }, rpu := { sent.rpu with answered := 0 } }) ∧
    (¬ permitted ∨ all.2 = false ∨ 8 < q.index ∨ (q.index < 8 ∧ s.cfl.populated ≤ q.index) →
      exec .queryCountersClear s = .next sent)

/-! ## What every step keeps -/

/-- R1, R3, R5, R13, R14, R16, R17, R21, R169: a step keeps the laws of the two queues and the line. -/
def Obligations.StepsKeepTheLinkLaws : Prop :=
  ∀ s t : State, step s = .next t → (LinkLaw s → LinkLaw t) ∧ (ReceiveLaw s → ReceiveLaw t)

/-- R27, R32, R34: a step keeps the law of the peer table. -/
def Obligations.StepsKeepThePeerLaw : Prop := ∀ s t : State, PeerLaw s → step s = .next t → PeerLaw t

/-- R46: a step keeps the allowance between the lesser of settled claim and floor, and the settled claim and A. -/
def Obligations.StepsKeepTheAllowanceLaw : Prop :=
  ∀ s t : State, AllowanceLaw s → step s = .next t → AllowanceLaw t

/-- R56, R63, R64, R65, R66, R68, R69, R76: a step keeps the laws of the charge sections: the grants together never exceed
the applied allowance, and a VACANT port is at 5 V. -/
def Obligations.StepsKeepTheChargeLaw : Prop := ∀ s t : State, ChargeLaw s → step s = .next t → ChargeLaw t

/-- R99, R100, R102, R103: a step keeps the law of every door: no latch is energised outside RELEASING. -/
def Obligations.StepsKeepTheDoorLaw : Prop := ∀ s t : State, DoorLaw s → step s = .next t → DoorLaw t

/-- R117, R133: a step keeps the order, the capacity and the uniqueness of the credential table and the loan list. -/
def Obligations.StepsKeepTheTableLaws : Prop :=
  ∀ s t : State, step s = .next t → (CredentialLaw s → CredentialLaw t) ∧ (LoanLaw s → LoanLaw t)

/-- R140, R146, R151: a step keeps the law of the lanes: no bay is queued twice, or queued and on a lane, or on two
lanes; a switch is closed only at a SECURE door for a CONNECTED lane machine; and no bay that is claimed or released has
a lane machine in WAKING or CONNECTED. -/
def Obligations.StepsKeepTheLaneLaw : Prop := ∀ s t : State, LaneLaw s → step s = .next t → LaneLaw t

/-! ## The line code -/

/-- R2, R3, R9, R10, R175: what a sender puts on the line for a header and a body of up to 32 bytes, a receiver reads
back whole, with nothing corrected and a good body check. -/
def Obligations.SentFramesAreReceived : Prop :=
  ∀ (h : Header) (body : List Byte), body.length ≤ 32 → h.length = BitVec.ofNat 6 body.length →
    receiveBits (lineBits h body) = .ended false h body true

/-- R175: a CRC-16 is formed with the generator x^16 + x^12 + x^5 + 1 and the initial value 0xFFFF, its input most
significant bit first and its result not inverted: over the 37 header bits and the body in a frame that is sent and in
one that is received, over B, R and N_cfg of the working configuration in the digest, and over bytes 0 to 61 of a
record. The 37 header bits stand at the positions 1 to 43 that are no powers of two; the check bits c_0 to c_5 make even
the parities of the positions whose number has bit k set, the last bit that of all, and they are sent in this order. The
receiver finds what the table of syndrome and overall parity says, so that of the 44 bits any one wrong bit is corrected
and any two make the header wrong. -/
def Obligations.HeaderCheckCorrectsOneBit : Prop :=
  let msbFirst (bytes : List Byte) : List Bool := bytes.flatMap fun b => (List.range 8).map fun i => b.getMsbD i
  (∀ bits : List Bool, crc16 bits =
    bits.foldl (fun (r : BitVec 16) b => if r.msb != b then (r <<< 1) ^^^ 0x1021#16 else r <<< 1) 0xFFFF#16) ∧
  (∀ (h : Header) (body : List Byte),
    let line (check : BitVec 16) : List Bool :=
      stuff (false :: (headerBits h ++ headerCheck (headerBits h) ++ msbFirst body ++
        (List.range 16).map fun i => check.getMsbD i)) ++ List.replicate 8 true
    let crc := crc16 (headerBits h ++ msbFirst body)
    lineBits h body = line crc ∧
    (body.length ≤ 32 → h.length = BitVec.ofNat 6 body.length →
      ∀ check : BitVec 16, receiveBits (line check) = .ended false h body (decide (check = crc)))) ∧
  (∀ (r : ConfigRead) (result : Option (List Byte)) (s t : State), s.cfl.configRead = some r →
    exec (.configReadEnd result) s = .next t →
    let c := t.cfl.config
    t.cfl.digest = crc16 (msbFirst [BitVec.ofNat 8 (c.budget / 256), BitVec.ofNat 8 c.budget,
      BitVec.ofNat 8 (c.reserve / 256), BitVec.ofNat 8 c.reserve, BitVec.ofNat 8 c.shelves])) ∧
  (∀ bytes : List Byte, recordGood bytes = true →
    bytes.getD 62 0 ++ bytes.getD 63 0 = crc16 (msbFirst (bytes.take 62))) ∧
  (let powers : List Nat := [1, 2, 4, 8, 16, 32]
   let places : List Nat := (List.range 44).filter fun p => p != 0 && !powers.contains p
   let placed (bits : List Bool) (p : Nat) : Bool :=
     if p ∈ powers then bits.getD (37 + powers.idxOf p) false else bits.getD (places.idxOf p) false
   let ones (bits : List Bool) (among : Nat → Bool) : Nat :=
     ((List.range 44).filter fun p => p != 0 && among p && placed bits p).length
   (∀ header : List Bool, header.length = 37 →
     let sent := header ++ headerCheck header
     sent.length = 44 ∧ (∀ k < 6, ones sent (fun p => p.testBit k) % 2 = 0) ∧ sent.count true % 2 = 0) ∧
   ∀ bits : List Bool, bits.length = 44 →
     let syndrome : Nat := ((List.range 6).map fun k => 2 ^ k * (ones bits (fun p => p.testBit k) % 2)).sum
     let odd : Prop := bits.count true % 2 = 1
     let header := bits.take 37
     (syndrome = 0 → ¬ odd → checkHeader bits = .clean (headerOfBits header)) ∧
     (syndrome = 0 → odd → checkHeader bits = .corrected (headerOfBits header)) ∧
     (syndrome ∈ powers → odd → checkHeader bits = .corrected (headerOfBits header)) ∧
     (syndrome ∈ places → odd →
       checkHeader bits = .corrected (headerOfBits
         (header.set (places.idxOf syndrome) (!header.getD (places.idxOf syndrome) false)))) ∧
     (syndrome ≠ 0 → ¬ odd → checkHeader bits = .bad) ∧
     (43 < syndrome → odd → checkHeader bits = .bad)) ∧
  ∀ h : Header,
    let sent := headerBits h ++ headerCheck (headerBits h)
    checkHeader sent = .clean h ∧
    (∀ i < 44, checkHeader (flipAt sent i) = .corrected h) ∧
    ∀ i < 44, ∀ j < 44, i ≠ j → checkHeader (flipAt (flipAt sent i) j) = .bad
end

