-- ==== Sys2Proof/Laws/ReadBack.lean ====
section
/-! SUPPORT. What a sender's comparison of the bits it reads back can find (R6, R7). -/

namespace Sys2Proof.Machine

/-- A first mismatch at a place: equal bits before it, and there two bits that differ. -/
theorem firstMismatch_eq_some_iff (driven read : List Bool) (i : Nat) :
    firstMismatch driven read = some i ↔
      read.take i = driven.take i ∧ ∃ b, driven[i]? = some b ∧ read[i]? = some (!b) := by
  induction driven generalizing read i with
  | nil => simp [firstMismatch]
  | cons b driven ih =>
    cases read with
    | nil => simp [firstMismatch]
    | cons c read =>
      by_cases h : b = c
      · subst h
        cases i <;> simp [firstMismatch, ih]
      · have hc : c = !b := by cases b <;> cases c <;> simp_all
        subst hc
        cases i <;> simp [firstMismatch]

/-- Contention is lost at a first mismatch that is a recessive key bit, and at no other. -/
theorem readBack_eq_lost_iff (driven read : List Bool) :
    readBack driven read = .lost ↔
      ∃ i, firstMismatch driven read = some i ∧ driven[i]? = some true ∧ keyBit driven i = true := by
  cases h : firstMismatch driven read with
  | none => simp [readBack, h]
  | some i =>
    obtain ⟨-, b, hb, -⟩ := (firstMismatch_eq_some_iff driven read i).1 h
    by_cases hk : keyBit driven i = true <;> cases b <;> simp [readBack, h, hb, hk]

/-- A bit error is a first mismatch that loses no contention. -/
theorem readBack_eq_bitError_iff (driven read : List Bool) :
    readBack driven read = .bitError ↔
      ∃ i, firstMismatch driven read = some i ∧ ¬ (driven[i]? = some true ∧ keyBit driven i = true) := by
  cases h : firstMismatch driven read with
  | none => simp [readBack, h]
  | some i =>
    obtain ⟨-, b, hb, -⟩ := (firstMismatch_eq_some_iff driven read i).1 h
    by_cases hk : keyBit driven i = true <;> cases b <;> simp [readBack, h, hb, hk]

end Sys2Proof.Machine
end

