-- ==== Sys2Proof/Laws/State.lean ====
section
/-! SUPPORT. One lemma for each field of State and each named update of it, and what the updates do to a bay
record, a lane, a slot and a peer entry. -/

namespace Sys2Proof.Machine

variable (s : State)

/-! ### setBay -/

@[simp] theorem State.setBay_pending (b : BayIx) (x : Bay) : (s.setBay b x).pending = s.pending := rfl
@[simp] theorem State.setBay_now (b : BayIx) (x : Bay) : (s.setBay b x).now = s.now := rfl
@[simp] theorem State.setBay_freeCount (b : BayIx) (x : Bay) : (s.setBay b x).freeCount = s.freeCount := rfl
@[simp] theorem State.setBay_cfl (b : BayIx) (x : Bay) : (s.setBay b x).cfl = s.cfl := rfl
@[simp] theorem State.setBay_lkc (b : BayIx) (x : Bay) : (s.setBay b x).lkc = s.lkc := rfl
@[simp] theorem State.setBay_hands (b : BayIx) (x : Bay) : (s.setBay b x).hands = s.hands := rfl
@[simp] theorem State.setBay_pmn (b : BayIx) (x : Bay) : (s.setBay b x).pmn = s.pmn := rfl
@[simp] theorem State.setBay_shu (b : BayIx) (x : Bay) : (s.setBay b x).shu = s.shu := rfl
@[simp] theorem State.setBay_bcc (b : BayIx) (x : Bay) : (s.setBay b x).bcc = s.bcc := rfl
@[simp] theorem State.setBay_csu (b : BayIx) (x : Bay) : (s.setBay b x).csu = s.csu := rfl
@[simp] theorem State.setBay_pvs (b : BayIx) (x : Bay) : (s.setBay b x).pvs = s.pvs := rfl
@[simp] theorem State.setBay_rpu (b : BayIx) (x : Bay) : (s.setBay b x).rpu = s.rpu := rfl

/-! ### modBay -/

@[simp] theorem State.modBay_pending (b : BayIx) (f : Bay → Bay) : (s.modBay b f).pending = s.pending := rfl
@[simp] theorem State.modBay_now (b : BayIx) (f : Bay → Bay) : (s.modBay b f).now = s.now := rfl
@[simp] theorem State.modBay_freeCount (b : BayIx) (f : Bay → Bay) : (s.modBay b f).freeCount = s.freeCount := rfl
@[simp] theorem State.modBay_cfl (b : BayIx) (f : Bay → Bay) : (s.modBay b f).cfl = s.cfl := rfl
@[simp] theorem State.modBay_lkc (b : BayIx) (f : Bay → Bay) : (s.modBay b f).lkc = s.lkc := rfl
@[simp] theorem State.modBay_hands (b : BayIx) (f : Bay → Bay) : (s.modBay b f).hands = s.hands := rfl
@[simp] theorem State.modBay_pmn (b : BayIx) (f : Bay → Bay) : (s.modBay b f).pmn = s.pmn := rfl
@[simp] theorem State.modBay_shu (b : BayIx) (f : Bay → Bay) : (s.modBay b f).shu = s.shu := rfl
@[simp] theorem State.modBay_bcc (b : BayIx) (f : Bay → Bay) : (s.modBay b f).bcc = s.bcc := rfl
@[simp] theorem State.modBay_csu (b : BayIx) (f : Bay → Bay) : (s.modBay b f).csu = s.csu := rfl
@[simp] theorem State.modBay_pvs (b : BayIx) (f : Bay → Bay) : (s.modBay b f).pvs = s.pvs := rfl
@[simp] theorem State.modBay_rpu (b : BayIx) (f : Bay → Bay) : (s.modBay b f).rpu = s.rpu := rfl

/-! ### modCharge -/

@[simp] theorem State.modCharge_pending (b : BayIx) (f : Charge → Charge) : (s.modCharge b f).pending = s.pending := rfl
@[simp] theorem State.modCharge_now (b : BayIx) (f : Charge → Charge) : (s.modCharge b f).now = s.now := rfl
@[simp] theorem State.modCharge_freeCount (b : BayIx) (f : Charge → Charge) : (s.modCharge b f).freeCount = s.freeCount := rfl
@[simp] theorem State.modCharge_cfl (b : BayIx) (f : Charge → Charge) : (s.modCharge b f).cfl = s.cfl := rfl
@[simp] theorem State.modCharge_lkc (b : BayIx) (f : Charge → Charge) : (s.modCharge b f).lkc = s.lkc := rfl
@[simp] theorem State.modCharge_hands (b : BayIx) (f : Charge → Charge) : (s.modCharge b f).hands = s.hands := rfl
@[simp] theorem State.modCharge_pmn (b : BayIx) (f : Charge → Charge) : (s.modCharge b f).pmn = s.pmn := rfl
@[simp] theorem State.modCharge_shu (b : BayIx) (f : Charge → Charge) : (s.modCharge b f).shu = s.shu := rfl
@[simp] theorem State.modCharge_bcc (b : BayIx) (f : Charge → Charge) : (s.modCharge b f).bcc = s.bcc := rfl
@[simp] theorem State.modCharge_csu (b : BayIx) (f : Charge → Charge) : (s.modCharge b f).csu = s.csu := rfl
@[simp] theorem State.modCharge_pvs (b : BayIx) (f : Charge → Charge) : (s.modCharge b f).pvs = s.pvs := rfl
@[simp] theorem State.modCharge_rpu (b : BayIx) (f : Charge → Charge) : (s.modCharge b f).rpu = s.rpu := rfl

/-! ### modChannel -/

@[simp] theorem State.modChannel_pending (b : BayIx) (f : Channel → Channel) : (s.modChannel b f).pending = s.pending := rfl
@[simp] theorem State.modChannel_now (b : BayIx) (f : Channel → Channel) : (s.modChannel b f).now = s.now := rfl
@[simp] theorem State.modChannel_freeCount (b : BayIx) (f : Channel → Channel) : (s.modChannel b f).freeCount = s.freeCount := rfl
@[simp] theorem State.modChannel_cfl (b : BayIx) (f : Channel → Channel) : (s.modChannel b f).cfl = s.cfl := rfl
@[simp] theorem State.modChannel_lkc (b : BayIx) (f : Channel → Channel) : (s.modChannel b f).lkc = s.lkc := rfl
@[simp] theorem State.modChannel_hands (b : BayIx) (f : Channel → Channel) : (s.modChannel b f).hands = s.hands := rfl
@[simp] theorem State.modChannel_pmn (b : BayIx) (f : Channel → Channel) : (s.modChannel b f).pmn = s.pmn := rfl
@[simp] theorem State.modChannel_shu (b : BayIx) (f : Channel → Channel) : (s.modChannel b f).shu = s.shu := rfl
@[simp] theorem State.modChannel_bcc (b : BayIx) (f : Channel → Channel) : (s.modChannel b f).bcc = s.bcc := rfl
@[simp] theorem State.modChannel_csu (b : BayIx) (f : Channel → Channel) : (s.modChannel b f).csu = s.csu := rfl
@[simp] theorem State.modChannel_pvs (b : BayIx) (f : Channel → Channel) : (s.modChannel b f).pvs = s.pvs := rfl
@[simp] theorem State.modChannel_rpu (b : BayIx) (f : Channel → Channel) : (s.modChannel b f).rpu = s.rpu := rfl

/-! ### modView -/

@[simp] theorem State.modView_pending (b : BayIx) (f : TabletView → TabletView) : (s.modView b f).pending = s.pending := rfl
@[simp] theorem State.modView_now (b : BayIx) (f : TabletView → TabletView) : (s.modView b f).now = s.now := rfl
@[simp] theorem State.modView_freeCount (b : BayIx) (f : TabletView → TabletView) : (s.modView b f).freeCount = s.freeCount := rfl
@[simp] theorem State.modView_cfl (b : BayIx) (f : TabletView → TabletView) : (s.modView b f).cfl = s.cfl := rfl
@[simp] theorem State.modView_lkc (b : BayIx) (f : TabletView → TabletView) : (s.modView b f).lkc = s.lkc := rfl
@[simp] theorem State.modView_hands (b : BayIx) (f : TabletView → TabletView) : (s.modView b f).hands = s.hands := rfl
@[simp] theorem State.modView_pmn (b : BayIx) (f : TabletView → TabletView) : (s.modView b f).pmn = s.pmn := rfl
@[simp] theorem State.modView_shu (b : BayIx) (f : TabletView → TabletView) : (s.modView b f).shu = s.shu := rfl
@[simp] theorem State.modView_bcc (b : BayIx) (f : TabletView → TabletView) : (s.modView b f).bcc = s.bcc := rfl
@[simp] theorem State.modView_csu (b : BayIx) (f : TabletView → TabletView) : (s.modView b f).csu = s.csu := rfl
@[simp] theorem State.modView_pvs (b : BayIx) (f : TabletView → TabletView) : (s.modView b f).pvs = s.pvs := rfl
@[simp] theorem State.modView_rpu (b : BayIx) (f : TabletView → TabletView) : (s.modView b f).rpu = s.rpu := rfl

/-! ### modDoor -/

@[simp] theorem State.modDoor_pending (b : BayIx) (f : Door → Door) : (s.modDoor b f).pending = s.pending := rfl
@[simp] theorem State.modDoor_now (b : BayIx) (f : Door → Door) : (s.modDoor b f).now = s.now := rfl
@[simp] theorem State.modDoor_freeCount (b : BayIx) (f : Door → Door) : (s.modDoor b f).freeCount = s.freeCount := rfl
@[simp] theorem State.modDoor_cfl (b : BayIx) (f : Door → Door) : (s.modDoor b f).cfl = s.cfl := rfl
@[simp] theorem State.modDoor_lkc (b : BayIx) (f : Door → Door) : (s.modDoor b f).lkc = s.lkc := rfl
@[simp] theorem State.modDoor_hands (b : BayIx) (f : Door → Door) : (s.modDoor b f).hands = s.hands := rfl
@[simp] theorem State.modDoor_pmn (b : BayIx) (f : Door → Door) : (s.modDoor b f).pmn = s.pmn := rfl
@[simp] theorem State.modDoor_shu (b : BayIx) (f : Door → Door) : (s.modDoor b f).shu = s.shu := rfl
@[simp] theorem State.modDoor_bcc (b : BayIx) (f : Door → Door) : (s.modDoor b f).bcc = s.bcc := rfl
@[simp] theorem State.modDoor_csu (b : BayIx) (f : Door → Door) : (s.modDoor b f).csu = s.csu := rfl
@[simp] theorem State.modDoor_pvs (b : BayIx) (f : Door → Door) : (s.modDoor b f).pvs = s.pvs := rfl
@[simp] theorem State.modDoor_rpu (b : BayIx) (f : Door → Door) : (s.modDoor b f).rpu = s.rpu := rfl

/-! ### modProv -/

@[simp] theorem State.modProv_pending (b : BayIx) (f : Prov → Prov) : (s.modProv b f).pending = s.pending := rfl
@[simp] theorem State.modProv_now (b : BayIx) (f : Prov → Prov) : (s.modProv b f).now = s.now := rfl
@[simp] theorem State.modProv_freeCount (b : BayIx) (f : Prov → Prov) : (s.modProv b f).freeCount = s.freeCount := rfl
@[simp] theorem State.modProv_cfl (b : BayIx) (f : Prov → Prov) : (s.modProv b f).cfl = s.cfl := rfl
@[simp] theorem State.modProv_lkc (b : BayIx) (f : Prov → Prov) : (s.modProv b f).lkc = s.lkc := rfl
@[simp] theorem State.modProv_hands (b : BayIx) (f : Prov → Prov) : (s.modProv b f).hands = s.hands := rfl
@[simp] theorem State.modProv_pmn (b : BayIx) (f : Prov → Prov) : (s.modProv b f).pmn = s.pmn := rfl
@[simp] theorem State.modProv_shu (b : BayIx) (f : Prov → Prov) : (s.modProv b f).shu = s.shu := rfl
@[simp] theorem State.modProv_bcc (b : BayIx) (f : Prov → Prov) : (s.modProv b f).bcc = s.bcc := rfl
@[simp] theorem State.modProv_csu (b : BayIx) (f : Prov → Prov) : (s.modProv b f).csu = s.csu := rfl
@[simp] theorem State.modProv_pvs (b : BayIx) (f : Prov → Prov) : (s.modProv b f).pvs = s.pvs := rfl
@[simp] theorem State.modProv_rpu (b : BayIx) (f : Prov → Prov) : (s.modProv b f).rpu = s.rpu := rfl

/-! ### modCounters -/

@[simp] theorem State.modCounters_pending (b : BayIx) (f : BayCounters → BayCounters) : (s.modCounters b f).pending = s.pending := rfl
@[simp] theorem State.modCounters_now (b : BayIx) (f : BayCounters → BayCounters) : (s.modCounters b f).now = s.now := rfl
@[simp] theorem State.modCounters_freeCount (b : BayIx) (f : BayCounters → BayCounters) : (s.modCounters b f).freeCount = s.freeCount := rfl
@[simp] theorem State.modCounters_cfl (b : BayIx) (f : BayCounters → BayCounters) : (s.modCounters b f).cfl = s.cfl := rfl
@[simp] theorem State.modCounters_lkc (b : BayIx) (f : BayCounters → BayCounters) : (s.modCounters b f).lkc = s.lkc := rfl
@[simp] theorem State.modCounters_hands (b : BayIx) (f : BayCounters → BayCounters) : (s.modCounters b f).hands = s.hands := rfl
@[simp] theorem State.modCounters_pmn (b : BayIx) (f : BayCounters → BayCounters) : (s.modCounters b f).pmn = s.pmn := rfl
@[simp] theorem State.modCounters_shu (b : BayIx) (f : BayCounters → BayCounters) : (s.modCounters b f).shu = s.shu := rfl
@[simp] theorem State.modCounters_bcc (b : BayIx) (f : BayCounters → BayCounters) : (s.modCounters b f).bcc = s.bcc := rfl
@[simp] theorem State.modCounters_csu (b : BayIx) (f : BayCounters → BayCounters) : (s.modCounters b f).csu = s.csu := rfl
@[simp] theorem State.modCounters_pvs (b : BayIx) (f : BayCounters → BayCounters) : (s.modCounters b f).pvs = s.pvs := rfl
@[simp] theorem State.modCounters_rpu (b : BayIx) (f : BayCounters → BayCounters) : (s.modCounters b f).rpu = s.rpu := rfl

/-! ### modLkc -/

@[simp] theorem State.modLkc_pending (f : Lkc → Lkc) : (s.modLkc f).pending = s.pending := rfl
@[simp] theorem State.modLkc_now (f : Lkc → Lkc) : (s.modLkc f).now = s.now := rfl
@[simp] theorem State.modLkc_freeCount (f : Lkc → Lkc) : (s.modLkc f).freeCount = s.freeCount := rfl
@[simp] theorem State.modLkc_cfl (f : Lkc → Lkc) : (s.modLkc f).cfl = s.cfl := rfl
@[simp] theorem State.modLkc_hands (f : Lkc → Lkc) : (s.modLkc f).hands = s.hands := rfl
@[simp] theorem State.modLkc_pmn (f : Lkc → Lkc) : (s.modLkc f).pmn = s.pmn := rfl
@[simp] theorem State.modLkc_shu (f : Lkc → Lkc) : (s.modLkc f).shu = s.shu := rfl
@[simp] theorem State.modLkc_bcc (f : Lkc → Lkc) : (s.modLkc f).bcc = s.bcc := rfl
@[simp] theorem State.modLkc_bays (f : Lkc → Lkc) : (s.modLkc f).bays = s.bays := rfl
@[simp] theorem State.modLkc_csu (f : Lkc → Lkc) : (s.modLkc f).csu = s.csu := rfl
@[simp] theorem State.modLkc_pvs (f : Lkc → Lkc) : (s.modLkc f).pvs = s.pvs := rfl
@[simp] theorem State.modLkc_rpu (f : Lkc → Lkc) : (s.modLkc f).rpu = s.rpu := rfl

/-! ### countLink -/

@[simp] theorem State.countLink_pending (f : LinkCounters → LinkCounters) : (s.countLink f).pending = s.pending := rfl
@[simp] theorem State.countLink_now (f : LinkCounters → LinkCounters) : (s.countLink f).now = s.now := rfl
@[simp] theorem State.countLink_freeCount (f : LinkCounters → LinkCounters) : (s.countLink f).freeCount = s.freeCount := rfl
@[simp] theorem State.countLink_cfl (f : LinkCounters → LinkCounters) : (s.countLink f).cfl = s.cfl := rfl
@[simp] theorem State.countLink_hands (f : LinkCounters → LinkCounters) : (s.countLink f).hands = s.hands := rfl
@[simp] theorem State.countLink_pmn (f : LinkCounters → LinkCounters) : (s.countLink f).pmn = s.pmn := rfl
@[simp] theorem State.countLink_shu (f : LinkCounters → LinkCounters) : (s.countLink f).shu = s.shu := rfl
@[simp] theorem State.countLink_bcc (f : LinkCounters → LinkCounters) : (s.countLink f).bcc = s.bcc := rfl
@[simp] theorem State.countLink_bays (f : LinkCounters → LinkCounters) : (s.countLink f).bays = s.bays := rfl
@[simp] theorem State.countLink_csu (f : LinkCounters → LinkCounters) : (s.countLink f).csu = s.csu := rfl
@[simp] theorem State.countLink_pvs (f : LinkCounters → LinkCounters) : (s.countLink f).pvs = s.pvs := rfl
@[simp] theorem State.countLink_rpu (f : LinkCounters → LinkCounters) : (s.countLink f).rpu = s.rpu := rfl

/-! ### setFlag -/

@[simp] theorem State.setFlag_pending (f : LinkFlag) : (s.setFlag f).pending = s.pending := rfl
@[simp] theorem State.setFlag_now (f : LinkFlag) : (s.setFlag f).now = s.now := rfl
@[simp] theorem State.setFlag_freeCount (f : LinkFlag) : (s.setFlag f).freeCount = s.freeCount := rfl
@[simp] theorem State.setFlag_cfl (f : LinkFlag) : (s.setFlag f).cfl = s.cfl := rfl
@[simp] theorem State.setFlag_hands (f : LinkFlag) : (s.setFlag f).hands = s.hands := rfl
@[simp] theorem State.setFlag_pmn (f : LinkFlag) : (s.setFlag f).pmn = s.pmn := rfl
@[simp] theorem State.setFlag_shu (f : LinkFlag) : (s.setFlag f).shu = s.shu := rfl
@[simp] theorem State.setFlag_bcc (f : LinkFlag) : (s.setFlag f).bcc = s.bcc := rfl
@[simp] theorem State.setFlag_bays (f : LinkFlag) : (s.setFlag f).bays = s.bays := rfl
@[simp] theorem State.setFlag_csu (f : LinkFlag) : (s.setFlag f).csu = s.csu := rfl
@[simp] theorem State.setFlag_pvs (f : LinkFlag) : (s.setFlag f).pvs = s.pvs := rfl
@[simp] theorem State.setFlag_rpu (f : LinkFlag) : (s.setFlag f).rpu = s.rpu := rfl

/-! ### modCsu -/

@[simp] theorem State.modCsu_pending (f : Csu → Csu) : (s.modCsu f).pending = s.pending := rfl
@[simp] theorem State.modCsu_now (f : Csu → Csu) : (s.modCsu f).now = s.now := rfl
@[simp] theorem State.modCsu_freeCount (f : Csu → Csu) : (s.modCsu f).freeCount = s.freeCount := rfl
@[simp] theorem State.modCsu_cfl (f : Csu → Csu) : (s.modCsu f).cfl = s.cfl := rfl
@[simp] theorem State.modCsu_lkc (f : Csu → Csu) : (s.modCsu f).lkc = s.lkc := rfl
@[simp] theorem State.modCsu_hands (f : Csu → Csu) : (s.modCsu f).hands = s.hands := rfl
@[simp] theorem State.modCsu_pmn (f : Csu → Csu) : (s.modCsu f).pmn = s.pmn := rfl
@[simp] theorem State.modCsu_shu (f : Csu → Csu) : (s.modCsu f).shu = s.shu := rfl
@[simp] theorem State.modCsu_bcc (f : Csu → Csu) : (s.modCsu f).bcc = s.bcc := rfl
@[simp] theorem State.modCsu_bays (f : Csu → Csu) : (s.modCsu f).bays = s.bays := rfl
@[simp] theorem State.modCsu_pvs (f : Csu → Csu) : (s.modCsu f).pvs = s.pvs := rfl
@[simp] theorem State.modCsu_rpu (f : Csu → Csu) : (s.modCsu f).rpu = s.rpu := rfl

/-! ### setSlot -/

@[simp] theorem State.setSlot_pending (r : Reader) (x : Option PresentationSlot) : (s.setSlot r x).pending = s.pending := rfl
@[simp] theorem State.setSlot_now (r : Reader) (x : Option PresentationSlot) : (s.setSlot r x).now = s.now := rfl
@[simp] theorem State.setSlot_freeCount (r : Reader) (x : Option PresentationSlot) : (s.setSlot r x).freeCount = s.freeCount := rfl
@[simp] theorem State.setSlot_cfl (r : Reader) (x : Option PresentationSlot) : (s.setSlot r x).cfl = s.cfl := rfl
@[simp] theorem State.setSlot_lkc (r : Reader) (x : Option PresentationSlot) : (s.setSlot r x).lkc = s.lkc := rfl
@[simp] theorem State.setSlot_hands (r : Reader) (x : Option PresentationSlot) : (s.setSlot r x).hands = s.hands := rfl
@[simp] theorem State.setSlot_pmn (r : Reader) (x : Option PresentationSlot) : (s.setSlot r x).pmn = s.pmn := rfl
@[simp] theorem State.setSlot_shu (r : Reader) (x : Option PresentationSlot) : (s.setSlot r x).shu = s.shu := rfl
@[simp] theorem State.setSlot_bcc (r : Reader) (x : Option PresentationSlot) : (s.setSlot r x).bcc = s.bcc := rfl
@[simp] theorem State.setSlot_bays (r : Reader) (x : Option PresentationSlot) : (s.setSlot r x).bays = s.bays := rfl
@[simp] theorem State.setSlot_pvs (r : Reader) (x : Option PresentationSlot) : (s.setSlot r x).pvs = s.pvs := rfl
@[simp] theorem State.setSlot_rpu (r : Reader) (x : Option PresentationSlot) : (s.setSlot r x).rpu = s.rpu := rfl

/-! ### modPvs -/

@[simp] theorem State.modPvs_pending (f : Pvs → Pvs) : (s.modPvs f).pending = s.pending := rfl
@[simp] theorem State.modPvs_now (f : Pvs → Pvs) : (s.modPvs f).now = s.now := rfl
@[simp] theorem State.modPvs_freeCount (f : Pvs → Pvs) : (s.modPvs f).freeCount = s.freeCount := rfl
@[simp] theorem State.modPvs_cfl (f : Pvs → Pvs) : (s.modPvs f).cfl = s.cfl := rfl
@[simp] theorem State.modPvs_lkc (f : Pvs → Pvs) : (s.modPvs f).lkc = s.lkc := rfl
@[simp] theorem State.modPvs_hands (f : Pvs → Pvs) : (s.modPvs f).hands = s.hands := rfl
@[simp] theorem State.modPvs_pmn (f : Pvs → Pvs) : (s.modPvs f).pmn = s.pmn := rfl
@[simp] theorem State.modPvs_shu (f : Pvs → Pvs) : (s.modPvs f).shu = s.shu := rfl
@[simp] theorem State.modPvs_bcc (f : Pvs → Pvs) : (s.modPvs f).bcc = s.bcc := rfl
@[simp] theorem State.modPvs_bays (f : Pvs → Pvs) : (s.modPvs f).bays = s.bays := rfl
@[simp] theorem State.modPvs_csu (f : Pvs → Pvs) : (s.modPvs f).csu = s.csu := rfl
@[simp] theorem State.modPvs_rpu (f : Pvs → Pvs) : (s.modPvs f).rpu = s.rpu := rfl

/-! ### setLane -/

@[simp] theorem State.setLane_pending (n : LaneIx) (x : Option LaneSession) : (s.setLane n x).pending = s.pending := rfl
@[simp] theorem State.setLane_now (n : LaneIx) (x : Option LaneSession) : (s.setLane n x).now = s.now := rfl
@[simp] theorem State.setLane_freeCount (n : LaneIx) (x : Option LaneSession) : (s.setLane n x).freeCount = s.freeCount := rfl
@[simp] theorem State.setLane_cfl (n : LaneIx) (x : Option LaneSession) : (s.setLane n x).cfl = s.cfl := rfl
@[simp] theorem State.setLane_lkc (n : LaneIx) (x : Option LaneSession) : (s.setLane n x).lkc = s.lkc := rfl
@[simp] theorem State.setLane_hands (n : LaneIx) (x : Option LaneSession) : (s.setLane n x).hands = s.hands := rfl
@[simp] theorem State.setLane_pmn (n : LaneIx) (x : Option LaneSession) : (s.setLane n x).pmn = s.pmn := rfl
@[simp] theorem State.setLane_shu (n : LaneIx) (x : Option LaneSession) : (s.setLane n x).shu = s.shu := rfl
@[simp] theorem State.setLane_bcc (n : LaneIx) (x : Option LaneSession) : (s.setLane n x).bcc = s.bcc := rfl
@[simp] theorem State.setLane_bays (n : LaneIx) (x : Option LaneSession) : (s.setLane n x).bays = s.bays := rfl
@[simp] theorem State.setLane_csu (n : LaneIx) (x : Option LaneSession) : (s.setLane n x).csu = s.csu := rfl
@[simp] theorem State.setLane_rpu (n : LaneIx) (x : Option LaneSession) : (s.setLane n x).rpu = s.rpu := rfl

/-! ### setCampaign -/

@[simp] theorem State.setCampaign_pending (k : SlotIx) (x : Option Campaign) : (s.setCampaign k x).pending = s.pending := rfl
@[simp] theorem State.setCampaign_now (k : SlotIx) (x : Option Campaign) : (s.setCampaign k x).now = s.now := rfl
@[simp] theorem State.setCampaign_freeCount (k : SlotIx) (x : Option Campaign) : (s.setCampaign k x).freeCount = s.freeCount := rfl
@[simp] theorem State.setCampaign_cfl (k : SlotIx) (x : Option Campaign) : (s.setCampaign k x).cfl = s.cfl := rfl
@[simp] theorem State.setCampaign_lkc (k : SlotIx) (x : Option Campaign) : (s.setCampaign k x).lkc = s.lkc := rfl
@[simp] theorem State.setCampaign_hands (k : SlotIx) (x : Option Campaign) : (s.setCampaign k x).hands = s.hands := rfl
@[simp] theorem State.setCampaign_pmn (k : SlotIx) (x : Option Campaign) : (s.setCampaign k x).pmn = s.pmn := rfl
@[simp] theorem State.setCampaign_shu (k : SlotIx) (x : Option Campaign) : (s.setCampaign k x).shu = s.shu := rfl
@[simp] theorem State.setCampaign_bcc (k : SlotIx) (x : Option Campaign) : (s.setCampaign k x).bcc = s.bcc := rfl
@[simp] theorem State.setCampaign_bays (k : SlotIx) (x : Option Campaign) : (s.setCampaign k x).bays = s.bays := rfl
@[simp] theorem State.setCampaign_csu (k : SlotIx) (x : Option Campaign) : (s.setCampaign k x).csu = s.csu := rfl
@[simp] theorem State.setCampaign_rpu (k : SlotIx) (x : Option Campaign) : (s.setCampaign k x).rpu = s.rpu := rfl

/-! ### modPmn -/

@[simp] theorem State.modPmn_pending (f : Pmn → Pmn) : (s.modPmn f).pending = s.pending := rfl
@[simp] theorem State.modPmn_now (f : Pmn → Pmn) : (s.modPmn f).now = s.now := rfl
@[simp] theorem State.modPmn_freeCount (f : Pmn → Pmn) : (s.modPmn f).freeCount = s.freeCount := rfl
@[simp] theorem State.modPmn_cfl (f : Pmn → Pmn) : (s.modPmn f).cfl = s.cfl := rfl
@[simp] theorem State.modPmn_lkc (f : Pmn → Pmn) : (s.modPmn f).lkc = s.lkc := rfl
@[simp] theorem State.modPmn_hands (f : Pmn → Pmn) : (s.modPmn f).hands = s.hands := rfl
@[simp] theorem State.modPmn_shu (f : Pmn → Pmn) : (s.modPmn f).shu = s.shu := rfl
@[simp] theorem State.modPmn_bcc (f : Pmn → Pmn) : (s.modPmn f).bcc = s.bcc := rfl
@[simp] theorem State.modPmn_bays (f : Pmn → Pmn) : (s.modPmn f).bays = s.bays := rfl
@[simp] theorem State.modPmn_csu (f : Pmn → Pmn) : (s.modPmn f).csu = s.csu := rfl
@[simp] theorem State.modPmn_pvs (f : Pmn → Pmn) : (s.modPmn f).pvs = s.pvs := rfl
@[simp] theorem State.modPmn_rpu (f : Pmn → Pmn) : (s.modPmn f).rpu = s.rpu := rfl

/-! ### setPeer -/

@[simp] theorem State.setPeer_pending (a : Addr) (p : Option Peer) : (s.setPeer a p).pending = s.pending := rfl
@[simp] theorem State.setPeer_now (a : Addr) (p : Option Peer) : (s.setPeer a p).now = s.now := rfl
@[simp] theorem State.setPeer_freeCount (a : Addr) (p : Option Peer) : (s.setPeer a p).freeCount = s.freeCount := rfl
@[simp] theorem State.setPeer_cfl (a : Addr) (p : Option Peer) : (s.setPeer a p).cfl = s.cfl := rfl
@[simp] theorem State.setPeer_lkc (a : Addr) (p : Option Peer) : (s.setPeer a p).lkc = s.lkc := rfl
@[simp] theorem State.setPeer_hands (a : Addr) (p : Option Peer) : (s.setPeer a p).hands = s.hands := rfl
@[simp] theorem State.setPeer_shu (a : Addr) (p : Option Peer) : (s.setPeer a p).shu = s.shu := rfl
@[simp] theorem State.setPeer_bcc (a : Addr) (p : Option Peer) : (s.setPeer a p).bcc = s.bcc := rfl
@[simp] theorem State.setPeer_bays (a : Addr) (p : Option Peer) : (s.setPeer a p).bays = s.bays := rfl
@[simp] theorem State.setPeer_csu (a : Addr) (p : Option Peer) : (s.setPeer a p).csu = s.csu := rfl
@[simp] theorem State.setPeer_pvs (a : Addr) (p : Option Peer) : (s.setPeer a p).pvs = s.pvs := rfl
@[simp] theorem State.setPeer_rpu (a : Addr) (p : Option Peer) : (s.setPeer a p).rpu = s.rpu := rfl

/-! ### modShu -/

@[simp] theorem State.modShu_pending (f : Shu → Shu) : (s.modShu f).pending = s.pending := rfl
@[simp] theorem State.modShu_now (f : Shu → Shu) : (s.modShu f).now = s.now := rfl
@[simp] theorem State.modShu_freeCount (f : Shu → Shu) : (s.modShu f).freeCount = s.freeCount := rfl
@[simp] theorem State.modShu_cfl (f : Shu → Shu) : (s.modShu f).cfl = s.cfl := rfl
@[simp] theorem State.modShu_lkc (f : Shu → Shu) : (s.modShu f).lkc = s.lkc := rfl
@[simp] theorem State.modShu_hands (f : Shu → Shu) : (s.modShu f).hands = s.hands := rfl
@[simp] theorem State.modShu_pmn (f : Shu → Shu) : (s.modShu f).pmn = s.pmn := rfl
@[simp] theorem State.modShu_bcc (f : Shu → Shu) : (s.modShu f).bcc = s.bcc := rfl
@[simp] theorem State.modShu_bays (f : Shu → Shu) : (s.modShu f).bays = s.bays := rfl
@[simp] theorem State.modShu_csu (f : Shu → Shu) : (s.modShu f).csu = s.csu := rfl
@[simp] theorem State.modShu_pvs (f : Shu → Shu) : (s.modShu f).pvs = s.pvs := rfl
@[simp] theorem State.modShu_rpu (f : Shu → Shu) : (s.modShu f).rpu = s.rpu := rfl

/-! ### modCfl -/

@[simp] theorem State.modCfl_pending (f : Cfl → Cfl) : (s.modCfl f).pending = s.pending := rfl
@[simp] theorem State.modCfl_now (f : Cfl → Cfl) : (s.modCfl f).now = s.now := rfl
@[simp] theorem State.modCfl_freeCount (f : Cfl → Cfl) : (s.modCfl f).freeCount = s.freeCount := rfl
@[simp] theorem State.modCfl_lkc (f : Cfl → Cfl) : (s.modCfl f).lkc = s.lkc := rfl
@[simp] theorem State.modCfl_hands (f : Cfl → Cfl) : (s.modCfl f).hands = s.hands := rfl
@[simp] theorem State.modCfl_pmn (f : Cfl → Cfl) : (s.modCfl f).pmn = s.pmn := rfl
@[simp] theorem State.modCfl_shu (f : Cfl → Cfl) : (s.modCfl f).shu = s.shu := rfl
@[simp] theorem State.modCfl_bcc (f : Cfl → Cfl) : (s.modCfl f).bcc = s.bcc := rfl
@[simp] theorem State.modCfl_bays (f : Cfl → Cfl) : (s.modCfl f).bays = s.bays := rfl
@[simp] theorem State.modCfl_csu (f : Cfl → Cfl) : (s.modCfl f).csu = s.csu := rfl
@[simp] theorem State.modCfl_pvs (f : Cfl → Cfl) : (s.modCfl f).pvs = s.pvs := rfl
@[simp] theorem State.modCfl_rpu (f : Cfl → Cfl) : (s.modCfl f).rpu = s.rpu := rfl

/-! ### advanceTo -/

@[simp] theorem State.advanceTo_pending (t : Nat) : (s.advanceTo t).pending = s.pending := rfl
@[simp] theorem State.advanceTo_freeCount (t : Nat) : (s.advanceTo t).freeCount = s.freeCount := rfl
@[simp] theorem State.advanceTo_cfl (t : Nat) : (s.advanceTo t).cfl = s.cfl := rfl
@[simp] theorem State.advanceTo_lkc (t : Nat) : (s.advanceTo t).lkc = s.lkc := rfl
@[simp] theorem State.advanceTo_hands (t : Nat) : (s.advanceTo t).hands = s.hands := rfl
@[simp] theorem State.advanceTo_pmn (t : Nat) : (s.advanceTo t).pmn = s.pmn := rfl
@[simp] theorem State.advanceTo_shu (t : Nat) : (s.advanceTo t).shu = s.shu := rfl
@[simp] theorem State.advanceTo_bcc (t : Nat) : (s.advanceTo t).bcc = s.bcc := rfl
@[simp] theorem State.advanceTo_bays (t : Nat) : (s.advanceTo t).bays = s.bays := rfl
@[simp] theorem State.advanceTo_csu (t : Nat) : (s.advanceTo t).csu = s.csu := rfl
@[simp] theorem State.advanceTo_pvs (t : Nat) : (s.advanceTo t).pvs = s.pvs := rfl
@[simp] theorem State.advanceTo_rpu (t : Nat) : (s.advanceTo t).rpu = s.rpu := rfl

/-! ### setHand -/

@[simp] theorem State.setHand_pending (x : Option RxFrame) (k : Block) : (s.setHand x k).pending = s.pending := by
  cases k <;> rfl
@[simp] theorem State.setHand_now (x : Option RxFrame) (k : Block) : (s.setHand x k).now = s.now := by
  cases k <;> rfl
@[simp] theorem State.setHand_freeCount (x : Option RxFrame) (k : Block) : (s.setHand x k).freeCount = s.freeCount := by
  cases k <;> rfl
@[simp] theorem State.setHand_cfl (x : Option RxFrame) (k : Block) : (s.setHand x k).cfl = s.cfl := by
  cases k <;> rfl
@[simp] theorem State.setHand_lkc (x : Option RxFrame) (k : Block) : (s.setHand x k).lkc = s.lkc := by
  cases k <;> rfl
@[simp] theorem State.setHand_pmn (x : Option RxFrame) (k : Block) : (s.setHand x k).pmn = s.pmn := by
  cases k <;> rfl
@[simp] theorem State.setHand_shu (x : Option RxFrame) (k : Block) : (s.setHand x k).shu = s.shu := by
  cases k <;> rfl
@[simp] theorem State.setHand_bcc (x : Option RxFrame) (k : Block) : (s.setHand x k).bcc = s.bcc := by
  cases k <;> rfl
@[simp] theorem State.setHand_bays (x : Option RxFrame) (k : Block) : (s.setHand x k).bays = s.bays := by
  cases k <;> rfl
@[simp] theorem State.setHand_csu (x : Option RxFrame) (k : Block) : (s.setHand x k).csu = s.csu := by
  cases k <;> rfl
@[simp] theorem State.setHand_pvs (x : Option RxFrame) (k : Block) : (s.setHand x k).pvs = s.pvs := by
  cases k <;> rfl
@[simp] theorem State.setHand_rpu (x : Option RxFrame) (k : Block) : (s.setHand x k).rpu = s.rpu := by
  cases k <;> rfl

/-! ### The fields an update writes -/

@[simp] theorem State.modLkc_lkc (f : Lkc → Lkc) : (s.modLkc f).lkc = f s.lkc := rfl
@[simp] theorem State.modCsu_csu (f : Csu → Csu) : (s.modCsu f).csu = f s.csu := rfl
@[simp] theorem State.modPvs_pvs (f : Pvs → Pvs) : (s.modPvs f).pvs = f s.pvs := rfl
@[simp] theorem State.modPmn_pmn (f : Pmn → Pmn) : (s.modPmn f).pmn = f s.pmn := rfl
@[simp] theorem State.modShu_shu (f : Shu → Shu) : (s.modShu f).shu = f s.shu := rfl
@[simp] theorem State.modCfl_cfl (f : Cfl → Cfl) : (s.modCfl f).cfl = f s.cfl := rfl
@[simp] theorem State.advanceTo_now (t : Nat) : (s.advanceTo t).now = max s.now t := rfl

/-! ### Bay records -/

/-- Reading a bay after a bay has been replaced. -/
theorem State.bay_setBay (b c : BayIx) (x : Bay) :
    (s.setBay b x).bay c = if c = b then x else s.bay c := by
  simp only [State.setBay, State.bay, Fin.getElem_fin, Vector.getElem_set, Fin.ext_iff, eq_comm]

/-- Reading a bay after a bay has been rewritten. -/
theorem State.bay_modBay (b c : BayIx) (f : Bay → Bay) :
    (s.modBay b f).bay c = if c = b then f (s.bay b) else s.bay c := State.bay_setBay s b c _

@[simp] theorem State.bay_modBay_same (b : BayIx) (f : Bay → Bay) : (s.modBay b f).bay b = f (s.bay b) := by
  simp [State.bay_modBay]

theorem State.bay_modBay_other {b c : BayIx} (h : c ≠ b) (f : Bay → Bay) :
    (s.modBay b f).bay c = s.bay c := by
  simp [State.bay_modBay, h]

/-- A bay depends on the bay records alone. -/
theorem State.bay_congr {s t : State} (h : s.bays = t.bays) (b : BayIx) : s.bay b = t.bay b := by
  simp only [State.bay, h]

@[simp] theorem State.bay_modLkc (f : Lkc → Lkc) (b : BayIx) : (s.modLkc f).bay b = s.bay b := rfl
@[simp] theorem State.bay_modCsu (f : Csu → Csu) (b : BayIx) : (s.modCsu f).bay b = s.bay b := rfl
@[simp] theorem State.bay_modPvs (f : Pvs → Pvs) (b : BayIx) : (s.modPvs f).bay b = s.bay b := rfl
@[simp] theorem State.bay_modPmn (f : Pmn → Pmn) (b : BayIx) : (s.modPmn f).bay b = s.bay b := rfl
@[simp] theorem State.bay_modShu (f : Shu → Shu) (b : BayIx) : (s.modShu f).bay b = s.bay b := rfl
@[simp] theorem State.bay_modCfl (f : Cfl → Cfl) (b : BayIx) : (s.modCfl f).bay b = s.bay b := rfl
@[simp] theorem State.bay_advanceTo (t : Nat) (b : BayIx) : (s.advanceTo t).bay b = s.bay b := rfl
@[simp] theorem State.bay_setSlot (r : Reader) (x : Option PresentationSlot) (b : BayIx) :
    (s.setSlot r x).bay b = s.bay b := rfl
@[simp] theorem State.bay_setLane (n : LaneIx) (x : Option LaneSession) (b : BayIx) :
    (s.setLane n x).bay b = s.bay b := rfl
@[simp] theorem State.bay_setPeer (a : Addr) (p : Option Peer) (b : BayIx) :
    (s.setPeer a p).bay b = s.bay b := rfl
@[simp] theorem State.bay_setHand (x : Option RxFrame) (k : Block) (b : BayIx) :
    (s.setHand x k).bay b = s.bay b := by cases k <;> rfl

/-! ### Slots, lanes and peers -/

theorem State.slot_setSlot (r q : Reader) (x : Option PresentationSlot) :
    (s.setSlot r x).slot q = if q = r then x else s.slot q := by
  simp only [State.setSlot, State.slot, State.modCsu, Fin.getElem_fin, Vector.getElem_set, Fin.ext_iff, eq_comm]

@[simp] theorem State.slot_setSlot_same (r : Reader) (x : Option PresentationSlot) :
    (s.setSlot r x).slot r = x := by simp [State.slot_setSlot]

theorem State.lane_setLane (n m : LaneIx) (x : Option LaneSession) :
    (s.setLane n x).lane m = if m = n then x else s.lane m := by
  simp only [State.setLane, State.lane, State.modPvs, Fin.getElem_fin, Vector.getElem_set, Fin.ext_iff, eq_comm]

@[simp] theorem State.lane_setLane_same (n : LaneIx) (x : Option LaneSession) :
    (s.setLane n x).lane n = x := by simp [State.lane_setLane]

theorem State.peer_setPeer (a c : Addr) (p : Option Peer) :
    (s.setPeer a p).peer c = if c = a then p else s.peer c := by
  simp only [State.setPeer, State.peer, State.modPmn, Fin.getElem_fin, Vector.getElem_set, Fin.ext_iff, eq_comm]

@[simp] theorem State.peer_setPeer_same (a : Addr) (p : Option Peer) : (s.setPeer a p).peer a = p := by
  simp [State.peer_setPeer]

/-! ### Work -/

variable (w : Work)

@[simp] theorem startWork_st : (startWork s).st = s := rfl
@[simp] theorem startWork_todo : (startWork s).todo = [] := rfl
@[simp] theorem Work.upd_st (f : State → State) : (w.upd f).st = f w.st := rfl
@[simp] theorem Work.upd_todo (f : State → State) : (w.upd f).todo = w.todo := rfl
@[simp] theorem Work.raise_st (n : Notice) : (w.raise n).st = w.st := rfl
@[simp] theorem Work.raise_todo (n : Notice) : (w.raise n).todo = w.todo ++ [n] := rfl
@[simp] theorem Work.raiseIf_st (c : Bool) (n : Notice) : (w.raiseIf c n).st = w.st := by
  cases c <;> rfl

end Sys2Proof.Machine
end

