-- ==== Sys2Proof/Laws/Steady.lean ====
section
/-! SUPPORT. What no notice changes: the steady part of the state. The commands change it directly; whatever
the blocks do on the notices of a command leaves it as it is (`settle_steady`). -/

namespace Sys2Proof.Machine

/-! ## What equal steady parts say -/

/-- A reading of the state that the steady part decides. -/
theorem steady_reads {α : Type} (p : State → α) (hp : ∀ s : State, p s.steady = p s) {s t : State}
    (h : s.steady = t.steady) : p s = p t := (hp s).symm.trans ((congrArg p h).trans (hp t))

/-- A reading of a bay record that the steady part decides. -/
theorem bay_reads {α : Type} (p : Bay → α) (hp : ∀ x : Bay, p x.steady = p x) {x y : Bay}
    (h : x.steady = y.steady) : p x = p y := (hp x).symm.trans ((congrArg p h).trans (hp y))

section
variable {s t : State} (h : s.steady = t.steady)
include h

theorem steady_pending : s.pending = t.pending := steady_reads (fun x : State => x.pending) (fun _ => rfl) h
theorem steady_now : s.now = t.now := steady_reads (fun x : State => x.now) (fun _ => rfl) h
theorem steady_cfl : s.cfl = t.cfl := steady_reads (fun x : State => x.cfl) (fun _ => rfl) h
theorem steady_hands : s.hands = t.hands := steady_reads (fun x : State => x.hands) (fun _ => rfl) h
theorem steady_pmn : s.pmn = t.pmn := steady_reads (fun x : State => x.pmn) (fun _ => rfl) h
theorem steady_rpu : s.rpu = t.rpu := steady_reads (fun x : State => x.rpu) (fun _ => rfl) h
theorem steady_line : s.lkc.line = t.lkc.line := steady_reads (fun x : State => x.lkc.line) (fun _ => rfl) h
theorem steady_received : s.lkc.received = t.lkc.received := steady_reads (fun x : State => x.lkc.received) (fun _ => rfl) h
theorem steady_storm : s.lkc.storm = t.lkc.storm := steady_reads (fun x : State => x.lkc.storm) (fun _ => rfl) h
theorem steady_history : s.shu.history = t.shu.history := steady_reads (fun x : State => x.shu.history) (fun _ => rfl) h
theorem steady_available : s.shu.available = t.shu.available := steady_reads (fun x : State => x.shu.available) (fun _ => rfl) h
theorem steady_credentials : s.csu.credentials = t.csu.credentials :=
  steady_reads (fun x : State => x.csu.credentials) (fun _ => rfl) h
theorem steady_slot (r : Reader) :
    (s.slot r).map PresentationSlot.steady = (t.slot r).map PresentationSlot.steady := by
  have h' : s.csu.slots.map (Option.map PresentationSlot.steady) =
      t.csu.slots.map (Option.map PresentationSlot.steady) :=
    congrArg (fun x : State => x.csu.slots) h
  simpa only [Fin.getElem_fin, Vector.getElem_map, State.slot] using congrArg (fun v => v[r]) h'
theorem steady_minute : s.csu.minute = t.csu.minute := steady_reads (fun x : State => x.csu.minute) (fun _ => rfl) h
theorem steady_campaigns : s.pvs.campaigns = t.pvs.campaigns := steady_reads (fun x : State => x.pvs.campaigns) (fun _ => rfl) h

theorem steady_bay (b : BayIx) : (s.bay b).steady = (t.bay b).steady := by
  have h' : s.bays.map Bay.steady = t.bays.map Bay.steady := congrArg (fun x : State => x.bays) h
  have := congrArg (fun v => v[b]) h'
  simpa [State.bay] using this

theorem steady_present (b : BayIx) : (s.bay b).present = (t.bay b).present :=
  bay_reads (fun x : Bay => x.present) (fun _ => rfl) (steady_bay h b)
theorem steady_view (b : BayIx) : (s.bay b).view = (t.bay b).view := bay_reads (fun x : Bay => x.view) (fun _ => rfl) (steady_bay h b)
theorem steady_attrs (b : BayIx) : (s.bay b).attrs = (t.bay b).attrs := bay_reads (fun x : Bay => x.attrs) (fun _ => rfl) (steady_bay h b)
theorem steady_closed (b : BayIx) : (s.bay b).door.closed = (t.bay b).door.closed :=
  bay_reads (fun x : Bay => x.door.closed) (fun _ => rfl) (steady_bay h b)
theorem steady_bolt (b : BayIx) : (s.bay b).door.bolt = (t.bay b).door.bolt :=
  bay_reads (fun x : Bay => x.door.bolt) (fun _ => rfl) (steady_bay h b)
theorem steady_episode (b : BayIx) : (s.bay b).door.episode = (t.bay b).door.episode :=
  bay_reads (fun x : Bay => x.door.episode) (fun _ => rfl) (steady_bay h b)
theorem steady_exchange (b : BayIx) : (s.bay b).channel.exchange = (t.bay b).channel.exchange :=
  bay_reads (fun x : Bay => x.channel.exchange) (fun _ => rfl) (steady_bay h b)

end

/-! ## The updates -/

theorem steady_modBay {s : State} {b : BayIx} {f : Bay → Bay} (h : ∀ x, (f x).steady = x.steady) :
    (s.modBay b f).steady = s.steady := by
  have : (s.modBay b f).bays.map Bay.steady = s.bays.map Bay.steady := by
    apply Vector.ext
    intro i hi
    simp only [Vector.getElem_map, State.modBay, State.setBay, Vector.getElem_set]
    split
    · next hb => simp only [h, State.bay, Fin.getElem_fin, hb]
    · rfl
  simp only [State.steady, this, State.modBay_pending, State.modBay_now, State.modBay_cfl,
    State.modBay_lkc, State.modBay_hands, State.modBay_pmn, State.modBay_shu, State.modBay_bcc,
    State.modBay_csu, State.modBay_pvs, State.modBay_rpu]

theorem steady_modCharge {s : State} {b : BayIx} {f : Charge → Charge}
    (h : ∀ c, (f c).steady = c.steady) : (s.modCharge b f).steady = s.steady :=
  steady_modBay fun x => by simp only [Bay.steady, h]

theorem steady_modChannel {s : State} {b : BayIx} {f : Channel → Channel}
    (h : ∀ c, (f c).steady = c.steady) : (s.modChannel b f).steady = s.steady :=
  steady_modBay fun x => by simp only [Bay.steady, h]

theorem steady_modDoor {s : State} {b : BayIx} {f : Door → Door}
    (h : ∀ d, (f d).steady = d.steady) : (s.modDoor b f).steady = s.steady :=
  steady_modBay fun x => by simp only [Bay.steady, h]

theorem steady_modProv {s : State} {b : BayIx} {f : Prov → Prov} : (s.modProv b f).steady = s.steady :=
  steady_modBay fun _ => rfl

theorem steady_modCounters {s : State} {b : BayIx} {f : BayCounters → BayCounters}
    (h : ∀ k, (f k).steady = k.steady) : (s.modCounters b f).steady = s.steady :=
  steady_modBay fun x => by simp only [Bay.steady, h]

theorem upd_modCharge_steady {w : Work} {b : BayIx} {f : State → Charge → Charge}
    (h : ∀ s c, (f s c).steady = c.steady) :
    (w.upd fun s => s.modCharge b (f s)).st.steady = w.st.steady := steady_modCharge (h w.st)

theorem steady_modLkc {s : State} {f : Lkc → Lkc} (h : ∀ l, (f l).steady = l.steady) :
    (s.modLkc f).steady = s.steady := by
  simp only [State.steady, State.modLkc, h]

/-- Doing one thing for each element keeps what each keeps. -/
theorem forEach_keeps {α β : Type} (p : State → β) (xs : List α) (f : α → Work → Work)
    (h : ∀ x w, p (f x w).st = p w.st) (w : Work) : p (forEach xs f w).st = p w.st := by
  unfold forEach
  induction xs generalizing w with
  | nil => rfl
  | cons x xs ih => exact (ih (f x w)).trans (h x w)

/-! ## LKC -/

theorem dropFrame_steady (f : TxFrame) (w : Work) : (dropFrame f w).st.steady = w.st.steady := by
  simp only [dropFrame, Work.raise_st, Work.upd_st]
  exact (steady_modLkc fun _ => rfl).trans (steady_modLkc fun _ => rfl)

theorem place_steady (f : TxFrame) (w : Work) : (place f w).st.steady = w.st.steady := by
  have h : ∀ q : List TxFrame,
      (w.upd fun s => s.modLkc fun l => { l with queue := q }).st.steady = w.st.steady :=
    fun q => steady_modLkc fun _ => rfl
  simp only [place]
  split
  · exact h _
  · rw [dropFrame_steady]
    exact h _

theorem placeEvent_steady (code : Nat) (bay : Byte) (word : Word32) (value : Nat) (k : Block) (w : Work) :
    (placeEvent code bay word value k w).st.steady = w.st.steady := place_steady _ w

theorem withdraw_steady (which : TxFrame → Bool) (w : Work) :
    (withdraw which w).st.steady = w.st.steady := steady_modLkc fun _ => rfl

/-! ## SHU -/

theorem evaluateGuard_steady (s : State) : (evaluateGuard s).steady = s.steady := by
  simp only [evaluateGuard]
  split
  · split
    · split <;> rfl
    · rfl
  · split <;> rfl

theorem recomputed_steady (s : State) : (recomputed s).steady = s.steady := by
  unfold recomputed
  split
  · exact ((show (recomputeTarget _).steady = State.steady _ from rfl).trans (evaluateGuard_steady _)).trans rfl
  · rfl

theorem recompute_steady (w : Work) : (recompute w).st.steady = w.st.steady := by
  simp only [recompute, Work.raiseIf_st, Work.upd_st, recomputed_steady]

theorem presentNeed_steady (n : Nat) (w : Work) : (presentNeed n w).st.steady = w.st.steady := by
  simp only [presentNeed, Work.raiseIf_st]
  rfl

/-! ## SBC -/

theorem addPending_steady (c : Channel) (x : DockWrite) : (addPending c x).steady = c.steady := by
  cases x <;> rfl

theorem requestWrite_steady (b : BayIx) (x : DockWrite) (w : Work) :
    (requestWrite b x w).st.steady = w.st.steady := by
  have h : (w.upd fun s => s.modChannel b fun c => addPending c x).st.steady = w.st.steady :=
    steady_modChannel fun c => addPending_steady c x
  simp only [requestWrite]
  split
  · rfl
  · split
    · exact steady_modChannel fun _ => rfl
    · split
      · exact h
      · exact h

theorem markDue_steady (r : DockRegister) (c : Channel) : (markDue r c).steady = c.steady := by
  cases r <;> rfl

theorem markAll_steady (rs : List DockRegister) (c : Channel) :
    (rs.foldl (fun c r => markDue r c) c).steady = c.steady := by
  induction rs generalizing c with
  | nil => rfl
  | cons r rs ih => exact (ih _).trans (markDue_steady r c)

theorem requestReads_steady (b : BayIx) (rs : List DockRegister) (s : State) :
    (requestReads b rs s).steady = s.steady := by
  simp only [requestReads]
  split
  · exact steady_modChannel fun c => markAll_steady rs c
  · exact steady_modChannel fun c => markAll_steady rs c
  · rfl
  · rfl

theorem setChannelState_steady (b : BayIx) (st : ChannelState) (w : Work) :
    (setChannelState b st w).st.steady = w.st.steady := by
  simp only [setChannelState]
  split
  · rfl
  · exact steady_modChannel fun _ => rfl

theorem requestIdentification_steady (b : BayIx) (w : Work) :
    (requestIdentification b w).st.steady = w.st.steady := by
  simp only [requestIdentification, Work.upd_st, requestReads_steady]
  split
  · rw [setChannelState_steady]
    exact steady_modChannel fun _ => rfl
  · rfl

theorem profileAtOnce_steady (b : BayIx) (s : State) : (profileAtOnce b s).steady = s.steady :=
  steady_modChannel fun _ => rfl

/-! ## BCC -/

theorem refreshWish_steady (b : BayIx) (w : Work) : (refreshWish b w).st.steady = w.st.steady := by
  have h : (w.upd fun s => s.modCharge b fun c =>
      { c with wish := w.st.wishOf b, cls := w.st.classOf b }).st.steady = w.st.steady :=
    steady_modCharge fun _ => rfl
  simp only [refreshWish, Work.raiseIf_st]
  split
  · exact h
  · rw [presentNeed_steady]
    exact h

theorem requestLimit_steady (b : BayIx) (w : Work) : (requestLimit b w).st.steady = w.st.steady := by
  simp only [requestLimit]
  split
  · exact requestWrite_steady _ _ w
  · rfl

theorem setGrant_steady (b : BayIx) (g : Nat) (w : Work) : (setGrant b g w).st.steady = w.st.steady := by
  have h : (w.upd fun s => s.modCharge b (withGrant g)).st.steady = w.st.steady :=
    steady_modCharge fun _ => rfl
  simp only [setGrant]
  split
  · exact h
  · rw [requestLimit_steady]
    exact h

theorem moveCharge_steady (b : BayIx) (st : ChargeState) (w : Work) :
    (moveCharge b st w).st.steady = w.st.steady := by
  simp only [moveCharge]
  split
  · rfl
  · simp only [Work.raiseIf_st, Work.raise_st, Work.upd_st]
    exact steady_modCharge fun c => by split <;> rfl

theorem enterIdentifying_steady (b : BayIx) (r : Bool) (w : Work) :
    (enterIdentifying b r w).st.steady = w.st.steady := by
  unfold enterIdentifying
  split
  · rw [Work.upd_st, requestReads_steady, refreshWish_steady, upd_modCharge_steady, setGrant_steady,
      moveCharge_steady]
    exact fun _ _ => rfl
  · rw [requestIdentification_steady, refreshWish_steady, upd_modCharge_steady, setGrant_steady,
      moveCharge_steady]
    exact fun _ _ => rfl

theorem enterVacant_steady (b : BayIx) (w : Work) : (enterVacant b w).st.steady = w.st.steady := by
  unfold enterVacant
  rw [Work.raise_st, refreshWish_steady, upd_modCharge_steady, setGrant_steady, moveCharge_steady]
  exact fun _ _ => rfl

theorem enterUnmanaged_steady (b : BayIx) (w : Work) : (enterUnmanaged b w).st.steady = w.st.steady := by
  unfold enterUnmanaged
  rw [Work.raise_st, refreshWish_steady, upd_modCharge_steady, setGrant_steady, moveCharge_steady]
  exact fun _ _ => rfl

theorem enterThermal_steady (b : BayIx) (w : Work) : (enterThermal b w).st.steady = w.st.steady := by
  unfold enterThermal
  rw [Work.raise_st, refreshWish_steady, requestLimit_steady, upd_modCharge_steady, moveCharge_steady]
  exact fun _ _ => rfl

theorem enterOutOfService_steady (b : BayIx) (w : Work) :
    (enterOutOfService b w).st.steady = w.st.steady := by
  unfold enterOutOfService
  rw [Work.raise_st, refreshWish_steady, upd_modCharge_steady, setGrant_steady, moveCharge_steady]
  exact fun _ _ => rfl

theorem serviceChanged_steady (b : BayIx) (w : Work) : (serviceChanged b w).st.steady = w.st.steady := by
  simp only [serviceChanged, leaveOutOfService]
  split
  · exact enterOutOfService_steady b w
  · split
    · split
      · exact enterIdentifying_steady b false w
      · exact enterVacant_steady b w
    · rfl

theorem heldMoves_steady (b : BayIx) (w : Work) : (heldMoves b w).st.steady = w.st.steady := by
  simp only [heldMoves]
  repeat' split
  all_goals first
    | rfl
    | exact moveCharge_steady _ _ w

theorem managedMoves_steady (b : BayIx) (w : Work) : (managedMoves b w).st.steady = w.st.steady := by
  simp only [managedMoves]
  split
  · rfl
  · split
    · exact enterThermal_steady b w
    · rw [heldMoves_steady, refreshWish_steady]
      repeat' split
      all_goals first
        | rfl
        | exact moveCharge_steady _ _ w

theorem completeIdentification_steady (b : BayIx) (w : Work) :
    (completeIdentification b w).st.steady = w.st.steady := by
  have hu : ∀ (st : ChargeState) (w : Work), (w.upd fun s =>
      (s.modCharge b (identifiedCharge (s.bay b).view)).modCounters b (countSession st)).st.steady =
      w.st.steady := fun st w =>
    (steady_modCounters fun k => by simp only [countSession]; split <;> rfl).trans
      (steady_modCharge fun _ => rfl)
  unfold completeIdentification identifyAs
  dsimp only
  rw [Work.raise_st, refreshWish_steady]
  split
  · rw [requestLimit_steady, moveCharge_steady, hu]
  · rw [moveCharge_steady, hu]

theorem identificationRead_steady (b : BayIx) (r : DockRegister) (w : Work) :
    (identificationRead b r w).st.steady = w.st.steady := by
  have hs : ∀ g : IdentStage, (w.upd fun s => s.modCharge b fun c => { c with stage := g }).st.steady =
      w.st.steady := fun _ => steady_modCharge fun _ => rfl
  unfold identificationRead
  dsimp only
  split
  · exact hs _
  · split
    · exact hs _
    · split
      · exact completeIdentification_steady b w
      · rfl

theorem leaveThermal_steady (b : BayIx) (w : Work) : (leaveThermal b w).st.steady = w.st.steady := by
  unfold leaveThermal
  split
  · rfl
  · split
    · rw [refreshWish_steady, moveCharge_steady]
    · rfl

theorem takeVoltage_steady (b : BayIx) (w : Work) : (takeVoltage b w).st.steady = w.st.steady := by
  unfold takeVoltage
  dsimp only
  split
  · rw [Work.raise_st, upd_modCharge_steady]
    exact fun _ _ => rfl
  · rfl

theorem managedReading_steady (b : BayIx) (r : DockRegister) (w : Work) :
    (managedReading b r w).st.steady = w.st.steady := by
  cases r <;> simp only [managedReading, refreshWish_steady, managedMoves_steady, takeVoltage_steady]

theorem thermalReading_steady (b : BayIx) (r : DockRegister) (w : Work) :
    (thermalReading b r w).st.steady = w.st.steady := by
  cases r <;> simp only [thermalReading, enterIdentifying_steady, leaveThermal_steady, takeVoltage_steady]

theorem unmanagedReading_steady (b : BayIx) (r : DockRegister) (w : Work) :
    (unmanagedReading b r w).st.steady = w.st.steady := by
  cases r <;> simp only [unmanagedReading, enterIdentifying_steady, refreshWish_steady]

theorem restingReading_steady (b : BayIx) (r : DockRegister) (w : Work) :
    (restingReading b r w).st.steady = w.st.steady := by
  cases r <;> simp only [restingReading, takeVoltage_steady, refreshWish_steady]

theorem chargeReading_steady (b : BayIx) (r : DockRegister) (w : Work) :
    (chargeReading b r w).st.steady = w.st.steady := by
  unfold chargeReading
  cases (w.st.bay b).charge.state <;>
    simp only [identificationRead_steady, managedReading_steady, thermalReading_steady,
      unmanagedReading_steady, restingReading_steady]

theorem chargeChannel_steady (b : BayIx) (st : ChannelState) (w : Work) :
    (chargeChannel b st w).st.steady = w.st.steady := by
  have hu : (w.upd fun s => s.modCharge b fun c => { c with unmanagedTimer := none }).st.steady =
      w.st.steady := steady_modCharge fun _ => rfl
  unfold chargeChannel
  cases st <;> dsimp only
  all_goals cases (w.st.bay b).charge.state <;> simp only [enterUnmanaged_steady, hu]

theorem lowerBay_steady (b : BayIx) (g : Nat) (w : Work) : (lowerBay b g w).st.steady = w.st.steady := by
  simp only [lowerBay]
  repeat' split
  all_goals first
    | rfl
    | exact setGrant_steady b g w
    | (rw [refreshWish_steady, takeVoltage_steady]; exact setGrant_steady b g w)

theorem raiseBay_steady (b : BayIx) (g : Nat) (w : Work) : (raiseBay b g w).st.steady = w.st.steady := by
  simp only [raiseBay]
  split
  · exact setGrant_steady b g w
  · rfl

theorem payLimit_steady (b : BayIx) (w : Work) : (payLimit b w).st.steady = w.st.steady := by
  unfold payLimit
  split
  · rw [requestLimit_steady, upd_modCharge_steady]
    exact fun _ _ => rfl
  · rfl

theorem runSplit_steady (w : Work) : (runSplit w).st.steady = w.st.steady := by
  have hp : ∀ (xs : List BayIx) (w : Work), (forEach xs payLimit w).st.steady = w.st.steady :=
    fun xs w => forEach_keeps State.steady xs payLimit payLimit_steady w
  have hm : ∀ (xs : List BayIx) (w : Work), (forEach xs managedMoves w).st.steady = w.st.steady :=
    fun xs w => forEach_keeps State.steady xs managedMoves managedMoves_steady w
  have hr : ∀ (xs : List (BayIx × Nat)) (w : Work),
      (forEach xs (fun x => raiseBay x.1 x.2) w).st.steady = w.st.steady :=
    fun xs w => forEach_keeps State.steady xs _ (fun x w => raiseBay_steady x.1 x.2 w) w
  have hl : ∀ (xs : List (BayIx × Nat)) (w : Work),
      (forEach xs (fun x => lowerBay x.1 x.2) w).st.steady = w.st.steady :=
    fun xs w => forEach_keeps State.steady xs _ (fun x w => lowerBay_steady x.1 x.2 w) w
  have ha : ∀ w : Work, (w.upd fun s =>
      { s with bcc := { s.bcc with applied := s.shu.allowance } }).st.steady = w.st.steady := fun _ => rfl
  unfold runSplit
  dsimp only
  rw [hp, hm, hr, ha, hl]

/-! ## LDC -/

theorem openSwitch_steady (b : BayIx) (s : State) : (openSwitch b s).steady = s.steady := steady_modProv

theorem startRelease_steady (b : BayIx) (r : ReleaseRecord) (w : Work) :
    (startRelease b r w).st.steady = w.st.steady := by
  unfold startRelease
  dsimp only
  rw [Work.raise_st, Work.raise_st, Work.upd_st, steady_modCounters, openSwitch_steady, steady_modDoor]
  · exact fun _ => rfl
  · exact fun _ => rfl

theorem askRelease_steady (b : BayIx) (r : ReleaseRecord) (w : Work) :
    (askRelease b r w).st.steady = w.st.steady := by
  simp only [askRelease]
  split
  · rfl
  · split
    · exact steady_modDoor fun _ => rfl
    · exact startRelease_steady b r w

theorem laneReportedIdle_steady (b : BayIx) (w : Work) :
    (laneReportedIdle b w).st.steady = w.st.steady := by
  simp only [laneReportedIdle]
  repeat' split
  all_goals first
    | rfl
    | exact startRelease_steady b _ w

/-! ## CSU -/

theorem setSlot_steady {s : State} {r : Reader} {x y : PresentationSlot} (hs : s.slot r = some x)
    (h : y.steady = x.steady) : (s.setSlot r (some y)).steady = s.steady := by
  have : (s.csu.slots.set r (some y)).map (Option.map PresentationSlot.steady) =
      s.csu.slots.map (Option.map PresentationSlot.steady) := by
    apply Vector.ext
    intro i hi
    simp only [Vector.getElem_map, Vector.getElem_set]
    split
    · next hr =>
      have hx : s.csu.slots[i] = some x := by
        simpa only [State.slot, Fin.getElem_fin, hr] using hs
      simp only [hx, Option.map_some, h]
    · rfl
  simp only [State.steady, State.setSlot, State.modCsu, this]

theorem modSlot_steady (s : State) (r : Reader) (q : Byte) {f : PresentationSlot → PresentationSlot}
    (h : ∀ x, (f x).steady = x.steady) : (s.modSlot r q f).steady = s.steady := by
  unfold State.modSlot
  split
  · next x hx =>
    split
    · exact setSlot_steady hx (h x)
    · rfl
  · rfl

theorem modAnswered_steady (s : State) (f : TxFrame) {g : PresentationSlot → PresentationSlot}
    (h : ∀ x, (g x).steady = x.steady) : (s.modAnswered f g).steady = s.steady := by
  unfold State.modAnswered
  split
  · rfl
  · exact modSlot_steady _ _ _ h

theorem clearClaim_steady (b : BayIx) (w : Work) : (clearClaim b w).st.steady = w.st.steady :=
  steady_modBay fun _ => rfl

theorem removeQueuedClaim_steady (r : Reader) (q : Byte) (w : Work) :
    (removeQueuedClaim r q w).st.steady = w.st.steady :=
  forEach_keeps State.steady _ _ (fun b w => by split <;> [exact clearClaim_steady b w; rfl]) w

theorem offerDiscarded_steady (f : TxFrame) (w : Work) : (offerDiscarded f w).st.steady = w.st.steady := by
  simp only [offerDiscarded]
  split
  · rfl
  · rw [removeQueuedClaim_steady]
    exact modAnswered_steady _ f fun x => by split <;> rfl

theorem denyDiscarded_steady (f : TxFrame) (w : Work) : (denyDiscarded f w).st.steady = w.st.steady := by
  simp only [denyDiscarded]
  split
  · rfl
  · exact modAnswered_steady _ f fun x => by split <;> rfl

theorem requestCustody_steady (b : BayIx) (v : CustodyWrite) (w : Work) :
    (requestCustody b v w).st.steady = w.st.steady := by
  simp only [requestCustody]
  split
  · exact requestWrite_steady _ _ w
  · rfl

theorem ruleDeny_steady (c : Word32) (r : Reader) (q : Byte) (w : Work) :
    (ruleDeny c r q w).st.steady = w.st.steady := place_steady _ w

theorem releaseAnswer_steady (b : BayIx) (r : ReleaseRecord) (o : ReleaseOutcome) (w : Work) :
    (releaseAnswer b r o w).st.steady = w.st.steady := by
  cases o <;> simp only [releaseAnswer]
  · split
    · rw [requestCustody_steady]
      exact place_steady _ w
    · exact place_steady _ w
  · exact ruleDeny_steady _ _ _ w
  · exact ruleDeny_steady _ _ _ w
  · split
    · exact requestCustody_steady _ _ w
    · rfl

theorem loanSeen_steady (a : Word32) (w : Work) : (loanSeen a w).st.steady = w.st.steady := rfl

theorem removalNotice_steady (b : BayIx) (attr : OpenAttr) (a : Option Word32) (r : Option ReleaseRecord)
    (w : Work) : (removalNotice b attr a r w).st.steady = w.st.steady := by
  simp only [removalNotice]
  split
  · split
    · simp only [recordLoan]
      split
      · rfl
      · exact place_steady _ w
    · rfl
  · rfl

theorem episodeEndNotice_steady (b : BayIx) (attr : OpenAttr) (r : Option ReleaseRecord) (p : Bool)
    (w : Work) : (episodeEndNotice b attr r p w).st.steady = w.st.steady := by
  simp only [episodeEndNotice]
  repeat' split
  all_goals first
    | rfl
    | exact requestCustody_steady _ _ w

theorem identNotice_steady (b : BayIx) (cls : IdentClass) (w : Work) :
    (identNotice b cls w).st.steady = w.st.steady := by
  cases cls <;> simp only [identNotice]
  all_goals rw [requestCustody_steady, loanSeen_steady, place_steady]

theorem custodyEnded_steady (b : BayIx) (v : CustodyWrite) (o : WriteOutcome) (w : Work) :
    (custodyEnded b v o w).st.steady = w.st.steady := by
  cases o <;> simp only [custodyEnded]
  exact placeEvent_steady _ _ _ _ _ w

/-! ## PVS -/

theorem countOutcome_steady (k : SlotIx) (o : LaneOutcome) (x : Bay) :
    (countOutcome k o x).steady = x.steady := by
  simp only [countOutcome]
  repeat' split
  all_goals rfl

theorem setLane_steady (s : State) (n : LaneIx) (x : Option LaneSession) :
    (s.setLane n x).steady = s.steady := rfl

theorem endSession_steady (n : LaneIx) (o : LaneOutcome) (w : Work) :
    (endSession n o w).st.steady = w.st.steady := by
  simp only [endSession]
  split
  · rfl
  · split
    · rw [requestWrite_steady, place_steady, Work.upd_st, steady_modBay (countOutcome_steady _ _),
        refreshWish_steady, Work.upd_st, setLane_steady, steady_modProv]
    · rfl

theorem abortLane_steady (b : BayIx) (o : LaneOutcome) (w : Work) :
    (abortLane b o w).st.steady = w.st.steady := by
  simp only [abortLane]
  split
  · rfl
  · exact endSession_steady _ o w

theorem provEnded_steady (b : BayIx) (v : ProvWrite) (o : WriteOutcome) (w : Work) :
    (provEnded b v o w).st.steady = w.st.steady := by
  simp only [provEnded]
  repeat' split
  all_goals first
    | rfl
    | exact endSession_steady _ _ w

theorem enterConnected_steady (n : LaneIx) (x : LaneSession) (w : Work) :
    (enterConnected n x w).st.steady = w.st.steady := by
  unfold enterConnected
  rw [Work.upd_st, setLane_steady, steady_modProv]

theorem profileReading_steady (b : BayIx) (w : Work) : (profileReading b w).st.steady = w.st.steady := by
  simp only [profileReading]
  repeat' split
  all_goals first
    | rfl
    | exact enterConnected_steady _ _ w
    | exact endSession_steady _ _ w

theorem batteryAbort_steady (b : BayIx) (w : Work) : (batteryAbort b w).st.steady = w.st.steady := by
  simp only [batteryAbort]
  split
  · exact abortLane_steady _ _ w
  · rfl

theorem chargeAbort_steady (b : BayIx) (w : Work) : (chargeAbort b w).st.steady = w.st.steady := by
  simp only [chargeAbort]
  split <;> first
    | rfl
    | exact abortLane_steady _ _ w

theorem clearAttempts_steady (b : BayIx) (s : State) : (clearAttempts b s).steady = s.steady :=
  steady_modProv

theorem channelAbort_steady (b : BayIx) (st : ChannelState) (w : Work) :
    (channelAbort b st w).st.steady = w.st.steady := by
  cases st <;> simp only [channelAbort]
  · rw [Work.upd_st, clearAttempts_steady, abortLane_steady]
  · exact abortLane_steady _ _ w
  · exact abortLane_steady _ _ w

theorem evaluateBay_steady (b : BayIx) (s : State) : (evaluateBay b s).steady = s.steady := by
  simp only [evaluateBay]
  split <;> rfl

theorem selectIf_steady (c : Bool) (w : Work) : (selectIf c w).st.steady = w.st.steady := by
  simp only [selectIf]
  split <;> rfl

theorem enterWaking_steady (n : LaneIx) (x : QueueItem) (c : Campaign) (w : Work) :
    (enterWaking n x c w).st.steady = w.st.steady := by
  simp only [enterWaking, refreshWish_steady, Work.upd_st, profileAtOnce_steady, requestWrite_steady]
  rfl

theorem selectFrom_steady (n : LaneIx) (k : Nat) (w : Work) :
    (selectFrom n k w).st.steady = w.st.steady := by
  induction k generalizing w with
  | zero => rfl
  | succ k ih =>
    simp only [selectFrom]
    repeat' split
    all_goals first
      | rfl
      | (rw [ih]; rfl)
      | (rw [enterWaking_steady]; rfl)

theorem selectLane_steady (n : LaneIx) (w : Work) : (selectLane n w).st.steady = w.st.steady := by
  simp only [selectLane]
  split
  · exact selectFrom_steady n _ w
  · rfl

/-! ## Notices -/

theorem channelNotice_steady (b : BayIx) (st : ChannelState) (w : Work) :
    (channelNotice b st w).st.steady = w.st.steady := by
  have hl : ((chargeChannel b st (channelAbort b st w)).raise (.reevaluate b)).st.steady = w.st.steady := by
    rw [Work.raise_st, chargeChannel_steady, channelAbort_steady]
  have hf : ((chargeChannel b st w).raise (.laneChannel b st)).st.steady = w.st.steady := by
    rw [Work.raise_st, chargeChannel_steady]
  have hu : ∀ v : Work, (v.upd fun s => { s with freeCount := s.freeCount + 1 }).st.steady = v.st.steady :=
    fun _ => rfl
  simp only [channelNotice]
  repeat' split
  all_goals first
    | exact hl
    | (rw [hu]; first | exact hl | exact hf)

theorem readingNotice_steady (b : BayIx) (r : DockRegister) (cls : IdentClass) (w : Work) :
    (readingNotice b r cls w).st.steady = w.st.steady := by
  cases r <;> simp only [readingNotice, Work.raise_st]
  · split
    · rw [Work.upd_st, clearAttempts_steady, identNotice_steady, chargeReading_steady]
    · rw [identNotice_steady, chargeReading_steady]
  · rw [batteryAbort_steady, chargeReading_steady]
  · exact chargeReading_steady _ _ w
  · exact profileReading_steady b w

theorem writeNotice_steady (b : BayIx) (x : DockWrite) (o : WriteOutcome) (w : Work) :
    (writeNotice b x o w).st.steady = w.st.steady := by
  cases x <;> simp only [writeNotice]
  · exact custodyEnded_steady _ _ _ w
  · exact provEnded_steady _ _ _ w

theorem discardNotice_steady (f : TxFrame) (w : Work) : (discardNotice f w).st.steady = w.st.steady := by
  simp only [discardNotice]
  split
  · exact offerDiscarded_steady f w
  · exact denyDiscarded_steady f w
  · rfl

/-- No notice changes the steady part of the state. -/
theorem handle_steady (n : Notice) (w : Work) : (handle n w).st.steady = w.st.steady := by
  cases n <;> simp only [handle, Work.raise_st]
  case recompute => exact recompute_steady w
  case split => exact runSplit_steady w
  case wishInput b => exact refreshWish_steady b w
  case chargeChanged b => exact chargeAbort_steady b w
  case channelChanged b st => exact channelNotice_steady b st w
  case laneChannel b st => exact channelAbort_steady b st w
  case reading b r cls => exact readingNotice_steady b r cls w
  case writeEnded b x o => exact writeNotice_steady b x o w
  case discarded f => exact discardNotice_steady f w
  case doorMoved b l =>
    split
    · exact abortLane_steady _ _ w
    · rfl
  case episodeEnded b attr r p => exact episodeEndNotice_steady b attr r p w
  case releaseAsked b r =>
    unfold requestRelease
    split
    · exact askRelease_steady b r w
    · rw [Work.raise_st, abortLane_steady, askRelease_steady]
  case releaseAnswered b r o => exact releaseAnswer_steady b r o w
  case laneIdle b => exact laneReportedIdle_steady b w
  case reevaluate b =>
    rw [reevaluate, selectIf_steady]
    exact evaluateBay_steady b w.st
  case reevaluateAll =>
    rw [reevaluateAll, selectIf_steady]
    exact forEach_keeps State.steady _ _ (fun b w => evaluateBay_steady b w.st) w
  case select n => exact selectLane_steady n w
  case serviceChanged b => exact serviceChanged_steady b w

/-- Working any number of notices leaves the steady part as it is. -/
theorem settle_steady (n : Nat) (w : Work) : (settle n w).st.steady = w.st.steady := by
  induction n generalizing w with
  | zero => rfl
  | succ n ih =>
    unfold settle
    split
    · rfl
    · exact (ih _).trans (handle_steady _ _)

/-- What every notice of a kind keeps, and a kind whose notices raise only their kind, holds when all are
worked. -/
theorem settle_keeps {P : State → Prop} {Q : Notice → Prop}
    (h : ∀ (x : Notice) (s : State), Q x → P s →
      P (handle x (startWork s)).st ∧ ∀ y ∈ (handle x (startWork s)).todo, Q y)
    (n : Nat) (w : Work) (hp : P w.st) (hq : ∀ y ∈ w.todo, Q y) : P (settle n w).st := by
  induction n generalizing w with
  | zero => exact hp
  | succ n ih =>
    unfold settle
    split
    · exact hp
    · next x xs hw =>
      have hx := h x w.st (hq x (by simp only [hw, List.mem_cons, true_or])) hp
      refine ih _ hx.1 fun y hy => ?_
      rcases List.mem_append.1 hy with hy | hy
      · exact hx.2 y hy
      · exact hq y (by simp only [hw, List.mem_cons, hy, or_true])

/-- What every notice keeps holds when all are worked. -/
theorem settle_keeps_all {P : State → Prop}
    (h : ∀ (x : Notice) (s : State), P s → P (handle x (startWork s)).st)
    (n : Nat) (w : Work) (hp : P w.st) : P (settle n w).st :=
  settle_keeps (Q := fun _ => True) (fun x s _ hs => ⟨h x s hs, fun _ _ => trivial⟩) n w hp fun _ _ => trivial

theorem finish_steady (w : Work) : w.finish.steady = w.st.steady := settle_steady _ w

/-- A command that raises no notice ends where its own work ends. -/
theorem finish_of_quiet {w : Work} (h : w.todo = []) : w.finish = w.st := by
  simp only [Work.finish, noticeBound, settle, h]

/-! ## The first sample of a door -/

/-- R115: the door section formed from the first sample, in the words of the statements. -/
theorem firstDoor_eq_found (now ajarTime : Nat) (closed bolt : Bool) :
    firstDoor now ajarTime closed bolt = Door.found (now + ajarTime * 1000) closed bolt := by
  cases closed <;> cases bolt <;> rfl

end Sys2Proof.Machine
end

