-- ==== Sys2Proof/WellFormed.lean ====
section
/-! DEFINITION. The ranges the rules give the operands of a command. A command outside them is no
event of the part; `exec` still answers for it (most often that nothing changes). -/

namespace Sys2Proof

/-- R71: a voltage sense gives 0 to 25000 mV and a current sense 0 to 5000 mA. -/
def PortSense.wellFormed (p : PortSense) : Bool :=
  decide (p.milliVolts ≤ 25000) && decide (p.milliAmps ≤ 5000)

/-- Section 1.2: a frame on the line has, with the most stuff bits, at most 404 bits. -/
def lineBitsWellFormed (bits : List Bool) : Bool := decide (bits.length ≤ 404)

/-- R6, R7: what a sender reads back is at least the bit that differs. -/
def readBackWellFormed (read : List Bool) : Bool := decide (0 < read.length) && lineBitsWellFormed read

/-- R79: a falling edge is followed by one to ten sampled bits. -/
def SampledByte.wellFormed (samples : SampledByte) : Bool :=
  decide (0 < samples.length) && decide (samples.length ≤ 10)

/-- A stretch of a wire at one level lasts at least one bit time. -/
def WireRun.wellFormed (r : WireRun) : Bool := decide (0 < r.length)

/-- The operand ranges of R6, R7, R71, R79, R80, R83, R89, R169 and section 1.2. A wake pulse holds the wire low for 96 bit
times (R87); the longest thing sent is a CUSTODY write of 80 bits (section 5.7). -/
def Instr.wellFormed : Instr → Bool
  | .configReadEnd (some bytes) => decide (bytes.length ≤ 64)
  | .contentionLost read => readBackWellFormed read
  | .transmitBitError read => readBackWellFormed read
  | .receptionAborted bits => lineBitsWellFormed bits
  | .frameReceived bits => lineBitsWellFormed bits
  | .measurement ports => ports.toList.all PortSense.wellFormed
  | .exchangeStart _ wire => wire.all WireRun.wellFormed
  | .callAfterWake _ wire => wire.all WireRun.wellFormed
  | .retryStart _ wire => wire.all WireRun.wellFormed
  | .wireStuck _ wire => wire.all WireRun.wellFormed
  | .wireRecovered _ wire => wire.all WireRun.wellFormed
  | .readResponseReceived _ answer => answer.all SampledByte.wellFormed && decide (5 ≤ answer.length)
  | .responseWindowExpired _ answer => answer.all SampledByte.wellFormed
  | .writeAckReceived _ answer => answer.all SampledByte.wellFormed && decide (1 ≤ answer.length)
  | .sidebandBitError _ bit _ => decide (bit < 96)
  | .framingError _ samples => decide (samples.length = 10)
  | .shortHoldStart _ mV => decide (mV ≤ 25000)
  | .shortHoldAbandoned _ mV => decide (mV ≤ 25000)
  | _ => true

end Sys2Proof
end

