-- ==== Sys2Proof/Tests/Slice0.lean ====
section
/-! SUPPORT. Tests of single commands and operations, most of them from the worked examples of the manual, a smoke test of
each check of WellFormed, and for each statement a state and operands that meet its hypotheses, clause by clause. -/

-- one test after the other: together they ask for more threads than the memory limit allows
set_option Elab.async false

open Sys2Proof Sys2Proof.Machine

namespace Sys2Proof.Tests

/-! ## States -/

/-- A station in ACTIVE at address 5 with eight bays, everything else as after reset. -/
def base : State :=
  { State.reset with cfl := { cflReset with phase := .active, address := 5, populated := 8 } }

/-- The base station with another record of bay 0. -/
def with0 (x : Bay) : State := base.setBay 0 x

/-- The base station with a transmit queue, sending or not. -/
def withQueue (line : LineCondition) (q : List TxFrame) : State :=
  { base with lkc := { base.lkc with line := line, queue := q } }

/-- A received frame of a kind from station 12. -/
def rx (kind : FrameKind) (body : List Byte) : RxFrame :=
  { cls := 1, bid := 9, source := 12, kind := kind, dest := 31, body := body }

/-- The base station with a frame in the CSU's hand and a credential table. -/
def withCsu (f : RxFrame) (table : List CredentialEntry) : State :=
  { base with hands := { csu := some f }, csu := { base.csu with credentials := table } }

/-- Credential 7001, an unsuspended TECHNICIAN. -/
def technician : CredentialEntry :=
  { number := 7001, role := .technician, groups := 0, asset := none, suspended := false, enrolled := 0 }

/-- Credential 7001 as four bytes. -/
def bytes7001 : List Byte := [0, 0, 0x1B, 0x59]

/-- What a command makes of a state; a fault or a refusal would leave it as it is. -/
def after (i : Instr) (s : State) : State :=
  match exec i s with
  | .next t => t
  | .fault _ => s
  | .refused _ => s

/-- A sideband bit sampled three times alike. -/
def sample (v : Bool) : BitSamples := { first := v, second := v, third := v }

/-- The samples of a byte, start bit to stop bit. -/
def sampled (b : Byte) : SampledByte := (sidebandBits b).map sample

/-- A station whose PVS is as after reset holds no campaign and serves no lane. -/
theorem quiet_of {s : State} (h : s.pvs = {}) : lanesQuiet s := by
  unfold lanesQuiet State.lane State.campaign
  rw [h]
  exact ⟨by decide, by decide⟩

/-- A quiet station's lane machines are neither WAKING nor CONNECTED. -/
theorem ending_of {s : State} (h : s.pvs = {}) : lanesEnding s :=
  ⟨fun n _ hx => absurd (hx.symm.trans ((quiet_of h).1 n)) nofun, (quiet_of h).2⟩

/-! ## WellFormed -/

theorem test_wf_record : (Instr.configReadEnd (some (List.replicate 65 0))).wellFormed = false := by decide
theorem test_wf_lost : (Instr.contentionLost []).wellFormed = false := by decide
theorem test_wf_bit_error : (Instr.transmitBitError []).wellFormed = false := by decide
theorem test_wf_aborted : (Instr.receptionAborted (List.replicate 405 true)).wellFormed = false := by decide +kernel
theorem test_wf_received : (Instr.frameReceived (List.replicate 405 true)).wellFormed = false := by decide +kernel
theorem test_wf_measurement :
    (Instr.measurement (Vector.replicate 8 { milliVolts := 25001, milliAmps := 0 })).wellFormed = false := by
  decide +kernel
theorem test_wf_response : (Instr.readResponseReceived 0 (List.replicate 4 (sampled 0))).wellFormed = false := by decide
theorem test_wf_response_byte : (Instr.readResponseReceived 0 (List.replicate 5 [])).wellFormed = false := by decide
theorem test_wf_window : (Instr.responseWindowExpired 0 [List.replicate 11 (sample true)]).wellFormed = false := by
  decide
theorem test_wf_ack : (Instr.writeAckReceived 0 []).wellFormed = false := by decide
theorem test_wf_ack_byte : (Instr.writeAckReceived 0 [[]]).wellFormed = false := by decide
theorem test_wf_bit : (Instr.sidebandBitError 0 96 (sample true)).wellFormed = false := by decide
theorem test_wf_wire :
    let wire : List WireRun := [{ high := true, length := 0 }]
    (Instr.exchangeStart 0 wire).wellFormed = false ∧ (Instr.callAfterWake 0 wire).wellFormed = false ∧
    (Instr.retryStart 0 wire).wellFormed = false ∧ (Instr.wireStuck 0 wire).wellFormed = false ∧
    (Instr.wireRecovered 0 wire).wellFormed = false := by decide
theorem test_wf_framing : (Instr.framingError 0 []).wellFormed = false := by decide
theorem test_wf_hold_start : (Instr.shortHoldStart 0 25001).wellFormed = false := by decide
theorem test_wf_hold_abandoned : (Instr.shortHoldAbandoned 0 25001).wellFormed = false := by decide

/-! ## Words -/

/-- The table gives no row bits, so no word spells a command (assumption 23). -/
theorem test_no_word : decodeTableWord 8 0 = none := rfl

/-! ## Worked examples -/

/-- Section 1.9: STATUS part 1 is the victim of an EVENT DOOR_AJAR in a full queue. -/
theorem test_queue_full :
    let f (k : FrameKind) (bid : Nat) : TxFrame := newFrame k bid toAll [] .rpu
    let q := [f .heartbeat 0, f .released 2, f .event 17, f .event 22, f .overdue 64, f .provStatus 3,
      f .status 16, f .status 17]
    placeInQueue (f .event 18) q =
      ([f .heartbeat 0, f .released 2, f .event 17, f .event 18, f .event 22, f .overdue 64, f .provStatus 3,
        f .status 16], some (f .status 17)) := by decide +kernel

/-- The station of section 3.10 with a need. -/
def sharing (need : Nat) : State :=
  let peer (st : PeerState) (claim : Nat) : Option Peer := some
    { state := st, role := .shelf, claim := claim, draw := 0, allowance := 0, digest := 0, mismatch := false,
      errorWord := 0, heardAt := 0 }
  { base with
    cfl := { base.cfl with config := { budget := 9000, reserve := 600, shelves := 6, bayMax := 450, laneExtra := 150 } },
    shu := { available := 8400, need := need, history := #v[need, need, need, need] },
    pmn := { peers := #v[none, peer .live 300, peer .live 2400, peer .quiet 900, peer .live 0, none, none, none,
      none, none, none, none, none, none, none, none] } }

/-- Section 3.10 at 0 ms: S = 2500, X = 2800 and T = 3007. -/
theorem test_share :
    (recomputed (sharing 3200)).shu.surplus = 2500 ∧ (recomputed (sharing 3200)).shu.totalExcess = 2800 ∧
      (recomputed (sharing 3200)).shu.allowance = 3007 := by decide +kernel

/-- Section 4.9 at 700 dW: bays 1, 2, 0, 4, 3 in order of class. -/
theorem test_split :
    (splitGrants 700 25
      [{ bay := 0, cls := 2, wish := 180, grant := 0 }, { bay := 1, cls := 0, wish := 200, grant := 0 },
       { bay := 2, cls := 1, wish := 150, grant := 0 }, { bay := 3, cls := 3, wish := 12, grant := 0 },
       { bay := 4, cls := 2, wish := 180, grant := 0 }]).map (fun x => (x.bay, x.grant)) =
      [(1, 200), (2, 150), (0, 169), (4, 169), (3, 12)] := by decide +kernel

/-- A channel of a BATTERY read with exchange number 2, its call sent (section 5.9). -/
def batteryRead : Channel :=
  { state := .active, counter := 2,
    exchange := some { body := .read .battery, number := 2, retry := false, stage := .called, sent := [65, 190] } }

/-- Section 5.9: the call byte is 65. -/
theorem test_call_byte : callByte (.read .battery) 2 = 65 := by decide

/-- Section 5.9: 64 %, 31 °C, 92 %, charging. -/
theorem test_battery_read :
    ((after (.readResponseReceived 0 ([65, 64, 31, 92, 2, 2].map sampled)) (with0 { channel := batteryRead })).bay 0).view.battery =
      some { soc := 64, temperature := 31, health := 92, full := false, charging := true, fault := false } := by
  decide +kernel

/-- Section 5.9: a check byte of 3 ends the first attempt, and the view keeps its fields. -/
theorem test_check_error :
    let x := (after (.readResponseReceived 0 ([65, 64, 31, 92, 2, 3].map sampled)) (with0 { channel := batteryRead })).bay 0
    x.view.battery = none ∧ x.channel.exchange.map (fun e => e.stage) = some (.retryWait false) := by
  decide +kernel

/-- R79: the least significant bit comes first, and one wrong sample in three does not count. -/
theorem test_wire_byte :
    (sampled 1)[1]? = some (sample true) ∧
    readWireByte ((sampled 1).set 2 { first := true, second := false, third := false }) = .byte 1 := by decide +kernel

/-- R170, R174: a T_hot byte of 0xF6 is −10 °C and is held at 35. -/
theorem test_cold_limit :
    (configOfRecord ((List.replicate 13 0) ++ [0xF6] ++ List.replicate 50 0)).tempHot = 35 := by decide +kernel

/-- Section 8.8 at 600.1 s: the streak equals W and R3 is taken. -/
theorem test_pick :
    pickItem .four 4
      [{ bay := 0, slot := 1, urgent := true, since := 110 }, { bay := 3, slot := 0, urgent := false, since := 0 },
       { bay := 4, slot := 0, urgent := false, since := 0 }] =
      some ({ bay := 3, slot := 0, urgent := false, since := 0 }, 0) := by decide

/-- Section 9.7: 32 bytes at a maximum of 12 make four parts with bids 32 to 35. -/
theorem test_parts :
    (answerParts 14 { item := 2, index := 2, maximum := 12, clear := true, authoriser := 7001 }
      (bayCounterPayload {})).map (fun f => (f.bid, f.body.length)) = [(32, 12), (33, 12), (34, 12), (35, 8)] := by
  decide +kernel

/-! ## Single commands, expected results by hand from the rules -/

/-- R107: a door opened from SECURE is FORCED. -/
theorem test_forced :
    ((after (.doorOpens 0) (with0 { door := { state := .secure } })).bay 0).door.state = .opened .forced := by
  decide +kernel

/-- R109: a door that closes over a clear bolt is CLOSING. -/
theorem test_closing :
    ((after (.doorCloses 0) (with0 { door := { closed := false, state := .opened .forced } })).bay 0).door.state =
      .closing := by decide +kernel

/-- R75: a second fault 599 s after the first takes the bay out of service; at 600 s it does not. -/
theorem test_second_fault :
    secondFault { lastFault := some 1 } 600 = true ∧ secondFault { lastFault := some 0 } 600 = false := by decide

/-- R68: 7 dW at 9 V are 77 mA, rounded down to 70 mA; 450 dW at 5 V are held at 3000 mA. -/
theorem test_port_limit : portLimit 7 9 = 70 ∧ portLimit 450 5 = 3000 := by decide

/-- R94: a temperature byte of 0xD8 is −40 °C, and 0x80 is held there. -/
theorem test_temperature :
    (readBattery [0, 0xD8, 0, 0]).temperature = -40 ∧ (readBattery [0, 0x80, 0, 0]).temperature = -40 := by
  decide

/-- R170: values outside their ranges are replaced by the nearer end. -/
theorem test_clamp : clampTo 100 40000 99 = 100 ∧ clampTo 100 40000 40001 = 40000 := by decide

/-- R119: the number 0xFFFFFFFF revokes every entry. -/
theorem test_revoke_all :
    (after .revoke (withCsu (rx .revoke [255, 255, 255, 255]) [technician])).csu.credentials = [] := by
  decide +kernel

/-- R123: a TECHNICIAN restarts the station. -/
theorem test_restart :
    (after (.restart { address := 6, count := 1, doors := 0, bolts := 0 })
      (withCsu (rx .restart bytes7001) [technician])).cfl.phase = .start := by decide +kernel

/-- R171: the line held in START restarts the station there too: presence is debounced afresh. -/
theorem test_held_in_start :
    ((after .restartLineHeld { with0 { present := true } with cfl := { cflReset with populated := 8 } }).bay 0).present =
      false := by decide +kernel

/-- R26: the isolation timer makes the station ISOLATED. -/
theorem test_isolated :
    (after .isolationTimerExpired { base with pmn := { isolationTimer := some 1500 } }).pmn.isolated = true := by
  decide +kernel

/-- R91: a CUSTODY write starts before a CHARGE_LIMIT write. -/
theorem test_priority :
    nextEntry { state := .active, custody := some { released := true, credential := 1 }, chargeLimit := some 5 } =
      some (.write (.custody { released := true, credential := 1 })) := by decide

/-! ## Witnesses: a state and operands that meet the hypotheses of each statement -/

/-- A release record of a CHECKOUT. -/
def record : ReleaseRecord := { reason := .checkout, credential := 7001, reader := 0, sequence := 1, start := 0 }

/-- An exchange whose call is sent. -/
def called (body : ExchangeBody) (retry : Bool) : Exchange :=
  { body := body, number := 0, retry := retry, stage := .called, sent := [] }

/-- A session of lane 0 for bay 0. -/
def session (stage : LaneStage) : LaneSession :=
  { bay := 0, slot := 3, campaign := 40, asset := none, minute := 0, stage := stage, wakeWait := some 20000,
    limit := some 60000, entered := some 0, accepted := false }

/-- A bay that meets every condition of R144 for the test campaign. -/
def ready : Bay :=
  { present := true, channel := { state := .active }, charge := { state := .held }, door := { state := .secure },
    view := {
      battery := some { soc := 30, temperature := 20, health := 90, full := false, charging := true, fault := false },
      profile := some { code := 63, version := 1, state := .idle, progress := 0 } } }

/-- A DoorLaw of a state whose bays but bay 0 are as after reset. -/
theorem doorLaw_of {s : State} (h0 : BayDoorLaw (s.bay 0).door) (h : ∀ b : BayIx, b ≠ 0 → s.bay b = {}) :
    DoorLaw s := by
  intro b
  by_cases hb : b = 0
  · exact hb ▸ h0
  · rw [h b hb]
    refine ⟨by decide, by decide, ⟨fun ⟨_, h⟩ => DoorState.noConfusion h, fun h => absurd h (by decide)⟩, ?_⟩
    rintro (⟨_, h⟩ | h)
    · exact DoorState.noConfusion h
    · exact DoorState.noConfusion h

/-- The door law of a closed door in a state other than CLOSING. -/
theorem closedDoor {d : Door} (hl : d.latch ≠ .off → d.state = .releasing) (hp : d.pendingLane = false)
    (hc : d.closed = true) (ho : ∀ a, d.state ≠ .opened a) (hs : d.state = .closing → d.episode.isSome = true) :
    BayDoorLaw d :=
  ⟨hl, fun h => absurd h (by simp only [hp, Bool.false_eq_true, not_false_eq_true]),
    ⟨fun ⟨a, h⟩ => absurd h (ho a), fun h => absurd h (by simp only [hc, Bool.true_eq_false, not_false_eq_true])⟩,
    fun h => h.elim (fun ⟨a, h⟩ => absurd h (ho a)) hs⟩

/-- Bay 0 with a door section. -/
def door0 (d : Door) : State := with0 { door := d }

theorem door0_bay (d : Door) (b : BayIx) : (door0 d).bay b = if b = 0 then { door := d } else {} := by
  revert b
  simp only [Fin.forall_fin_succ]
  exact ⟨rfl, rfl, rfl, rfl, rfl, rfl, rfl, rfl, fun b => b.elim0⟩

theorem door0_law (d : Door) (h : BayDoorLaw d) : DoorLaw (door0 d) :=
  doorLaw_of (by rw [door0_bay]; exact h) fun b hb => by rw [door0_bay, if_neg hb]

/-- A frame of the CSU with a kind and marks. -/
def sending (kind : FrameKind) (attempts : Nat) (withdrawal : Bool) : TxFrame :=
  { newFrame kind 0 toAll [] .csu with attempts := attempts, inTransmission := true, withdrawal := withdrawal }

/-- A station that sends one frame, with a pending heartbeat or none. -/
def sends (f : TxFrame) (body : Option (List Byte)) : State :=
  { base with lkc := { base.lkc with
      line := .sending, driven := frameBits base.cfl.address f, queue := [f], pendingHeartbeat := body } }

/-- The bits read back of a frame with the bit at a place inverted. -/
def readWrong (f : TxFrame) (i : Nat) : List Bool :=
  (frameBits base.cfl.address f).take i ++ [!(frameBits base.cfl.address f).getD i true]

/-- The law of a station in ACTIVE that sends its one frame. -/
theorem oneFrame_law {s : State} (f : TxFrame) (hq : s.lkc.queue = [f]) (hb : f.bid < 4096) (hl : s.lkc.line = .sending)
    (hp : s.cfl.phase = .active) (hr : s.cfl.configRead = none) : LinkLaw s where
  capacity := by rw [hq]; exact (by decide : 1 ≤ 8)
  ordered := by rw [hq]; exact List.pairwise_singleton _ _
  bids g hg := by rw [hq] at hg; rw [List.mem_singleton.1 hg]; exact hb
  oneSending := by rw [hq]; exact List.length_filter_le _ _
  sendingLine _ _ _ := hl
  oneHeartbeat := by rw [hq]; exact List.length_filter_le _ _
  startLine h := by rw [hp] at h; cases h
  readInStart h := by rw [hr] at h; cases h

theorem sends_law (f : TxFrame) (body : Option (List Byte)) (hb : f.bid < 4096) : LinkLaw (sends f body) :=
  oneFrame_law f rfl hb rfl rfl rfl

/-- A full queue of EVENT frames. -/
def fullQueue : State := { withQueue .idle (List.replicate 8 (newFrame .event 17 toAll [] .ldc)) with shu := { heartbeatTimer := some 500 } }

theorem fullQueue_law {s : State} (hq : s.lkc = fullQueue.lkc) (hp : s.cfl.phase = .active) (hr : s.cfl.configRead = none) :
    LinkLaw s where
  capacity := by rw [hq]; decide
  ordered := by rw [hq]; decide
  bids := by rw [hq]; decide
  oneSending := by rw [hq]; decide
  sendingLine := by rw [hq]; decide
  oneHeartbeat := by rw [hq]; decide
  startLine h := by rw [hp] at h; cases h
  readInStart h := by rw [hr] at h; cases h

theorem witness_StepRunsTheFrontCommand : { base with pending := [.minuteTick] }.pending = [.minuteTick] := rfl

theorem witness_EmptyQueueLetsTimePass : base.pending = [] := rfl

theorem witness_RestartLineHoldsTheStation :
    base.cfl.restartHeld = false ∧ (State.reset.cfl.restartHeld = false ∧ State.reset.cfl.phase = .start) ∧
    (let s : State := { base with cfl := { cflReset with restartHeld := true } }
     s.cfl.restartHeld = true ∧ s.cfl.phase = .start ∧ (0 : BayIx).val < (0 : BitVec 3).toNat + 1 ∧
      (0 : BitVec 3).toNat + 1 ≤ (1 : BayIx).val ∧ (7 : BayIx).val < (7 : BitVec 3).toNat + 1) ∧
    (let s : State := { base with cfl := { base.cfl with restartHeld := true } }
     s.cfl.restartHeld = true ∧ s.cfl.phase ≠ .start) := by decide

/-- A configuration record of the marker, the greatest values and a good CRC. -/
def goodRecord : List Byte :=
  let r : List Byte := [0x5C, 0x3E] ++ List.replicate 60 255
  r ++ bytes16 (crc16 (bodyBits r)).toNat

theorem goodRecord_good : goodRecord.length = 64 ∧ recordGood goodRecord = true := by
  have h (x : Word16) : BitVec.ofNat 8 (x.toNat / 256) ++ BitVec.ofNat 8 x.toNat = x := by
    apply BitVec.eq_of_toNat_eq
    have := x.isLt
    rw [BitVec.toNat_append, ← Nat.shiftLeft_add_eq_or_of_lt (BitVec.isLt _), Nat.shiftLeft_eq]
    simp only [BitVec.toNat_ofNat]
    omega
  have hl : goodRecord.length = 64 := by simp [goodRecord, bytes16]
  have ht : goodRecord.take 62 = [0x5C, 0x3E] ++ List.replicate 60 255 := List.take_left' (by simp)
  have hw : word16At goodRecord 62 = crc16 (bodyBits ([0x5C, 0x3E] ++ List.replicate 60 255)) := by
    simp only [word16At, byteAt, goodRecord, bytes16]
    rw [List.getD_append_right _ _ _ _ (by simp), List.getD_append_right _ _ _ _ (by simp)]
    exact h _
  have hm : word16At goodRecord 0 = 0x5C3E#16 := by simp [word16At, byteAt, goodRecord]
  refine ⟨hl, ?_⟩
  simp only [recordGood, hl, ht, hw, hm, beq_self_eq_true, Bool.and_self]

theorem witness_ConfigReadLoadsTheConfiguration :
    (∃ s : State, s.cfl.configRead = some (startRead 0)) ∧
    (goodRecord.length = 64 ∧ recordGood goodRecord = true) ∧
    ((List.replicate 64 (0 : Byte)).length = 64 ∧ recordGood (List.replicate 64 0) = false) ∧
    (List.replicate 63 (0 : Byte)).length ≠ 64 :=
  ⟨⟨{ base with cfl := { cflReset with configRead := some (startRead 0) } }, rfl⟩, goodRecord_good,
    by decide, by decide⟩

/-- R170: a record below, within and above its ranges. -/
theorem witness_ranges :
    let r (b : Byte) : List Byte := List.replicate 64 b
    (256 * ((r 0).getD 2 0).toNat + ((r 0).getD 3 0).toNat < 100 ∧ ((r 0).getD 13 0).toInt < 35) ∧
    (40000 < 256 * ((r 255).getD 2 0).toNat + ((r 255).getD 3 0).toNat ∧ 3 < ((r 255).getD 26 0).toNat) ∧
    (100 ≤ 256 * ((r 36).getD 2 0).toNat + ((r 36).getD 3 0).toNat ∧
      256 * ((r 36).getD 2 0).toNat + ((r 36).getD 3 0).toNat ≤ 40000 ∧ 35 ≤ ((r 36).getD 13 0).toInt ∧
      ((r 36).getD 13 0).toInt ≤ 60) ∧ 60 < ((r 61).getD 13 0).toInt := by decide +kernel

/-- A station in LISTEN whose timer ends at 2007 ms. -/
def listening (x : Bay) : State :=
  { with0 x with cfl := { cflReset with phase := .listen, listenTimer := some 2007, populated := 1 } }

theorem witness_ListenTimerEntersActive :
    (let s := listening { present := true }
     s.cfl.phase = .listen ∧ s.cfl.listenTimer = some 2007 ∧ s.populated 0 = true ∧ (s.bay 0).present = true ∧
      (s.bay 0).charge.state = .vacant ∧ (s.bay 0).channel.state = .off ∧ (s.bay 1).present = false ∧
      (s.bay 1).charge.state = .vacant ∧ (∀ f ∈ s.lkc.queue, f.kind ≠ .heartbeat) ∧ s.lkc.queue.length < 8) ∧
    ((listening { charge := { state := .outOfService } }).bay 0).charge.state = .outOfService := by decide +kernel

theorem witness_listen_quiet : lanesQuiet (listening { present := true }) := quiet_of rfl

theorem witness_LineIsFollowed :
    (let s : State := { base with lkc := { recessive := 11 } }
     s.cfl.phase ≠ .start ∧ s.lkc.line = .waiting ∧ s.lkc.recessive + 0 < 12 ∧ 12 ≤ s.lkc.recessive + 1) ∧
    (let f := newFrame .event 17 toAll [] .ldc
     let s := withQueue .idle [f]
     s.cfl.phase = .active ∧ s.lkc.line = .idle ∧ s.lkc.queue = f :: [] ∧
      11 ≤ s.lkc.idleBits + 11 + 250 * (s.now - s.lkc.idleSince) ∧
      s.lkc.idleBits + 10 + 250 * (s.now - s.lkc.idleSince) < 11) ∧
    (withQueue .idle []).lkc.queue = [] := by decide

theorem witness_ContentionLostKeepsTheFrame :
    (∀ (f : TxFrame) (body : Option (List Byte)), f.bid < 4096 → f.inTransmission = true →
      LinkLaw (sends f body) ∧ (sends f body).lkc.line = .sending ∧ f ∈ (sends f body).lkc.queue) ∧
    (sending .offer 0 true).bid < 4096 ∧ (sending .offer 0 true).withdrawal = true ∧
    ((sending .event 0 false).withdrawal = false ∧ (sending .event 0 false).kind ≠ .heartbeat) ∧
    ((sending .heartbeat 0 false).kind = .heartbeat ∧
      (sends (sending .heartbeat 0 false) (some [1])).lkc.pendingHeartbeat = some [1]) :=
  ⟨fun f body hb _ => ⟨sends_law f body hb, rfl, List.mem_singleton.2 rfl⟩, by decide, by decide, by decide, by decide⟩

/-- Contention is lost at the first recessive key bit of an EVENT (class 2) and of a HEARTBEAT from address 5, where three
stuff bits stand before it. -/
theorem witness_lost_at :
    let f := sending .event 0 false
    let g := sending .heartbeat 0 false
    ((readWrong f 3).take 3 = (sends f none).lkc.driven.take 3 ∧ (sends f none).lkc.driven[3]? = some true ∧
      (readWrong f 3)[3]? = some false ∧ keyBit (sends f none).lkc.driven 3 = true) ∧
    ((readWrong g 21).take 21 = (sends g none).lkc.driven.take 21 ∧ (sends g none).lkc.driven[21]? = some true ∧
      (readWrong g 21)[21]? = some false ∧ keyBit (sends g none).lkc.driven 21 = true) := by decide +kernel

/-- R6: the bits read back are the first bits of the frame that wins, and the rest of it completes its reception. -/
theorem test_lost_frame_is_received :
    let bits := lineBits { cls := 1, bid := 0, source := 12, kind := 0x08, dest := 31, length := 9 }
      ([0, 1, 3] ++ bytes7001 ++ [5, 0])
    let t := after (.frameReceived (bits.drop 4)) (after (.contentionLost (bits.take 4)) (sends (sending .event 0 false) none))
    t.lkc.received.map (fun f => f.kind) = [.present] ∧ t.lkc.line = .idle ∧
    t.lkc.queue.map (fun f => (f.attempts, f.inTransmission)) = [(0, false)] := by decide +kernel

/-- Bit errors: the start bit, a stuff bit within the key, and the first bit behind the key. -/
theorem witness_error_at :
    let g := sending .heartbeat 0 false
    let d := (sends g none).lkc.driven
    (d[0]? = some false ∧ (readWrong g 0)[0]? = some true) ∧
    ((readWrong g 5).take 5 = d.take 5 ∧ d[5]? = some true ∧ (readWrong g 5)[5]? = some false ∧ keyBit d 5 = false) ∧
    ((readWrong g 24).take 24 = d.take 24 ∧ keyBit d 23 = true ∧ keyBit d 24 = false ∧
      d[24]? = some (!(readWrong g 24).getD 24 true)) ∧
    readBack d (d.take 24) = .same := by decide +kernel

/-- A slot of reader 0 with an own answer. -/
def slotWith (own : OwnAnswer) (kind : RequestKind) : PresentationSlot :=
  { sequence := 1, credential := 7001, kind := kind, openStation := 5, openBay := 0, arrival := 0, own := own,
    decided := false, answerDelay := some 20, deadline := some 250 }

/-- A claim of reader 0. -/
def claimWith (kind : RequestKind) (inWindow : Bool) : PendingClaim :=
  { reader := 0, sequence := 1, kind := kind, credential := 7001, endTime := 60, inWindow := inWindow, key := 65536 }

/-- The OFFER of `claimWith` in transmission. -/
def sentOffer : TxFrame :=
  { offerFrame 0 1 .checkout 0 5 false 8 with inTransmission := true }

theorem witness_TransmitBitErrorCounts :
    (∀ (f : TxFrame) (body : Option (List Byte)), f.bid < 4096 → f.inTransmission = true →
      LinkLaw (sends f body) ∧ (sends f body).lkc.line = .sending ∧ f ∈ (sends f body).lkc.queue) ∧
    (sending .offer 2 true).withdrawal = true ∧
    ((sending .event 1 false).withdrawal = false ∧ (sending .event 1 false).attempts ≠ 2) ∧
    ((sending .event 2 false).attempts = 2 ∧ (sending .heartbeat 2 false).kind = .heartbeat ∧
      (sends (sending .heartbeat 2 false) none).lkc.pendingHeartbeat = none ∧
      (sends (sending .heartbeat 2 false) (some [1])).lkc.pendingHeartbeat = some [1] ∧
      (sending .heartbeat 1 false).attempts ≠ 2) ∧
    (let f : TxFrame := { sentOffer with attempts := 2 }
     let s := ((sends f none).modBay 0 fun x => { x with claim := some (claimWith .checkout false) }).setSlot 0
        (some (slotWith .offerQueued .checkout))
     f.kind = .offer ∧ f.bid < 4096 ∧ f.attempts = 2 ∧ answerReader f.body = some 0 ∧
      s.slot 0 = some (slotWith .offerQueued .checkout) ∧
      (slotWith .offerQueued .checkout).sequence = bodySequence f.body ∧
      (s.bay 0).claim = some (claimWith .checkout false) ∧ (claimWith .checkout false).inWindow = false ∧
      (claimWith .checkout false).sequence = bodySequence f.body ∧ (s.bay 1).claim = none ∧
      (sends f none).slot 0 = none) ∧
    (let f : TxFrame := { denyFrame 0 1 .suspended 7001 with inTransmission := true, attempts := 2 }
     f.kind = .deny ∧ f.deadline = none ∧ answerReader f.body = some 0 ∧
      ((sends f none).setSlot 0 (some (slotWith .denyQueued .checkout))).slot 0 =
        some (slotWith .denyQueued .checkout) ∧ { f with deadline := some 250 }.deadline ≠ none ∧
      answerReader (9 :: f.body) = none) :=
  ⟨fun f body hb _ => ⟨sends_law f body hb, rfl, List.mem_singleton.2 rfl⟩, by decide, by decide, by decide,
    by decide +kernel, by decide +kernel⟩

theorem witness_third_quiet : lanesQuiet (sends { sentOffer with attempts := 2 } none) := quiet_of rfl

theorem witness_TransmissionCompletes :
    LinkLaw (sends sentOffer none) ∧ sentOffer ∈ (sends sentOffer none).lkc.queue ∧
    (let s := ((sends sentOffer none).modBay 0 fun x => { x with claim := some (claimWith .checkout false) }).setSlot 0
        (some (slotWith .offerQueued .checkout))
     (s.bay (offerBay sentOffer.body)).claim = some (claimWith .checkout false) ∧
      (claimWith .checkout false).inWindow = false ∧
      answerReader sentOffer.body = some (claimWith .checkout false).reader ∧
      (claimWith .checkout false).sequence = bodySequence sentOffer.body ∧
      s.slot 0 = some (slotWith .offerQueued .checkout) ∧
      (slotWith .offerQueued .checkout).sequence = bodySequence sentOffer.body) ∧
    (((sends sentOffer none).bay (offerBay sentOffer.body)).claim = none ∧ (sends sentOffer none).slot 0 = none) ∧
    (let f : TxFrame := { denyFrame 0 1 .suspended 7001 with inTransmission := true }
     f.kind = .deny ∧ f.deadline = none ∧ answerReader f.body = some 0 ∧
      (base.setSlot 0 (some (slotWith .denyQueued .checkout))).slot 0 = some (slotWith .denyQueued .checkout) ∧
      (slotWith .denyQueued .checkout).sequence = bodySequence f.body ∧
      { f with deadline := some 250 }.deadline ≠ none) ∧
    (sending .heartbeat 0 false).kind = .heartbeat ∧ lanesQuiet (sends (sending .heartbeat 0 false) (some [1])) ∧
    (sends (sending .heartbeat 0 false) (some [1])).lkc.pendingHeartbeat = some [1] ∧
    (sends (sending .heartbeat 0 false) none).lkc.pendingHeartbeat = none :=
  ⟨sends_law _ _ (by decide), List.mem_singleton.2 rfl, by decide +kernel, by decide +kernel, by decide +kernel, rfl, quiet_of rfl,
    rfl, rfl⟩

/-- The base station receiving, with a number of frames waiting. -/
def receiving (n : Nat) : State :=
  { base with lkc := { base.lkc with line := .receiving, received := List.replicate n (rx .query []) } }

/-- A header from station 12 to all. -/
def headerOf (kind : BitVec 6) (source : BitVec 4) (dest : BitVec 5) (n : Nat) : Header :=
  { cls := 0, bid := 0, source := source, kind := kind, dest := dest, length := BitVec.ofNat 6 n }

theorem witness_FramesAreDiscarded :
    (receiving 0).lkc.line = .receiving ∧
    (let h := headerOf 0x19 12 31 0
     receiveBits (stuff (false :: (flipAt (flipAt (headerBits h) 3) 7 ++ headerCheck (headerBits h)))) = .headerBad) ∧
    (let h := headerOf 0x19 12 31 33
     receiveBits (stuff (false :: (headerBits h ++ headerCheck (headerBits h)))) = .lengthBad false) ∧
    receiveBits (List.replicate 6 false) = .formError false ∧
    (let h := headerOf 0x19 12 31 0
     receiveBits (stuff (false :: (headerBits h ++ headerCheck (headerBits h)) ++ List.replicate 16 false) ++
       List.replicate 8 true) = .ended false h [] false) ∧
    kindOfCode 0x02 = none ∧ kindLengthGood .revoke 3 = false ∧
    (headerOf 0x19 12 4 4).source.toFin ≠ base.cfl.address ∧ (headerOf 0x19 12 4 4).dest ≠ 31 ∧
    (headerOf 0x19 5 31 4).source.toFin = base.cfl.address ∧ (receiving 0).pmn.clashHold = none ∧
    { receiving 0 with pmn := { clashHold := some 9 } }.pmn.clashHold ≠ none ∧
    (receiving 0).lkc.queue.length < 8 := by decide +kernel

theorem witness_clash_quiet : lanesQuiet (receiving 0) := quiet_of rfl

theorem witness_FramesAreAccepted :
    let h := headerOf 0x19 12 31 4
    (receiving 6).lkc.line = .receiving ∧
    receiveBits (lineBits h bytes7001) = .ended false h bytes7001 true ∧ kindOfCode h.kind = some .revoke ∧
    kindLengthGood .revoke 4 = true ∧ h.source.toFin ≠ base.cfl.address ∧ h.dest = 31 ∧
    kindReceiver .revoke ≠ none ∧ kindReceiver .event = none ∧ 6 ≤ (receiving 6).lkc.received.length ∧
    (receiving 5).lkc.received.length < 6 := by decide +kernel

theorem witness_StormWindowAdmitsFour :
    let open_ (n now : Nat) : State :=
      { base with now := now, lkc := { base.lkc with storm := #v[some { start := 0, count := n }, none, none, none] } }
    base.lkc.storm[(0 : Reader)] = none ∧
    ((open_ 4 1000).lkc.storm[bodyReader [0]] = some { start := 0, count := 4 } ∧ 0 + 1000 ≤ (open_ 4 1000).now) ∧
    (open_ 3 999).now < 0 + 1000 ∧ 4 ≤ ({ start := 0, count := 4 } : StormWindow).count := by decide

/-- A LIVE entry of a role. -/
def peerOf (state : PeerState) (role : Role) : Peer :=
  { state := state, role := role, claim := 0, draw := 0, allowance := 0, digest := 0, mismatch := false,
    errorWord := 0, heardAt := 0 }

theorem witness_FramesAreHandedOver :
    let s : State := { base with lkc := { base.lkc with received := [rx .present []] } }
    s.lkc.received = rx .present [] :: [] ∧ kindReceiver (rx .present []).kind = some .csu ∧ s.hand .csu = none ∧
    s.hands.pmn = none ∧ (withCsu (rx .revoke []) []).hand .csu ≠ none ∧
    { s with hands := { pmn := some (rx .heartbeat []) } }.hands.pmn ≠ none ∧
    kindAcceptedFrom .present = some .panel ∧ s.peer (rx .present []).source = none ∧
    (s.setPeer 12 (some (peerOf .quiet .panel))).peer (rx .present []).source = some (peerOf .quiet .panel) := by
  decide +kernel

theorem witness_HeartbeatIsOffered :
    let s (q : List TxFrame) : State := { withQueue .sending q with shu := { heartbeatTimer := some 500 } }
    (s []).shu.heartbeatTimer = some 500 ∧ (∀ f ∈ (s []).lkc.queue, f.kind ≠ .heartbeat) ∧
    (s []).lkc.queue.length < 8 ∧ sending .heartbeat 0 false ∈ (s [sending .heartbeat 0 false]).lkc.queue ∧
    newFrame .heartbeat 0 toAll [] .shu ∈ (s [newFrame .heartbeat 0 toAll [] .shu]).lkc.queue := by decide

theorem witness_heartbeat_law (f : TxFrame) (hb : f.bid < 4096) :
    LinkLaw { withQueue .sending [f] with shu := { heartbeatTimer := some 500 } } := oneFrame_law f rfl hb rfl rfl rfl

theorem witness_heartbeat_full :
    LinkLaw fullQueue ∧ lanesQuiet fullQueue ∧ fullQueue.shu.heartbeatTimer = some 500 ∧
    (∀ f ∈ fullQueue.lkc.queue, f.kind ≠ .heartbeat) ∧ fullQueue.lkc.queue.length = 8 :=
  ⟨fullQueue_law rfl rfl rfl, quiet_of rfl, rfl, by decide, rfl⟩

theorem witness_SharingTimersExpire :
    let s : State := { base with
      pmn := { isolationTimer := some 1500, clashHold := some 1500 }, shu := { liftTimer := some 1500, guard := true } }
    s.pmn.isolationTimer = some 1500 ∧ s.pmn.clashHold = some 1500 ∧ s.shu.liftTimer = some 1500 ∧
    s.cfl.phase = .active := by decide

theorem witness_HeartbeatUpdatesThePeer :
    let s : State := { base with hands := { pmn := some (rx .heartbeat [1]) } }
    s.hands.pmn = some (rx .heartbeat [1]) ∧ (rx .heartbeat [1]).kind = .heartbeat ∧
    (rx .heartbeat [1]).source ≠ s.cfl.address := by decide

theorem witness_mismatch :
    let s : State := { base with hands := { pmn := some (rx .heartbeat [1, 0, 1, 2]) } }
    roleOfByte 1 = .shelf ∧ word16At [1, 0, 1, 2] 2 ≠ s.cfl.digest ∧ s.peer 12 = none ∧ s.lkc.queue.length < 8 ∧
    (s.setPeer 12 (some { peerOf .live .shelf with mismatch := true })).peer 12 =
      some { peerOf .live .shelf with mismatch := true } ∧ roleOfByte 2 ≠ .shelf := by decide +kernel

theorem witness_mismatch_quiet : lanesQuiet { base with hands := { pmn := some (rx .heartbeat [1, 0, 1, 2]) } } :=
  quiet_of rfl

theorem witness_PeersAge :
    (base.setPeer 1 (some (peerOf .live .shelf))).peer 1 = some (peerOf .live .shelf) ∧
    (peerOf .live .shelf).state = .live ∧
    (base.setPeer 1 (some (peerOf .quiet .shelf))).peer 1 = some (peerOf .quiet .shelf) := by decide +kernel

theorem witness_RecomputationSetsTheTarget :
    base.cfl.phase = .active ∧ (recomputed base).suspended = false ∧
    (recomputed { base with pmn := { isolated := true } }).suspended = true ∧
    (recomputed base).shu.settled ≤ (recomputed base).shu.floor ∧
    (let u := (recomputed (sharing 1401)).shu
     u.floor < u.settled ∧ u.totalExcess ≤ u.surplus ∧ (recomputed (sharing 1401)).suspended = false) ∧
    (let u := (recomputed (sharing 3200)).shu
     u.floor < u.settled ∧ u.surplus < u.totalExcess ∧ (recomputed (sharing 3200)).suspended = false) := by
  decide +kernel

theorem witness_guard :
    let s (draw : Nat) (guard : Bool) (lift : Option Nat) : State :=
      { base with shu := { available := 8400, draw := draw, guard := guard, liftTimer := lift } }
    (s 8401 false none).shu.available < (s 8401 false none).drawEstimate ∧
    (s 8400 false none).drawEstimate ≤ (s 8400 false none).shu.available ∧
    (s 7979 true none).drawEstimate < 8400 - 8400 / 20 ∧ (s 7979 true (some 1)).shu.liftTimer ≠ none ∧
    8400 - 8400 / 20 ≤ (s 7980 true none).drawEstimate := by decide +kernel

theorem witness_MeasurementTakesEveryPort :
    let s : State := { with0 { charge := { state := .charging, overdraw := 10 } } with bcc := { measureTimer := some 100 } }
    s.bcc.measureTimer = some 100 ∧ s.populated 0 = true ∧ takesPart (s.bay 0).charge.state = true ∧
    (s.bay 0).charge.grant + (s.bay 0).charge.grant / 10 < 5000 * 500 / 100000 ∧
    10 ≤ (s.bay 0).charge.overdraw ∧ takesPart (s.bay 1).charge.state = false ∧
    ((with0 { charge := { state := .charging, overdraw := 9 } }).bay 0).charge.overdraw < 10 ∧
    ¬ (s.bay 0).charge.grant + (s.bay 0).charge.grant / 10 < 0 ∧ s.cfl.phase = .active ∧
    s.shu.refDraw + 10 ≤ min 25 65535 ∧ ¬ s.shu.refDraw + 10 ≤ min 9 65535 ∧
    (evaluateGuard { s with shu := { s.shu with draw := 9 } }).shu.guard ≠ s.shu.guard ∧
    (let u : State := { s with shu := { available := 8400 } }
     (evaluateGuard { u with shu := { u.shu with draw := 9 } }).shu.guard = u.shu.guard) ∧
    { s with cfl := { s.cfl with populated := 7 } }.populated 7 = false ∧
    (∀ b : BayIx, takesPart (base.bay b).charge.state = false) ∧ 9 < base.shu.refDraw + 10 ∧
    (evaluateGuard { base with shu := { base.shu with draw := 0 } }).shu.guard = base.shu.guard ∧
    { base with cfl := { base.cfl with phase := .listen } }.cfl.phase ≠ .active := by decide +kernel

/-- Two bays that trip at one measurement, the second fault of bay 1. -/
theorem witness_trips :
    let c : Charge := { state := .charging, overdraw := 10 }
    let s : State := { (with0 { charge := c }).setBay 1 { charge := { c with lastFault := some 0 } } with
      bcc := { measureTimer := some 100 } }
    (∀ b ∈ [(0 : BayIx), 1], s.populated b = true ∧ takesPart (s.bay b).charge.state = true ∧
      (s.bay b).charge.grant + (s.bay b).charge.grant / 10 < 5000 * 500 / 100000 ∧ 10 ≤ (s.bay b).charge.overdraw ∧
      (s.bay b).claim = none) ∧
    (s.bay 1).charge.lastFault = some 0 ∧ (s.bay 0).charge.lastFault = none ∧ s.lkc.queue.length + 3 ≤ 8 := by
  decide +kernel

/-- A bay that trips on an ACTIVE channel, SHORT and OVERDRAW alike, at a first and at a second fault. -/
theorem witness_trip_writes :
    let s (st : ChargeState) (last : Option Nat) : State :=
      { with0
          { channel := { state := .active },
            charge := { state := st, grant := 5, limit := 100, shortHold := some 9, overdraw := 10, lastFault := last } } with
        bcc := { measureTimer := some 100 } }
    ∀ st ∈ [ChargeState.charging, .unmanaged], ∀ last ∈ [none, some 0],
      ((s st last).bay 0).channel.state = .active ∧ takesPart ((s st last).bay 0).charge.state = true ∧
      ((s st last).bay 0).charge.lastFault = last ∧ ((s st last).bay 0).charge.shortHold = some 9 ∧
      ((s st last).bay 0).charge.limit ≠ 0 ∧ ((s st last).bay 0).attrs.outOfService = false ∧
      ((s st last).bay 0).charge.grant + ((s st last).bay 0).charge.grant / 10 < 5000 * 500 / 100000 := by decide +kernel

theorem witness_PresenceGainIdentifies :
    (base.populated 7 = true ∧ (base.bay 7).present = false ∧ (base.bay 7).charge.state = .vacant ∧
      (base.bay 7).channel.state = .off) ∧
    ((with0 { charge := { state := .outOfService } }).bay 0).charge.state ≠ .vacant := by decide +kernel

theorem witness_PresenceLossVacates :
    let s (st : ChargeState) (attr : OpenAttr) (loans : List Loan) : State :=
      { with0
          { present := true, charge := { state := st },
            door := { episode := some { attr := attr, asset := some 5, ajar := none }, release := some record } } with
        csu := { base.csu with loans := loans } }
    let full : List Loan := List.replicate 32
      { asset := 6, credential := 0, bay := 0, released := 0, due := 0, state := .running }
    let t := s .charging .authorized []
    t.populated 0 = true ∧ (t.bay 0).present = true ∧ (t.bay 0).charge.state ≠ .outOfService ∧
    ((s .outOfService .forced []).bay 0).charge.state = .outOfService ∧
    ((s .charging .forced []).bay 0).door.episode = some { attr := .forced, asset := some 5, ajar := none } ∧
    t.lkc.queue.length < 8 ∧ (t.bay 0).door.release = some record ∧ record.reason = .checkout ∧
    lookupCredential t.csu.credentials record.credential = none ∧
    ([] : List Loan).length < 32 ∧ 32 ≤ ((s .charging .authorized full).csu.loans.filter fun l => l.asset != 5).length ∧
    ((with0 { present := true }).bay 0).door.episode = none := by decide +kernel

theorem witness_removal_quiet : lanesQuiet (with0 { present := true }) := quiet_of rfl

theorem witness_IdentificationTimesOut :
    (let s : State := with0 { charge := { state := .identifying, identTimer := some 3000 } }
     (s.bay 0).charge.identTimer = some 3000 ∧ (s.bay 0).charge.state = .identifying) ∧
    (let x := called (.read .battery) false
     let s (st : ChargeState) : State := with0 { channel := { exchange := some x }, charge := { state := st } }
     let frame (soc temperature flags check : Byte) : List Byte :=
       callByte x.body x.number :: [soc, temperature, 0, flags] ++ [check]
     let z (soc temperature flags : Byte) := readBattery [soc, temperature, 0, flags]
     (∀ st ∈ [ChargeState.identifying, .charging, .thermal], ((s st).bay 0).channel.exchange = some x) ∧
      x.stage = .called ∧ receivedBytes ((frame 95 45 1 114).map sampled) = some (frame 95 45 1 114) ∧
      sumGood (frame 95 45 1 114) = true ∧ (z 95 45 1).temperature = 45 ∧ base.cfl.config.tempHot = 45 ∧
      sumGood (frame 95 40 1 119) = true ∧ (z 95 40 1).temperature = 45 - 5 ∧ (z 95 40 1).full = true ∧
      95 ≤ (z 95 40 1).soc ∧ sumGood (frame 94 44 1 116) = true ∧ 45 - 5 < (z 94 44 1).temperature ∧
      ¬ 95 ≤ (z 94 44 1).soc) ∧
    (let x := called (.read .chargeRequest) false
     let s (view : TabletView) : State := with0
       { view := view, channel := { exchange := some x }, charge := { state := .identifying, stage := .awaitRequest } }
     ((s {}).bay 0).channel.exchange = some x ∧ ((s {}).bay 0).charge.stage = .awaitRequest ∧
      ((s {}).bay 0).view.battery = none ∧ sumGood (callByte x.body x.number :: [5, 0, 200] ++ [49]) = true ∧
      ((s { battery := some (readBattery [95, 45, 0, 1]) }).bay 0).view.battery = some (readBattery [95, 45, 0, 1])) ∧
    sumGood (callByte (.read .ident) 0 :: [0, 1, 0, 0, 0, 5, 1, 3] ++ [246]) = true ∧
    (let s (st : ChargeState) (c : ChannelState) : State := with0
       { charge := { state := st }, channel := { state := c, exchange := some (called (.read .ident) false) } }
     ((s .thermal .active).bay 0).charge.state = .thermal ∧ ((s .unmanaged .silent).bay 0).charge.state = .unmanaged ∧
      ((s .thermal .active).bay 0).channel.state = .active ∧
      ((s .unmanaged .silent).bay 0).channel.state = .silent) := by decide +kernel

/-- A CHARGE_REQUEST reading of 20 V and 20.0 W in the states that take one, at a grant and at none, with a battery that
is hot, full or neither, and with none. -/
theorem witness_charge_request :
    let x := called (.read .chargeRequest) false
    let s (st : ChargeState) (grant : Nat) (battery : Option Battery) : State := with0
      { view := { battery := battery }, channel := { exchange := some x }, charge := { state := st, grant := grant } }
    let frame := callByte x.body x.number :: [5, 0, 200] ++ [49]
    let z (soc temperature : Byte) := readBattery [soc, temperature, 0, 1]
    (receivedBytes (frame.map sampled) = some frame ∧ [5, 0, 200].length = registerLength .chargeRequest ∧
      sumGood frame = true ∧ x.stage = .called ∧ voltageOfCode (readRequest [5, 0, 200]).code = 20 ∧
      (readRequest [5, 0, 200]).power = 200) ∧
    (∀ st ∈ [ChargeState.charging, .held, .maintain, .thermal, .unmanaged, .fault, .outOfService],
      ∀ grant ∈ [0, 20], ∀ battery ∈ [none, some (z 95 45), some (z 95 44), some (z 94 44)],
        ((s st grant battery).bay 0).channel.exchange = some x ∧ ((s st grant battery).bay 0).charge.state = st ∧
        ((s st grant battery).bay 0).charge.grant = grant ∧ ((s st grant battery).bay 0).view.battery = battery ∧
        (s st grant battery).populated 0 = true) ∧
    base.cfl.config.tempHot = 45 ∧ (z 95 45).temperature = 45 ∧ (z 95 44).temperature < 45 ∧ (z 95 44).full = true ∧
    managed .charging = true ∧ ((s .charging 0 none).setLane 0 (some (session .connected))).laneWorking 0 = true := by
  decide +kernel

theorem witness_BayTimersAndShortHold :
    (let s : State := with0
        { charge := { state := .unmanaged, unmanagedTimer := some 9 }, channel := { state := .active } }
     (s.bay 0).charge.unmanagedTimer = some 9 ∧ (s.bay 0).charge.state = .unmanaged ∧
      (s.bay 0).channel.state = .active) ∧
    (let s : State := with0 { charge := { state := .charging, grant := 5, limit := 100 } }
     s.populated 0 = true ∧ takesPart (s.bay 0).charge.state = true ∧ (s.bay 0).charge.limit ≠ 0 ∧
      2 * 2499 < 1000 * (s.bay 0).charge.voltage ∧ (s.bay 0).charge.shortHold = none ∧
      1000 * (s.bay 0).charge.voltage ≤ 2 * 2500) := by decide +kernel

theorem witness_ShortTripFaults :
    let s (last : Option Nat) : State :=
      with0 { charge := { state := .charging, grant := 5, limit := 100, shortHold := some 600000, lastFault := last } }
    ((s none).bay 0).charge.shortHold = some 600000 ∧ takesPart ((s none).bay 0).charge.state = true ∧
    ((s none).bay 0).charge.limit ≠ 0 ∧ ((s none).bay 0).charge.lastFault = none ∧
    ((s (some 1)).bay 0).charge.lastFault = some 1 ∧ 600 - 1 < 600 ∧
    ((s (some 1)).bay 0).attrs.outOfService = false := by decide +kernel

theorem witness_trip_quiet (x : Bay) (h : x.claim = none) :
    lanesQuiet (with0 x) ∧ ((with0 x).bay 0).claim = none ∧ (with0 x).lkc.queue.length < 7 :=
  ⟨quiet_of rfl, h, Nat.succ_pos 6⟩

/-- Section 4.9 at 700 dW: bays 0 and 4 of class 2 stay short, and class 3 keeps its first-pass grant. -/
theorem witness_SplitStaysWithinTheAllowance :
    let bays : List SplitBay :=
      [{ bay := 0, cls := 2, wish := 180, grant := 0 }, { bay := 1, cls := 0, wish := 200, grant := 0 },
       { bay := 2, cls := 1, wish := 150, grant := 0 }, { bay := 3, cls := 3, wish := 12, grant := 0 },
       { bay := 4, cls := 2, wish := 180, grant := 0 }]
    (∀ x ∈ bays, x.cls ≤ 3 ∧ x.grant = 0) ∧
    (let out := splitGrants 700 25 bays
     out[2]?.map (fun x => (x.bay, x.cls, x.grant)) = some (0, 2, 169) ∧
      out[3]?.map (fun x => (x.bay, x.cls, x.grant)) = some (4, 2, 169) ∧
      out[4]?.map (fun x => (x.bay, x.cls, x.grant)) = some (3, 3, 12)) := by decide +kernel

theorem witness_wishes :
    let z (soc : Nat) (fault : Bool) : Battery :=
      { soc := soc, temperature := 20, health := 90, full := false, charging := true, fault := fault }
    let s (st : ChargeState) (soc : Nat) (fault reserved : Bool) : State := with0
      { charge := { state := st }, attrs := { reserved := reserved },
        view := { battery := some (z soc fault), request := some { code := 2, power := 3 } } }
    (∀ st ∈ [ChargeState.vacant, .thermal, .unmanaged, .charging, .held, .maintain],
      ((s st 50 false false).bay 0).charge.state = st ∧ (s st 50 false false).lane 0 = none) ∧
    ((s .charging 50 true false).bay 0).view.battery = some (z 50 true) ∧ (z 50 true).fault = true ∧
    ((s .charging 50 false false).bay 0).view.request = some { code := 2, power := 3 } ∧
    ((s .held 29 false false).bay 0).view.battery = some (z 29 false) ∧ 29 < base.cfl.config.socLow ∧
    ((s .held 50 false true).bay 0).attrs.reserved = true ∧ 90 ≤ (z 90 false).soc ∧
    ((s .charging 50 false false).setLane 0 (some (session .waking))).lane 0 = some (session .waking) ∧
    (session .waking).bay = 0 := by decide +kernel

/-- R65: class 3 at a SoC of 90 in HELD; class 2 of an UNMANAGED bay that keeps it, and of a bay in MAINTAIN with no
SoC. -/
theorem test_classes :
    let z : Battery := { soc := 90, temperature := 20, health := 90, full := true, charging := true, fault := false }
    let cls (st : ChargeState) (battery : Option Battery) : Nat :=
      (with0 { charge := { state := st }, view := { battery := battery } }).classOf 0
    cls .held (some z) = 3 ∧ cls .unmanaged (some z) = 2 ∧ cls .unmanaged (some { z with soc := 29 }) = 1 ∧
    cls .maintain none = 2 ∧ cls .maintain (some { z with soc := 50 }) = 3 := by decide +kernel

theorem witness_split_runs :
    let z (soc : Nat) (full : Bool) : Battery :=
      { soc := soc, temperature := 20, health := 90, full := full, charging := true, fault := false }
    let s (st : ChargeState) (soc : Nat) (full : Bool) : State :=
      { with0 { channel := { state := .active }, charge := { state := st, wish := 75, cls := 2, limitOwed := true },
                view := { battery := some (z soc full) } } with
        shu := { allowance := 30 }, cfl := { base.cfl with populated := 7 } }
    (s .vacant 50 false).populated 7 = false ∧ (s .vacant 50 false).populated 0 = true ∧
    (∀ st ∈ [ChargeState.charging, .held, .unmanaged],
      ((s st 50 false).bay 0).charge.state = st ∧ (z 50 false).temperature < (s st 50 false).cfl.config.tempHot ∧
      { bay := 0, cls := 2, wish := 75, grant := 30 } ∈ splitGrants (s st 50 false).shu.allowance
        (s st 50 false).cfl.config.bayMin [{ bay := 0, cls := 2, wish := 75, grant := 0 }]) ∧
    ((s .maintain 95 true).bay 0).view.battery = some (z 95 true) ∧ (z 95 true).full = true ∧
    95 ≤ (z 95 true).soc ∧ ((s .held 50 false).bay 0).channel.state = .active := by decide +kernel

theorem witness_SidebandStarts :
    let s (c : Channel) : State := with0 { channel := c }
    ({ state := .active, chargeLimit := some 5 } : Channel).custody = none ∧
    ({ state := .active, provControl := some { enter := true, campaign := 1 } } : Channel).custody = none ∧
    let x (st : ExchangeStage) : Exchange := { body := .read .ident, number := 3, retry := false, stage := st, sent := [] }
    let c (h w : Nat) (e : Option Exchange) : Channel :=
      { state := .silent, dueIdent := true, highRun := h, wakeIdle := w, exchange := e }
    let run (n : Nat) : WireRun := { high := true, length := n }
    let reached (n : Nat) (c : Channel) : Channel := ((watchWire 0 [run n] (s c)).bay 0).channel
    ((c 18 0 none).state ≠ .off ∧ (watchRun (run 1) (c 18 0 none)).lowRun < 480 ∧
      (reached 1 (c 18 0 none)).exchange = none ∧ nextEntry (reached 1 (c 18 0 none)) = some (.read .ident) ∧
      (reached 1 (c 18 0 none)).highRun < 20 ∧ 20 ≤ (reached 2 (c 18 0 none)).highRun) ∧
    nextEntry (reached 1 { state := .active }) = none ∧
    ((reached 1 (c 18 382 (some (x .waking)))).exchange = some (x .waking) ∧
      (reached 1 (c 18 382 (some (x .waking)))).wakeIdle < 384 ∧
      20 ≤ (reached 2 (c 18 382 (some (x .waking)))).highRun ∧
      384 ≤ (reached 2 (c 18 382 (some (x .waking)))).wakeIdle) ∧
    ((reached 1 (c 18 0 (some (x (.retryWait true))))).exchange = some (x (.retryWait true)) ∧
      (reached 1 (c 18 0 (some (x (.retryWait true))))).highRun < 20 ∧
      20 ≤ (reached 2 (c 18 0 (some (x (.retryWait true))))).highRun) ∧
    (let c : Channel := { state := .active, batteryTimer := some 1, requestTimer := some 1, profileTimer := some 1 }
     ((s c).bay 0).channel = c) ∧
    ((s { state := .silent, identTimer := some 1 }).bay 0).channel.identTimer = some 1 := by decide +kernel

/-- R89: once a count has reached its limit, what the wire does next does not undo it: no call starts behind a low run of
480, and a run of 1920 high ends STUCK although a low bit follows. -/
theorem test_wire_counts_reach :
    let s (st : ChannelState) : State := with0 { channel := { state := st, dueBattery := true } }
    let run (h : Bool) (n : Nat) : WireRun := { high := h, length := n }
    ((after (.wireStuck 0 [run false 480, run true 1]) (s .active)).bay 0).channel.state = .stuck ∧
    ((after (.exchangeStart 0 [run false 480, run true 20]) (s .active)).bay 0).channel.exchange = none ∧
    ((after (.wireRecovered 0 [run true 1920, run false 1]) (s .stuck)).bay 0).channel.state = .silent := by
  decide +kernel

theorem witness_ReadResponseReplacesTheView :
    (let data : List Byte := [0, 1, 0, 0, 0, 5, 1, 3]
     let bytes := callByte (.read .ident) 0 :: data ++ [246]
     let s (c : ChannelState) (v : TabletView) : State :=
       with0 { view := v, channel := { state := c, exchange := some (called (.read .ident) false) } }
     ((s .silent {}).bay 0).channel.exchange = some (called (.read .ident) false) ∧
      receivedBytes (bytes.map sampled) = some bytes ∧ data.length = registerLength .ident ∧ sumGood bytes = true ∧
      (readIdentity data).asset = 5 ∧ ((s .silent {}).bay 0).channel.state = .silent ∧
      ((s .silent {}).bay 0).view.identity = none ∧
      ((s .active { identity := some (readIdentity data) }).bay 0).view.identity = some (readIdentity data) ∧
      ((s .active { identity := some { readIdentity data with asset := 6 } }).bay 0).view.identity =
        some { readIdentity data with asset := 6 } ∧
      ((s .active {}).bay 0).channel.state = .active ∧ (s .active {}).lkc.queue.length < 7) ∧
    (sampled 3).map majority = sidebandBits 3 ∧
    sumGood (callByte (.read .battery) 0 :: [0, 0, 0, 0] ++ [255]) = true ∧
    sumGood (callByte (.read .chargeRequest) 0 :: [0, 0, 0] ++ [254]) = true ∧
    sumGood (callByte (.read .profile) 0 :: [0, 0, 0, 0, 0] ++ [252]) = true := by decide +kernel

theorem witness_reading_quiet : lanesQuiet (with0 { channel := { state := .active } }) := quiet_of rfl

theorem witness_FailedAttemptsAreRetriedOnce :
    let s (st : ChannelState) (drops : Nat) (x : Exchange) : State :=
      with0 { channel := { state := st, drops := drops, exchange := some x } }
    let r := called (.read .battery) false
    let i := called (.read .ident) true
    let w : Exchange := { called (.write (.chargeLimit 5)) true with sent := [131] }
    (((s .active 0 r).bay 0).channel.exchange = some r ∧ r.stage = .called ∧ r.retry = false ∧
      receivedBytes (List.replicate 6 (sampled 0)) = some (List.replicate 6 0) ∧
      (List.replicate 6 (0 : Byte)).length = registerLength .battery + 2 ∧
      byteAt (List.replicate 6 0) 0 ≠ callByte r.body 0 ∧
      receivedBytes (List.replicate 5 (sampled 0)) = some (List.replicate 5 0) ∧
      (List.replicate 5 (0 : Byte)).length ≤ registerLength .battery + 1 ∧
      receivedBytes [[sample true]] = some [] ∧ ([] : List Byte).length ≤ registerLength .battery + 1) ∧
    (((s .active 2 w).bay 0).channel.exchange = some w ∧ w.retry = true ∧ ((s .active 2 w).bay 0).channel.drops = 2 ∧
      receivedBytes [sampled 0] = some [0] ∧ (0 : Byte) ≠ callByte w.body 0 ∧ (0 : Byte) ≠ ~~~callByte w.body 0) ∧
    (((s .active 1 i).bay 0).channel.drops < 2 ∧ i.body = .read .ident ∧
      ((s .silent 0 i).bay 0).channel.state = .silent) ∧
    (let bad := List.replicate 10 { first := false, second := false, third := true }
     bad.length = 10 ∧ (bad.map majority)[0]? = some false ∧ (bad.map majority)[9]? = some false) ∧
    (w.sent.flatMap sidebandBits)[9]? = some true ∧ majority (sample false) ≠ true ∧
    ({ r with stage := .waking } : Exchange).stage = .waking ∧ 95 < 96 ∧ majority (sample true) = true := by
  decide +kernel

/-- The third drop in a row meets a bay in each charge state. -/
theorem witness_silent_states :
    let w : Exchange := { called (.write (.chargeLimit 5)) true with sent := [131] }
    let s (st : ChargeState) : State :=
      with0 { channel := { state := .active, drops := 2, exchange := some w }, charge := { state := st } }
    ∀ st ∈ [ChargeState.vacant, .identifying, .charging, .held, .maintain, .thermal, .unmanaged, .fault, .outOfService],
      ((s st).bay 0).channel.exchange = some w ∧ w.retry = true ∧ ((s st).bay 0).channel.state = .active ∧
      ((s st).bay 0).channel.drops = 2 ∧ ((s st).bay 0).charge.state = st ∧ ((s st).bay 0).charge.wish = 0 := by
  decide +kernel

theorem witness_WriteAnswersEndTheExchange :
    let enter : ProvWrite := { enter := true, campaign := 40 }
    let leave : ProvWrite := { enter := false, campaign := 40 }
    let x (v : ProvWrite) := called (.write (.provControl v)) false
    let y (stage : LaneStage) : LaneSession :=
      { bay := 0, slot := 0, campaign := 40, asset := none, minute := 0, stage := stage, wakeWait := some 20000,
        limit := none, entered := none, accepted := false }
    let s (v : ProvWrite) (stage : LaneStage) : State :=
      (with0
        { channel := { state := .active, exchange := some (x v) },
          door := { state := .secure, pendingLane := true, release := some record } }).setLane 1 (some (y stage))
    let c : CustodyWrite := { released := true, credential := 7001 }
    (((s enter .waking).bay 0).channel.exchange = some (x enter) ∧ (x enter).stage = .called ∧
      callByte (x enter).body (x enter).number = 0x85 ∧ receivedBytes [sampled 0x85] = some [0x85] ∧
      receivedBytes [sampled 0x7A] = some [~~~callByte (x enter).body (x enter).number] ∧
      (s enter .waking).laneOf 0 = some 1 ∧ (s enter .waking).lane 1 = some (y .waking)) ∧
    ((s enter .connected).lane 1 = some (y .connected) ∧ (y .connected).stage ≠ .waking) ∧
    ((s leave .connected).lane 1 = some (y .connected) ∧ ∀ o, (y .connected).stage ≠ .releasing o) ∧
    ((s leave (.releasing .success)).lane 1 = some (y (.releasing .success)) ∧
      (∀ k : SlotIx, (s leave (.releasing .success)).campaign k = none) ∧
      ((s leave (.releasing .success)).bay 0).door.pendingLane = true ∧
      ((s leave (.releasing .success)).bay 0).door.release = some record) ∧
    (let x := called (.write (.custody c)) false
     ((with0 { channel := { exchange := some x } }).bay 0).channel.exchange = some x ∧
      callByte x.body x.number = 0x86 ∧ receivedBytes [sampled 0x79] = some [~~~callByte x.body x.number] ∧
      (with0 { channel := { exchange := some x } }).lkc.queue.length < 8 ∧
      (with0 { channel := { exchange := some x } }).laneOf 0 = none) ∧
    ((with0 { channel := { exchange := some (called (.write (.chargeLimit 0)) false) } }).bay 0).channel.exchange =
      some (called (.write (.chargeLimit 0)) false) := by
  refine ⟨?_, ?_, ⟨?_, fun o h => nomatch h⟩, ?_, ?_, ?_⟩ <;> decide +kernel

/-- A write is requested of a channel in each state, of a tablet that takes no write, of one that takes both, and of one
not identified yet. -/
theorem witness_write_requests :
    let i (capability : Byte) : Identity := { model := 1, asset := 5, version := 1, capability := capability }
    let s (c : ChannelState) (v : Option Identity) : State :=
      with0 { view := { identity := v }, channel := { state := c, drops := 2 } }
    (∀ c ∈ [ChannelState.off, .silent, .stuck], ((s c none).bay 0).channel.state ≠ .active) ∧
    (takesCustody (i 0) = false ∧ takesProvControl (i 0) = false ∧ takesCustody (i 3) = true ∧
      takesProvControl (i 3) = true) ∧
    ∀ v ∈ [none, some (i 0), some (i 3)],
      ((s .active v).bay 0).channel.state = .active ∧ ((s .active v).bay 0).view.identity = v := by decide +kernel

/-- R92, R85: a CUSTODY write that the capability excludes is refused at once and sets the drop count to 0. -/
theorem test_refused_request :
    let s : State := with0
      { view := { identity := some { model := 1, asset := 5, version := 1, capability := 0 } },
        channel := { state := .active, drops := 2 } }
    let w := requestWrite 0 (.custody { released := false, credential := 0 }) (startWork s)
    (w.st.bay 0).channel.drops = 0 ∧ (w.st.bay 0).channel.custody = none := by decide +kernel

theorem witness_StuckWireSilences :
    let s (c : ChannelState) (st : ChargeState) (low high : Nat) : State :=
      with0 { channel := { state := c, lowRun := low, highRun := high }, charge := { state := st } }
    let low (n : Nat) : WireRun := { high := false, length := n }
    let high (n : Nat) : WireRun := { high := true, length := n }
    (let t := s .active .held 470 0
     (t.bay 0).channel.state = .active ∧ managed (t.bay 0).charge.state = true ∧
      (watchRun (low 9) (t.bay 0).channel).lowRun < 480 ∧ 480 ≤ (watchRun (low 10) (t.bay 0).channel).lowRun) ∧
    (let t := s .silent .identifying 0 5
     (t.bay 0).channel.state = .silent ∧ 480 ≤ (watchRun (low 480) (t.bay 0).channel).lowRun) ∧
    (let t := s .stuck .unmanaged 480 0
     (t.bay 0).channel.state = .stuck ∧ (watchRun (high 1919) (t.bay 0).channel).highRun < 1920 ∧
      1920 ≤ (watchRun (high 1920) (t.bay 0).channel).highRun) := by decide +kernel

/-- The wire of a bay in each charge state is stuck. -/
theorem witness_stuck_states :
    let s (st : ChargeState) : State := with0 { channel := { state := .active, lowRun := 479 }, charge := { state := st } }
    ∀ st ∈ [ChargeState.vacant, .identifying, .charging, .held, .maintain, .thermal, .unmanaged, .fault, .outOfService],
      ((s st).bay 0).channel.state = .active ∧ ((s st).bay 0).charge.state = st ∧ ((s st).bay 0).charge.wish = 0 ∧
      480 ≤ (watchRun { high := false, length := 1 } ((s st).bay 0).channel).lowRun := by decide +kernel

/-- An episode that began with a release. -/
def episode : Episode := { attr := .authorized, asset := none, ajar := some 60000 }

/-- A closed door in a state, in an episode. -/
def closedIn (st : DoorState) : Door := { state := st, episode := some episode }

theorem closedIn_law (st : DoorState) (h : ∀ a, st ≠ .opened a) : DoorLaw (door0 (closedIn st)) :=
  door0_law _ (closedDoor (fun h => absurd rfl h) rfl rfl h fun _ => rfl)

theorem witness_DoorOpens :
    (∀ st : DoorState, (∀ a, st ≠ .opened a) → DoorLaw (door0 (closedIn st))) ∧
    ∀ st ∈ [DoorState.secure, .releasing, .unsecured, .closing],
      (door0 (closedIn st)).populated 0 = true ∧ ((door0 (closedIn st)).bay 0).door.closed = true ∧
      ((door0 (closedIn st)).bay 0).door.state = st ∧ ((door0 (closedIn st)).bay 0).door.episode = some episode :=
  ⟨closedIn_law, by decide +kernel⟩

/-- A SECURE door whose release waits for lane 0. -/
def waiting (wait : Option Nat) : Door :=
  { bolt := true, state := .secure, pendingLane := true, release := some record, boltWait := wait }

/-- The station of such a door, its lane machine RELEASING. -/
def waitingStation (d : Door) : State := (door0 d).setLane 0 (some (session (.releasing .abortCustody)))

theorem waiting_law (wait : Option Nat) : DoorLaw (waitingStation (waiting wait)) :=
  door0_law (waiting wait) ⟨fun h => absurd rfl h, fun _ => ⟨rfl, rfl, rfl⟩,
    ⟨fun ⟨_, h⟩ => (nomatch h), fun h => absurd h (by decide : ¬ true = false)⟩, fun h => h.elim (fun ⟨_, h⟩ => nomatch h) nofun⟩

theorem waiting_ending (d : Door) : lanesEnding (waitingStation d) := by
  refine ⟨fun n => ?_, (quiet_of (s := door0 d) rfl).2⟩
  revert n
  simp only [Fin.forall_fin_two]
  exact ⟨fun x h => ⟨.abortCustody, by cases h; rfl⟩, fun x h => nomatch h⟩

/-- A release that waits for a lane is met by an opening, by a bolt that clears, and by the end of a bolt wait. -/
theorem witness_waiting_release :
    let s (d : Door) : State := waitingStation d
    (s (waiting none)).populated 0 = true ∧ ((s (waiting none)).bay 0).door = waiting none ∧
    (waiting none).closed = true ∧ (waiting none).boltWait = none ∧ (waiting none).release = some record ∧
    (waiting (some 9)).boltWait = some 9 ∧
    ((s { waiting (some 9) with bolt := false }).bay 0).door = { waiting (some 9) with bolt := false } ∧
    (s (waiting none)).lkc.queue.length < 7 := by decide +kernel

theorem witness_door_frames (d : Door) : lanesEnding (door0 d) ∧ (door0 d).lkc.queue.length < 8 :=
  ⟨ending_of rfl, Nat.succ_pos 7⟩

/-- An open door. -/
def openDoor (bolt : Bool) : Door := { closed := false, bolt := bolt, state := .opened .authorized, episode := some episode }

theorem openDoor_law (bolt : Bool) : DoorLaw (door0 (openDoor bolt)) :=
  door0_law _ ⟨fun h => absurd rfl h, fun h => absurd h (by decide : ¬ false = true),
    ⟨fun _ => rfl, fun _ => ⟨_, rfl⟩⟩, fun _ => rfl⟩

theorem witness_DoorClosesAndBoltMoves :
    (DoorLaw (door0 (openDoor false)) ∧ DoorLaw (door0 (openDoor true))) ∧
    ((door0 (openDoor false)).populated 0 = true ∧ ((door0 (openDoor false)).bay 0).door.closed = false ∧ ((door0 (openDoor false)).bay 0).door.bolt = false ∧
      ((door0 (openDoor true)).bay 0).door.bolt = true) ∧
    (∀ st : DoorState, (∀ a, st ≠ .opened a) → DoorLaw (door0 { closedIn st with bolt := true })) ∧
    ∀ st ∈ [DoorState.secure, .releasing, .unsecured, .closing],
      ((door0 { closedIn st with bolt := true }).bay 0).door = { closedIn st with bolt := true } :=
  ⟨⟨openDoor_law _, openDoor_law _⟩, by decide +kernel,
    fun st h => door0_law _ (closedDoor (fun h => absurd rfl h) rfl rfl h fun _ => rfl), by decide +kernel⟩

/-- A door in RELEASING. -/
def releasing : Door :=
  { state := .releasing, latch := .full, pullIn := some 150, window := some 8000, coolDown := some 2000,
    release := some record }

theorem witness_LatchTimersExpire :
    DoorLaw (door0 releasing) ∧ ((door0 releasing).bay 0).door = releasing ∧ releasing.state = .releasing ∧
    releasing.pullIn = some 150 ∧ releasing.coolDown = some 2000 ∧ releasing.window = some 8000 :=
  ⟨door0_law _ (closedDoor (fun _ => rfl) rfl rfl (fun _ h => nomatch h) fun h => nomatch h), by decide +kernel⟩

theorem witness_BoltWaitExpires :
    let d (st : DoorState) (bolt : Bool) : Door := { state := st, bolt := bolt, boltWait := some 1000 }
    ((door0 (d .closing false)).bay 0).door = d .closing false ∧
    ((door0 (d .secure false)).bay 0).door = d .secure false ∧
    ((door0 (d .secure true)).bay 0).door = d .secure true := by decide +kernel

theorem witness_EpisodeTimersExpire :
    let d (st : DoorState) : Door := { state := st, closeHold := some 250, episode := some episode }
    ((door0 (d .closing)).bay 0).door = d .closing ∧ ((door0 (d .secure)).bay 0).door = d .secure ∧
    ((door0 (d .unsecured)).bay 0).door = d .unsecured ∧ episode.ajar = some 60000 ∧
    (door0 (d .closing)).lkc.queue.length < 8 := by decide +kernel

/-- A release ends unused, and an episode ends, with a tablet present on an ACTIVE channel, identified or not. -/
theorem witness_docked_writes :
    let i : Identity := { model := 1, asset := 5, version := 1, capability := 3 }
    let held (st : DoorState) : Door := { state := st, closeHold := some 250, episode := some episode, release := some record }
    let s (d : Door) (v : Option Identity) : State :=
      with0 { present := true, view := { identity := v }, channel := { state := .active }, door := d }
    takesCustody i = true ∧ takesCustody (readIdentity [0, 1, 0, 0, 0, 5, 1, 3]) = true ∧
    takesCustody (readIdentity [0, 1, 0, 0, 0, 5, 1, 0]) = false ∧
    sumGood (callByte (.read .ident) 0 :: [0, 1, 0, 0, 0, 5, 1, 0] ++ [249]) = true ∧
    record.reason = .checkout ∧ episode.attr = .authorized ∧
    (∀ d ∈ [releasing, held .secure, held .unsecured], ∀ v ∈ [none, some i],
      ((s d v).bay 0).door = d ∧ ((s d v).bay 0).present = true ∧ ((s d v).bay 0).channel.state = .active ∧
      ((s d v).bay 0).view.identity.all takesCustody = true ∧ d.release = some record ∧ d.pendingLane = false) := by
  decide +kernel

theorem witness_releasing_law (x : Bay) (h : x.door = releasing) : DoorLaw (with0 x) := by
  have hb : ∀ b : BayIx, ((with0 x).bay b).door = ((door0 releasing).bay b).door := by
    simp only [Fin.forall_fin_succ]
    exact ⟨h, rfl, rfl, rfl, rfl, rfl, rfl, rfl, fun b => b.elim0⟩
  intro b
  rw [hb b]
  exact (witness_LatchTimersExpire.1 b)

theorem witness_MinutePasses :
    let l : Loan := { asset := 9, credential := 7001, bay := 0, released := 0, due := 1, state := .running }
    let s : State := { base with csu := { base.csu with loans := [l] } }
    s.csu.loans = [l] ∧ l.due ≤ min (s.csu.minute + 1) 65535 ∧ s.lkc.queue.length + [l].length ≤ 8 := by decide

theorem witness_EnrollWritesTheEntry :
    let f := rx .enroll (bytes7001 ++ [3, 255, 255, 0, 0, 0, 0, 1])
    let full := (List.range 256).map fun n => { technician with number := BitVec.ofNat 32 (8000 + n) }
    (withCsu f [technician]).hands.csu = some f ∧ f.kind = .enroll ∧ word32At f.body 0 = 7001 ∧
    credentialRoleOfByte (byteAt f.body 4) = some .guest ∧ (withCsu f []).csu.credentials.length < 256 ∧
    (∃ e ∈ (withCsu f [technician]).csu.credentials, e.number = word32At f.body 0) ∧
    (¬ ∃ e ∈ (withCsu f full).csu.credentials, e.number = word32At f.body 0) ∧
    256 ≤ (withCsu f full).csu.credentials.length ∧ (withCsu f full).lkc.queue.length < 8 ∧
    credentialRoleOfByte 4 = none ∧ word32At [255, 255, 255, 255] 0 = 0xFFFFFFFF := by decide +kernel

theorem witness_enroll_law : CredentialLaw (withCsu (rx .enroll []) [technician]) :=
  ⟨by decide, List.pairwise_singleton _ _⟩

theorem witness_EntriesAreRemoved :
    ∀ k ∈ [FrameKind.revoke, .released, .returned],
      (withCsu (rx k bytes7001) []).hands.csu = some (rx k bytes7001) ∧ (rx k bytes7001).kind = k := by decide

theorem witness_BaysetFieldsAreTaken :
    let f (mask : Byte) := rx .bayset (bytes7001 ++ [7, mask, 0xFF, 1, 1, 1])
    let staff : CredentialEntry := { technician with role := .staff }
    (∀ k < 6, (withCsu (f (1#8 <<< k)) [technician]).hands.csu = some (f (1#8 <<< k)) ∧
      (byteAt (f (1#8 <<< k)).body 5).getLsbD k = true ∧
      ∀ j < k, (byteAt (f (1#8 <<< k)).body 5).getLsbD j = false) ∧
    lookupCredential (withCsu (f 1) [technician]).csu.credentials (word32At (f 1).body 0) = some technician ∧
    technician.suspended = false ∧ (byteAt (f 1).body 4).toNat = (7 : BayIx).val ∧
    (7 : BayIx).val < (withCsu (f 1) [technician]).cfl.populated ∧ roleLevel technician.role ≤ 0 ∧
    0 < roleLevel staff.role ∧ roleLevel staff.role ≤ 1 ∧ 1 < roleLevel .student ∧
    ((with0 { charge := { state := .fault } }).bay 0).charge.state = .fault ∧
    lookupCredential (withCsu (f 1) []).csu.credentials (word32At (f 1).body 0) = none ∧
    (withCsu (f 1) []).lkc.queue.length < 8 ∧ byteAt (f 0xC0).body 5 &&& 0x3F = 0 ∧
    8 ≤ (byteAt (rx .bayset (bytes7001 ++ [8])).body 4).toNat ∧
    (let x (attrs : BayAttrs) (st : ChargeState) (inWindow : Bool) : Bay :=
       { present := true, attrs := attrs, charge := { state := st }, claim := some (claimWith .checkout inWindow) }
     let s (inWindow : Bool) : State := (with0 (x {} .charging inWindow)).setSlot 0 (some (slotWith .offerQueued .checkout))
     ((s false).bay 0).claim = some (claimWith .checkout false) ∧
      ((s true).bay 0).claim = some (claimWith .checkout true) ∧
      (s false).slot (claimWith .checkout false).reader = some (slotWith .offerQueued .checkout) ∧
      (slotWith .offerQueued .checkout).sequence = (claimWith .checkout false).sequence ∧
      ({ slotWith .offerQueued .checkout with sequence := 2 } : PresentationSlot).sequence ≠
        (claimWith .checkout false).sequence ∧
      ((s false).bay 0).attrs.outOfService = false ∧ ((s false).bay 0).attrs.reserved = false ∧
      (s false).cfl.phase = .active ∧ ((s false).bay 0).present = true ∧
      ((with0 (x { outOfService := true } .outOfService true)).bay 0).charge.state = .outOfService ∧
      byteAt (f 1).body 8 ≠ 0 ∧ byteAt (rx .bayset []).body 8 = 0) ∧
    { base with cfl := { base.cfl with populated := 7 } }.cfl.populated ≤ (byteAt (f 1).body 4).toNat := by
  decide +kernel

theorem witness_bayset_quiet : lanesQuiet (withCsu (rx .bayset []) [technician]) := quiet_of rfl

theorem witness_RestartNeedsATechnician :
    let f := rx .restart bytes7001
    let s := withCsu f [technician]
    s.hands.csu = some f ∧ f.kind = .restart ∧
    lookupCredential s.csu.credentials (word32At f.body 0) = some technician ∧ technician.suspended = false ∧
    technician.role = .technician ∧ s.cfl.restartHeld = false ∧
    { s with cfl := { s.cfl with restartHeld := true } }.cfl.restartHeld = true ∧
    lookupCredential (withCsu f []).csu.credentials (word32At f.body 0) = none ∧ s.lkc.queue.length < 8 := by
  decide +kernel

theorem witness_PresentTakesTheSlot :
    let f (sequence kind : Byte) := rx .present ([0, sequence, kind] ++ bytes7001 ++ [5, 0])
    let s (own : OwnAnswer) : State :=
      ((withCsu (f 2 3) [technician]).modBay 0 fun x => { x with claim := some (claimWith .checkout false) }).setSlot 0
        (some (slotWith own .checkout))
    (s .none).hands.csu = some (f 2 3) ∧ (f 2 3).kind = .present ∧ (s .none).cfl.phase = .active ∧
    requestOfByte (byteAt (f 2 3).body 2) = some .opening ∧ requestOfByte (byteAt (f 2 4).body 2) = none ∧
    (∃ e ∈ (s .none).csu.credentials, e.number = word32At (f 2 3).body 3) ∧
    (¬ ∃ e ∈ (withCsu (f 2 3) []).csu.credentials, e.number = word32At (f 2 3).body 3) ∧
    (withCsu (f 2 3) [technician]).slot (bodyReader (f 2 3).body) = none ∧
    (∀ own ∈ [OwnAnswer.none, .offerQueued, .denyQueued],
      (s own).slot (bodyReader (f 2 3).body) = some (slotWith own .checkout)) ∧
    (slotWith .none .checkout).sequence ≠ byteAt (f 2 3).body 1 ∧
    (slotWith .none .checkout).sequence = byteAt (f 1 3).body 1 ∧
    ((s .offerQueued).bay 0).claim = some (claimWith .checkout false) ∧ ((s .offerQueued).bay 1).claim = none ∧
    (claimWith .checkout false).sequence = (slotWith .offerQueued .checkout).sequence ∧
    { s .none with cfl := { base.cfl with phase := .listen } }.cfl.phase ≠ .active := by decide +kernel

theorem witness_present_quiet : lanesQuiet (withCsu (rx .present []) [technician]) := quiet_of rfl

/-- A station with a slot of reader 0 and a credential table. -/
def deciding (kind : RequestKind) (table : List CredentialEntry) (x : Bay) : State :=
  { with0 x with csu := { slots := #v[some (slotWith .none kind), none, none, none], credentials := table } }

/-- The slot at the end of its answer delay. -/
def ended (kind : RequestKind) : PresentationSlot := { slotWith .none kind with answerDelay := none }

theorem witness_AnswerDelayDecides :
    let u (s : State) (kind : RequestKind) : State := { s with now := 20 }.setSlot 0 (some (ended kind))
    let free : Bay := { door := { state := .secure } }
    let z : Battery := { soc := 50, temperature := 20, health := 90, full := false, charging := true, fault := false }
    let held : Bay :=
      { present := true, charge := { state := .held }, door := { state := .secure },
        view := { battery := some z, identity := some { model := 1, asset := 5, version := 1, capability := 3 } } }
    let entry : CredentialEntry := { technician with role := .student, groups := 1 }
    let loan (st : LoanState) : Loan := { asset := 9, credential := 7001, bay := 0, released := 0, due := 9, state := st }
    let lent (st : LoanState) : State :=
      { deciding .checkout [entry] held with csu := { (deciding .checkout [entry] held).csu with loans := [loan st] } }
    let own : CredentialEntry := { entry with asset := some 5 }
    let answers (s : State) (kind : RequestKind) (a : Answer) : Prop := decideSlot (u s kind) (ended kind) = a
    (deciding .opening [technician] free).slot 0 = some (slotWith .none .opening) ∧
    (slotWith .none .opening).answerDelay = some 20 ∧
    answers (deciding .checkout [] free) .checkout .nothing ∧
    answers (deciding .checkout [{ entry with suspended := true }] held) .checkout (.deny .suspended) ∧
    answers (lent .overdue) .checkout (.deny .overdue) ∧ answers (lent .running) .checkout (.deny .loanLimit) ∧
    answers (deciding .checkout [entry] held) .checkout (.offer 0 5 false (8 + 50 * 8 + 0)) ∧
    answers (deciding .checkout [entry] free) .checkout .nothing ∧
    answers (deciding .checkout [own] free) .checkout .nothing ∧
    answers (deciding .checkout [own] held) .checkout (.offer 0 5 false (8 + 50 * 8 + 0)) ∧
    answers (deciding .checkout [own] { held with view := { held.view with battery := some { z with soc := 49 } } })
      .checkout (.offer 0 5 true (8 + 51 * 8 + 0)) ∧
    answers ((deciding .checkout [own] held).setLane 0 (some (session .waking))) .checkout (.deny .busyProvisioning) ∧
    answers (deciding .checkout [own] { held with attrs := { outOfService := true } }) .checkout
      (.deny .outOfService) ∧
    answers (deciding .checkout [own] { held with attrs := { reserved := true } }) .checkout (.deny .bayBusy) ∧
    answers (deciding .giveBack [entry] free) .giveBack (.offer 0 0 false 8) ∧
    answers (deciding .giveBack [technician] free) .giveBack (.offer 0 0 false 16) ∧
    answers (deciding .giveBack [technician] {}) .giveBack .nothing ∧
    answers (deciding .opening [{ technician with suspended := true }] free) .opening (.deny .suspended) ∧
    answers (deciding .opening [entry] { free with attrs := { outOfService := true } }) .opening
      (.deny .outOfService) ∧
    answers (deciding .opening [entry] free) .opening (.deny .notPermitted) ∧
    answers (deciding .opening [technician] {}) .opening (.deny .bayBusy) ∧
    answers (deciding .opening [technician] free) .opening (.release 0 .service) ∧
    answers (deciding .opening [{ entry with role := .staff }] free) .opening (.release 0 .opening) ∧
    (deciding .opening [technician] free).lkc.queue.length < 8 ∧
    (deciding .opening [technician] free).cfl.phase = .active ∧
    (deciding .opening [technician] free).laneOf 0 = none ∧
    ((deciding .opening [technician] free).bay 0).door.episode = none := by decide +kernel

/-- The release that an OPEN asks for: refused in an episode, waiting behind a session that works or is RELEASING, and
at a bay with a tablet that takes CUSTODY. -/
theorem witness_opening_release :
    let free : Bay := { present := true, channel := { state := .active }, door := { state := .secure } }
    let s (x : Bay) : State := deciding .opening [technician] x
    let u (s : State) : State := { s with now := 20 }.setSlot 0 (some (ended .opening))
    let asks (s : State) : Prop := decideSlot (u s) (ended .opening) = .release 0 .service
    let on (stage : LaneStage) : State := (s free).setLane 0 (some (session stage))
    asks (s { free with door := { state := .secure, episode := some episode } }) ∧
    (∀ stage ∈ [LaneStage.waking, .connected, .releasing .success],
      asks (on stage) ∧ (on stage).laneOf 0 = some 0 ∧ (on stage).lane 0 = some (session stage)) ∧
    asks (s free) ∧ ((s free).bay 0).present = true ∧ ((s free).bay 0).channel.state = .active ∧
    ((s free).bay 0).view.identity = none := by decide +kernel

theorem witness_HeardAnswersDecide :
    let f (reader : Byte) := rx .offer [reader, 1, 1, 0, 0, 0, 0, 5, 0]
    let claim (inWindow : Bool) : PendingClaim := { claimWith .checkout inWindow with key := rxKey (f 0) + 1 }
    let s (own : OwnAnswer) (inWindow : Bool) : State :=
      ((withCsu (f 0) []).modBay 0 fun x => { x with claim := some (claim inWindow) }).setSlot 0
        (some (slotWith own .checkout))
    (∀ own ∈ [OwnAnswer.none, .offerQueued, .claimed, .denyQueued],
      (s own true).hands.csu = some (f 0) ∧ (s own true).cfl.phase = .active ∧
      (s own true).slot 0 = some (slotWith own .checkout) ∧
      (slotWith own .checkout).sequence = bodySequence (f 0).body) ∧
    answerReader (f 3).body = some 3 ∧ (s .none true).slot 3 = none ∧ answerReader (f 4).body = none ∧
    (f 0).kind = .offer ∧ (rx .deny (f 0).body).kind = .deny ∧
    (((s .claimed true).bay 0).claim = some (claim true) ∧ (claim true).inWindow = true ∧
      (claim true).reader = 0 ∧ (claim true).sequence = bodySequence (f 0).body ∧ rxKey (f 0) < (claim true).key) ∧
    (((s .offerQueued false).bay 0).claim = some (claim false) ∧ (claim false).inWindow = false) ∧
    (∀ b : BayIx, ((withCsu (f 0) []).bay b).claim = none) := by decide +kernel

theorem witness_heard_quiet : lanesQuiet (withCsu (rx .offer []) []) := quiet_of rfl

/-- An OFFER and a DENY are held in START and in LISTEN. -/
theorem witness_heard_phases :
    let f (kind : FrameKind) := rx kind [0, 1, 1, 0, 0, 0, 0, 5, 0]
    let s (kind : FrameKind) (p : Phase) : State :=
      { withCsu (f kind) [] with cfl := { cflReset with phase := p, address := 5 } }
    ∀ kind ∈ [FrameKind.offer, .deny], ∀ p ∈ [Phase.start, .listen],
      (s kind p).hands.csu = some (f kind) ∧ (f kind).kind = kind ∧ (s kind p).cfl.phase ≠ .active := by decide +kernel

theorem witness_DeadlinesWithdraw :
    let s (own : OwnAnswer) : State :=
      (with0 { claim := some (claimWith .checkout false) }).setSlot 0 (some (slotWith own .checkout))
    let f : TxFrame := { denyFrame 0 1 .bayBusy 7001 with deadline := some 250 }
    (∀ own ∈ [OwnAnswer.none, .offerQueued, .claimed, .denyQueued],
      (s own).slot 0 = some (slotWith own .checkout) ∧ (slotWith own .checkout).deadline = some 250) ∧
    (((s .offerQueued).bay 0).claim = some (claimWith .checkout false) ∧ (claimWith .checkout false).inWindow = false ∧
      (claimWith .checkout false).sequence = (slotWith .offerQueued .checkout).sequence) ∧
    ((s .offerQueued).bay 1).claim = none ∧
    (withQueue .idle [f]).lkc.queue.find? (ruleDenyOf 0 1) = some f ∧ f.deadline = some 250 := by decide +kernel

theorem witness_ObjectionWindowReleases :
    let s (kind : RequestKind) (present : Bool) : State :=
      with0 { present := present, claim := some (claimWith kind true), door := { state := .secure } }
    (((s .checkout true).bay 0).claim = some (claimWith .checkout true) ∧ (claimWith .checkout true).inWindow = true ∧
      ((s .checkout true).bay 0).present = true ∧ (s .checkout true).cfl.phase = .active ∧
      ((s .checkout true).bay 0).door = { state := .secure } ∧
      (s .checkout true).laneOf 0 = none) ∧
    (((s .giveBack true).bay 0).present = true ∧ (claimWith .giveBack true).kind = .giveBack ∧
      (∀ k : SlotIx, (s .giveBack true).campaign k = none) ∧ (s .giveBack true).pvs.queue = [] ∧
      (s .giveBack true).lkc.queue.length < 8) := by decide +kernel

theorem witness_window_release :
    let x (d : Door) : Bay :=
      { present := true, channel := { state := .active }, claim := some (claimWith .checkout true), door := d }
    let s (d : Door) : State := with0 (x d)
    let on (stage : LaneStage) : State := (s { state := .secure }).setLane 0 (some (session stage))
    ((s { state := .secure, coolDown := some 9 }).bay 0).door.coolDown ≠ none ∧
    ((s { state := .secure }).bay 0).channel.state = .active ∧ ((s { state := .secure }).bay 0).view.identity = none ∧
    ∀ stage ∈ [LaneStage.waking, .connected, .releasing .success],
      (on stage).laneOf 0 = some 0 ∧ (on stage).lane 0 = some (session stage) ∧
      ((on stage).bay 0).claim = some (claimWith .checkout true) := by decide +kernel

/-- A campaign of id 40. -/
def campaign : Campaign := { id := 40, profile := 63, target := 2, model := 0, groups := 0xFFFF, limit := 10, urgent := false }

theorem witness_CampaignsStartAndCancel :
    let f (op : Byte) := rx .campaign [op, 40, 63, 0, 2, 0, 0, 255, 255, 0, 10]
    let s (op : Byte) : State := { base with hands := { pvs := some (f op) } }
    let held (op : Byte) : State := { s op with pvs := { campaigns := #v[none, some campaign, none, none] } }
    let on (n : LaneIx) (b : BayIx) (stage : LaneStage) (s : State) : State :=
      s.setLane n (some { session stage with bay := b, slot := 1 })
    let item (b : BayIx) (k : SlotIx) : QueueItem := { bay := b, slot := k, urgent := false, since := 0 }
    let queued (x : Bay) (q : List QueueItem) : State :=
      { with0 x with pvs := { campaigns := #v[none, some campaign, none, none], queue := q } }
    (s 1).hands.pvs = some (f 1) ∧ (f 1).kind = .campaign ∧ byteAt (f 1).body 1 ≠ 0 ∧
    (byteAt (f 1).body 2).toNat ≤ 63 ∧ byteAt (f 1).body 0 = 1 ∧ (∀ j : SlotIx, (s 1).campaign j = none) ∧
    (held 1).campaign 1 = some campaign ∧ campaign.id = byteAt (f 1).body 1 ∧ (held 1).campaign 0 = none ∧
    byteAt (f 2).body 0 = 2 ∧
    (let t := on 1 1 .connected (on 0 0 .waking (s 1))
     ∀ n : LaneIx, t.lane n ≠ none) ∧
    (let t := on 1 1 .connected (on 0 0 .waking (held 2))
     t.lane 0 = some { session .waking with bay := 0, slot := 1 } ∧
      t.lane 1 = some { session .connected with bay := 1, slot := 1 }) ∧
    ((with0 { channel := { state := .active } }).bay 0).channel.state = .active ∧
    eligible (queued ready []) 0 1 = true ∧ chosenCampaign (queued ready []) 0 = some 1 ∧
    (queued ready []).campaign 1 = some campaign ∧ chosenCampaign (queued {} []) 0 = none ∧
    (queued ready [item 0 2]).pvs.queue.find? (fun y => y.bay == 0) = some (item 0 2) ∧
    (∀ x ∈ (queued ready [item 1 2]).pvs.queue, x.bay ≠ 0) ∧
    (on 0 0 .waking (queued ready [])).lane 0 = some { session .waking with bay := 0, slot := 1 } := by decide +kernel

theorem witness_CampaignsAtHeldIds :
    let f (op id profile : Byte) := rx .campaign [op, id, profile, 0, 2, 0, 0, 255, 255, 0, 10]
    let s (op id : Byte) (now : Nat) : State :=
      { with0 { channel := { state := .active } } with
        now := now, hands := { pvs := some (f op id 63) },
        pvs := { campaigns := #v[some campaign, some { campaign with id := 41 }, some { campaign with id := 42 },
          some { campaign with id := 43 }] } }
    let x : LaneSession := { session .connected with slot := 0 }
    let y : LaneSession := { session .waking with bay := 1, slot := 0 }
    let t (now : Nat) : State := ((s 1 40 now).setLane 0 (some x)).setLane 1 (some y)
    (byteAt (f 1 0 63).body 1 = 0 ∧ 63 < (byteAt (f 1 40 64).body 2).toNat ∧ byteAt (f 3 40 63).body 0 ≠ 1 ∧
      byteAt (f 3 40 63).body 0 ≠ 2) ∧
    ((s 1 44 0).hands.pvs = some (f 1 44 63) ∧ (∀ j c, (s 1 44 0).campaign j = some c → c.id ≠ 44) ∧
      (∀ j : SlotIx, (s 1 44 0).campaign j ≠ none) ∧ (s 1 44 0).lkc.queue.length < 8) ∧
    ((t 599999).hands.pvs = some (f 1 40 63) ∧ (t 599999).campaign 0 = some campaign ∧
      campaign.id = byteAt (f 1 40 63).body 1 ∧ (∀ n : LaneIx, (t 599999).lane n ≠ none) ∧
      (t 599999).lane 0 = some x ∧ (t 599999).lane 1 = some y ∧ x.slot = 0 ∧ x.stage = .connected ∧
      x.entered = some 0 ∧ y.stage ≠ .connected ∧ (t 599999).now < 0 + 10 * 60000) ∧
    (0 + 10 * 60000 ≤ (t 600000).now ∧ x.bay ≠ y.bay ∧ ((t 600000).bay x.bay).channel.state = .active ∧
      ((t 600000).bay x.bay).view.identity = none) := by
  refine ⟨by decide, ⟨by decide, ?_, by decide, by decide⟩, by decide, by decide +kernel⟩
  decide

/-- A station whose lane 0 serves bay 0, with a PROFILE read called there. -/
def serving (stage : LaneStage) (accepted : Bool) : State :=
  ({ with0
      { channel := { state := .active, exchange := some (called (.read .profile) false) }, door := { state := .secure },
        prov := { attempts := Vector.replicate 4 2 } } with
    pvs := { campaigns := #v[none, none, none, some campaign] } }).setLane 0
      (some { session stage with accepted := accepted })

theorem witness_LaneTimersFail :
    (∀ stage ∈ [LaneStage.waking, .connected, .releasing .success], ∀ accepted : Bool,
      (serving stage accepted).lane 0 = some { session stage with accepted := accepted } ∧
      (serving stage accepted).laneOf (session stage).bay = some 0) ∧
    (session .waking).wakeWait = some 20000 ∧ (session .connected).limit = some 60000 ∧
    3 ≤ ((serving .waking false).bay 0).prov.attempts[(3 : SlotIx)] + 1 ∧
    (serving .waking true).campaign 3 = some campaign ∧
    ((serving .waking true).bay 0).channel.state = .active ∧ ((serving .waking true).bay 0).view.identity = none ∧
    ((serving .waking true).bay 0).channel.exchange = some (called (.read .profile) false) ∧
    ((serving .waking true).bay 0).door.state = .secure ∧ (serving .waking true).lkc.queue.length < 8 := by
  decide +kernel

/-- Lane 0 serves bay 0 alone, with a tablet, a SHORT hold, and an exchange called there. -/
def working (x : Exchange) : State :=
  (with0
    { present := true, door := { state := .secure }, channel := { state := .active, drops := 2, exchange := some x },
      charge := { state := .charging, grant := 5, limit := 100, shortHold := some 50 } }).setLane 0 (some (session .connected))

theorem witness_aborts :
    let r := called (.read .battery) false
    let w := called (.write (.chargeLimit 5)) true
    let bytes : List Byte := callByte r.body r.number :: [19, 20, 90, 0] ++ [126]
    ((working r).lane 0 = some (session .connected) ∧ (working r).laneOf 0 = some 0 ∧
      (session .connected).stage = .connected ∧ ((working r).bay 0).channel.state = .active ∧
      ((working r).bay 0).view.identity = none ∧ (working r).populated 0 = true ∧
      ((working r).bay 0).door.closed = true ∧ ((working r).bay 0).door.state = .secure) ∧
    (((working r).bay 0).charge.shortHold = some 50 ∧ takesPart ((working r).bay 0).charge.state = true ∧
      ((working r).bay 0).charge.limit ≠ 0) ∧
    (((working r).bay 0).channel.exchange = some r ∧ r.stage = .called ∧ receivedBytes (bytes.map sampled) = some bytes ∧
      sumGood bytes = true ∧ (readBattery [19, 20, 90, 0]).soc + 10 < (working r).cfl.config.socProv) ∧
    ((working w).lane 1 = none ∧ (working w).pvs.queue = [] ∧ (∀ (b : BayIx) (k : SlotIx), eligible (working w) b k = false) ∧
      ((working w).bay 0).door.pendingLane = false ∧ (working w).lkc.queue.length < 8 ∧
      ((working w).bay 0).present = true ∧ ((working w).bay 0).door.episode = none ∧
      ((working w).bay 0).channel.exchange = some w ∧ w.retry = true ∧ 2 ≤ ((working w).bay 0).channel.drops) := by
  decide +kernel

theorem witness_profile_readings :
    let frame (state check : Byte) : List Byte :=
      callByte (.read .profile) 0 :: [63, 0, 2, state, 50] ++ [check]
    receivedBytes ((frame 1 136).map sampled) = some (frame 1 136) ∧
    sumGood (frame 0 137) = true ∧ sumGood (frame 1 136) = true ∧ sumGood (frame 2 135) = true ∧
    sumGood (frame 3 134) = true ∧ sumGood (frame 4 133) = true ∧
    (readProfile [63, 0, 2, 0, 50]).state = .idle ∧ (readProfile [63, 0, 2, 1, 50]).state = .ready ∧
    (readProfile [63, 0, 2, 2, 50]).state = .running ∧ (readProfile [63, 0, 2, 3, 50]).state = .done ∧
    (readProfile [63, 0, 2, 4, 50]).state = .error ∧
    ((readProfile [63, 0, 2, 3, 50]).code = campaign.profile ∧
      campaign.target ≤ (readProfile [63, 0, 2, 3, 50]).version) ∧
    (readProfile [63, 0, 1, 3, 50]).version < campaign.target := by decide +kernel

theorem witness_selection :
    let u : QueueItem := { bay := 0, slot := 1, urgent := true, since := 0 }
    let r : QueueItem := { bay := 1, slot := 0, urgent := false, since := 0 }
    let q (x : Bay) (items : List QueueItem) : State :=
      { with0 x with pvs := { campaigns := #v[none, some { campaign with urgent := true }, none, none], queue := items } }
    ([u, r].find? (fun y => y.urgent) = some u ∧ [u, r].find? (fun y => !y.urgent) = some r ∧
      [r].find? (fun y => y.urgent) = none ∧ [u].find? (fun y => !y.urgent) = none) ∧
    (pickItem (q ready [u, r]).cfl.config.ratio (q ready [u, r]).pvs.streak (q ready [u, r]).pvs.queue = some (u, 1) ∧
      (q ready [u, r]).lane 0 = none ∧ eligible (q ready [u, r]) 0 1 = true ∧
      (q ready [u, r]).campaign 1 = some { campaign with urgent := true } ∧ eligible (q {} [u, r]) 0 1 = false) := by
  decide +kernel

/-- A QUERY of an item, with or without the clear flag. -/
def query (item index clear : Byte) : RxFrame := rx .query ([item, index, 32, clear] ++ bytes7001)

/-- The base station with a QUERY in the RPU's hand. -/
def asked (f : RxFrame) : State :=
  { base with hands := { rpu := some f }, csu := { base.csu with credentials := [technician] } }

theorem witness_QueriesAreAnswered :
    (∀ item ∈ [(0 : Byte), 1, 2, 3, 4, 5, 6],
      (asked (query item 0 0)).hands.rpu = some (query item 0 0) ∧ (query item 0 0).kind = .query ∧
      (readQuery (query item 0 0).body).item = item.toNat ∧ (readQuery (query item 0 0).body).clear = false) ∧
    (asked (query 0 0 0)).lkc.queue.length +
      (answerParts 12 (readQuery (query 0 0 0).body) (stationPayload (asked (query 0 0 0)))).length ≤ 8 ∧
    (7 : BayIx).val < base.cfl.populated ∧
    { base with cfl := { base.cfl with populated := 7 } }.cfl.populated ≤ (7 : BayIx).val ∧
    (let i : QueueItem := { bay := 0, slot := 3, urgent := false, since := 0 }
     let s : State := { base with pvs := { queue := [i], campaigns := #v[some campaign, none, none, none] } }
     s.laneOf 0 = none ∧ s.pvs.queue.find? (fun i => i.bay == 0) = some i ∧ (∀ i ∈ s.pvs.queue, i.bay ≠ 1) ∧
      (s.setLane 1 (some (session .waking))).laneOf 0 = some 1 ∧ s.campaign 0 = some campaign ∧
      s.campaign 1 = none) ∧
    (let l : Loan := { asset := 9, credential := 7001, bay := 0, released := 0, due := 9, state := .overdue }
     { base with csu := { base.csu with loans := [l] } }.csu.loans[0]? = some l) ∧ base.csu.loans.length ≤ 0 ∧
    ((base.setPeer 1 (some (peerOf .lost .shelf))).peer 1 = some (peerOf .lost .shelf) ∧ (1 : Addr) ≠ base.cfl.address) ∧
    (5 : Addr) = base.cfl.address := by decide +kernel

theorem witness_ClearingNeedsATechnician :
    let q (index : Byte) := readQuery (query 2 index 1).body
    (∀ index ∈ [(7 : Byte), 8, 9], (q index).item = 2 ∧ (q index).clear = true ∧ (q index).index = index.toNat ∧
      (asked (query 2 index 1)).hands.rpu = some (query 2 index 1)) ∧
    lookupCredential (asked (query 2 7 1)).csu.credentials (q 7).authoriser = some technician ∧
    technician.suspended = false ∧ technician.role = .technician ∧ 7 < (asked (query 2 7 1)).cfl.populated ∧
    lookupCredential base.csu.credentials (q 7).authoriser = none ∧
    (let part := newFrame .status 32 12 [] .rpu
     fullQueue.lkc.queue = List.replicate 7 (newFrame .event 17 toAll [] .ldc) ++ newFrame .event 17 toAll [] .ldc :: [] ∧
      (newFrame .event 17 toAll [] .ldc).inTransmission = false ∧
      (newFrame .event 17 toAll [] .ldc).rank ≤ part.rank ∧ part.rank < (newFrame .status 33 12 [] .rpu).rank) := by
  decide +kernel

theorem witness_clearing_law : LinkLaw { asked (query 2 7 1) with lkc := fullQueue.lkc } ∧ LinkLaw (asked (query 2 7 1)) :=
  ⟨fullQueue_law rfl rfl rfl, ⟨by decide, List.Pairwise.nil, by decide, by decide, by decide, by decide,
    fun h => absurd h (by decide : Phase.active ≠ .start), fun h => absurd h (by decide : ¬ false = true)⟩⟩

/-- R159, R166: with a part refused by a full queue the counters stay, with a part that displaces another they clear. -/
theorem test_clear_needs_places :
    let asking (bid : Nat) : State :=
      { asked (query 2 7 1) with
        lkc := { queue := List.replicate 8 (newFrame .status bid 3 [] .rpu), counters := { sent := 5 } },
        bays := base.bays.set 7 { counters := { energy := 9 } } }
    ((after .queryCountersClear (asking 20)).bay 7).counters.energy = 9 ∧
    ((after .queryCountersClear (asking 40)).bay 7).counters.energy = 0 := by decide +kernel

/-- A state that meets the laws, and a step of it. -/
def idle : State := { base with pending := [.minuteTick], cfl := { base.cfl with populated := 1 } }

theorem idle_step : ∃ t, step idle = .next t := ⟨_, rfl⟩

theorem idle_slots (r : Reader) : idle.lkc.storm[r] = none := by revert r; decide
theorem idle_peers (a : Addr) : idle.peer a = none := by revert a; decide
theorem idle_lanes (n : LaneIx) : idle.lane n = none := by revert n; decide
theorem idle_bay (b : BayIx) : idle.bay b = {} := by revert b; decide +kernel
theorem idle_active : idle.cfl.phase ≠ .start := by decide

theorem witness_StepsKeepTheLinkLaws : LinkLaw idle ∧ ReceiveLaw idle ∧ ∃ t, step idle = .next t := by
  refine ⟨⟨by decide, List.Pairwise.nil, by decide, by decide, by decide, by decide, fun h => absurd h idle_active, by decide⟩,
    ⟨by decide, fun r win h => ?_⟩, idle_step⟩
  rw [idle_slots r] at h
  cases h

theorem witness_StepsKeepThePeerLaw : PeerLaw idle ∧ ∃ t, step idle = .next t := by
  refine ⟨⟨idle_peers _, fun a p h => ?_, fun h => absurd h idle_active, fun h => absurd h idle_active⟩, idle_step⟩
  rw [idle_peers a] at h
  cases h

theorem witness_StepsKeepTheAllowanceLaw : AllowanceLaw idle ∧ ∃ t, step idle = .next t :=
  ⟨⟨by decide, fun _ => rfl, by decide, by decide, fun _ => by decide⟩, idle_step⟩

theorem witness_StepsKeepTheChargeLaw : ChargeLaw idle ∧ ∃ t, step idle = .next t := by
  refine ⟨⟨fun b => ?_, by decide +kernel, fun b _ => ?_, by decide⟩, idle_step⟩
  · rw [idle_bay b]
    exact ⟨by decide, by decide, by decide, by decide, by decide, by decide, by decide, by decide⟩
  · rw [idle_bay b]

theorem witness_StepsKeepTheDoorLaw : DoorLaw (door0 (openDoor true)) ∧ ∃ t, step (door0 (openDoor true)) = .next t :=
  ⟨openDoor_law true, _, rfl⟩

theorem witness_StepsKeepTheTableLaws :
    let s : State := { withCsu (rx .revoke []) [technician] with pending := [.revoke] }
    CredentialLaw s ∧ LoanLaw s ∧ ∃ t, step s = .next t :=
  ⟨⟨by decide, List.pairwise_singleton _ _⟩, ⟨by decide, List.Pairwise.nil, List.Pairwise.nil⟩, _, rfl⟩

theorem witness_StepsKeepTheLaneLaw : LaneLaw idle ∧ ∃ t, step idle = .next t := by
  refine ⟨⟨List.Pairwise.nil, by decide, fun x y h => ?_, fun b n h => ?_, fun b h => ?_, fun n x h => ?_⟩, idle_step⟩
  · rw [idle_lanes] at h
    cases h
  · rw [idle_bay b] at h
    cases h
  · rw [idle_bay b] at h
    cases h
  · rw [idle_lanes] at h
    cases h

theorem witness_SentFramesAreReceived :
    (List.replicate 32 (0 : Byte)).length ≤ 32 ∧
    (headerOf 0x29 12 31 32).length = BitVec.ofNat 6 (List.replicate 32 (0 : Byte)).length := by decide

/-- R175: 44 bits with nothing wrong, the overall parity bit wrong, a check bit wrong, a header bit wrong, two bits wrong,
and three check bits wrong whose positions make a syndrome of 44. -/
theorem witness_HeaderCheckCorrectsOneBit :
    let powers : List Nat := [1, 2, 4, 8, 16, 32]
    let places : List Nat := (List.range 44).filter fun p => p != 0 && !powers.contains p
    let placed (bits : List Bool) (p : Nat) : Bool :=
      if p ∈ powers then bits.getD (37 + powers.idxOf p) false else bits.getD (places.idxOf p) false
    let ones (bits : List Bool) (among : Nat → Bool) : Nat :=
      ((List.range 44).filter fun p => p != 0 && among p && placed bits p).length
    let syndrome (bits : List Bool) : Nat :=
      ((List.range 6).map fun k => 2 ^ k * (ones bits (fun p => p.testBit k) % 2)).sum
    let clean := List.replicate 44 false
    let odd (bits : List Bool) : Prop := bits.count true % 2 = 1
    clean.length = 44 ∧ (syndrome clean = 0 ∧ ¬ odd clean) ∧
    (syndrome (clean.set 43 true) = 0 ∧ odd (clean.set 43 true)) ∧
    (syndrome (clean.set 42 true) ∈ powers ∧ odd (clean.set 42 true)) ∧
    (syndrome (clean.set 36 true) ∈ places ∧ odd (clean.set 36 true)) ∧
    (let two := (clean.set 0 true).set 1 true
     syndrome two ≠ 0 ∧ ¬ odd two) ∧
    (let three := ((clean.set 39 true).set 40 true).set 42 true
     43 < syndrome three ∧ odd three) := by decide +kernel

end Sys2Proof.Tests
end

section
/-! SUPPORT. What the LKC does with a PRESENT at each state of its reader's storm window (R14). -/

namespace Sys2Proof.Machine

/-- A PRESENT goes to the tail of the receive queue, and `win` is from then on the storm window of its reader. -/
def admitPresent (f : RxFrame) (win : StormWindow) (s : State) : State :=
  { s with lkc := { s.lkc with
      storm := s.lkc.storm.set (bodyReader f.body) (some win), received := s.lkc.received ++ [f] } }

/-- A PRESENT over the limit is discarded with STORM and its count (R14, R20). -/
def discardPresent (s : State) : State :=
  { s with lkc := { s.lkc.flagged (flagBit .storm) with
      counters := { s.lkc.counters with stormed := s.lkc.counters.stormed + 1 } } }

section
variable {f : RxFrame} {win : StormWindow} {s : State}

theorem stormLimit_no_window (closed : s.lkc.storm[bodyReader f.body] = none) :
    stormLimit f s = admitPresent f { start := s.now, count := 1 } s := by
  simp only [stormLimit, closed]
  rfl

/-- The decision of R14 on a reader whose window stands: its age first, then its count. -/
theorem stormLimit_window (stands : s.lkc.storm[bodyReader f.body] = some win) :
    stormLimit f s =
      if win.start + stormTime ≤ s.now then admitPresent f { start := s.now, count := 1 } s
      else if win.count < 4 then admitPresent f { start := win.start, count := win.count + 1 } s
      else discardPresent s := by
  simp only [stormLimit, stands]
  rfl

theorem stormLimit_old_window (stands : s.lkc.storm[bodyReader f.body] = some win)
    (old : win.start + stormTime ≤ s.now) :
    stormLimit f s = admitPresent f { start := s.now, count := 1 } s := by
  rw [stormLimit_window stands, if_pos old]

theorem stormLimit_count_below_four (stands : s.lkc.storm[bodyReader f.body] = some win)
    (young : s.now < win.start + stormTime) (below : win.count < 4) :
    stormLimit f s = admitPresent f { start := win.start, count := win.count + 1 } s := by
  rw [stormLimit_window stands, if_neg young.not_ge, if_pos below]

theorem stormLimit_count_four (stands : s.lkc.storm[bodyReader f.body] = some win)
    (young : s.now < win.start + stormTime) (full : 4 ≤ win.count) :
    stormLimit f s = discardPresent s := by
  rw [stormLimit_window stands, if_neg young.not_ge, if_neg full.not_gt]

end

/-- Settles O14: with no window, and else by the age and the count of the one that stands. -/
theorem stormWindowAdmitsFour : Obligations.StormWindowAdmitsFour := by
  intro f s
  refine ⟨stormLimit_no_window, fun win stands => ⟨?old, ?below, ?full⟩⟩
  case old => exact stormLimit_old_window stands
  case below => exact stormLimit_count_below_four stands
  case full => exact stormLimit_count_four stands

end Sys2Proof.Machine
end

section
/-! SUPPORT. Bits and words: what the fields of a header and the bytes of a body read back as (R174). -/

namespace Sys2Proof.Machine

@[simp] theorem length_bitsOf {w : Nat} (x : BitVec w) : (bitsOf x).length = w := by
  simp [bitsOf]

theorem natOfBits_append_singleton (bits : List Bool) (b : Bool) :
    natOfBits (bits ++ [b]) = 2 * natOfBits bits + b.toNat := by
  simp [natOfBits]

/-- The first `k` bits of a word spell the word without its last `w - k` bits. -/
theorem natOfBits_msbPrefix {w : Nat} (x : BitVec w) {k : Nat} (hk : k ≤ w) :
    natOfBits ((List.range k).map fun i => x.getMsbD i) = x.toNat >>> (w - k) := by
  induction k with
  | zero => simp [natOfBits, Nat.shiftRight_eq_div_pow, Nat.div_eq_of_lt x.isLt]
  | succ k ih =>
    have hlow : w - k = (w - (k + 1)) + 1 := by omega
    have hbit : x.getMsbD k = x.toNat.testBit (w - (k + 1)) := by
      simp [BitVec.getMsbD_eq_getLsbD, BitVec.testBit_toNat, show k < w by omega,
        show w - 1 - k = w - (k + 1) by omega]
    rw [List.range_succ, List.map_append, List.map_singleton, natOfBits_append_singleton, ih (by omega),
      hbit, hlow, Nat.shiftRight_succ, Nat.toNat_testBit, ← Nat.shiftRight_eq_div_pow]
    omega

theorem natOfBits_bitsOf {w : Nat} (x : BitVec w) : natOfBits (bitsOf x) = x.toNat := by
  simpa [bitsOf] using natOfBits_msbPrefix x le_rfl

@[simp] theorem ofNat_natOfBits_bitsOf {w : Nat} (x : BitVec w) : BitVec.ofNat w (natOfBits (bitsOf x)) = x := by
  simp [natOfBits_bitsOf]

theorem bitsOf_inj {w : Nat} {x y : BitVec w} : bitsOf x = bitsOf y ↔ x = y :=
  ⟨fun h => by rw [← ofNat_natOfBits_bitsOf x, h, ofNat_natOfBits_bitsOf], congrArg bitsOf⟩

@[simp] theorem length_bodyBits (body : List Byte) : (bodyBits body).length = 8 * body.length := by
  induction body with
  | nil => rfl
  | cons b body ih =>
    rw [bodyBits, List.flatMap_cons, List.length_append, length_bitsOf, ← bodyBits, ih, List.length_cons]
    omega

theorem bytesOfBits_bodyBits_append (body : List Byte) (rest : List Bool) :
    bytesOfBits body.length (bodyBits body ++ rest) = body := by
  induction body with
  | nil => rfl
  | cons b body ih =>
    have split : bodyBits (b :: body) ++ rest = bitsOf b ++ (bodyBits body ++ rest) := by
      simp [bodyBits]
    rw [split, List.length_cons, bytesOfBits, List.take_left' (length_bitsOf b),
      List.drop_left' (length_bitsOf b), ofNat_natOfBits_bitsOf, ih]

@[simp] theorem length_headerBits (h : Header) : (headerBits h).length = 37 := by
  simp [headerBits]

theorem headerOfBits_headerBits (h : Header) : headerOfBits (headerBits h) = h := by
  simp [headerOfBits, headerBits, List.drop_append, List.drop_of_length_le,
    List.take_of_length_le]

@[simp] theorem length_headerCheck (header : List Bool) : (headerCheck header).length = 7 := by
  simp [headerCheck]

end Sys2Proof.Machine
end

section
/-! SUPPORT. Stuffing and its removal agree (R2). -/

namespace Sys2Proof.Machine

/-- The run that a bit ends, after a run of `run` bits of value `last`. -/
def runWith (last : Bool) (run : Nat) (b : Bool) : Nat := if b = last then run + 1 else 1

/-- What stands on the line for the bits still to come, where the bits taken from it end in a run of `run` bits of
value `last`: behind a fifth equal bit a stuff bit first. -/
def onLine (last : Bool) (run : Nat) (bits : List Bool) : List Bool :=
  if run = 5 then (!last) :: stuffFrom (!last) 1 bits else stuffFrom last run bits

theorem onLine_of_ne_five {run : Nat} (short : run ≠ 5) (last : Bool) (bits : List Bool) :
    onLine last run bits = stuffFrom last run bits := if_neg short

theorem onLine_five (last : Bool) (bits : List Bool) :
    onLine last 5 bits = (!last) :: stuffFrom (!last) 1 bits := rfl

theorem stuff_eq_onLine (bits : List Bool) : stuff bits = onLine true 0 bits := rfl

theorem stuffFrom_cons (last : Bool) (run : Nat) (b : Bool) (bits : List Bool) :
    stuffFrom last run (b :: bits) = b :: onLine b (runWith last run b) bits :=
  (apply_ite (b :: ·) (runWith last run b = 5) _ _).symm

theorem runWith_le_five {run : Nat} (short : run < 5) (last b : Bool) : runWith last run b ≤ 5 := by
  unfold runWith
  split <;> omega

theorem unstuff_nothing (last : Bool) (run : Nat) (raw : List Bool) :
    unstuff last run 0 raw = .ok [] last run raw := by
  cases raw <;> rfl

theorem unstuff_data {run : Nat} (short : run ≠ 5) (last b : Bool) (need : Nat) (raw : List Bool) :
    unstuff last run (need + 1) (b :: raw) = unstuffCons b (unstuff b (runWith last run b) need raw) := by
  simp [unstuff, short, runWith]

theorem unstuff_stuffBit (last : Bool) (need : Nat) (raw : List Bool) :
    unstuff last 5 (need + 1) ((!last) :: raw) = unstuff (!last) 1 (need + 1) raw := by
  simp [unstuff]

/-- A receiver takes the bits that a sender stuffed, and then has before it what the sender makes of the rest. -/
theorem unstuff_onLine (bits rest tail : List Bool) {last : Bool} {run : Nat} (hrun : run ≤ 5) :
    ∃ last' run', run' ≤ 5 ∧
      unstuff last run bits.length (onLine last run (bits ++ rest) ++ tail) =
        .ok bits last' run' (onLine last' run' rest ++ tail) := by
  induction bits generalizing last run with
  | nil => exact ⟨last, run, hrun, unstuff_nothing _ _ _⟩
  | cons b bits ih =>
    have behindShortRun {last : Bool} {run : Nat} (short : run < 5) : ∃ last' run', run' ≤ 5 ∧
        unstuff last run (bits.length + 1) (stuffFrom last run (b :: (bits ++ rest)) ++ tail) =
          .ok (b :: bits) last' run' (onLine last' run' rest ++ tail) := by
      obtain ⟨last', run', hrun', taken⟩ := ih (last := b) (runWith_le_five short last b)
      refine ⟨last', run', hrun', ?_⟩
      rw [stuffFrom_cons, List.cons_append, unstuff_data short.ne, taken]
      rfl
    by_cases five : run = 5
    · subst five
      simpa only [List.length_cons, List.cons_append, onLine_five, unstuff_stuffBit] using
        behindShortRun (last := !last) (run := 1) (by omega)
    · simpa only [List.length_cons, List.cons_append, onLine_of_ne_five five] using
        behindShortRun (last := last) (run := run) (by omega)

/-- The end field behind the last bit, and behind its stuff bit where there is one, is good (R10). -/
theorem receiveEnd_onLine (corrected : Bool) (h : Header) (body : List Byte) (crcGood : Bool) (last : Bool)
    (run : Nat) :
    receiveEnd corrected h body crcGood last run (onLine last run [] ++ List.replicate 8 true) =
      .ended corrected h body crcGood := by
  by_cases five : run = 5
  · subst five
    simp [receiveEnd, onLine_five, stuffFrom]
  · simp [receiveEnd, onLine_of_ne_five five, stuffFrom, five]

end Sys2Proof.Machine
end

section
/-! SUPPORT. The header check as the exclusive or of positions: what a bit turned over does to it, and what the
table of R175 finds. -/

namespace Sys2Proof.Machine

/-- The positions of the 44 header bits in the order they are sent: header bits, check bits, and the overall parity
bit at the position 0 that no syndrome counts. -/
def sentPositions : List Nat := dataPositions ++ checkPositions ++ [0]

@[simp] theorem length_sentPositions : sentPositions.length = 44 := rfl

/-- The syndrome of 44 bits (R175). -/
def syndromeOf (bits : List Bool) : Nat := positionXor sentPositions bits

/-! ### Parity -/

theorem decide_odd_succ (n : Nat) : decide ((n + 1) % 2 = 1) = !decide (n % 2 = 1) := by
  obtain even | odd := Nat.mod_two_eq_zero_or_one n
  · simp [Nat.succ_mod_two_eq_one_iff, even]
  · simp [Nat.succ_mod_two_eq_one_iff, odd]

theorem foldl_xor (bits : List Bool) (start : Bool) :
    bits.foldl Bool.xor start = Bool.xor start (oddParity bits) := by
  induction bits generalizing start with
  | nil => simp [oddParity]
  | cons b bits ih => rw [oddParity, List.foldl_cons, List.foldl_cons, ih, ih (Bool.xor false b)]; simp

theorem oddParity_cons (b : Bool) (bits : List Bool) : oddParity (b :: bits) = Bool.xor b (oddParity bits) := by
  rw [oddParity, List.foldl_cons, foldl_xor, Bool.false_xor]

theorem oddParity_append_singleton (bits : List Bool) (b : Bool) :
    oddParity (bits ++ [b]) = Bool.xor (oddParity bits) b := by
  simp [oddParity]

theorem oddParity_eq (bits : List Bool) : oddParity bits = decide (bits.count true % 2 = 1) := by
  induction bits with
  | nil => rfl
  | cons b bits ih => cases b <;> simp [oddParity_cons, ih, decide_odd_succ]

/-! ### The exclusive or of positions -/

theorem foldl_positions (l : List (Nat × Bool)) (start : Nat) :
    l.foldl (fun a p => if p.2 then a ^^^ p.1 else a) start =
      start ^^^ l.foldl (fun a p => if p.2 then a ^^^ p.1 else a) 0 := by
  induction l generalizing start with
  | nil => simp
  | cons p l ih =>
    rw [List.foldl_cons, List.foldl_cons, ih, ih (if p.2 then 0 ^^^ p.1 else 0)]
    cases p.2 <;> simp [Nat.xor_assoc]

@[simp] theorem positionXor_nil_right (positions : List Nat) : positionXor positions [] = 0 := by
  simp [positionXor]

theorem positionXor_cons (p : Nat) (positions : List Nat) (b : Bool) (bits : List Bool) :
    positionXor (p :: positions) (b :: bits) = (if b then p else 0) ^^^ positionXor positions bits := by
  rw [positionXor, List.zip_cons_cons, List.foldl_cons, foldl_positions]
  simp [positionXor]

theorem positionXor_append {positions : List Nat} {bits : List Bool} (same : positions.length = bits.length)
    (positions' : List Nat) (bits' : List Bool) :
    positionXor (positions ++ positions') (bits ++ bits') =
      positionXor positions bits ^^^ positionXor positions' bits' := by
  rw [positionXor, List.zip_append same, List.foldl_append, foldl_positions]
  rfl

theorem positionXor_lt_two_pow {w : Nat} (positions : List Nat) (bits : List Bool)
    (small : ∀ p ∈ positions, p < 2 ^ w) : positionXor positions bits < 2 ^ w := by
  induction positions generalizing bits with
  | nil => simp [positionXor]
  | cons p positions ih =>
    obtain ⟨hp, hrest⟩ := List.forall_mem_cons.1 small
    cases bits with
    | nil => simp
    | cons b bits =>
      rw [positionXor_cons]
      exact Nat.xor_lt_two_pow (by split <;> simp [hp]) (ih bits hrest)

/-- Bit `k` of the exclusive or is the parity of the positions with a 1 whose number has bit `k` set. -/
theorem testBit_positionXor (positions : List Nat) (bits : List Bool) (k : Nat) :
    (positionXor positions bits).testBit k =
      decide ((positions.zip bits).countP (fun p => p.1.testBit k && p.2) % 2 = 1) := by
  induction positions generalizing bits with
  | nil => simp [positionXor]
  | cons p positions ih =>
    cases bits with
    | nil => simp
    | cons b bits =>
      rw [positionXor_cons, Nat.testBit_xor, ih, List.zip_cons_cons, List.countP_cons]
      cases b <;> cases hp : p.testBit k <;> simp [hp, decide_odd_succ]

/-- The powers of two spell a number out of its bits. -/
theorem positionXor_powers (n w : Nat) :
    positionXor ((List.range w).map (2 ^ ·)) ((List.range w).map fun k => n.testBit k) = n % 2 ^ w := by
  induction w with
  | zero => simp [positionXor, Nat.mod_one]
  | succ w ih =>
    rw [List.range_succ, List.map_append, List.map_append, positionXor_append (by simp), ih, List.map_singleton,
      List.map_singleton, positionXor_cons]
    apply Nat.eq_of_testBit_eq
    intro i
    obtain lower | rfl | higher := lt_trichotomy i w
    · cases n.testBit w <;> simp [Nat.testBit_two_pow_of_ne, lower.ne', lower, lower.trans]
    · cases h : n.testBit i <;> simp [h]
    · cases n.testBit w <;> simp [Nat.testBit_two_pow_of_ne, higher.ne, higher.not_gt] <;> omega

theorem sum_testBits (n w : Nat) :
    ((List.range w).map fun k => 2 ^ k * (n.testBit k).toNat).sum = n % 2 ^ w := by
  induction w with
  | zero => simp [Nat.mod_one]
  | succ w ih =>
    rw [List.range_succ, List.map_append, List.sum_append_nat, ih, Nat.mod_pow_succ, ← Nat.toNat_testBit]
    simp

/-! ### A bit turned over -/

@[simp] theorem length_flipAt (bits : List Bool) (i : Nat) : (flipAt bits i).length = bits.length := by
  simp [flipAt]

@[simp] theorem flipAt_nil (i : Nat) : flipAt [] i = [] := rfl

@[simp] theorem flipAt_cons_zero (b : Bool) (bits : List Bool) : flipAt (b :: bits) 0 = (!b) :: bits :=
  List.ext_getElem (by simp) fun j _ _ => by cases j <;> simp [flipAt]

@[simp] theorem flipAt_cons_succ (b : Bool) (bits : List Bool) (i : Nat) :
    flipAt (b :: bits) (i + 1) = b :: flipAt bits i := by
  simp [flipAt]

theorem flipAt_eq_set (bits : List Bool) (i : Nat) : flipAt bits i = bits.set i (!bits.getD i false) := by
  induction bits generalizing i with
  | nil => simp
  | cons b bits ih => cases i <;> simp [ih]

theorem flipAt_of_length_le {bits : List Bool} {i : Nat} (beyond : bits.length ≤ i) : flipAt bits i = bits := by
  rw [flipAt_eq_set, List.set_eq_of_length_le beyond]

@[simp] theorem flipAt_flipAt (bits : List Bool) (i : Nat) : flipAt (flipAt bits i) i = bits := by
  induction bits generalizing i with
  | nil => rfl
  | cons b bits ih => cases i <;> simp [ih]

theorem take_flipAt (bits : List Bool) (i n : Nat) : (flipAt bits i).take n = flipAt (bits.take n) i := by
  induction bits generalizing i n with
  | nil => simp
  | cons b bits ih => cases n <;> cases i <;> simp [ih]

theorem oddParity_flipAt {bits : List Bool} {i : Nat} (within : i < bits.length) :
    oddParity (flipAt bits i) = !oddParity bits := by
  induction bits generalizing i with
  | nil => simp at within
  | cons b bits ih =>
    cases i with
    | zero => cases b <;> simp [oddParity_cons]
    | succ i => simp [oddParity_cons, ih (Nat.lt_of_succ_lt_succ within)]

theorem positionXor_flipAt (positions : List Nat) {bits : List Bool} {i : Nat} (within : i < bits.length) :
    positionXor positions (flipAt bits i) = positionXor positions bits ^^^ positions.getD i 0 := by
  induction bits generalizing positions i with
  | nil => simp at within
  | cons b bits ih =>
    cases positions with
    | nil => simp [positionXor]
    | cons p positions =>
      cases i with
      | zero => cases b <;> simp [positionXor_cons, Nat.xor_comm]
      | succ i =>
        rw [flipAt_cons_succ, positionXor_cons, positionXor_cons, ih positions (Nat.lt_of_succ_lt_succ within),
          List.getD_cons_succ, Nat.xor_assoc]

end Sys2Proof.Machine
end

section
/-! O60. The header check and the CRC-16 in their uses (R175). -/

namespace Sys2Proof.Machine

/-! ### Syndrome and parity of what is sent -/

@[simp] theorem positionXor_zero (bits : List Bool) : positionXor [0] bits = 0 := by
  cases bits <;> simp [positionXor]

theorem checkPositions_eq_powers : checkPositions = (List.range 6).map (2 ^ ·) := rfl

theorem syndromeOf_append {header checks : List Bool} (h37 : header.length = 37) (h6 : checks.length = 6)
    (parity : List Bool) :
    syndromeOf (header ++ checks ++ parity) =
      positionXor dataPositions header ^^^ positionXor checkPositions checks := by
  rw [syndromeOf, sentPositions, positionXor_append (by simp [h37, h6, dataPositions, checkPositions]),
    positionXor_append (by simp [h37, dataPositions]), positionXor_zero, Nat.xor_zero]

theorem syndromeOf_lt (bits : List Bool) : syndromeOf bits < 2 ^ 6 :=
  positionXor_lt_two_pow _ _ (by decide)

theorem syndromeOf_sent {header : List Bool} (h37 : header.length = 37) :
    syndromeOf (header ++ headerCheck header) = 0 := by
  have below : positionXor dataPositions header < 2 ^ 6 := positionXor_lt_two_pow _ _ (by decide)
  rw [headerCheck, ← List.append_assoc, syndromeOf_append h37 (by simp), checkPositions_eq_powers,
    positionXor_powers, Nat.mod_eq_of_lt below, Nat.xor_self]

theorem oddParity_sent (header : List Bool) : oddParity (header ++ headerCheck header) = false := by
  rw [headerCheck, ← List.append_assoc, oddParity_append_singleton, Bool.xor_self]

/-! ### The ones among the positions -/

/-- The bit that stands at a position. -/
def bitPlaced (bits : List Bool) (p : Nat) : Bool :=
  if p ∈ checkPositions then bits.getD (37 + checkPositions.idxOf p) false else bits.getD (dataPositions.idxOf p) false

/-- How many positions whose number has bit `k` set hold a 1. -/
def onesWithBit (bits : List Bool) (k : Nat) : Nat :=
  ((List.range 44).filter fun p => p != 0 && p.testBit k && bitPlaced bits p).length

theorem bitPlaced_sentPositions (bits : List Bool) {i : Nat} (coded : i < 43) :
    bitPlaced bits (sentPositions.getD i 0) = bits.getD i false := by
  have place : ∀ i < 43, (if sentPositions.getD i 0 ∈ checkPositions
      then 37 + checkPositions.idxOf (sentPositions.getD i 0)
      else dataPositions.idxOf (sentPositions.getD i 0)) = i := by
    decide
  rw [bitPlaced, ← apply_ite (bits.getD · false), place i coded]

theorem sentPositions_perm_range : sentPositions.Perm (List.range 44) := by decide

theorem onesWithBit_eq_countP {bits : List Bool} (h44 : bits.length = 44) (k : Nat) :
    onesWithBit bits k = (sentPositions.zip bits).countP fun p => p.1.testBit k && p.2 := by
  have positions : (sentPositions.zip bits).map Prod.fst = sentPositions := List.map_fst_zip (by simp [h44])
  rw [onesWithBit, ← List.countP_eq_length_filter, ← sentPositions_perm_range.countP_eq]
  conv_lhs => rw [← positions, List.countP_map]
  refine List.countP_congr fun pb member => ?_
  obtain ⟨i, hi, rfl⟩ := List.getElem_of_mem member
  have within : i < 44 := by simpa [h44] using hi
  have inPositions : i < sentPositions.length := within
  have inBits : i < bits.length := h44 ▸ within
  rw [List.getElem_zip, ← List.getD_eq_getElem _ 0 inPositions, ← List.getD_eq_getElem _ false inBits]
  by_cases coded : i < 43
  · have nonzero : ∀ i < 43, sentPositions.getD i 0 ≠ 0 := by decide
    simp only [Function.comp_apply, bitPlaced_sentPositions bits coded, bne_iff_ne.2 (nonzero i coded), Bool.true_and]
  · obtain rfl : i = 43 := by omega
    simp [sentPositions, dataPositions, checkPositions]

theorem onesWithBit_mod_two {bits : List Bool} (h44 : bits.length = 44) (k : Nat) :
    onesWithBit bits k % 2 = ((syndromeOf bits).testBit k).toNat := by
  rw [onesWithBit_eq_countP h44, syndromeOf, testBit_positionXor]
  obtain even | odd := Nat.mod_two_eq_zero_or_one ((sentPositions.zip bits).countP fun p => p.1.testBit k && p.2)
  · simp [even]
  · simp [odd]

theorem sum_onesWithBit {bits : List Bool} (h44 : bits.length = 44) :
    ((List.range 6).map fun k => 2 ^ k * (onesWithBit bits k % 2)).sum = syndromeOf bits := by
  simp only [onesWithBit_mod_two h44, sum_testBits, Nat.mod_eq_of_lt (syndromeOf_lt bits)]

/-! ### The table of R175 -/

section
variable {bits : List Bool}

theorem checkHeader_eq (h44 : bits.length = 44) :
    checkHeader bits =
      if syndromeOf bits = 0 then
        if oddParity bits then .corrected (headerOfBits (bits.take 37)) else .clean (headerOfBits (bits.take 37))
      else if oddParity bits && decide (syndromeOf bits ≤ 43) then
        .corrected (headerOfBits (flipAt (bits.take 37) (dataPositions.idxOf (syndromeOf bits))))
      else .bad := by
  have syndrome : syndromeOf bits =
      positionXor dataPositions (bits.take 37) ^^^ positionXor checkPositions ((bits.drop 37).take 6) := by
    rw [← syndromeOf_append (parity := (bits.drop 37).drop 6) (by simp [h44]) (by simp [h44]), List.append_assoc,
      List.take_append_drop, List.take_append_drop]
  simp only [checkHeader, syndrome, List.take_of_length_le h44.le]

theorem checkHeader_clean (h44 : bits.length = 44) (zero : syndromeOf bits = 0) (even : oddParity bits = false) :
    checkHeader bits = .clean (headerOfBits (bits.take 37)) := by
  rw [checkHeader_eq h44, if_pos zero, even, if_neg Bool.false_ne_true]

/-- Where the position is that of no header bit, none is turned over. -/
theorem checkHeader_corrected (h44 : bits.length = 44) (low : syndromeOf bits ≤ 43) (odd : oddParity bits = true) :
    checkHeader bits =
      .corrected (headerOfBits (flipAt (bits.take 37) (dataPositions.idxOf (syndromeOf bits)))) := by
  rw [checkHeader_eq h44, odd]
  by_cases zero : syndromeOf bits = 0
  · have outside : (bits.take 37).length ≤ dataPositions.idxOf 0 := by simp [dataPositions]
    rw [if_pos zero, if_pos rfl, zero, flipAt_of_length_le outside]
  · rw [if_neg zero, if_pos (by simpa using low)]

theorem checkHeader_bad_of_even (h44 : bits.length = 44) (nonzero : syndromeOf bits ≠ 0)
    (even : oddParity bits = false) : checkHeader bits = .bad := by
  rw [checkHeader_eq h44, if_neg nonzero, even, Bool.false_and, if_neg Bool.false_ne_true]

theorem checkHeader_bad_of_high (h44 : bits.length = 44) (high : 43 < syndromeOf bits) :
    checkHeader bits = .bad := by
  rw [checkHeader_eq h44, if_neg (by omega), if_neg (by simp [high])]

theorem checkHeader_corrected_beside (h44 : bits.length = 44) (beside : syndromeOf bits ∈ 0 :: checkPositions)
    (odd : oddParity bits = true) : checkHeader bits = .corrected (headerOfBits (bits.take 37)) := by
  have facts : ∀ p ∈ 0 :: checkPositions, p ≤ 43 ∧ dataPositions.idxOf p = 37 := by decide
  obtain ⟨low, noHeaderBit⟩ := facts _ beside
  rw [checkHeader_corrected h44 low odd, noHeaderBit, flipAt_of_length_le (by simp)]

theorem checkHeader_corrected_at (h44 : bits.length = 44) (place : syndromeOf bits ∈ dataPositions)
    (odd : oddParity bits = true) :
    checkHeader bits =
      .corrected (headerOfBits ((bits.take 37).set (dataPositions.idxOf (syndromeOf bits))
        (!(bits.take 37).getD (dataPositions.idxOf (syndromeOf bits)) false))) := by
  have low : ∀ p ∈ dataPositions, p ≤ 43 := by decide
  rw [checkHeader_corrected h44 (low _ place) odd, flipAt_eq_set]

end

/-! ### One and two wrong bits of a sent header -/

/-- The 44 bits of a header as they are sent. -/
def sentHeader (h : Header) : List Bool := headerBits h ++ headerCheck (headerBits h)

section
variable (h : Header)

@[simp] theorem length_sentHeader : (sentHeader h).length = 44 := by simp [sentHeader]

theorem take_sentHeader : (sentHeader h).take 37 = headerBits h := List.take_left' (length_headerBits h)

theorem syndromeOf_sentHeader : syndromeOf (sentHeader h) = 0 := syndromeOf_sent (length_headerBits h)

theorem oddParity_sentHeader : oddParity (sentHeader h) = false := oddParity_sent _

theorem syndromeOf_flipAt {bits : List Bool} {i : Nat} (within : i < bits.length) :
    syndromeOf (flipAt bits i) = syndromeOf bits ^^^ sentPositions.getD i 0 := positionXor_flipAt _ within

theorem checkHeader_sentHeader : checkHeader (sentHeader h) = .clean h := by
  rw [checkHeader_clean (length_sentHeader h) (syndromeOf_sentHeader h) (oddParity_sentHeader h), take_sentHeader,
    headerOfBits_headerBits]

/-- One wrong bit makes the syndrome its position, and the bit at that position is turned back. -/
theorem checkHeader_one_wrong {i : Nat} (hi : i < 44) : checkHeader (flipAt (sentHeader h) i) = .corrected h := by
  have within : i < (sentHeader h).length := by simpa using hi
  have positions : ∀ i < 44, sentPositions.getD i 0 ≤ 43 ∧ dataPositions.idxOf (sentPositions.getD i 0) = min i 37 := by
    decide
  obtain ⟨low, turned⟩ := positions i hi
  have syndrome : syndromeOf (flipAt (sentHeader h) i) = sentPositions.getD i 0 := by
    rw [syndromeOf_flipAt within, syndromeOf_sentHeader, Nat.zero_xor]
  have back : flipAt (flipAt (headerBits h) i) (min i 37) = headerBits h := by
    obtain inHeader | beyond := lt_or_ge i 37
    · rw [min_eq_left inHeader.le, flipAt_flipAt]
    · rw [flipAt_of_length_le (by simp [beyond]), flipAt_of_length_le (by simp [beyond])]
  rw [checkHeader_corrected (by simp) (by rwa [syndrome]) (by rw [oddParity_flipAt within, oddParity_sentHeader]; rfl),
    syndrome, turned, take_flipAt, take_sentHeader, back, headerOfBits_headerBits]

/-- Two wrong bits leave the parity even and make a syndrome other than 0, their positions being different. -/
theorem checkHeader_two_wrong {i j : Nat} (hi : i < 44) (hj : j < 44) (apart : i ≠ j) :
    checkHeader (flipAt (flipAt (sentHeader h) i) j) = .bad := by
  have withinI : i < (sentHeader h).length := by simpa using hi
  have withinJ : j < (flipAt (sentHeader h) i).length := by simpa using hj
  have distinct : sentPositions.Nodup := by decide
  refine checkHeader_bad_of_even (by simp) ?syndrome ?parity
  case syndrome =>
    rw [syndromeOf_flipAt withinJ, syndromeOf_flipAt withinI, syndromeOf_sentHeader, Nat.zero_xor, Ne,
      Nat.xor_eq_zero_iff, List.getD_eq_getElem _ _ (by simpa using hi), List.getD_eq_getElem _ _ (by simpa using hj),
      distinct.getElem_inj_iff]
    exact apart
  case parity =>
    rw [oddParity_flipAt withinJ, oddParity_flipAt withinI, oddParity_sentHeader]
    rfl

end

/-! ### A frame with any body check -/

/-- The bits on the line for a header and a body with the body check `check`. -/
def lineWith (h : Header) (body : List Byte) (check : Word16) : List Bool :=
  stuff (false :: (sentHeader h ++ bodyBits body ++ bitsOf check)) ++ List.replicate 8 true

theorem receiveBody_onLine (corrected : Bool) {h : Header} {body : List Byte} (short : body.length ≤ 32)
    (len : h.length = BitVec.ofNat 6 body.length) (check : Word16) {last : Bool} {run : Nat} (hrun : run ≤ 5) :
    receiveBody corrected h last run
        (onLine last run (bodyBits body ++ bitsOf check) ++ List.replicate 8 true) =
      .ended corrected h body (decide (check = crc16 (headerBits h ++ bodyBits body))) := by
  have n : h.length.toNat = body.length := by
    rw [len, BitVec.toNat_ofNat]
    omega
  have need : (bodyBits body ++ bitsOf check).length = 8 * body.length + 16 := by simp
  have checkBits : (bodyBits body ++ bitsOf check).drop (8 * body.length) = bitsOf check :=
    List.drop_left' (length_bodyBits body)
  obtain ⟨last', run', -, taken⟩ :=
    unstuff_onLine (bodyBits body ++ bitsOf check) [] (List.replicate 8 true) (last := last) hrun
  rw [List.append_nil, need] at taken
  simp only [receiveBody, n, if_neg (Nat.not_lt.2 short), taken, bytesOfBits_bodyBits_append, checkBits, bitsOf_inj,
    receiveEnd_onLine]

theorem receiveBits_lineWith {h : Header} {body : List Byte} (short : body.length ≤ 32)
    (len : h.length = BitVec.ofNat 6 body.length) (check : Word16) :
    receiveBits (lineWith h body check) =
      .ended false h body (decide (check = crc16 (headerBits h ++ bodyBits body))) := by
  have split : false :: (sentHeader h ++ bodyBits body ++ bitsOf check) =
      (false :: sentHeader h) ++ (bodyBits body ++ bitsOf check) := by simp
  have need : (false :: sentHeader h).length = 45 := by simp
  obtain ⟨last, run, hrun, taken⟩ := unstuff_onLine (false :: sentHeader h) (bodyBits body ++ bitsOf check)
    (List.replicate 8 true) (last := true) (run := 0) (by omega)
  rw [need, ← split, ← stuff_eq_onLine] at taken
  simp only [receiveBits, lineWith, taken, List.drop_one, List.tail_cons, checkHeader_sentHeader,
    receiveBody_onLine false short len check hrun]

/-! ### Digest and record -/

theorem endConfigRead_digest (record : Option (List Byte)) (s : State) :
    (endConfigRead record s).cfl.digest = configDigest (endConfigRead record s).cfl.config := by
  simp only [endConfigRead]
  split
  · rfl
  · rfl

theorem execConfigReadEnd_digest {r : ConfigRead} {record : Option (List Byte)} {s t : State}
    (reading : s.cfl.configRead = some r) (done : exec (.configReadEnd record) s = .next t) :
    t.cfl.digest = configDigest t.cfl.config := by
  have ended : exec (.configReadEnd record) s = .next (endConfigRead record s) := by
    change execConfigReadEnd record s = _
    simp only [execConfigReadEnd, reading]
  obtain rfl : endConfigRead record s = t := Host.Outcome.next.inj (ended.symm.trans done)
  exact endConfigRead_digest record s

theorem recordGood_check {bytes : List Byte} (good : recordGood bytes = true) :
    word16At bytes 62 = crc16 (bodyBits (bytes.take 62)) := by
  simp only [recordGood, Bool.and_eq_true, beq_iff_eq] at good
  obtain ⟨-, check⟩ := good
  exact check.symm

/-! ### The obligation -/

theorem headerCheck_parities {header : List Bool} (h37 : header.length = 37) :
    (header ++ headerCheck header).length = 44 ∧
    (∀ k < 6, onesWithBit (header ++ headerCheck header) k % 2 = 0) ∧
    (header ++ headerCheck header).count true % 2 = 0 := by
  have h44 : (header ++ headerCheck header).length = 44 := by simp [h37]
  refine ⟨h44, fun k _ => ?positions, ?overall⟩
  case positions => rw [onesWithBit_mod_two h44, syndromeOf_sent h37, Nat.zero_testBit, Bool.toNat_false]
  case overall => simpa [oddParity_eq] using oddParity_sent header

/-- Settles O60, by the syndrome as the exclusive or of the positions that hold a 1: a wrong bit adds its position. -/
theorem headerCheckCorrectsOneBit : Obligations.HeaderCheckCorrectsOneBit := by
  refine ⟨fun _ => rfl, fun h body => ⟨rfl, fun short len check => receiveBits_lineWith short len check⟩,
    fun r record s t reading done => execConfigReadEnd_digest reading done, fun bytes good => recordGood_check good,
    ⟨fun header h37 => headerCheck_parities h37, fun bits h44 => ?table⟩,
    fun h => ⟨checkHeader_sentHeader h, fun i hi => checkHeader_one_wrong h hi,
      fun i hi j hj apart => checkHeader_two_wrong h hi hj apart⟩⟩
  case table =>
    intro syndrome odd header
    have hs : syndrome = syndromeOf bits := sum_onesWithBit h44
    have hodd : oddParity bits = decide odd := oddParity_eq bits
    rw [hs]
    refine ⟨fun zero even => ?_, fun zero odd => ?_, fun power odd => ?_, fun place odd => ?_, fun nonzero even => ?_,
      fun high _ => ?_⟩
    · exact checkHeader_clean h44 zero (by simp [hodd, even])
    · exact checkHeader_corrected_beside h44 (by simp [zero]) (by simp [hodd, odd])
    · exact checkHeader_corrected_beside h44 (List.mem_cons_of_mem _ power) (by simp [hodd, odd])
    · exact checkHeader_corrected_at h44 place (by simp [hodd, odd])
    · exact checkHeader_bad_of_even h44 nonzero (by simp [hodd, even])
    · exact checkHeader_bad_of_high h44 high

end Sys2Proof.Machine
end

section
/-! The queue of commands, start-up and station restart, and commands that raise no notice. -/

namespace Sys2Proof.Machine

/-! ### Bay records -/

/-- Rewriting a bay twice is rewriting it once. -/
theorem State.modBay_modBay (s : State) (b : BayIx) (f g : Bay → Bay) :
    (s.modBay b f).modBay b g = s.modBay b fun x => g (f x) := by
  simp [State.modBay, State.setBay, State.bay]

/-- States with the same records everywhere are the same in their vector of bays. -/
theorem State.bays_ext {s t : State} (h : ∀ b : BayIx, s.bay b = t.bay b) : s.bays = t.bays :=
  Vector.ext fun i hi => h ⟨i, hi⟩

/-! ### One step -/

/-- Settles O1. -/
theorem stepRunsTheFrontCommand : Obligations.StepRunsTheFrontCommand := by
  intro c rest s front
  simp only [step, front]

/-- Settles O2. -/
theorem emptyQueueLetsTimePass : Obligations.EmptyQueueLetsTimePass := by
  intro s empty
  simp only [step, empty, State.tick]

/-! ### The line code -/

/-- Settles O59: the line of R2 and R175 is the one that carries the frame's own CRC-16. -/
theorem sentFramesAreReceived : Obligations.SentFramesAreReceived := by
  intro h body short length
  calc receiveBits (lineBits h body)
      = receiveBits (lineWith h body (crc16 (headerBits h ++ bodyBits body))) := rfl
    _ = .ended false h body true := by rw [receiveBits_lineWith short length, decide_eq_true rfl]

/-! ### A frame taken from a hand -/

/-- A command takes its frame from the hand of its block, and the hand is then free. -/
theorem fromHand_eq_carryOut {s : State} {k : Block} {which : RxFrame → Bool} {f : RxFrame}
    (held : s.hand k = some f) (its : which f = true) (g : RxFrame → Work → Work) :
    fromHand s k which g = carryOut (s.setHand none k) (g f) := by
  simp only [fromHand, held, its, if_true]

/-- Work that raises no notice is all that its command does. -/
theorem carryOut_of_quiet {s : State} {f : Work → Work} (quiet : (f (startWork s)).todo = []) :
    carryOut s f = .next (f (startWork s)).st := by
  simp only [carryOut, finish_of_quiet quiet]

/-- Settles O40. -/
theorem entriesAreRemoved : Obligations.EntriesAreRemoved := by
  intro f s held
  have hand : s.hand .csu = some f := held
  refine ⟨fun kind => ?revoke, fun kind => ?released, fun kind => ?returned⟩
  case revoke =>
    simp only [exec, execRevoke]
    rw [fromHand_eq_carryOut hand (by simp [isKind, kind]), carryOut_of_quiet rfl]
    rfl
  all_goals
    simp only [exec, execReleasedHeard, execReturnedHeard]
    rw [fromHand_eq_carryOut hand (by simp [isKind, kind]), carryOut_of_quiet rfl]
    rfl

/-- Settles O15: by whether the frame must wait, and then by the role check. -/
theorem framesAreHandedOver : Obligations.FramesAreHandedOver := by
  intro f rest k s received receiver waits permitted
  have must : mustWait s f k = true ↔ waits := by
    simp [mustWait, waits, Option.isSome_iff_ne_none]
  have role : roleCheck s f = true ↔ permitted := by
    unfold roleCheck
    cases accepted : kindAcceptedFrom f.kind with
    | none => simp [permitted, accepted]
    | some r =>
      have peer : s.pmn.peers[f.source] = s.peer f.source := rfl
      cases entry : s.peer f.source <;> simp [permitted, accepted, peer, entry]
  have handed : handOver s =
      if mustWait s f k then s
      else if roleCheck s f then (s.modLkc fun l => { l with received := rest }).setHand (some f) k
      else (s.modLkc fun l => { l with received := rest }).countLink fun c => { c with ignored := c.ignored + 1 } := by
    simp only [handOver, received, receiver]
  simp only [exec, execFrameHandover, handed]
  refine ⟨fun w => ?_, fun w p => ?_, fun w p => ?_⟩
  · rw [if_pos (must.2 w)]
  · rw [if_neg (mt must.1 w), if_pos (role.2 p)]
    rfl
  · rw [if_neg (mt must.1 w), if_neg (mt role.1 p)]
    rfl

/-- Settles O25. -/
theorem bayTimersAndShortHold : Obligations.BayTimersAndShortHold := by
  intro b s
  refine ⟨fun d timer state active => ?_, fun mV populated part limit below hold => ?_, fun mV above => ?_⟩
  · have reads : ∀ u : State, (u.bay b).channel.state = .active →
        requestReads b [.ident] u = u.modChannel b (markDue .ident) := by
      intro u h
      simp only [requestReads, h, List.foldl_cons, List.foldl_nil]
    simp only [exec, execUnmanagedReadTimerExpired, timer, state, active, and_self, if_true, askUnmanagedRead]
    rw [reads _ (by simp [State.modCharge, active])]
    simp [State.modChannel, State.modCharge, State.modBay_modBay, markDue, unmanagedPeriod, State.advanceTo]
  · have watch : shortWatch (s.bay b).charge = true := by simp [shortWatch, part, limit]
    simp only [exec, execShortHoldStart, populated, watch, belowHalf, below, hold]
    rfl
  · have above' : ¬ 2 * mV < 1000 * (s.bay b).charge.voltage := by omega
    simp only [exec, execShortHoldAbandoned, belowHalf, above', decide_false]
    rfl

end Sys2Proof.Machine
end

section
/-! Power-on, the restart line and RESTART (R167, R168, R171 to R173). -/

namespace Sys2Proof.Machine

section
variable (pins : StartPins) (s : State) (b : BayIx)

/-- R168: the record of a bay after a strap reading. -/
theorem bay_readStraps :
    (readStraps pins s).bay b =
      if b.val < countOf pins.count then
        sampledBay s.now s.cfl.config.ajarTime (pins.doors.getLsbD b.val) (pins.bolts.getLsbD b.val) (s.bay b)
      else unsampledBay (s.bay b) := by
  simp only [readStraps, sampleBays, State.bay, Fin.getElem_fin, Vector.getElem_ofFn]

theorem bay_readStraps_sampled (counted : b.val < countOf pins.count) :
    (readStraps pins s).bay b =
      { attrs := (s.bay b).attrs, counters := (s.bay b).counters, charge := resetCharge (s.bay b).attrs,
        door := Door.found (s.now + s.cfl.config.ajarTime * 1000)
          (pins.doors.getLsbD b.val) (pins.bolts.getLsbD b.val) } := by
  rw [bay_readStraps, if_pos counted, sampledBay, firstDoor_eq_found]

theorem bay_readStraps_unsampled (beyond : countOf pins.count ≤ b.val) :
    (readStraps pins s).bay b = { attrs := (s.bay b).attrs, counters := (s.bay b).counters } := by
  rw [bay_readStraps, if_neg beyond.not_gt, unsampledBay]

theorem bay_restartValues :
    (restartValues s).bay b =
      { attrs := (s.bay b).attrs, counters := (s.bay b).counters, charge := resetCharge (s.bay b).attrs } := by
  simp only [restartValues, State.bay, Fin.getElem_fin, Vector.getElem_map, restartBay]

/-- Reading the straps touches CFL, the measurement timer and the bays. -/
theorem readStraps_eq :
    readStraps pins s =
      { s with
        bays := (readStraps pins s).bays, bcc := { s.bcc with measureTimer := some (s.now + 100) },
        cfl := { s.cfl with
          address := pins.address.toFin, populated := pins.count.toNat + 1,
          configRead := some { device := 0x50, pointer := 0x00, length := 64, limit := s.now + 50 } } } := rfl

end

/-- A strap reading right after the restart values leaves what a station restart leaves (R171, R115). -/
theorem restartedFrom_readStraps {pins : StartPins} {s : State} :
    RestartedFrom s (readStraps pins (restartValues s)) := by
  constructor
  case bays =>
    intro b
    by_cases counted : b.val < countOf pins.count
    · have door : ((readStraps pins (restartValues s)).bay b).door = Door.found
          (s.now + s.cfl.config.ajarTime * 1000) (pins.doors.getLsbD b.val) (pins.bolts.getLsbD b.val) := by
        rw [bay_readStraps_sampled _ _ _ counted]
        rfl
      constructor
      case door => exact .inr ⟨_, _, door⟩
      all_goals simp only [bay_readStraps_sampled _ _ _ counted, bay_restartValues]
    · constructor
      case door =>
        left
        rw [bay_readStraps_unsampled _ _ _ (not_lt.1 counted)]
      all_goals simp only [bay_readStraps_unsampled _ _ _ (not_lt.1 counted), bay_restartValues]
  case charge =>
    intro b populated
    have counted : b.val < countOf pins.count := by
      rcases populated with none | counted
      · exact absurd none (Nat.succ_ne_zero _)
      · exact counted
    simp only [bay_readStraps_sampled _ _ _ counted, bay_restartValues, resetCharge]
  all_goals rfl

/-- The restart values alone are a station restart whose bays have not been sampled (R172). -/
theorem restartedFrom_restartValues (s : State) : RestartedFrom s (restartValues s) := by
  constructor
  case bays =>
    intro b
    constructor
    case door =>
      left
      rw [bay_restartValues]
    all_goals rw [bay_restartValues]
  case charge => exact fun b _ => by rw [bay_restartValues, resetCharge]
  all_goals rfl

/-- Settles O4. -/
theorem powerOnStartsAfresh : Obligations.PowerOnStartsAfresh := by
  intro low pins s
  have reset : ∀ b : BayIx, State.reset.bay b = {} := fun b => by
    simp only [State.bay, State.reset, Fin.getElem_fin, Vector.getElem_replicate]
  cases low with
  | true =>
    have fresh : ∀ b : BayIx, (poweredOn true pins s).bay b = {} := reset
    refine ⟨poweredOn true pins s, rfl, rfl, rfl, rfl, rfl, rfl, rfl, rfl, rfl, rfl, rfl, rfl, rfl, rfl, rfl,
      fun b => ?_, fun _ => ⟨rfl, fun b => by rw [fresh]⟩, fun h => absurd h.symm Bool.false_ne_true⟩
    simp only [fresh, and_self]
  | false =>
    refine ⟨poweredOn false pins s, rfl, rfl, rfl, rfl, rfl, rfl, rfl, rfl, rfl, rfl, rfl, rfl, rfl, rfl, rfl,
      fun b => ?_, (fun h => absurd h Bool.false_ne_true), fun _ => ⟨rfl, rfl, rfl, fun b => ⟨fun counted => ?_, fun beyond => ?_⟩⟩⟩
    · simp only [poweredOn, Bool.false_eq_true, if_false, bay_readStraps]
      split <;> simp only [sampledBay, unsampledBay, resetCharge] <;>
        simp only [show ∀ u : State, u.bays = State.reset.bays → u.bay b = {} from
          fun u h => (State.bay_congr h b).trans (reset b)] <;> simp
    · simp only [poweredOn, Bool.false_eq_true, if_false, bay_readStraps_sampled _ _ _ counted]
      rfl
    · simp only [poweredOn, Bool.false_eq_true, if_false, bay_readStraps_unsampled _ _ _ beyond]

/-- Settles O5. -/
theorem restartLineHoldsTheStation : Obligations.RestartLineHoldsTheStation := by
  intro s
  refine ⟨fun released => ?_, fun held => by simp only [exec, execRestartLineHeld, held, if_true], fun pins => ⟨?_, ?_, ?_⟩⟩
  · have ran : exec .restartLineHeld s =
        .next (restartValues (s.modCfl fun c => { c with restartHeld := true })) := by
      simp only [exec, execRestartLineHeld, released, Bool.false_eq_true, if_false]
    have restarted := restartedFrom_restartValues (s.modCfl fun c => { c with restartHeld := true })
    exact ⟨_, ran, { restarted with }, rfl, rfl, rfl, rfl, fun b => by rw [bay_restartValues]⟩
  · intro released
    simp only [exec, execRestartLineReleased, released, Bool.false_eq_true, if_false]
  · intro held phase
    have hearing : (s.cfl.phase != .start) = true := by simp [phase]
    simp only [exec, execRestartLineReleased, State.hearing, held, hearing, if_true]
    rfl
  · intro held phase
    have ran : exec (.restartLineReleased pins) s =
        .next (readStraps pins (s.modCfl fun c => { c with restartHeld := false })) := by
      simp only [exec, execRestartLineReleased, State.hearing, held, phase, if_true, bne_self_eq_false,
        Bool.false_eq_true, if_false]
    refine ⟨_, ran, rfl, fun b => ⟨fun counted => ?_, fun beyond => ?_⟩⟩
    · rw [bay_readStraps_sampled _ _ _ counted]
      rfl
    · rw [bay_readStraps_unsampled _ _ _ beyond]
      rfl

end Sys2Proof.Machine
end

section
/-! The transmit queue with room (R16), and the commands that place one frame and raise no notice. -/

namespace Sys2Proof.Machine

/-! ### Placing a frame -/

theorem placeInQueue_of_room (f : TxFrame) {queue : List TxFrame} (room : queue.length < 8) :
    placeInQueue f queue = (insertFrame f queue, none) := by
  simp only [placeInQueue, txCapacity, room, if_true]

/-- R16: in a queue with room a frame takes its place and nothing is discarded. -/
theorem place_of_room (f : TxFrame) {w : Work} (room : w.st.lkc.queue.length < 8) :
    place f w = w.upd fun s => s.modLkc fun l => { l with queue := insertFrame f l.queue } := by
  simp only [place, placeInQueue_of_room f room]
  rfl

theorem placeEvent_of_room (code : Nat) (bay : Byte) (word : Word32) (value : Nat) (k : Block) {w : Work}
    (room : w.st.lkc.queue.length < 8) :
    placeEvent code bay word value k w =
      w.upd fun s => s.modLkc fun l =>
        { l with queue := insertFrame (eventFrame code bay word value k) l.queue } := place_of_room _ room

@[simp] theorem length_insertFrame (f : TxFrame) (queue : List TxFrame) :
    (insertFrame f queue).length = queue.length + 1 := by
  induction queue with
  | nil => rfl
  | cons g queue ih =>
    simp only [insertFrame]
    split
    · rfl
    · simp [ih]

/-- Frames placed one after another. -/
def insertFrames (fs : List TxFrame) (queue : List TxFrame) : List TxFrame :=
  fs.foldl (fun q f => insertFrame f q) queue

/-- R16: where the queue has room for all of them, frames are placed one after another. -/
theorem forEach_place_of_room {α : Type} (frame : α → TxFrame) (xs : List α) (w : Work)
    (room : w.st.lkc.queue.length + xs.length ≤ 8) :
    forEach xs (fun x => place (frame x)) w =
      w.upd fun s => s.modLkc fun l => { l with queue := insertFrames (xs.map frame) l.queue } := by
  induction xs generalizing w with
  | nil => rfl
  | cons x xs ih =>
    have here : w.st.lkc.queue.length < 8 := by
      simp only [List.length_cons] at room
      omega
    have rest := ih (place (frame x) w) (by
      rw [place_of_room _ here]
      simp only [Work.upd_st, State.modLkc_lkc, length_insertFrame]
      simp only [List.length_cons] at room
      omega)
    simp only [forEach, List.foldl_cons] at rest ⊢
    rw [rest, place_of_room _ here]
    rfl

/-! ### Credentials -/

theorem lookupCredential_isSome_iff {table : List CredentialEntry} {number : Word32} :
    (lookupCredential table number).isSome ↔ ∃ e ∈ table, e.number = number := by
  simp [lookupCredential, List.find?_isSome]

/-- R123: an unsuspended TECHNICIAN is known here under the number. -/
theorem isTechnician_iff {s : State} {number : Word32} :
    isTechnician s number = true ↔ ∃ e : CredentialEntry,
      lookupCredential s.csu.credentials number = some e ∧ e.suspended = false ∧ e.role = .technician := by
  unfold isTechnician authoriser
  cases lookupCredential s.csu.credentials number with
  | none => simp
  | some e => cases suspended : e.suspended <;> simp [Option.filter, suspended]

/-- Settles O42. -/
theorem restartNeedsATechnician : Obligations.RestartNeedsATechnician := by
  intro f pins s held kind permitted
  have hand : s.hand .csu = some f := held
  refine ⟨fun allowed => ?_, fun refused room => ?_⟩
  · have ran : exec (.restart pins) s = .next (stationRestart pins s) := by
      simp only [exec, execRestart, hand, kind, isTechnician_iff.2 allowed, if_true]
    cases line : s.cfl.restartHeld with
    | true =>
      have still : stationRestart pins s = restartValues s := by
        simp only [stationRestart, restartValues, line, if_true]
      rw [still] at ran
      exact ⟨_, ran, restartedFrom_restartValues s, fun _ => ⟨rfl, rfl, fun b => by rw [bay_restartValues]⟩,
        fun h => absurd h.symm Bool.false_ne_true⟩
    | false =>
      have sampled : stationRestart pins s = readStraps pins (restartValues s) := by
        simp only [stationRestart, restartValues, line, Bool.false_eq_true, if_false]
      rw [sampled] at ran
      refine ⟨_, ran, restartedFrom_readStraps, fun h => absurd h Bool.false_ne_true,
        fun _ => ⟨rfl, rfl, rfl, fun b => ⟨fun counted => ?_, fun beyond => ?_⟩⟩⟩
      · rw [bay_readStraps_sampled _ _ _ counted]
        rfl
      · rw [bay_readStraps_unsampled _ _ _ beyond]
  · have not : isTechnician s (word32At f.body 0) = false := by
      simpa using mt isTechnician_iff.1 refused
    have placed : rejectAuthority 2 (word32At f.body 0) (startWork (s.setHand none .csu)) = _ :=
      placeEvent_of_room 11 noBay (word32At f.body 0) 2 .csu room
    simp only [exec, execRestart, hand, kind, not, if_true, Bool.false_eq_true, if_false]
    rw [carryOut_of_quiet (by rw [placed]; rfl), placed]
    rfl

theorem lookupCredential_cons (x : CredentialEntry) (table : List CredentialEntry) (number : Word32) :
    lookupCredential (x :: table) number =
      if x.number = number then some x else lookupCredential table number := by
  by_cases same : x.number = number <;> simp [lookupCredential, same]

/-- R117: an entry that has been put is the one found for its number; every other number is found as before. -/
theorem lookupCredential_putCredential (e : CredentialEntry) (table : List CredentialEntry) (number : Word32) :
    lookupCredential (putCredential e table) number =
      if e.number = number then some e else lookupCredential table number := by
  induction table with
  | nil => exact lookupCredential_cons e [] number
  | cons x table ih =>
    simp only [putCredential]
    split
    · next same =>
      simp only [lookupCredential_cons, ← same]
      split <;> rfl
    · next other =>
      split
      · exact lookupCredential_cons e _ number
      · simp only [lookupCredential_cons, ih]
        by_cases here : x.number = number
        · simp only [here, if_true, if_neg (here ▸ other)]
        · simp only [here, if_false]

/-- Settles O39: by the role and the number, and then by the room in the table. -/
theorem enrollWritesTheEntry : Obligations.EnrollWritesTheEntry := by
  intro f s held kind number usable known free
  have hand : s.hand .csu = some f := held
  have ran : exec .enroll s = carryOut free (takeEnroll (readEnroll f.body)) := by
    simp only [exec, execEnroll]
    rw [fromHand_eq_carryOut hand (by simp [isKind, kind])]
    rfl
  have named : (readEnroll f.body).number = number := rfl
  have knows : (lookupCredential s.csu.credentials number).isSome ↔ known := lookupCredential_isSome_iff
  have useless : ¬ usable → takeEnroll (readEnroll f.body) (startWork free) = startWork free := fun h => by
    have unusable : number = 0 ∨ number = 0xFFFFFFFF#32 := by
      by_contra both
      exact h (not_or.1 both)
    simp only [takeEnroll, named, unusable, if_true]
  rw [ran]
  refine ⟨_, rfl, fun role its use _ place => ?_, fun role its use stranger full room => ?_, fun nothing => ?_⟩
  · have written : takeEnroll (readEnroll f.body) (startWork free) =
        (startWork free).upd fun s => s.modCsu fun c => { c with
          credentials := putCredential (enrolledEntry (readEnroll f.body) role s.csu.minute) free.csu.credentials } := by
      have number_ok : ¬ (number = 0 ∨ number = 0xFFFFFFFF#32) := not_or.2 use
      have role_ok : (readEnroll f.body).role = some role := its
      simp only [takeEnroll, named, if_neg number_ok, role_ok]
      exact if_pos (place.imp knows.2 id)
    rw [finish_of_quiet (by rw [written]; rfl), written]
    refine ⟨rfl, ?_, fun other differs => ?_⟩
    · exact (lookupCredential_putCredential _ _ _).trans (if_pos rfl)
    · exact (lookupCredential_putCredential _ _ _).trans (if_neg differs.symm)
  · have placed : takeEnroll (readEnroll f.body) (startWork free) =
        (startWork free).upd fun s => s.modLkc fun l =>
          { l with queue := insertFrame (eventFrame 10 noBay number 1 .csu) l.queue } := by
      have number_ok : ¬ (number = 0 ∨ number = 0xFFFFFFFF#32) := not_or.2 use
      have role_ok : (readEnroll f.body).role = some role := its
      simp only [takeEnroll, named, if_neg number_ok, role_ok]
      exact (if_neg (not_or.2 ⟨mt knows.1 stranger, full.not_gt⟩)).trans (placeEvent_of_room _ _ _ _ _ room)
    rw [finish_of_quiet (by rw [placed]; rfl), placed]
    rfl
  · have idle : takeEnroll (readEnroll f.body) (startWork free) = startWork free := by
      rcases nothing with norole | unusable
      · have role_no : (readEnroll f.body).role = none := norole
        simp only [takeEnroll, role_no, ite_self]
      · exact useless unusable
    rw [finish_of_quiet (by rw [idle]; rfl), idle]
    rfl

end Sys2Proof.Machine
end

section
/-! The line as the LKC follows it (R1, R5), and frames that are received good (R12, R13). -/

namespace Sys2Proof.Machine

/-! ### Waiting for idle -/

theorem waitBits_of_twelve {n : Nat} (enough : 12 ≤ n) (bits : List Bool) : waitBits n bits = n := by
  cases bits <;> simp [waitBits, enough]

/-- R1: recessive bits count one by one. -/
theorem waitBits_recessive {n k : Nat} (few : n + k ≤ 12) (bits : List Bool) :
    waitBits n (List.replicate k true ++ bits) = waitBits (n + k) bits := by
  induction k generalizing n with
  | zero => rfl
  | succ k ih =>
    have below : ¬ 12 ≤ n := by omega
    rw [List.replicate_succ, List.cons_append]
    simp only [waitBits, below, if_false, if_true]
    rw [ih (by omega)]
    congr 1
    omega

/-- R1: twelve recessive bits in a row are enough, whatever follows. -/
theorem twelve_le_waitBits {n k : Nat} (enough : 12 ≤ n + k) (bits : List Bool) :
    12 ≤ waitBits n (List.replicate k true ++ bits) := by
  by_cases already : 12 ≤ n
  · rw [waitBits_of_twelve already]
    exact already
  · obtain ⟨m, rfl⟩ : ∃ m, k = (12 - n) + m := ⟨k - (12 - n), by omega⟩
    rw [List.replicate_add, List.append_assoc, waitBits_recessive (by omega), waitBits_of_twelve (by omega)]
    omega

/-- What LINE_IDLE_DETECTED does at a waiting station. -/
theorem execLineIdleDetected_waiting {s : State} (hears : s.cfl.phase ≠ .start) (waits : s.lkc.line = .waiting)
    (bits : List Bool) :
    exec (.lineIdleDetected bits) s =
      if 12 ≤ waitBits s.lkc.recessive bits then .next (lineFree (s.modLkc fun l => { l with recessive := 0 }))
      else .next (s.modLkc fun l => { l with recessive := waitBits s.lkc.recessive bits }) := by
  have hearing : (s.cfl.phase != .start) = true := by simp [hears]
  simp only [exec, execLineIdleDetected, State.hearing, hearing, waits, beq_self_eq_true, Bool.and_self, if_true]

/-- Settles O8. -/
theorem lineIsFollowed : Obligations.LineIsFollowed := by
  intro s seen
  refine ⟨fun hears waits => ⟨fun k few => ⟨?count, fun bits => ?again⟩, fun k bits enough => ?idle⟩,
    fun hears idle => ?start, fun k idle => ⟨fun f rest active queue enough => ?sent, fun not => ?stays⟩⟩
  case count =>
    have counted : waitBits s.lkc.recessive (List.replicate k true) = s.lkc.recessive + k := by
      simpa [waitBits] using waitBits_recessive few.le []
    rw [execLineIdleDetected_waiting hears waits, counted, if_neg (by omega)]
    rfl
  case again =>
    have counted : waitBits s.lkc.recessive (List.replicate k true ++ false :: bits) = waitBits 0 bits := by
      rw [waitBits_recessive few.le]
      simp [waitBits, Nat.not_le.2 few]
    rw [execLineIdleDetected_waiting hears waits, counted,
      execLineIdleDetected_waiting (s := seen { s.lkc with recessive := 0 }) hears waits]
    rfl
  case idle =>
    rw [execLineIdleDetected_waiting hears waits, if_pos (twelve_le_waitBits enough bits)]
    rfl
  case start =>
    have hearing : (s.cfl.phase != .start) = true := by simp [hears]
    simp only [exec, execStartBitReceived, State.hearing, hearing, idle, beq_self_eq_true, Bool.and_self, if_true]
    rfl
  case sent =>
    have full : heldAt 11 (heldAt 11 (s.lkc.idleBits + k) + 250 * (s.now - s.lkc.idleSince)) = 11 := by
      simp only [heldAt]
      omega
    simp only [exec, execTransmissionStart, passIdle, idle, if_true, State.isActive, State.idleCount, State.modLkc, active,
      full, queue, beq_self_eq_true, List.isEmpty_cons, Bool.not_false, Bool.and_self, beginSending, List.head?_cons,
      Option.map_some, Option.getD_some, markHead]
    rfl
  case stays =>
    have held : (s.isActive && (passIdle k s).idleCount == 11 && !s.lkc.queue.isEmpty) = false := by
      simp only [passIdle, idle, if_true, State.isActive, State.idleCount, State.modLkc, heldAt]
      rcases not with phase | empty | few
      · simp [phase]
      · simp [empty]
      · have : ¬ min (min (s.lkc.idleBits + k) 11 + 250 * (s.now - s.lkc.idleSince)) 11 = 11 := by omega
        simp [this]
    have stands : exec (.transmissionStart k) s = .next (passIdle k s) := by
      have same : (passIdle k s).isActive = s.isActive ∧ (passIdle k s).lkc.queue = s.lkc.queue := by
        simp only [passIdle, idle, if_true]
        exact ⟨rfl, rfl⟩
      simp only [exec, execTransmissionStart, same, held, Bool.false_eq_true, if_false]
    rw [stands, passIdle, if_pos idle]
    rfl

/-! ### Frames received good -/

/-- What FRAME_RECEIVED does with a frame that has reached the end of its end field. -/
theorem execFrameReceived_ended {s : State} {bits : List Bool} {c good : Bool} {h : Header} {body : List Byte}
    (receiving : s.lkc.line = .receiving) (ended : receiveBits (s.lkc.followed ++ bits) = .ended c h body good) :
    exec (.frameReceived bits) s = carryOut (lineFree (noteCorrected c s)) (takeFrame h body good) := by
  simp only [exec, execFrameReceived, receiving, ended, if_true]

/-- R9, R19: the flags of a note and of what follows it are one setting of flags. -/
theorem Lkc.flagged_flagged (a b : Word16) (l : Lkc) : (l.flagged a).flagged b = l.flagged (a ||| b) := by
  simp only [Lkc.flagged, BitVec.or_assoc, BitVec.and_or_distrib_left]

@[simp] theorem Lkc.flagged_zero (l : Lkc) : l.flagged 0 = l := by
  simp [Lkc.flagged]

/-- The LKC's record after flags have been set and the two receive counters increased. -/
def Lkc.noted (l : Lkc) (mask : Word16) (corrected discarded : Word32) : Lkc :=
  { l.flagged mask with
    counters := { l.counters with
      corrected := l.counters.corrected + corrected, discarded := l.counters.discarded + discarded } }

/-- R9: the flag of a corrected header. -/
def correctedMask (c : Bool) : Word16 := if c then 0x0001 else 0

/-- R9: what a corrected header adds to its count. -/
def correctedCount (c : Bool) : Word32 := if c then 1 else 0

theorem noteCorrected_eq (c : Bool) (s : State) :
    noteCorrected c s = s.modLkc fun l => l.noted (correctedMask c) (correctedCount c) 0 := by
  cases c
  · simp [noteCorrected, correctedMask, correctedCount, Lkc.noted, State.modLkc, Lkc.flagged]
  · simp [noteCorrected, correctedMask, correctedCount, Lkc.noted, State.modLkc, State.countLink, State.setFlag,
      Lkc.setFlag, Lkc.flagged, flagBit]

theorem discardReceived_eq (f : LinkFlag) (s : State) :
    discardReceived f s = s.modLkc fun l => l.noted (flagBit f) 0 1 := by
  simp [discardReceived, Lkc.noted, State.modLkc, State.countLink, State.setFlag, Lkc.setFlag, Lkc.flagged]

theorem Lkc.noted_noted (l : Lkc) (a b : Word16) (c c' d d' : Word32) :
    (l.noted a c d).noted b c' d' = l.noted (a ||| b) (c + c') (d + d') := by
  simp only [Lkc.noted, Lkc.flagged, BitVec.or_assoc, BitVec.and_or_distrib_left, BitVec.add_assoc]

/-- Settles O13: the frame passes the checks of R10 to R12, and R13 and R14 then decide its place. -/
theorem framesAreAccepted : Obligations.FramesAreAccepted := by
  intro bits c h body kind s receiving ended known length foreign here frame good
  have taken : exec (.frameReceived bits) s = .next (acceptFrame frame (lineFree (noteCorrected c s))) := by
    have addressed : addressedHere s.cfl.address h.dest = true := by
      simpa [addressedHere, toAll] using here
    rw [execFrameReceived_ended receiving ended, carryOut_of_quiet] <;>
      simp [takeFrame, known, length, lineFree, noteCorrected_eq, foreign, addressed, receivedFrame, frame]
  have counted : (lineFree (noteCorrected c s)).countLink (fun k => { k with good := k.good + 1 }) = good := by
    simp [noteCorrected_eq, lineFree, good, Lkc.noted, State.modLkc, State.countLink, correctedMask, correctedCount,
      Lkc.flagged]
  have accepted : acceptFrame frame (lineFree (noteCorrected c s)) =
      match kindReceiver kind with
      | none => good
      | some _ =>
        if 6 ≤ s.lkc.received.length then discardReceived .rxOverrun good
        else if kind == .present then stormLimit frame good
        else queueReceived frame good := by
    simp only [acceptFrame, counted]
    rfl
  rw [taken, accepted]
  refine ⟨fun nobody => ?_, fun somebody full => ?_, fun somebody room other => ?_, fun room present => ?_⟩
  · simp only [nobody]
  · obtain ⟨k, receiver⟩ := Option.ne_none_iff_exists'.1 somebody
    simp only [receiver, full, if_true, discardReceived_eq]
    simp [Lkc.noted, State.modLkc, Lkc.flagged, good, flagBit]
  · obtain ⟨k, receiver⟩ := Option.ne_none_iff_exists'.1 somebody
    have notPresent : (kind == .present) = false := by simp [other]
    simp only [receiver, room.not_ge, notPresent, if_false, Bool.false_eq_true]
    rfl
  · simp only [present, kindReceiver, room.not_ge, if_false, beq_self_eq_true, if_true]

end Sys2Proof.Machine
end

section
/-! What the blocks do while notices are worked, step by step: the effects on the state, and for each operation of
chapters 3 to 8 the effects that it is made of. A law or a frame is then checked against the effects, and no operation
has to be opened again for it. -/

namespace Sys2Proof.Machine

/-! ### Effects -/

/-- The kinds of effect of an operation: a notice told, or a change of one part of the state. -/
inductive Effect where
  | tell (n : Notice)
  /-- the need presented to the SHU -/
  | need
  /-- a recomputation of the SHU -/
  | recompute
  /-- the applied allowance -/
  | applied
  /-- the count of free choices -/
  | freeChoice
  /-- the wish and class of a bay, computed afresh -/
  | wish (b : BayIx)
  /-- the charge section of a bay, as a split changes it -/
  | tune (b : BayIx)
  /-- the charge section of a bay, without bounds -/
  | enter (b : BayIx)
  /-- a write in the pending-exchange list -/
  | write (b : BayIx) (x : DockWrite)
  /-- the drop count at 0 -/
  | answered (b : BayIx)
  /-- due marks set -/
  | reads (b : BayIx)
  /-- the PROFILE read due and its timer stopped -/
  | profileNow (b : BayIx)
  /-- an OFF channel ACTIVE -/
  | channelUp (b : BayIx)
  /-- a frame placed in the transmit queue -/
  | frame (k : FrameKind)
  /-- frames withdrawn from the transmit queue -/
  | withdraw
  /-- a release started -/
  | release (b : BayIx)
  /-- a release that waits for a lane -/
  | pend (b : BayIx)
  /-- a claim removed -/
  | claim (b : BayIx)
  /-- a slot's own answer NONE -/
  | slot
  /-- a loan closed -/
  | loan
  /-- the provisioning queue and the streak -/
  | items
  /-- the session of a lane machine -/
  | lane
  /-- the provisioning section of a bay, its switch as it was or open -/
  | prov (b : BayIx)
  /-- the provisioning section of a bay, without bounds -/
  | switch (b : BayIx)
  /-- the counters of a bay but its sessions -/
  | count (b : BayIx)
  /-- the counters of a bay, without bounds -/
  | session (b : BayIx)
  /-- the sideband channel of a bay, without bounds -/
  | channel (b : BayIx)
  /-- the tablet view of a bay -/
  | view (b : BayIx)
  /-- the door section of a bay, without bounds -/
  | door (b : BayIx)
  /-- the attributes of a bay -/
  | attrs (b : BayIx)
  /-- the present flag of a bay -/
  | present (b : BayIx)
  /-- the claim of a bay, where it has one or no lane machine is at work -/
  | claimed (b : BayIx)
  /-- the frame in a block's hand -/
  | hand
  /-- the slots, without bounds -/
  | slots
  /-- a loan recorded, or loans overdue -/
  | loans
  /-- the PVS, without bounds -/
  | lanes
  /-- the count of answered queries -/
  | answers
  /-- the flags and counters of the LKC -/
  | flags
  /-- the timers and flags of the PMN -/
  | monitor
  /-- a peer entry -/
  | peer
  /-- the draw, the guard, the history and the timers of the SHU -/
  | share
  /-- the next measurement -/
  | meter
  /-- the LKC's record, without bounds -/
  | link
  /-- the credential table and the minute counter -/
  | tables
  /-- the clock -/
  | time

/-- R59, R60: the states that a managed bay moves to, by the battery of its view. -/
def State.movesTo (s : State) (b : BayIx) : ChargeState → Prop
  | .thermal => (s.bay b).view.battery.any (batteryHot s.cfl.config) = true
  | .maintain => (s.bay b).view.battery.any (batteryHot s.cfl.config) = false ∧ (s.bay b).view.battery.any batteryFull = true
  | .charging | .held =>
    (s.bay b).charge.state ≠ .maintain ∨ (s.bay b).view.battery.any (fun z => !batteryFull z) = true
  | _ => False

/-- What a split can make of the charge section of a bay. -/
structure Tuned (s : State) (b : BayIx) (c : Charge) : Prop where
  state : c.state = (s.bay b).charge.state ∨
    managed (s.bay b).charge.state = true ∧ (managed c.state = true ∨ c.state = .thermal)
  granted : c.grant = (s.bay b).charge.grant ∧ c.limit = (s.bay b).charge.limit ∨
    takesPart (s.bay b).charge.state = true ∨ c.grant = 0 ∧ c.limit = 0
  wished : c.wish = (s.bay b).charge.wish ∨ c.wish = s.wishOf b
  voltage : c.voltage = (s.bay b).charge.voltage ∨ managed (s.bay b).charge.state = true
  timers : c.identTimer = (s.bay b).charge.identTimer ∧ c.unmanagedTimer = (s.bay b).charge.unmanagedTimer ∧
    c.stage = (s.bay b).charge.stage
  watches : (c.overdraw = (s.bay b).charge.overdraw ∨ c.overdraw = 0) ∧
    (c.shortHold = (s.bay b).charge.shortHold ∨ c.shortHold = none)
  counted : takesPart c.state = true ∨ c.state = (s.bay b).charge.state → c.overdraw = (s.bay b).charge.overdraw
  moved : c.state = (s.bay b).charge.state ∨ s.movesTo b c.state
  asked : c.voltage = (s.bay b).charge.voltage ∨ c.voltage = requestedVoltage (s.bay b).view

/-- The LKC's record after a frame has been placed (R16): where that discards a frame, with TX_DROPPED and its count. -/
def Lkc.placed (f : TxFrame) (l : Lkc) : Lkc :=
  match (placeInQueue f l.queue).2 with
  | none => { l with queue := (placeInQueue f l.queue).1 }
  | some _ =>
    { l.flagged (flagBit .txDropped) with
      queue := (placeInQueue f l.queue).1, counters := { l.counters with dropped := l.counters.dropped + 1 } }

/-- The change that each kind of effect makes. -/
inductive Change : Effect → State → State → Prop where
  | need {s : State} (n : Nat) : Change .need s { s with shu := { s.shu with need := n } }
  | recompute {s : State} : Change .recompute s (recomputed s)
  | applied {s : State} : Change .applied s { s with bcc := { s.bcc with applied := s.shu.allowance } }
  | freeChoice {s : State} : Change .freeChoice s { s with freeCount := s.freeCount + 1 }
  | wish {s : State} {b : BayIx} :
      Change (.wish b) s (s.modCharge b fun c => { c with wish := s.wishOf b, cls := s.classOf b })
  | tune {s : State} {b : BayIx} (c : Charge) : Tuned s b c → Change (.tune b) s (s.modCharge b fun _ => c)
  | enter {s : State} {b : BayIx} (c : Charge) : Change (.enter b) s (s.modCharge b fun _ => c)
  | write {s : State} {b : BayIx} (x : DockWrite) : (s.bay b).channel.state = .active →
      (∀ g, x = .chargeLimit g → g = (s.bay b).charge.grant) →
      Change (.write b x) s (s.modChannel b fun c => addPending c x)
  | answered {s : State} {b : BayIx} : Change (.answered b) s (s.modChannel b fun c => { c with drops := 0 })
  | reads {s : State} {b : BayIx} (rs : List DockRegister) : Change (.reads b) s (requestReads b rs s)
  | profileNow {s : State} {b : BayIx} : (s.bay b).channel.state = .active →
      Change (.profileNow b) s (profileAtOnce b s)
  | channelUp {s : State} {b : BayIx} : (s.bay b).channel.state = .off →
      Change (.channelUp b) s (s.modChannel b fun c => { c with state := .active })
  | frame {s : State} (f : TxFrame) : f.bid < 4096 → f.inTransmission = false → f.kind ≠ .heartbeat →
      Change (.frame f.kind) s (s.modLkc (Lkc.placed f))
  | withdraw {s : State} (which : TxFrame → Bool) :
      Change .withdraw s (s.modLkc fun l => { l with queue := withdrawFrames which l.queue })
  | release {s : State} {b : BayIx} (r : ReleaseRecord) :
      (s.bay b).door.state = .secure ∨ (s.bay b).door.pendingLane = true →
      Change (.release b) s (startRelease b r (startWork s)).st
  | pend {s : State} {b : BayIx} (r : ReleaseRecord) : releaseBusy s b = false →
      Change (.pend b) s (s.modDoor b fun d => { d with release := some r, pendingLane := true })
  | claim {s : State} {b : BayIx} : Change (.claim b) s (s.modBay b fun x => { x with claim := none })
  | slot {s : State} (r : Reader) (x : PresentationSlot) : s.slot r = some x →
      Change .slot s (s.setSlot r (some { x with own := .none }))
  | loan {s : State} (asset : Word32) :
      Change .loan s (s.modCsu fun c => { c with loans := closeLoan asset c.loans })
  | items {s : State} (queue : List QueueItem) (streak : Nat) :
      Change .items s (s.modPvs fun p => { p with queue := queue, streak := streak })
  | lane {s : State} (n : LaneIx) (x : Option LaneSession) : Change .lane s (s.setLane n x)
  | prov {s : State} {b : BayIx} (p : Prov) : p.switch = (s.bay b).prov.switch ∨ p.switch = none →
      Change (.prov b) s (s.modProv b fun _ => p)
  | switch {s : State} {b : BayIx} (p : Prov) : Change (.switch b) s (s.modProv b fun _ => p)
  | count {s : State} {b : BayIx} (k : BayCounters) : k.sessions = (s.bay b).counters.sessions →
      Change (.count b) s (s.modCounters b fun _ => k)
  | session {s : State} {b : BayIx} (k : BayCounters) : Change (.session b) s (s.modCounters b fun _ => k)
  | channel {s : State} {b : BayIx} (c : Channel) : Change (.channel b) s (s.modChannel b fun _ => c)
  | view {s : State} {b : BayIx} (v : TabletView) : Change (.view b) s (s.modView b fun _ => v)
  | door {s : State} {b : BayIx} (d : Door) : Change (.door b) s (s.modDoor b fun _ => d)
  | attrs {s : State} {b : BayIx} (a : BayAttrs) : Change (.attrs b) s (s.modBay b fun x => { x with attrs := a })
  | present {s : State} {b : BayIx} (p : Bool) : Change (.present b) s (s.modBay b fun x => { x with present := p })
  | claimed {s : State} {b : BayIx} (c : Option PendingClaim) :
      (s.bay b).claim.isSome = true ∨ s.laneWorking b = false →
      Change (.claimed b) s (s.modBay b fun x => { x with claim := c })
  | hand {s : State} (x : Option RxFrame) (k : Block) : (k = .pmn → x = none ∨ s.lkc.received ≠ []) →
      Change .hand s (s.setHand x k)
  | slots {s : State} (r : Reader) (x : Option PresentationSlot) : Change .slots s (s.setSlot r x)
  | recorded {s : State} (l : Loan) : (closeLoan l.asset s.csu.loans).length < loanCapacity →
      Change .loans s (s.modCsu fun c => { c with loans := insertLoan l (closeLoan l.asset c.loans) })
  | overdue {s : State} (which : Loan → Bool) :
      Change .loans s (s.modCsu fun c =>
        { c with loans := c.loans.map fun l => if which l then { l with state := .overdue } else l })
  | lanes {s : State} (p : Pvs) : Change .lanes s (s.modPvs fun _ => p)
  | answers {s : State} (n : Word32) : Change .answers s { s with rpu := { s.rpu with answered := n } }
  | flags {s : State} (errors carried renewal : Word16) (k : LinkCounters) :
      Change .flags s (s.modLkc fun l =>
        { l with errors := errors, carried := carried, renewal := renewal, counters := k })
  | monitor {s : State} (m : Pmn) : m.peers = s.pmn.peers → Change .monitor s (s.modPmn fun _ => m)
  | peer {s : State} (a : Addr) (p : Option Peer) : Change .peer s (s.setPeer a p)
  | share {s : State} (u : Shu) :
      (u.allowance = s.shu.allowance ∧ u.settled = s.shu.settled ∧ u.floor = s.shu.floor ∧
        u.available = s.shu.available) → Change .share s (s.modShu fun _ => u)
  | meter {s : State} (t : Option Nat) : Change .meter s { s with bcc := { s.bcc with measureTimer := t } }
  | link {s : State} (l : Lkc) : Change .link s (s.modLkc fun _ => l)
  | tables {s : State} (minute timer : Nat) (credentials : List CredentialEntry) :
      Change .tables s (s.modCsu fun c =>
        { c with minute := minute, minuteTimer := timer, credentials := credentials })
  | time {s : State} (t : Nat) : Change .time s (s.advanceTo t)

/-- One effect of an operation, of the kinds in `can`. -/
inductive Act (can : Set Effect) : Work → Work → Prop where
  | tell {w : Work} {n : Notice} : .tell n ∈ can → Act can w (w.raise n)
  | change {w : Work} {e : Effect} {t : State} : e ∈ can → Change e w.st t → Act can w { w with st := t }

/-- Any number of effects of the kinds in `can`, one after another. -/
def Acts (can : Set Effect) : Work → Work → Prop := Relation.ReflTransGen (Act can)

section
variable {can also : Set Effect} {u v w : Work}

theorem Acts.refl : Acts can w w := Relation.ReflTransGen.refl

theorem Acts.trans (h : Acts can u v) (h' : Acts can v w) : Acts can u w := Relation.ReflTransGen.trans h h'

theorem Acts.mono (h : Acts can u v) (more : can ⊆ also) : Acts also u v := by
  induction h with
  | refl => exact .refl
  | tail _ act ih =>
    refine ih.tail ?_
    cases act with
    | tell may => exact .tell (more may)
    | change may changed => exact .change (more may) changed

theorem Acts.tell {n : Notice} (h : Acts can u v) (may : .tell n ∈ can) : Acts can u (v.raise n) :=
  Relation.ReflTransGen.tail h (.tell may)

theorem Acts.tellIf {n : Notice} {c : Bool} (h : Acts can u v) (may : .tell n ∈ can) :
    Acts can u (v.raiseIf c n) := by
  cases c
  · exact h
  · exact h.tell may

theorem Acts.change {e : Effect} {f : State → State} (h : Acts can u v) (may : e ∈ can)
    (changed : Change e v.st (f v.st)) : Acts can u (v.upd f) :=
  Relation.ReflTransGen.tail h (.change may changed)

/-- One change. -/
theorem Acts.once {e : Effect} {t : State} (may : e ∈ can) (changed : Change e w.st t) :
    Acts can w { w with st := t } := Relation.ReflTransGen.single (.change may changed)

theorem Acts.forEach {α : Type} {f : α → Work → Work} (each : ∀ x w, Acts can w (f x w)) (xs : List α) (w : Work) :
    Acts can w (forEach xs f w) := by
  induction xs generalizing w with
  | nil => exact .refl
  | cons x xs ih => exact (each x w).trans (ih (f x w))

/-- What every effect of an operation keeps, the operation keeps. -/
theorem Acts.keeps {P : State → Prop} (h : Acts can u v)
    (each : ∀ e ∈ can, ∀ s t : State, Change e s t → P s → P t) (holds : P u.st) : P v.st := by
  induction h with
  | refl => exact holds
  | tail _ act ih =>
    cases act with
    | tell _ => exact ih
    | change may changed => exact each _ may _ _ changed ih

/-- The notices an operation adds are of those it may tell. -/
theorem Acts.told (h : Acts can u v) : ∀ n ∈ v.todo, n ∈ u.todo ∨ .tell n ∈ can := by
  induction h with
  | refl => exact fun n told => .inl told
  | tail _ act ih =>
    cases act with
    | tell may =>
      intro n told
      rcases List.mem_append.1 told with earlier | now
      · exact ih n earlier
      · rw [List.mem_singleton.1 now]
        exact .inr may
    | change _ _ => exact ih

end

end Sys2Proof.Machine
end

section
/-! The effects of the operations of the SHU, the SBC, the BCC and the LKC that notices use. -/

namespace Sys2Proof.Machine

section
variable {can : Set Effect} {w : Work} {b : BayIx}

/-! ### Share Unit and transmit queue -/

/-- The effects of a frame placed in the transmit queue (R16). -/
def placing (k : FrameKind) : Set Effect := {e | e = .frame k ∨ ∃ f, e = .tell (.discarded f)}

/-- R16: placing a frame, as one change of the LKC's record and at most one discard notice. -/
theorem place_eq (f : TxFrame) (w : Work) :
    place f w =
      { st := w.st.modLkc (Lkc.placed f),
        todo := w.todo ++ ((placeInQueue f w.st.lkc.queue).2.map Notice.discarded).toList } := by
  cases victim : (placeInQueue f w.st.lkc.queue).2 with
  | none => simp [place, victim, Lkc.placed, Work.upd, State.modLkc]
  | some g =>
    simp [place, victim, Lkc.placed, dropFrame, Work.upd, Work.raise, State.modLkc, State.countLink, State.setFlag,
      Lkc.setFlag, Lkc.flagged]

theorem place_acts (f : TxFrame) (bid : f.bid < 4096) (idle : f.inTransmission = false) (other : f.kind ≠ .heartbeat)
    (h : placing f.kind ⊆ can) : Acts can w (place f w) := by
  have placed : Acts can w (w.upd fun s => s.modLkc (Lkc.placed f)) :=
    Acts.refl.change (h (.inl rfl)) (.frame f bid idle other)
  rw [place_eq]
  cases (placeInQueue f w.st.lkc.queue).2 with
  | none => simpa [Work.upd] using placed
  | some g => exact placed.tell (h (.inr ⟨g, rfl⟩))

theorem placeEvent_acts (code : Nat) (bay : Byte) (word : Word32) (value : Nat) (k : Block)
    (small : code < 16) (h : placing .event ⊆ can) : Acts can w (placeEvent code bay word value k w) :=
  place_acts _ (by simp only [eventFrame, newFrame]; omega) rfl nofun h

theorem presentNeed_acts (need : Nat) (h : {.need, .tell .recompute} ⊆ can) : Acts can w (presentNeed need w) :=
  (Acts.refl.change (h (by simp)) (.need need)).tellIf (h (by simp))

theorem recompute_acts (h : {.recompute, .tell .split} ⊆ can) : Acts can w (recompute w) :=
  (Acts.refl.change (h (by simp)) .recompute).tellIf (h (by simp))

/-! ### Sideband Commander -/

/-- The register of a write. -/
def DockWrite.register : DockWrite → DockRegister
  | .custody _ => .custody
  | .provControl _ => .provControl
  | .chargeLimit _ => .chargeLimit

/-- The effects of a write request of a register (R92). -/
def writing (r : DockRegister) (b : BayIx) : Set Effect :=
  {e | e = .answered b ∨ ∃ x : DockWrite, x.register = r ∧ (e = .write b x ∨ ∃ o, e = .tell (.writeEnded b x o))}

theorem pendingSame_register {c : Channel} {x old : DockWrite} (h : pendingSame c x = some old) :
    old.register = x.register := by
  cases x <;> simp only [pendingSame, Option.map_eq_some_iff] at h <;> obtain ⟨v, -, rfl⟩ := h <;> rfl

theorem requestWrite_acts (x : DockWrite) (limit : ∀ g, x = .chargeLimit g → g = (w.st.bay b).charge.grant)
    (h : writing x.register b ⊆ can) : Acts can w (requestWrite b x w) := by
  have ended : ∀ y o, y.register = x.register → .tell (.writeEnded b y o) ∈ can :=
    fun y o same => h (.inr ⟨y, same, .inr ⟨o, rfl⟩⟩)
  simp only [requestWrite]
  split
  · exact Acts.refl.tell (ended x _ rfl)
  · next active =>
    split
    · exact (Acts.refl.change (h (.inl rfl)) .answered).tell (ended x _ rfl)
    · have written : Acts can w (w.upd fun s => s.modChannel b fun c => addPending c x) :=
        Acts.refl.change (h (.inr ⟨x, rfl, .inl rfl⟩)) (.write x (by simpa using active) limit)
      split
      · next old pending => exact written.tell (ended old _ (pendingSame_register pending))
      · exact written

theorem requestReads_acts (rs : List DockRegister) (h : .reads b ∈ can) : Acts can w (w.upd (requestReads b rs)) :=
  Acts.refl.change h (.reads rs)

/-- The effects of an identification request (R95). -/
def identifying (b : BayIx) : Set Effect :=
  {.reads b, .answered b, .channelUp b, .tell (.channelChanged b .active)}

theorem requestIdentification_acts (h : identifying b ⊆ can) : Acts can w (requestIdentification b w) := by
  unfold requestIdentification
  dsimp only
  split
  · next off =>
    have off : (w.st.bay b).channel.state = .off := by simpa using off
    refine Acts.trans ?_ (requestReads_acts _ (h (by simp [identifying])))
    have reset : Acts can w (w.upd fun s => s.modChannel b fun c => { c with drops := 0 }) :=
      Acts.refl.change (h (by simp [identifying])) .answered
    have still : ((w.upd fun s => s.modChannel b fun c => { c with drops := 0 }).st.bay b).channel.state = .off := by
      simpa [State.modChannel] using off
    unfold setChannelState
    split
    · exact reset
    · exact (reset.change (h (by simp [identifying])) (.channelUp still)).tell (h (by simp [identifying]))
  · exact requestReads_acts _ (h (by simp [identifying]))

/-! ### Bay Charge Controller -/

/-- The effects of a wish and class computed afresh (R64, R65). -/
def refreshing (b : BayIx) : Set Effect := {.wish b, .need, .tell .recompute, .tell .split}

theorem refreshWish_acts (h : refreshing b ⊆ can) : Acts can w (refreshWish b w) := by
  have tuned : Acts can w (w.upd fun s => s.modCharge b fun c =>
      { c with wish := w.st.wishOf b, cls := w.st.classOf b }) :=
    Acts.refl.change (h (by simp [refreshing])) .wish
  unfold refreshWish
  refine Acts.tellIf ?_ (h (by simp [refreshing]))
  split
  · exact tuned
  · refine tuned.trans (presentNeed_acts _ fun e among => h ?_)
    rcases among with rfl | rfl <;> simp [refreshing]

theorem requestLimit_acts (h : writing .chargeLimit b ⊆ can) : Acts can w (requestLimit b w) := by
  unfold requestLimit
  dsimp only
  split
  · exact requestWrite_acts _ (fun g same => by cases same; rfl) h
  · exact .refl

/-- The effects of the operations of the BCC at one bay. -/
def charging (b : BayIx) : Set Effect :=
  {.enter b, .tell (.chargeChanged b)} ∪ refreshing b ∪ identifying b ∪ writing .chargeLimit b

theorem refreshing_charging : refreshing b ⊆ charging b := fun _ h => .inl (.inl (.inr h))
theorem identifying_charging : identifying b ⊆ charging b := fun _ h => .inl (.inr h)
theorem limiting_charging : writing .chargeLimit b ⊆ charging b := fun _ h => .inr h
theorem enter_charging : .enter b ∈ charging b := .inl (.inl (.inl (.inl rfl)))
theorem changed_charging : .tell (.chargeChanged b) ∈ charging b := .inl (.inl (.inl (.inr rfl)))
theorem split_charging : .tell .split ∈ charging b := refreshing_charging (by simp [refreshing])

section
variable (h : charging b ⊆ can)
include h

theorem modCharge_acts (f : State → Charge → Charge) : Acts can w (w.upd fun s => s.modCharge b (f s)) :=
  Acts.refl.change (h enter_charging) (.enter _)

theorem setGrant_acts (g : Nat) : Acts can w (setGrant b g w) := by
  unfold setGrant
  split
  · exact modCharge_acts h fun _ => withGrant g
  · exact (modCharge_acts h fun _ => withGrant g).trans (requestLimit_acts (limiting_charging.trans h))

theorem moveCharge_acts (st : ChargeState) : Acts can w (moveCharge b st w) := by
  unfold moveCharge
  dsimp only
  split
  · exact .refl
  · exact ((modCharge_acts h fun _ c =>
      if takesPart st then { c with state := st } else { c with state := st, overdraw := 0, shortHold := none }).tell
        (h changed_charging)).tellIf (h split_charging)

theorem refreshed_acts : Acts can w (refreshWish b w) := refreshWish_acts (refreshing_charging.trans h)

theorem limited_acts : Acts can w (requestLimit b w) := requestLimit_acts (limiting_charging.trans h)

/-- The shape of most entries into a charge state: the move, the grant 0, and one more change of the charge section. -/
theorem moveGrantCharge_acts (st : ChargeState) (f : State → Charge → Charge) :
    Acts can w ((setGrant b 0 (moveCharge b st w)).upd fun s => s.modCharge b (f s)) :=
  ((moveCharge_acts h st).trans (setGrant_acts h 0)).trans (modCharge_acts h f)

theorem enterIdentifying_acts (identRead : Bool) : Acts can w (enterIdentifying b identRead w) := by
  unfold enterIdentifying
  dsimp only
  have entered := (moveGrantCharge_acts (w := w) h .identifying fun s c =>
    { c with
      identTimer := some (s.now + identificationTime), unmanagedTimer := none,
      stage := if identRead then .awaitBattery else .awaitIdent }).trans (refreshed_acts h)
  cases identRead
  · exact entered.trans (requestIdentification_acts (identifying_charging.trans h))
  · exact entered.trans (requestReads_acts _ (h (identifying_charging (by simp [identifying]))))

theorem enterVacant_acts : Acts can w (enterVacant b w) :=
  ((moveGrantCharge_acts h .vacant fun _ _ => _).trans (refreshed_acts h)).tell (h split_charging)

theorem enterUnmanaged_acts : Acts can w (enterUnmanaged b w) :=
  ((moveGrantCharge_acts h .unmanaged fun _ _ => _).trans (refreshed_acts h)).tell (h split_charging)

theorem enterThermal_acts : Acts can w (enterThermal b w) :=
  (((moveCharge_acts h .thermal).trans (modCharge_acts h fun _ => withGrant 0)).trans
    ((limited_acts h).trans (refreshed_acts h))).tell (h split_charging)

theorem enterOutOfService_acts : Acts can w (enterOutOfService b w) :=
  ((moveGrantCharge_acts h .outOfService fun _ _ => _).trans (refreshed_acts h)).tell (h split_charging)

theorem serviceChanged_acts : Acts can w (serviceChanged b w) := by
  unfold serviceChanged leaveOutOfService
  split
  · exact enterOutOfService_acts h
  · split
    · split
      · exact enterIdentifying_acts h false
      · exact enterVacant_acts h
    · exact .refl

theorem heldMoves_acts : Acts can w (heldMoves b w) := by
  unfold heldMoves
  dsimp only
  split
  · split <;> [exact moveCharge_acts h _; exact .refl]
  · split <;> [exact moveCharge_acts h _; exact .refl]
  all_goals exact .refl

theorem managedMoves_acts : Acts can w (managedMoves b w) := by
  unfold managedMoves
  dsimp only
  split
  · exact .refl
  · split
    · exact enterThermal_acts h
    · refine Acts.trans ?_ ((refreshed_acts h).trans (heldMoves_acts h))
      split
      · exact .refl
      · split
        · split <;> [exact .refl; exact moveCharge_acts h _]
        · split <;> [exact moveCharge_acts h _; exact .refl]

theorem takeVoltage_acts : Acts can w (takeVoltage b w) := by
  unfold takeVoltage
  dsimp only
  split
  · exact (modCharge_acts h fun _ _ => _).tell (h split_charging)
  · exact .refl

theorem leaveThermal_acts : Acts can w (leaveThermal b w) := by
  unfold leaveThermal
  split
  · exact .refl
  · split <;> [exact (moveCharge_acts h _).trans (refreshed_acts h); exact .refl]

theorem chargeChannel_acts (st : ChannelState) : Acts can w (chargeChannel b st w) := by
  have silenced : Acts can w (match (w.st.bay b).charge.state with
      | .identifying | .charging | .held | .maintain => enterUnmanaged b w
      | .unmanaged => w.upd fun s => s.modCharge b fun c => { c with unmanagedTimer := none }
      | .vacant | .thermal | .fault | .outOfService => w) := by
    cases (w.st.bay b).charge.state
    case unmanaged => exact modCharge_acts h fun _ c => { c with unmanagedTimer := none }
    case vacant | thermal | fault | outOfService => exact .refl
    all_goals exact enterUnmanaged_acts h
  cases st
  case off | active => exact .refl
  all_goals exact silenced

end

/-- The effects of a reading at the BCC: identification counts a session (R58). -/
def chargeReads (b : BayIx) : Set Effect := {.session b} ∪ charging b

section
variable (h : chargeReads b ⊆ can)
include h

theorem identifyAs_acts (st : ChargeState) : Acts can w (identifyAs b st w) := by
  have charged : charging b ⊆ can := fun _ among => h (.inr among)
  unfold identifyAs
  dsimp only
  have counted : Acts can w (w.upd fun s =>
      (s.modCharge b (identifiedCharge (s.bay b).view)).modCounters b (countSession st)) :=
    (modCharge_acts (w := w) charged fun s => identifiedCharge (s.bay b).view).change
      (f := fun s => s.modCounters b (countSession st)) (h (.inl rfl)) (.session _)
  have moved := counted.trans (moveCharge_acts charged st)
  refine (Acts.trans ?_ (refreshed_acts charged)).tell (charged split_charging)
  split <;> [exact moved.trans (limited_acts charged); exact moved]

theorem identificationRead_acts (r : DockRegister) : Acts can w (identificationRead b r w) := by
  have charged : charging b ⊆ can := fun _ among => h (.inr among)
  unfold identificationRead
  dsimp only
  split
  · exact modCharge_acts charged fun _ _ => _
  · split
    · exact modCharge_acts charged fun _ _ => _
    · split <;> [exact identifyAs_acts h _; exact .refl]

theorem chargeReading_acts (r : DockRegister) : Acts can w (chargeReading b r w) := by
  have charged : charging b ⊆ can := fun _ among => h (.inr among)
  have managedRead : Acts can w (managedReading b r w) := by
    cases r
    case ident => exact refreshed_acts charged
    case battery => exact managedMoves_acts charged
    case chargeRequest => exact (takeVoltage_acts charged).trans (managedMoves_acts charged)
    all_goals exact .refl
  have thermalRead : Acts can w (thermalReading b r w) := by
    cases r
    case ident => exact enterIdentifying_acts charged true
    case battery => exact leaveThermal_acts charged
    case chargeRequest => exact takeVoltage_acts charged
    all_goals exact .refl
  have unmanagedRead : Acts can w (unmanagedReading b r w) := by
    cases r
    case ident => exact enterIdentifying_acts charged true
    all_goals exact refreshed_acts charged
  have restingRead : Acts can w (restingReading b r w) := by
    cases r
    case chargeRequest => exact takeVoltage_acts charged
    all_goals exact refreshed_acts charged
  unfold chargeReading
  cases (w.st.bay b).charge.state
  case vacant => exact .refl
  case identifying => exact identificationRead_acts h r
  case thermal => exact thermalRead
  case unmanaged => exact unmanagedRead
  case fault | outOfService => exact restingRead
  all_goals exact managedRead

end

end

end Sys2Proof.Machine
end

section
/-! What the operations of the BCC and the SBC make of the charge sections, bay by bay. -/

namespace Sys2Proof.Machine

section
variable (s : State) (b c : BayIx)

/-! ### One section of one bay -/

/-- Reading a bay after a bay has been rewritten, in terms of the bay that is read. -/
theorem State.bay_modBay_at (f : Bay → Bay) : (s.modBay b f).bay c = if c = b then f (s.bay c) else s.bay c := by
  rw [State.bay_modBay]
  split
  · next same => rw [same]
  · rfl

/-- What a rewriting of a bay leaves of every bay. -/
theorem State.read_modBay {α : Type} (p : Bay → α) {f : Bay → Bay} (h : ∀ x, p (f x) = p x) :
    p ((s.modBay b f).bay c) = p (s.bay c) := by
  rw [State.bay_modBay_at]
  split
  · exact h _
  · rfl

@[simp] theorem State.charge_modCharge (f : Charge → Charge) :
    ((s.modCharge b f).bay c).charge = if c = b then f (s.bay c).charge else (s.bay c).charge := by
  rw [State.modCharge, State.bay_modBay_at]
  split <;> rfl

@[simp] theorem State.charge_modChannel (f : Channel → Channel) :
    ((s.modChannel b f).bay c).charge = (s.bay c).charge := s.read_modBay b c (·.charge) fun _ => rfl

@[simp] theorem State.charge_modCounters (f : BayCounters → BayCounters) :
    ((s.modCounters b f).bay c).charge = (s.bay c).charge := s.read_modBay b c (·.charge) fun _ => rfl

@[simp] theorem State.channel_modCharge (f : Charge → Charge) :
    ((s.modCharge b f).bay c).channel = (s.bay c).channel := s.read_modBay b c (·.channel) fun _ => rfl

@[simp] theorem State.channel_modCounters (f : BayCounters → BayCounters) :
    ((s.modCounters b f).bay c).channel = (s.bay c).channel := s.read_modBay b c (·.channel) fun _ => rfl

@[simp] theorem State.channel_modChannel (f : Channel → Channel) :
    ((s.modChannel b f).bay c).channel = if c = b then f (s.bay c).channel else (s.bay c).channel := by
  rw [State.modChannel, State.bay_modBay_at]
  split <;> rfl

end

/-! ### The operations -/

section
variable (b c : BayIx) (w : Work)

@[simp] theorem presentNeed_bay (need : Nat) : (presentNeed need w).st.bay c = w.st.bay c := by
  simp only [presentNeed, Work.raiseIf_st]
  rfl

@[simp] theorem requestWrite_charge (x : DockWrite) :
    ((requestWrite b x w).st.bay c).charge = (w.st.bay c).charge := by
  simp only [requestWrite]
  split
  · rfl
  · split
    · exact State.charge_modChannel ..
    · split <;> exact State.charge_modChannel ..

@[simp] theorem requestLimit_charge : ((requestLimit b w).st.bay c).charge = (w.st.bay c).charge := by
  simp only [requestLimit]
  split
  · exact requestWrite_charge ..
  · rfl

@[simp] theorem requestReads_charge (rs : List DockRegister) (s : State) :
    ((requestReads b rs s).bay c).charge = (s.bay c).charge := by
  simp only [requestReads]
  split <;> simp

@[simp] theorem setChannelState_charge (st : ChannelState) :
    ((setChannelState b st w).st.bay c).charge = (w.st.bay c).charge := by
  simp only [setChannelState]
  split <;> simp

@[simp] theorem requestIdentification_charge :
    ((requestIdentification b w).st.bay c).charge = (w.st.bay c).charge := by
  simp only [requestIdentification, Work.upd_st, requestReads_charge]
  split <;> simp

/-- R64, R65: a wish and class computed afresh. -/
theorem refreshWish_charge : ((refreshWish b w).st.bay c).charge =
    if c = b then { (w.st.bay c).charge with wish := w.st.wishOf b, cls := w.st.classOf b }
    else (w.st.bay c).charge := by
  simp only [refreshWish, Work.raiseIf_st]
  split <;> simp

theorem setGrant_charge (g : Nat) : ((setGrant b g w).st.bay c).charge =
    if c = b then withGrant g (w.st.bay c).charge else (w.st.bay c).charge := by
  simp only [setGrant]
  split <;> simp

/-- The charge section that a move to a charge state leaves. -/
def Charge.moved (st : ChargeState) (c : Charge) : Charge :=
  if c.state = st then c
  else if takesPart st then { c with state := st }
  else { c with state := st, overdraw := 0, shortHold := none }

theorem moveCharge_charge (st : ChargeState) : ((moveCharge b st w).st.bay c).charge =
    if c = b then (w.st.bay c).charge.moved st else (w.st.bay c).charge := by
  by_cases same : c = b
  · subst same
    by_cases at_st : (w.st.bay c).charge.state = st
    · simp [moveCharge, Charge.moved, at_st]
    · simp [moveCharge, Charge.moved, at_st]
  · simp only [moveCharge]
    split <;> simp [same]

theorem takeVoltage_charge : ((takeVoltage b w).st.bay c).charge =
    if c = b ∧ (w.st.bay c).charge.grant = 0 then
      { (w.st.bay c).charge with voltage := requestedVoltage (w.st.bay c).view }
    else (w.st.bay c).charge := by
  by_cases same : c = b
  · subst same
    by_cases none : (w.st.bay c).charge.grant = 0
    · by_cases voltage : requestedVoltage (w.st.bay c).view = (w.st.bay c).charge.voltage
      · rw [if_pos ⟨rfl, none⟩, voltage]
        simp only [takeVoltage, voltage, ne_eq, not_true, and_false, if_false]
      · simp [takeVoltage, none, voltage]
    · simp [takeVoltage, none]
  · simp only [takeVoltage]
    split <;> simp [same]

@[simp] theorem Charge.moved_state (st : ChargeState) (c : Charge) : (c.moved st).state = st := by
  simp only [Charge.moved]
  split
  · next same => exact same
  · split <;> rfl

/-- What a move leaves of a charge section. -/
theorem Charge.moved_eq (st : ChargeState) (c : Charge) :
    c.moved st = { c with
      state := st, overdraw := (c.moved st).overdraw, shortHold := (c.moved st).shortHold } := by
  simp only [Charge.moved]
  split
  · next same => rw [← same]
  · split <;> rfl

end

end Sys2Proof.Machine
end

section
/-! The grants of a split (R67, R68): which bays get them, what they are together, and how small one can be. -/

namespace Sys2Proof.Machine

/-! ### Bays, classes and wishes stay -/

/-- What a split reads of a bay. -/
def SplitBay.key (x : SplitBay) : BayIx × Nat × Nat := (x.bay, x.cls, x.wish)

/-- What the bays of a list are given together. -/
def grantsOf (xs : List SplitBay) : Nat := (xs.map fun x => x.grant).sum

@[simp] theorem grantsOf_nil : grantsOf [] = 0 := rfl

@[simp] theorem grantsOf_cons (x : SplitBay) (xs : List SplitBay) : grantsOf (x :: xs) = x.grant + grantsOf xs := by
  simp [grantsOf]

@[simp] theorem grantsOf_append (xs ys : List SplitBay) : grantsOf (xs ++ ys) = grantsOf xs + grantsOf ys := by
  simp [grantsOf]

/-- How a pass changes one bay: nothing that the split reads, and its grant upwards to at most its wish. -/
structure SplitBay.Raised (x y : SplitBay) : Prop where
  key : y.key = x.key
  up : x.grant ≤ y.grant
  most : y.grant ≤ x.grant ∨ y.grant ≤ x.wish
  closed : openBay x = false → y.grant = x.grant

theorem SplitBay.Raised.refl (x : SplitBay) : x.Raised x := ⟨rfl, le_rfl, .inl le_rfl, fun _ => rfl⟩

theorem keys_of_raised {xs ys : List SplitBay} (h : List.Forall₂ SplitBay.Raised xs ys) :
    ys.map SplitBay.key = xs.map SplitBay.key := by
  induction h with
  | nil => rfl
  | cons raised _ ih => simp [raised.key, ih]

theorem openBay_iff {x : SplitBay} : openBay x = true ↔ x.grant ≠ 0 ∧ x.grant < x.wish := by
  simp [openBay]

/-! ### The first pass -/

theorem firstPass_cons (bayMin rem : Nat) (x : SplitBay) (xs : List SplitBay) :
    firstPass bayMin rem (x :: xs) =
      let g := if min x.wish bayMin ≤ rem then min x.wish bayMin else 0
      ((firstPass bayMin (rem - g) xs).1, { x with grant := g } :: (firstPass bayMin (rem - g) xs).2) := by
  simp only [firstPass]
  split <;> rfl

theorem firstPass_keys (bayMin rem : Nat) (xs : List SplitBay) :
    (firstPass bayMin rem xs).2.map SplitBay.key = xs.map SplitBay.key := by
  induction xs generalizing rem with
  | nil => rfl
  | cons x xs ih =>
    rw [firstPass_cons]
    simp [ih, SplitBay.key]

/-- R67: what the first pass gives and what it leaves are the allowance. -/
theorem firstPass_sum (bayMin rem : Nat) (xs : List SplitBay) :
    (firstPass bayMin rem xs).1 + grantsOf (firstPass bayMin rem xs).2 = rem := by
  induction xs generalizing rem with
  | nil => simp [firstPass]
  | cons x xs ih =>
    rw [firstPass_cons]
    simp only [grantsOf_cons]
    have rest := ih (rem - if min x.wish bayMin ≤ rem then min x.wish bayMin else 0)
    have most : (if min x.wish bayMin ≤ rem then min x.wish bayMin else 0) ≤ rem := by
      split <;> omega
    omega

/-- R67: each bay gets the lesser of its wish and P_min, or nothing. -/
theorem firstPass_offer (bayMin rem : Nat) (xs : List SplitBay) :
    ∀ x ∈ (firstPass bayMin rem xs).2, x.grant = min x.wish bayMin ∨ x.grant = 0 := by
  induction xs generalizing rem with
  | nil => simp [firstPass]
  | cons x xs ih =>
    rw [firstPass_cons]
    intro y among
    rcases List.mem_cons.1 among with rfl | later
    · dsimp only
      split <;> simp
    · exact ih _ y later

/-! ### The second pass for one class -/

/-- A sum over the open bays of a list. -/
def openSum (amount : SplitBay → Nat) (xs : List SplitBay) : Nat := ((xs.filter openBay).map amount).sum

theorem openSum_cons (amount : SplitBay → Nat) (x : SplitBay) (xs : List SplitBay) :
    openSum amount (x :: xs) = (if openBay x then amount x else 0) + openSum amount xs := by
  simp only [openSum, List.filter_cons]
  split <;> simp

theorem levelSum_eq (t : Nat) (xs : List SplitBay) :
    levelSum t xs = openSum (fun x => min (x.wish - x.grant) t) xs := rfl

theorem shortSum_eq (xs : List SplitBay) : shortSum xs = openSum (fun x => x.wish - x.grant) xs := rfl

/-- The open bays that a level leaves short. -/
def shortAfter (t : Nat) (xs : List SplitBay) : Nat :=
  (xs.filter fun x => openBay x && decide (t < x.wish - x.grant)).length

theorem shortAfter_cons (t : Nat) (x : SplitBay) (xs : List SplitBay) :
    shortAfter t (x :: xs) = (if openBay x = true ∧ t < x.wish - x.grant then 1 else 0) + shortAfter t xs := by
  simp only [shortAfter, List.filter_cons, Bool.and_eq_true, decide_eq_true_eq]
  split <;> simp [Nat.add_comm]

/-- R68: one more dW for each open bay takes one more for each that is still short. -/
theorem levelSum_succ (t : Nat) (xs : List SplitBay) : levelSum (t + 1) xs = levelSum t xs + shortAfter t xs := by
  induction xs with
  | nil => rfl
  | cons x xs ih =>
    simp only [levelSum_eq] at ih ⊢
    rw [openSum_cons, openSum_cons, shortAfter_cons, ih]
    split <;> split <;> simp_all <;> omega

theorem levelSum_zero (xs : List SplitBay) : levelSum 0 xs = 0 := by
  simp [levelSum]

theorem le_foldl_max {xs : List Nat} {a x : Nat} (h : x ≤ a ∨ x ∈ xs) : x ≤ xs.foldl max a := by
  induction xs generalizing a with
  | nil => simpa using h
  | cons y ys ih =>
    refine ih ?_
    rcases h with below | among
    · exact .inl (le_max_of_le_left below)
    · rcases List.mem_cons.1 among with rfl | later
      · exact .inl (le_max_right _ _)
      · exact .inr later

/-- R68: at the greatest amount an open bay lacks, none is short. -/
theorem levelSum_greatest (xs : List SplitBay) (t : Nat)
    (most : ((xs.filter openBay).map fun x => x.wish - x.grant).foldl max 0 ≤ t) : levelSum t xs = shortSum xs := by
  have bounded : ∀ x ∈ xs.filter openBay, x.wish - x.grant ≤ t := fun x among =>
    le_trans (le_foldl_max (.inr (List.mem_map_of_mem (f := fun x => x.wish - x.grant) among))) most
  simp only [levelSum, shortSum]
  congr 1
  refine List.map_congr_left fun x among => ?_
  exact min_eq_left (bounded x among)

/-- R68: a level fits, and the next one does not. -/
theorem levelOf_spec {rem : Nat} {xs : List SplitBay} (less : rem < shortSum xs) :
    levelSum (levelOf rem xs) xs ≤ rem ∧ rem < levelSum (levelOf rem xs) xs + shortAfter (levelOf rem xs) xs := by
  have fits : levelSum (levelOf rem xs) xs ≤ rem :=
    Nat.findGreatest_spec (P := fun t => levelSum t xs ≤ rem) (Nat.zero_le _) (by simp [levelSum_zero])
  refine ⟨fits, ?_⟩
  rw [← levelSum_succ]
  by_contra next
  have next : levelSum (levelOf rem xs + 1) xs ≤ rem := by omega
  by_cases bound : levelOf rem xs + 1 ≤ ((xs.filter openBay).map fun x => x.wish - x.grant).foldl max 0
  · have := Nat.le_findGreatest (P := fun t => levelSum t xs ≤ rem) bound next
    simp only [levelOf] at this
    omega
  · have full := levelSum_greatest xs (levelOf rem xs + 1) (by omega)
    omega

/-- R68: a bay that level t leaves short. -/
def leftShort (t : Nat) (x : SplitBay) : Prop := openBay x = true ∧ t < x.wish - x.grant

theorem giveLevel_cons (t left : Nat) (x : SplitBay) (xs : List SplitBay) :
    giveLevel t left (x :: xs) =
      if openBay x then
        if t < x.wish - x.grant then
          { x with grant := x.grant + t + min left 1 } :: giveLevel t (left - 1) xs
        else { x with grant := x.wish } :: giveLevel t left xs
      else x :: giveLevel t left xs := by
  rcases left with _ | left <;> simp [giveLevel]

theorem giveLevel_raised (t left : Nat) (xs : List SplitBay) :
    List.Forall₂ SplitBay.Raised xs (giveLevel t left xs) := by
  induction xs generalizing left with
  | nil => exact .nil
  | cons x xs ih =>
    rw [giveLevel_cons]
    split
    · next isOpen =>
      have less := (openBay_iff.1 isOpen).2
      have opened : ¬ openBay x = false := by simp [isOpen]
      split
      · exact .cons ⟨rfl, by dsimp only; omega, .inr (by dsimp only; omega), fun no => absurd no opened⟩ (ih _)
      · exact .cons ⟨rfl, less.le, .inr le_rfl, fun no => absurd no opened⟩ (ih _)
    · exact .cons (.refl x) (ih _)

/-- R68: a level and the leftover dW, as far as bays are short of them. -/
theorem giveLevel_sum (t left : Nat) (xs : List SplitBay) :
    grantsOf (giveLevel t left xs) = grantsOf xs + levelSum t xs + min left (shortAfter t xs) := by
  induction xs generalizing left with
  | nil => simp [giveLevel, levelSum, shortAfter]
  | cons x xs ih =>
    rw [giveLevel_cons]
    simp only [levelSum_eq] at ih ⊢
    rw [openSum_cons, shortAfter_cons]
    cases isOpen : openBay x
    · simp only [Bool.false_eq_true, if_false, grantsOf_cons, ih, false_and]
      omega
    · have less := (openBay_iff.1 isOpen).2
      by_cases short : t < x.wish - x.grant
      · simp only [short, if_true, grantsOf_cons, ih, true_and]
        omega
      · simp only [short, if_true, if_false, grantsOf_cons, ih, and_false]
        omega

/-- R68: the second pass for a class raises its open bays. -/
theorem classPass_raised (rem : Nat) (xs : List SplitBay) :
    List.Forall₂ SplitBay.Raised xs (classPass rem xs).2 := by
  unfold classPass
  split
  · rw [List.forall₂_map_right_iff, List.forall₂_same]
    intro x _
    cases isOpen : openBay x
    · exact .refl x
    · have less := (openBay_iff.1 isOpen).2
      exact ⟨rfl, less.le, .inr le_rfl, fun no => absurd (isOpen.symm.trans no) (by simp)⟩
  · exact giveLevel_raised _ _ _

theorem grantsOf_filled (xs : List SplitBay) :
    grantsOf (xs.map fun x => if openBay x then { x with grant := x.wish } else x) = grantsOf xs + shortSum xs := by
  induction xs with
  | nil => rfl
  | cons x xs ih =>
    simp only [shortSum_eq] at ih ⊢
    rw [List.map_cons, grantsOf_cons, grantsOf_cons, ih, openSum_cons]
    cases isOpen : openBay x
    · simp only [Bool.false_eq_true, if_false]
      omega
    · have less := (openBay_iff.1 isOpen).2
      simp only [if_true]
      omega

/-- R68: what the second pass for a class leaves and what it gives are what there was; it leaves nothing while a bay
stays short. -/
theorem classPass_sum (rem : Nat) (xs : List SplitBay) :
    (classPass rem xs).1 + grantsOf (classPass rem xs).2 = rem + grantsOf xs := by
  unfold classPass
  split
  · rw [grantsOf_filled]
    omega
  · next less =>
    obtain ⟨fits, next⟩ := levelOf_spec (Nat.lt_of_not_le less)
    dsimp only
    rw [giveLevel_sum]
    omega

/-! ### The whole split -/

theorem secondPass_keys (ks : List Nat) (rem : Nat) (xs : List SplitBay) :
    (secondPass ks rem xs).map SplitBay.key =
      (ks.flatMap fun k => xs.filter fun x => x.cls == k).map SplitBay.key := by
  induction ks generalizing rem with
  | nil => rfl
  | cons k ks ih => simp [secondPass, ih, keys_of_raised (classPass_raised ..)]

theorem secondPass_sum (ks : List Nat) (rem : Nat) (xs : List SplitBay) :
    grantsOf (secondPass ks rem xs) ≤ rem + grantsOf (ks.flatMap fun k => xs.filter fun x => x.cls == k) := by
  induction ks generalizing rem with
  | nil => simp [secondPass]
  | cons k ks ih =>
    have here := classPass_sum rem (xs.filter fun x => x.cls == k)
    have rest := ih (classPass rem (xs.filter fun x => x.cls == k)).1
    simp only [secondPass, grantsOf_append, List.flatMap_cons]
    omega

/-- R68: a bay after the second pass stands as raised from one of its class before it. -/
theorem secondPass_raised (ks : List Nat) (rem : Nat) (xs : List SplitBay) :
    ∀ y ∈ secondPass ks rem xs, ∃ x ∈ xs, x.Raised y := by
  induction ks generalizing rem with
  | nil => simp [secondPass]
  | cons k ks ih =>
    intro y among
    rcases List.mem_append.1 among with here | later
    · obtain ⟨i, at_i⟩ := List.mem_iff_getElem?.1 here
      have raised := classPass_raised rem (xs.filter fun x => x.cls == k)
      obtain ⟨small, get_i⟩ := List.getElem?_eq_some_iff.1 at_i
      have long : i < (xs.filter fun x => x.cls == k).length := by rw [raised.length_eq]; exact small
      have from_i := raised.get long small
      simp only [List.get_eq_getElem, get_i] at from_i
      exact ⟨_, List.mem_of_mem_filter (List.getElem_mem long), from_i⟩
    · exact ih _ y later

theorem filter_splitOrder {bays : List SplitBay} {k : Nat} (few : k ≤ 3) :
    ((splitOrder bays).filter fun x => x.cls == k) = bays.filter fun x => x.cls == k := by
  have other : ∀ j, j ≠ k → ((bays.filter fun x => x.cls == j).filter fun x => x.cls == k) = [] := by
    intro j apart
    simp only [List.filter_filter, List.filter_eq_nil_iff, Bool.and_eq_true, beq_iff_eq]
    rintro x - ⟨at_k, at_j⟩
    exact apart (at_j.symm.trans at_k)
  have own : ((bays.filter fun x => x.cls == k).filter fun x => x.cls == k) = bays.filter fun x => x.cls == k := by
    simp [List.filter_filter]
  obtain rfl | rfl | rfl | rfl : k = 0 ∨ k = 1 ∨ k = 2 ∨ k = 3 := by omega
  all_goals simp [splitOrder, own, other]

/-- Selecting by a reading of the keys commutes with reading the keys. -/
theorem map_key_filter {xs ys : List SplitBay} (same : xs.map SplitBay.key = ys.map SplitBay.key) (k : Nat) :
    (xs.filter fun x => x.cls == k).map SplitBay.key = (ys.filter fun x => x.cls == k).map SplitBay.key := by
  have by_key : ∀ zs : List SplitBay, (zs.filter fun x => x.cls == k).map SplitBay.key =
      (zs.map SplitBay.key).filter fun x => x.2.1 == k := by
    intro zs
    rw [List.filter_map]
    rfl
  rw [by_key, by_key, same]

/-- R67: the bays of a split in the order of their classes, and within a class of the list. -/
theorem splitGrants_keys (allowance bayMin : Nat) (bays : List SplitBay) :
    (splitGrants allowance bayMin bays).map SplitBay.key = (splitOrder bays).map SplitBay.key := by
  have per_class : ∀ k ≤ 3, ((firstPass bayMin allowance (splitOrder bays)).2.filter fun x => x.cls == k).map
      SplitBay.key = (bays.filter fun x => x.cls == k).map SplitBay.key := fun k few => by
    rw [map_key_filter (firstPass_keys ..), filter_splitOrder few]
  rw [splitGrants, secondPass_keys]
  simp only [List.flatMap_cons, List.flatMap_nil, List.append_nil, List.map_append, per_class, Nat.zero_le, Nat.le_refl,
    Nat.reduceLeDiff]
  simp [splitOrder]

theorem mem_splitOrder {bays : List SplitBay} {x : SplitBay} (among : x ∈ splitOrder bays) : x ∈ bays := by
  simp only [splitOrder, List.mem_flatMap] at among
  obtain ⟨k, -, here⟩ := among
  exact List.mem_of_mem_filter here

/-- The bays of the four classes are given no more than all of them. -/
theorem grantsOf_classes (xs : List SplitBay) :
    grantsOf ([0, 1, 2, 3].flatMap fun k => xs.filter fun x => x.cls == k) ≤ grantsOf xs := by
  induction xs with
  | nil => simp
  | cons x xs ih =>
    simp only [List.flatMap_cons, List.flatMap_nil, List.append_nil, grantsOf_append, List.filter_cons,
      apply_ite grantsOf, grantsOf_cons, beq_iff_eq] at ih ⊢
    split_ifs <;> omega

/-- R67: a split gives no more than its allowance. -/
theorem splitGrants_sum (allowance bayMin : Nat) (bays : List SplitBay) :
    grantsOf (splitGrants allowance bayMin bays) ≤ allowance := by
  have first := firstPass_sum bayMin allowance (splitOrder bays)
  have second := secondPass_sum [0, 1, 2, 3] (firstPass bayMin allowance (splitOrder bays)).1
    (firstPass bayMin allowance (splitOrder bays)).2
  have classes := grantsOf_classes (firstPass bayMin allowance (splitOrder bays)).2
  unfold splitGrants
  dsimp only
  omega

/-- R68: a nonzero grant is at least the lesser of wish and P_min. -/
theorem splitGrants_least {allowance bayMin : Nat} {bays : List SplitBay} {x : SplitBay}
    (among : x ∈ splitGrants allowance bayMin bays) :
    x.grant ≤ x.wish ∧ (x.grant = 0 ∨ min x.wish bayMin ≤ x.grant) := by
  obtain ⟨y, before, raised⟩ := secondPass_raised _ _ _ x among
  have offered := firstPass_offer _ _ _ y before
  have same : x.wish = y.wish := congrArg (·.2.2) raised.key
  have up := raised.up
  have most := raised.most
  rcases offered with least | none
  · omega
  · have closed := raised.closed (by simp [openBay, none])
    omega

theorem splitGrants_bay {allowance bayMin : Nat} {bays : List SplitBay} {x : SplitBay}
    (among : x ∈ splitGrants allowance bayMin bays) : ∃ y ∈ bays, x.key = y.key := by
  have known : x.key ∈ (splitGrants allowance bayMin bays).map SplitBay.key := List.mem_map_of_mem among
  rw [splitGrants_keys] at known
  obtain ⟨y, ordered, same⟩ := List.mem_map.1 known
  exact ⟨y, mem_splitOrder ordered, same.symm⟩

end Sys2Proof.Machine
end

section
/-! The effects of a split (R66, R67, R69): the charge sections are tuned, none enters a state that a split does not
give. -/

namespace Sys2Proof.Machine

theorem managed_takesPart {st : ChargeState} (h : managed st = true) : takesPart st = true := by
  cases st <;> simp_all [managed, takesPart]

/-- The effects of a split. -/
def splitting : Set Effect :=
  {e | e = .applied ∨ ∃ b, e ∈ refreshing b ∪ writing .chargeLimit b ∪ {.tell (.chargeChanged b), .tune b}}

section
variable {can : Set Effect} {w : Work} {b : BayIx}

theorem refreshing_splitting : refreshing b ⊆ splitting := fun _ h => .inr ⟨b, .inl (.inl h)⟩
theorem limiting_splitting : writing .chargeLimit b ⊆ splitting := fun _ h => .inr ⟨b, .inl (.inr h)⟩
theorem changed_splitting : .tell (.chargeChanged b) ∈ splitting := .inr ⟨b, .inr (.inl rfl)⟩
theorem tune_splitting : .tune b ∈ splitting := .inr ⟨b, .inr (.inr rfl)⟩
theorem split_splitting : .tell .split ∈ splitting := refreshing_splitting (b := 0) (by simp [refreshing])

theorem portLimit_zero (v : Nat) : portLimit 0 v = 0 := by simp [portLimit]

/-! ### What tunes a charge section -/

theorem Tuned.of_grant {s : State} (g : Nat) (among : takesPart (s.bay b).charge.state = true ∨ g = 0) :
    Tuned s b (withGrant g (s.bay b).charge) := by
  refine ⟨.inl rfl, .inr ?_, .inl rfl, .inl rfl, ⟨rfl, rfl, rfl⟩, ⟨.inl rfl, ?_⟩, fun _ => rfl, .inl rfl, .inl rfl⟩
  · exact among.imp_right fun none => by
      subst none
      exact ⟨rfl, portLimit_zero _⟩
  · simp only [withGrant]
    split <;> [exact .inr rfl; exact .inl rfl]

/-- R73: a move into a state that is watched, or into the state that is there, leaves the count. -/
theorem Charge.moved_counted {st : ChargeState} (c : Charge) (counts : takesPart st = true ∨ st = c.state) :
    (c.moved st).overdraw = c.overdraw := by
  unfold Charge.moved
  split
  · rfl
  · next other =>
    rcases counts with runs | same
    · rw [if_pos runs]
    · exact absurd same.symm other

/-- R72, R73: a move leaves the watches or stops them. -/
theorem Charge.moved_watches (st : ChargeState) (c : Charge) :
    ((c.moved st).overdraw = c.overdraw ∨ (c.moved st).overdraw = 0) ∧
      ((c.moved st).shortHold = c.shortHold ∨ (c.moved st).shortHold = none) := by
  simp only [Charge.moved]
  split
  · exact ⟨.inl rfl, .inl rfl⟩
  · split <;> [exact ⟨.inl rfl, .inl rfl⟩; exact ⟨.inr rfl, .inr rfl⟩]

theorem Tuned.of_move {s : State} {st : ChargeState} (at_move : managed (s.bay b).charge.state = true)
    (into : managed st = true ∨ st = .thermal) (goes : s.movesTo b st) : Tuned s b ((s.bay b).charge.moved st) := by
  refine ⟨.inr ⟨at_move, by rwa [Charge.moved_state]⟩, ?_, ?_, ?_, ?_, Charge.moved_watches st _, fun counts => ?_,
    .inr (by rwa [Charge.moved_state]), ?_⟩
  case refine_5 => exact Charge.moved_counted _ (by rwa [Charge.moved_state] at counts)
  all_goals
    rw [Charge.moved_eq]
    simp

theorem moveCharge_eq_moved (st : ChargeState) (other : (w.st.bay b).charge.state ≠ st) :
    moveCharge b st w =
      ((w.upd fun s => s.modCharge b (Charge.moved st)).raise (.chargeChanged b)).raiseIf
        (takesPart (w.st.bay b).charge.state != takesPart st) .split := by
  simp only [moveCharge, beq_eq_false_iff_ne.2 other, Bool.false_eq_true, if_false]
  congr 2
  simp only [Work.upd, State.modCharge, State.modBay, Charge.moved, other, if_false]

section
variable (h : splitting ⊆ can)
include h

theorem modTuned_acts (f : Charge → Charge) (tuned : Tuned w.st b (f (w.st.bay b).charge)) :
    Acts can w (w.upd fun s => s.modCharge b f) :=
  Acts.refl.change (h tune_splitting) (.tune _ tuned)

theorem moveTuned_acts {st : ChargeState} (at_move : managed (w.st.bay b).charge.state = true)
    (into : managed st = true ∨ st = .thermal) (goes : w.st.movesTo b st) : Acts can w (moveCharge b st w) := by
  by_cases same : (w.st.bay b).charge.state = st
  · simp only [moveCharge, same, beq_self_eq_true, if_true]
    exact .refl
  · rw [moveCharge_eq_moved st same]
    exact ((Acts.refl.change (h tune_splitting) (.tune _ (.of_move at_move into goes))).tell
      (h changed_splitting)).tellIf (h split_splitting)

theorem grantTuned_acts (g : Nat) (among : takesPart (w.st.bay b).charge.state = true ∨ g = 0) :
    Acts can w (setGrant b g w) := by
  have granted := modTuned_acts h (withGrant g) (.of_grant g among)
  unfold setGrant
  split
  · exact granted
  · exact granted.trans (requestLimit_acts (limiting_splitting.trans h))

theorem refreshSplit_acts : Acts can w (refreshWish b w) := refreshWish_acts (refreshing_splitting.trans h)

/-! ### The passes -/

theorem lowerBay_acts (g : Nat) (among : takesPart (w.st.bay b).charge.state = true) :
    Acts can w (lowerBay b g w) := by
  unfold lowerBay
  split
  · have lowered := grantTuned_acts h (w := w) g (.inl among)
    dsimp only
    split
    · next zero =>
      obtain ⟨-, isManaged, -⟩ := zero
      refine (lowered.trans ?_).trans (refreshSplit_acts h)
      unfold takeVoltage
      dsimp only
      split
      · exact (modTuned_acts h (fun c => { c with voltage := requestedVoltage ((setGrant b g w).st.bay b).view })
          ⟨.inl rfl, .inl ⟨rfl, rfl⟩, .inl rfl, .inr isManaged, ⟨rfl, rfl, rfl⟩, ⟨.inl rfl, .inl rfl⟩, fun _ => rfl, .inl rfl, .inr rfl⟩).tell (h split_splitting)
      · exact .refl
    · exact lowered
  · exact .refl

theorem raiseBay_acts (g : Nat) (among : takesPart (w.st.bay b).charge.state = true) :
    Acts can w (raiseBay b g w) := by
  unfold raiseBay
  split
  · exact grantTuned_acts h g (.inl among)
  · exact .refl

theorem heldTuned_acts : Acts can w (heldMoves b w) := by
  unfold heldMoves
  dsimp only
  split
  · next state =>
    split
    · exact moveTuned_acts h (by rw [state]; rfl) (.inl rfl) (.inl (by rw [state]; nofun))
    · exact .refl
  · next state =>
    split
    · exact moveTuned_acts h (by rw [state]; rfl) (.inl rfl) (.inl (by rw [state]; nofun))
    · exact .refl
  all_goals exact .refl

theorem thermalTuned_acts (isManaged : managed (w.st.bay b).charge.state = true)
    (hot : (w.st.bay b).view.battery.any (batteryHot w.st.cfl.config) = true) :
    Acts can w (enterThermal b w) := by
  have cut := modTuned_acts h (b := b) (w := moveCharge b .thermal w) (withGrant 0) (.of_grant 0 (.inr rfl))
  exact (((moveTuned_acts h isManaged (.inr rfl) hot).trans cut).trans
    ((requestLimit_acts (limiting_splitting.trans h)).trans (refreshSplit_acts h))).tell (h split_splitting)

theorem managedTuned_acts : Acts can w (managedMoves b w) := by
  unfold managedMoves
  dsimp only
  split
  · exact .refl
  · next isManaged =>
    have isManaged : managed (w.st.bay b).charge.state = true := by simpa using isManaged
    split
    · next hot => exact thermalTuned_acts h isManaged hot
    · next cool =>
      have cool : (w.st.bay b).view.battery.any (batteryHot w.st.cfl.config) = false := by simpa using cool
      refine Acts.trans ?_ ((refreshSplit_acts h).trans (heldTuned_acts h))
      split
      · exact .refl
      · next x battery =>
        split
        · split
          · exact .refl
          · next open_ => exact moveTuned_acts h isManaged (.inl rfl) (.inr (by rw [battery]; simpa using open_))
        · split
          · next full => exact moveTuned_acts h isManaged (.inl rfl) ⟨cool, by rw [battery]; exact full⟩
          · exact .refl

theorem payLimit_acts : Acts can w (payLimit b w) := by
  unfold payLimit
  split
  · have paid := modTuned_acts h (b := b) (w := w) (fun c => { c with limitOwed := false })
      ⟨.inl rfl, .inl ⟨rfl, rfl⟩, .inl rfl, .inl rfl, ⟨rfl, rfl, rfl⟩, ⟨.inl rfl, .inl rfl⟩, fun _ => rfl, .inl rfl, .inl rfl⟩
    exact paid.trans (requestLimit_acts (limiting_splitting.trans h))
  · exact .refl

end

/-! ### The charge states in the passes of grants -/

@[simp] theorem setGrant_state (g : Nat) (c : BayIx) :
    ((setGrant b g w).st.bay c).charge.state = (w.st.bay c).charge.state := by
  rw [setGrant_charge]
  split <;> rfl

@[simp] theorem refreshWish_state (c : BayIx) :
    ((refreshWish b w).st.bay c).charge.state = (w.st.bay c).charge.state := by
  rw [refreshWish_charge]
  split <;> rfl

@[simp] theorem takeVoltage_state (c : BayIx) :
    ((takeVoltage b w).st.bay c).charge.state = (w.st.bay c).charge.state := by
  rw [takeVoltage_charge]
  split <;> rfl

@[simp] theorem lowerBay_state (g : Nat) (c : BayIx) :
    ((lowerBay b g w).st.bay c).charge.state = (w.st.bay c).charge.state := by
  simp only [lowerBay]
  split
  · split <;> simp
  · rfl

@[simp] theorem raiseBay_state (g : Nat) (c : BayIx) :
    ((raiseBay b g w).st.bay c).charge.state = (w.st.bay c).charge.state := by
  simp only [raiseBay]
  split <;> simp

/-- R67: the bays that get a grant are populated and eligible, and the grant is one of the split. -/
theorem newGrants_spec {s : State} {x : BayIx × Nat} (among : x ∈ s.newGrants) :
    s.populated x.1 = true ∧ takesPart (s.bay x.1).charge.state = true ∧
      ∃ y ∈ splitGrants s.shu.allowance s.cfl.config.bayMin s.splitBays, y.bay = x.1 ∧ y.grant = x.2 ∧
        y.wish = (s.bay x.1).charge.wish := by
  obtain ⟨y, given, rfl⟩ := List.mem_map.1 among
  obtain ⟨z, read, same⟩ := splitGrants_bay given
  obtain ⟨b, eligible, rfl⟩ := List.mem_map.1 read
  obtain ⟨populated, takes⟩ := List.mem_filter.1 eligible
  have bay : y.bay = b := congrArg (·.1) same
  have wish : y.wish = (s.bay b).charge.wish := congrArg (·.2.2) same
  refine ⟨?_, ?_, y, given, rfl, rfl, ?_⟩
  · rw [bay]
    exact (List.mem_filter.1 populated).2
  · rwa [bay]
  · rwa [bay]

/-- A pass over bays that takes part in the split and moves no bay. -/
theorem acts_pass {f : BayIx × Nat → Work → Work} (xs : List (BayIx × Nat))
    (each : ∀ x w, takesPart (w.st.bay x.1).charge.state = true → Acts can w (f x w))
    (stays : ∀ x w c, ((f x w).st.bay c).charge.state = (w.st.bay c).charge.state)
    (among : ∀ x ∈ xs, takesPart (w.st.bay x.1).charge.state = true) :
    Acts can w (forEach xs f w) := by
  induction xs generalizing w with
  | nil => exact .refl
  | cons x xs ih =>
    refine (each x w (among x (by simp))).trans (ih fun y later => ?_)
    rw [stays]
    exact among y (by simp [later])

section
variable (h : splitting ⊆ can) (xs : List (BayIx × Nat))
  (among : ∀ x ∈ xs, takesPart (w.st.bay x.1).charge.state = true)
include h among

theorem lowerPass_acts : Acts can w (forEach xs (fun x => lowerBay x.1 x.2) w) :=
  acts_pass (f := fun x => lowerBay x.1 x.2) xs (fun x _ => lowerBay_acts h x.2) (fun x _ => lowerBay_state x.2) among

theorem raisePass_acts : Acts can w (forEach xs (fun x => raiseBay x.1 x.2) w) :=
  acts_pass (f := fun x => raiseBay x.1 x.2) xs (fun x _ => raiseBay_acts h x.2) (fun x _ => raiseBay_state x.2) among

end

theorem lowerPass_state (xs : List (BayIx × Nat)) (w : Work) (c : BayIx) :
    ((forEach xs (fun x => lowerBay x.1 x.2) w).st.bay c).charge.state = (w.st.bay c).charge.state :=
  forEach_keeps (fun s => (s.bay c).charge.state) xs (fun x => lowerBay x.1 x.2) (fun x _ => lowerBay_state x.2 c) w

theorem runSplit_acts (h : splitting ⊆ can) : Acts can w (runSplit w) := by
  have eligible : ∀ x ∈ w.st.newGrants, takesPart (w.st.bay x.1).charge.state = true :=
    fun x among => (newGrants_spec among).2.1
  unfold runSplit
  generalize w.st.newGrants = grants at eligible ⊢
  extract_lets _ w₁ w₂ w₃ w₄
  have lowered : Acts can w w₁ := lowerPass_acts h grants eligible
  have applied : Acts can w₁ w₂ := Acts.refl.change (h (.inl rfl)) .applied
  have raised : Acts can w₂ w₃ := raisePass_acts h grants fun x among => by
    have same : (w₂.st.bay x.1).charge.state = (w.st.bay x.1).charge.state := lowerPass_state grants w x.1
    rw [same]
    exact eligible x among
  have moved : Acts can w₃ w₄ := Acts.forEach (f := managedMoves) (fun _ _ => managedTuned_acts h) _ w₃
  have paid : Acts can w₄ (forEach w₄.st.populatedBays payLimit w₄) :=
    Acts.forEach (f := payLimit) (fun _ _ => payLimit_acts h) _ w₄
  exact (((lowered.trans applied).trans raised).trans moved).trans paid

end

end Sys2Proof.Machine
end

section
/-! The effects of the operations of the PVS, the LDC and the CSU that notices use, and of every notice. -/

namespace Sys2Proof.Machine

/-! ### The lane of a bay -/

theorem lane_of_laneOf {s : State} {b : BayIx} {n : LaneIx} (h : s.laneOf b = some n) :
    ∃ x, s.lane n = some x ∧ x.bay = b := by
  have found := List.find?_some h
  change (match s.lane n with | some x => x.bay == b | none => false) = true at found
  cases session : s.lane n with
  | none => simp [session] at found
  | some x => exact ⟨x, rfl, by simpa [session] using found⟩

theorem laneOf_eq_none_iff {s : State} {b : BayIx} :
    s.laneOf b = none ↔ ∀ (n : LaneIx) (x : LaneSession), s.lane n = some x → x.bay ≠ b := by
  have all : ∀ n : LaneIx, n ∈ allLanes := by decide
  simp only [State.laneOf, List.find?_eq_none, all, forall_const, Bool.not_eq_true]
  refine forall_congr' fun n => ?_
  change (match s.lane n with | some x => x.bay == b | none => false) = false ↔ _
  cases s.lane n <;> simp

section
variable {can : Set Effect} {w : Work} {b : BayIx}

/-! ### Provisioning Scheduler -/

/-- The effects of the end of a session at a bay (R152 to R154). -/
def sessionEnding (b : BayIx) : Set Effect :=
  {.prov b, .lane, .count b} ∪ refreshing b ∪ placing .provStatus ∪ writing .provControl b

/-- The end of a session, at whatever bay. -/
def anySessionEnding : Set Effect := {e | ∃ b, e ∈ sessionEnding b}

theorem modBay_countOutcome (s : State) (k : SlotIx) (o : LaneOutcome) :
    s.modBay b (countOutcome k o) =
      (s.modProv b fun _ => (countOutcome k o (s.bay b)).prov).modCounters b fun _ =>
        (countOutcome k o (s.bay b)).counters := by
  simp only [State.modCounters, State.modProv, State.modBay_modBay]
  refine congrArg (s.setBay b) ?_
  simp only [countOutcome]
  split
  · rfl
  · split <;> rfl

theorem countOutcome_kept (k : SlotIx) (o : LaneOutcome) (x : Bay) :
    (countOutcome k o x).prov.switch = x.prov.switch ∧ (countOutcome k o x).counters.sessions = x.counters.sessions := by
  unfold countOutcome
  split
  · exact ⟨rfl, rfl⟩
  · split <;> exact ⟨rfl, rfl⟩

theorem endSession_acts (n : LaneIx) (o : LaneOutcome)
    (h : ∀ x, w.st.lane n = some x → sessionEnding x.bay ⊆ can) : Acts can w (endSession n o w) := by
  unfold endSession
  split
  · exact .refl
  · next x session =>
    have h := h x session
    split
    · extract_lets w₁ w₂ w₃ w₄
      have ended : Acts can w w₁ :=
        (Acts.refl.change (f := fun s => s.modProv x.bay fun p => { p with switch := none })
          (h (.inl (.inl (.inl (.inl rfl))))) (.prov _ (.inr rfl))).change
          (f := fun s => s.setLane n (some { x with stage := .releasing o, wakeWait := none, limit := none }))
          (h (.inl (.inl (.inl (.inr (.inl rfl)))))) (.lane n _)
      have refreshed : Acts can w₁ w₂ := refreshWish_acts fun _ among => h (.inl (.inl (.inr among)))
      have counted : Acts can w₂ w₃ := by
        have counters : ((w₂.st.modProv x.bay fun _ => (countOutcome x.slot o (w₂.st.bay x.bay)).prov).bay
            x.bay).counters.sessions = (w₂.st.bay x.bay).counters.sessions :=
          State.read_modBay _ _ _ (·.counters.sessions) fun _ => rfl
        have split := (Acts.once (w := w₂) (h (.inl (.inl (.inl (.inl rfl)))))
          (.prov (countOutcome x.slot o (w₂.st.bay x.bay)).prov (.inl (countOutcome_kept ..).1))).change
          (f := fun s => s.modCounters x.bay fun _ => (countOutcome x.slot o (w₂.st.bay x.bay)).counters)
          (h (.inl (.inl (.inl (.inr (.inr rfl)))))) (.count _ ((countOutcome_kept ..).2.trans counters.symm))
        have same : w₃.st = _ := modBay_countOutcome w₂.st x.slot o
        exact (show w₃ = _ from congrArg (fun s => (⟨s, w₂.todo⟩ : Work)) same) ▸ split
      have placed : Acts can w₃ w₄ := by
        refine place_acts _ ?_ rfl nofun fun _ among => h (.inl (.inr among))
        simp only [provStatusFrame, newFrame]
        omega
      exact ((ended.trans refreshed).trans counted).trans
        (placed.trans (requestWrite_acts _ (fun _ no => nomatch no) fun _ among => h (.inr among)))
    · exact .refl

theorem abortLane_acts (o : LaneOutcome) (h : sessionEnding b ⊆ can) : Acts can w (abortLane b o w) := by
  unfold abortLane
  split
  · exact .refl
  · next n lane =>
    obtain ⟨x, session, same⟩ := lane_of_laneOf lane
    refine endSession_acts n o fun y other => ?_
    rw [session] at other
    cases other
    rwa [same]

/-- The effects of the outcome of a PROV_CONTROL write (R149, R152). -/
def provEnding (b : BayIx) : Set Effect :=
  sessionEnding b ∪ {.tell (.laneIdle b), .tell (.reevaluate b), .tell (.select 0), .tell (.select 1)}

theorem provEnded_acts (v : ProvWrite) (o : WriteOutcome) (h : provEnding b ⊆ can) :
    Acts can w (provEnded b v o w) := by
  have lane : .lane ∈ can := h (.inl (.inl (.inl (.inl (.inr (.inl rfl))))))
  unfold provEnded
  split
  · exact .refl
  · next n serves =>
    obtain ⟨x, session, same⟩ := lane_of_laneOf serves
    rw [session]
    dsimp only
    have idle : Acts can w (becomeIdle n b w) :=
      ((((Acts.refl.change lane (.lane n none)).tell (h (by simp [provEnding]))).tell
        (h (by simp [provEnding]))).tell (h (by simp [provEnding]))).tell (h (by simp [provEnding]))
    split
    · exact Acts.refl.change lane (.lane n _)
    · refine endSession_acts n _ fun y other => ?_
      rw [session] at other
      cases other
      rw [same]
      exact fun _ among => h (.inl among)
    · exact .refl
    · exact idle
    · exact .refl

/-- The effects of a PROFILE reading (R149, R150). -/
theorem profileReading_acts (h : sessionEnding b ⊆ can) (switch : .switch b ∈ can) : Acts can w (profileReading b w) := by
  unfold profileReading
  split
  · exact .refl
  · next n serves =>
    obtain ⟨x, session, same⟩ := lane_of_laneOf serves
    rw [session]
    have ends : ∀ o, Acts can w (endSession n o w) := fun o => endSession_acts n o fun y other => by
      rw [session] at other
      cases other
      rwa [same]
    have connects : Acts can w (enterConnected n x w) := by
      rw [← same] at h switch
      exact (Acts.refl.change (f := fun s => s.modProv x.bay fun p =>
          { p with switch := if (s.bay x.bay).door.state = .secure then some n else none })
        switch (.switch _)).change
        (f := fun s => s.setLane n (some { x with
          stage := .connected, wakeWait := none, entered := some w.st.now,
          limit := some (w.st.now + ((w.st.campaign x.slot).map fun c => c.limit).getD 0 * 60000) }))
        (h (.inl (.inl (.inl (.inr (.inl rfl)))))) (.lane n _)
    cases (w.st.bay b).view.profile with
    | none => exact .refl
    | some p =>
      dsimp only
      cases x.stage with
      | waking =>
        dsimp only
        split
        · cases p.state <;> first | exact .refl | exact connects | exact ends _
        · exact .refl
      | connected => cases p.state <;> first | exact .refl | exact ends _
      | releasing o => exact .refl

theorem batteryAbort_acts (h : sessionEnding b ⊆ can) : Acts can w (batteryAbort b w) := by
  unfold batteryAbort
  split <;> [exact abortLane_acts _ h; exact .refl]

theorem chargeAbort_acts (h : sessionEnding b ⊆ can) : Acts can w (chargeAbort b w) := by
  unfold chargeAbort
  split
  · exact abortLane_acts _ h
  iterate 3 exact .refl
  all_goals exact abortLane_acts _ h

theorem clearAttempts_acts (h : .prov b ∈ can) : Acts can w (w.upd (clearAttempts b)) :=
  Acts.refl.change h (.prov _ (.inl rfl))

theorem channelAbort_acts (st : ChannelState) (h : sessionEnding b ⊆ can) :
    Acts can w (channelAbort b st w) := by
  cases st
  · exact (abortLane_acts _ h).trans (clearAttempts_acts (h (.inl (.inl (.inl (.inl rfl))))))
  · exact .refl
  all_goals exact abortLane_acts _ h

/-- The effects of a re-evaluation (R145). -/
def evaluating : Set Effect := {.items, .tell (.select 0), .tell (.select 1)}

theorem evaluateBay_acts (h : .items ∈ can) : Acts can w (w.upd (evaluateBay b)) := by
  unfold evaluateBay
  by_cases serves : (w.st.laneOf b).isSome
  · simp only [Work.upd, serves, if_true]
    exact .refl
  · simp only [Work.upd, serves]
    exact Acts.once h (.items (alignQueue w.st b) w.st.pvs.streak)

theorem selectIf_acts (added : Bool) (h : evaluating ⊆ can) : Acts can w (selectIf added w) := by
  cases added
  · exact .refl
  · exact (Acts.refl.tell (h (by simp [evaluating]))).tell (h (by simp [evaluating]))

theorem reevaluate_acts (h : evaluating ⊆ can) : Acts can w (reevaluate b w) :=
  (evaluateBay_acts (h (by simp [evaluating]))).trans (selectIf_acts _ h)

theorem reevaluateAll_acts (h : evaluating ⊆ can) : Acts can w (reevaluateAll w) :=
  (Acts.forEach (f := fun b => Work.upd (evaluateBay b))
    (fun _ _ => evaluateBay_acts (h (by simp [evaluating]))) allBays w).trans (selectIf_acts _ h)

/-- R144: a bay eligible for a campaign has an ACTIVE channel. -/
theorem channel_of_eligible {s : State} {k : SlotIx} (h : eligible s b k = true) : (s.bay b).channel.state = .active := by
  unfold eligible at h
  split at h
  · cases h
  · simp only [bayEligible, Bool.and_eq_true, beq_iff_eq] at h
    obtain ⟨⟨⟨⟨⟨-, bay⟩, -⟩, -⟩, -⟩, -⟩ := h
    obtain ⟨⟨⟨⟨⟨⟨⟨⟨-, isActive⟩, -⟩, -⟩, -⟩, -⟩, -⟩, -⟩, -⟩ := bay
    exact isActive

/-- R92: a write request leaves the state of the channels. -/
theorem requestWrite_state (x : DockWrite) (b c : BayIx) :
    ((requestWrite b x w).st.bay c).channel.state = (w.st.bay c).channel.state := by
  have kept (f : Channel → Channel) (same : ∀ y, (f y).state = y.state) :
      ((w.st.modChannel b f).bay c).channel.state = (w.st.bay c).channel.state :=
    w.st.read_modBay b c (·.channel.state) fun y => same y.channel
  simp only [requestWrite]
  split
  · rfl
  · split
    · exact kept _ fun _ => rfl
    · split <;> exact kept _ fun y => by cases x <;> rfl

/-- The effects of a selection (R147, R148). -/
def selecting : Set Effect :=
  {e | e = .items ∨ e = .lane ∨ ∃ b, e = .profileNow b ∨ e ∈ refreshing b ∪ writing .provControl b}

theorem enterWaking_acts (n : LaneIx) (x : QueueItem) (c : Campaign) (active : (w.st.bay x.bay).channel.state = .active)
    (h : selecting ⊆ can) : Acts can w (enterWaking n x c w) := by
  unfold enterWaking
  extract_lets w₁ w₂
  have placed : Acts can w w₁ := Acts.refl.change (h (.inr (.inl rfl))) (.lane n _)
  have asked : Acts can w₁ w₂ := requestWrite_acts _ (fun _ no => nomatch no)
    fun _ among => h (.inr (.inr ⟨x.bay, .inr (.inr among)⟩))
  have open_channel : (w₂.st.bay x.bay).channel.state = .active :=
    (requestWrite_state (w := w₁) (.provControl { enter := true, campaign := c.id }) x.bay x.bay).trans active
  exact ((placed.trans asked).change (h (.inr (.inr ⟨x.bay, .inl rfl⟩))) (.profileNow open_channel)).trans
    (refreshWish_acts fun _ among => h (.inr (.inr ⟨x.bay, .inr (.inl among)⟩)))

theorem selectFrom_acts (n : LaneIx) (k : Nat) (h : selecting ⊆ can) : Acts can w (selectFrom n k w) := by
  induction k generalizing w with
  | zero => exact .refl
  | succ k ih =>
    unfold selectFrom
    split
    · exact .refl
    · next x streak _ =>
      extract_lets w₁
      have taken : Acts can w w₁ :=
        Acts.refl.change (h (.inl rfl)) (.items (dropItem x.bay w.st.pvs.queue) w.st.pvs.streak)
      split
      · exact taken.trans ih
      · split
        · next can_wake =>
          refine (taken.change (f := fun s => s.modPvs fun p => { p with streak := streak }) (h (.inl rfl)) ?_).trans
            (enterWaking_acts n x _ (channel_of_eligible can_wake) h)
          exact .items w₁.st.pvs.queue streak
        · exact taken.trans ih

theorem selectLane_acts (n : LaneIx) (h : selecting ⊆ can) : Acts can w (selectLane n w) := by
  unfold selectLane
  split <;> [exact selectFrom_acts n _ h; exact .refl]

/-! ### Latch and Door Controller -/

/-- The effects of a release request and its start (R103, R104). -/
def releasing (b : BayIx) : Set Effect :=
  {e | e = .release b ∨ e = .pend b ∨ e = .tell (.doorMoved b true) ∨ ∃ r o, e = .tell (.releaseAnswered b r o)}

theorem startRelease_acts (r : ReleaseRecord)
    (ready : (w.st.bay b).door.state = .secure ∨ (w.st.bay b).door.pendingLane = true) (h : releasing b ⊆ can) :
    Acts can w (startRelease b r w) := by
  have started : Acts can w { w with st := (startRelease b r (startWork w.st)).st } :=
    .once (h (.inl rfl)) (.release r ready)
  exact (started.tell (h (.inr (.inr (.inr ⟨_, .started, rfl⟩))))).tell (h (.inr (.inr (.inl rfl))))

theorem secure_of_releaseFree {s : State} (free : releaseBusy s b = false) : (s.bay b).door.state = .secure := by
  by_contra other
  simp [releaseBusy, other] at free

theorem askRelease_acts (r : ReleaseRecord) (h : releasing b ⊆ can) : Acts can w (askRelease b r w) := by
  have answered : ∀ r o, .tell (.releaseAnswered b r o) ∈ can := fun r o => h (.inr (.inr (.inr ⟨r, o, rfl⟩)))
  unfold askRelease
  split
  · exact Acts.refl.tell (answered _ _)
  · next free =>
    have free : releaseBusy w.st b = false := by simpa using free
    split
    · exact (Acts.refl.change (h (.inr (.inl rfl))) (.pend _ free)).tell (answered _ _)
    · exact startRelease_acts r (.inl (secure_of_releaseFree free)) h

theorem laneReportedIdle_acts (h : releasing b ⊆ can) : Acts can w (laneReportedIdle b w) := by
  unfold laneReportedIdle
  dsimp only
  split
  · exact .refl
  · split
    · next pending => exact startRelease_acts _ (.inr pending) h
    · exact .refl

/-! ### Custody Unit -/

theorem requestCustody_acts (v : CustodyWrite) (h : writing .custody b ⊆ can) : Acts can w (requestCustody b v w) := by
  unfold requestCustody
  dsimp only
  split
  · exact requestWrite_acts (.custody v) (fun _ no => nomatch no) h
  · exact .refl

/-- The effects of a discarded answer (R130). -/
def unanswering : Set Effect := {e | e = .slot ∨ ∃ b, e = .claim b ∨ e = .tell (.reevaluate b)}

theorem clearClaim_acts (h : unanswering ⊆ can) : Acts can w (clearClaim b w) :=
  (Acts.refl.change (h (.inr ⟨b, .inl rfl⟩)) .claim).tell (h (.inr ⟨b, .inr rfl⟩))

theorem removeQueuedClaim_acts (r : Reader) (q : Byte) (h : unanswering ⊆ can) :
    Acts can w (removeQueuedClaim r q w) :=
  Acts.forEach (f := fun b w => if (w.st.bay b).claim.any (queuedClaim r q) then clearClaim b w else w)
    (fun b w => by
      split <;> [exact clearClaim_acts h; exact .refl]) allBays w

/-- R130: a change of a slot's own answer to NONE, where it is made. -/
theorem modSlot_acts (r : Reader) (q : Byte) (f : PresentationSlot → PresentationSlot)
    (own : ∀ x, f x = x ∨ f x = { x with own := .none }) (h : .slot ∈ can) :
    Acts can w (w.upd fun s => s.modSlot r q f) := by
  have same : ∀ x, w.st.slot r = some x → w.st.setSlot r (some x) = w.st := fun x held => by
    have at_r : w.st.csu.slots[r] = some x := held
    simp only [State.setSlot, State.modCsu, ← at_r, Fin.getElem_fin, Vector.set_getElem_self]
  cases held : w.st.slot r with
  | none =>
    simp only [Work.upd, State.modSlot, held]
    exact .refl
  | some x =>
    by_cases at_q : x.sequence = q
    · rcases own x with keeps | none
      · simp only [Work.upd, State.modSlot, held, at_q, if_true, keeps, same x held]
        exact .refl
      · subst at_q
        simp only [Work.upd, State.modSlot, held, if_true, none]
        exact Acts.once h (.slot r x held)
    · simp only [Work.upd, State.modSlot, held, at_q, if_false]
      exact .refl

theorem modAnswered_acts (f : TxFrame) (g : PresentationSlot → PresentationSlot)
    (own : ∀ x, g x = x ∨ g x = { x with own := .none }) (h : .slot ∈ can) :
    Acts can w (w.upd fun s => s.modAnswered f g) := by
  unfold State.modAnswered
  cases answerReader f.body with
  | none => exact .refl
  | some r => exact modSlot_acts r _ g own h

theorem discardNotice_acts (f : TxFrame) (h : unanswering ⊆ can) : Acts can w (discardNotice f w) := by
  have own : ∀ (o : OwnAnswer) (x : PresentationSlot),
      (if x.own == o then { x with own := .none } else x) = x ∨
        (if x.own == o then { x with own := .none } else x) = { x with own := OwnAnswer.none } := by
    intro o x
    split <;> simp
  unfold discardNotice
  split
  · unfold offerDiscarded
    split
    · exact .refl
    · exact (modAnswered_acts f _ (own .offerQueued) (h (.inl rfl))).trans (removeQueuedClaim_acts _ _ h)
  · unfold denyDiscarded
    split
    · exact .refl
    · exact modAnswered_acts f _ (own .denyQueued) (h (.inl rfl))
  · exact .refl

/-- The effects of the CSU's answer to a release (R132). -/
def releaseAnswering (b : BayIx) : Set Effect := placing .released ∪ placing .deny ∪ writing .custody b

theorem denyCode_lt (reason : DenyReason) : denyCode reason < 4096 := by cases reason <;> decide

theorem ruleDeny_acts (c : Word32) (r : Reader) (q : Byte) (h : placing .deny ⊆ can) : Acts can w (ruleDeny c r q w) :=
  place_acts _ (denyCode_lt .bayBusy) rfl nofun h

theorem releaseAnswer_acts (r : ReleaseRecord) (o : ReleaseOutcome) (h : releaseAnswering b ⊆ can) :
    Acts can w (releaseAnswer b r o w) := by
  have custody : writing .custody b ⊆ can := fun _ among => h (.inr among)
  have deny : placing .deny ⊆ can := fun _ among => h (.inl (.inr among))
  cases o with
  | started =>
    have placed : Acts can w (place (releasedFrame b (((w.st.bay b).view.identity.map fun i => i.asset).getD 0) r) w) :=
      place_acts _ (by simp only [releasedFrame, newFrame]; omega) rfl nofun fun _ among => h (.inl (.inl among))
    simp only [releaseAnswer]
    split
    · exact placed.trans (requestCustody_acts _ custody)
    · exact placed
  | pendingLane => exact .refl
  | refused => exact ruleDeny_acts _ _ _ deny
  | cancelled => exact ruleDeny_acts _ _ _ deny
  | unused =>
    simp only [releaseAnswer]
    split
    · exact requestCustody_acts _ custody
    · exact .refl

theorem episodeEndNotice_acts (attr : OpenAttr) (r : Option ReleaseRecord) (p : Bool) (h : writing .custody b ⊆ can) :
    Acts can w (episodeEndNotice b attr r p w) := by
  unfold episodeEndNotice
  split
  · split <;> [exact requestCustody_acts _ h; exact .refl]
  · exact .refl

/-- The effects of an identity of class FIRST or SWAP (R136). -/
def identNoting (b : BayIx) : Set Effect := placing .returned ∪ {.loan} ∪ writing .custody b

theorem identNotice_acts (cls : IdentClass) (h : identNoting b ⊆ can) : Acts can w (identNotice b cls w) := by
  have noted : ∀ (asset : Word32) (minute : Nat), Acts can w
      (requestCustody b dockedCustody (loanSeen asset (place (returnedFrame b asset minute cls) w))) :=
    fun asset minute =>
      ((place_acts (returnedFrame b asset minute cls) (by simp only [returnedFrame, newFrame]; omega) rfl
        (fun same => by cases same) fun _ among => h (.inl (.inl among))).change
        (h (.inl (.inr rfl))) (.loan asset)).trans (requestCustody_acts _ fun _ among => h (.inr among))
  cases cls
  case same => exact .refl
  all_goals exact noted _ _

theorem custodyEnded_acts (v : CustodyWrite) (o : WriteOutcome) (h : placing .event ⊆ can) :
    Acts can w (custodyEnded b v o w) := by
  cases o
  case refused => exact placeEvent_acts _ _ _ _ _ (by decide) h
  all_goals exact .refl

/-! ### Notices -/

/-- The effects of a reading notice (R94, R96). -/
def readingEffects (b : BayIx) : Set Effect :=
  chargeReads b ∪ identNoting b ∪ sessionEnding b ∪ {.tell (.reevaluate b), .switch b}

/-- The effects of each notice. -/
def effectsOf : Notice → Set Effect
  | .recompute => {.recompute, .tell .split}
  | .split => splitting
  | .wishInput b => refreshing b
  | .chargeChanged b => sessionEnding b ∪ {.tell (.reevaluate b)}
  | .channelChanged b st => charging b ∪ sessionEnding b ∪ {.tell (.reevaluate b), .tell (.laneChannel b st), .freeChoice}
  | .laneChannel b _ => sessionEnding b ∪ {.tell (.reevaluate b)}
  | .reading b _ _ => readingEffects b
  | .writeEnded _ (.custody _) _ => placing .event
  | .writeEnded b (.provControl _) _ => provEnding b
  | .writeEnded _ (.chargeLimit _) _ => ∅
  | .discarded _ => unanswering
  | .doorMoved b _ => sessionEnding b ∪ {.tell (.reevaluate b)}
  | .episodeEnded b _ _ _ => writing .custody b ∪ {.tell (.reevaluate b)}
  | .releaseAsked b _ => releasing b ∪ sessionEnding b ∪ {.tell (.reevaluate b)}
  | .releaseAnswered b _ _ => releaseAnswering b
  | .laneIdle b => releasing b
  | .reevaluate _ => evaluating
  | .reevaluateAll => evaluating
  | .select _ => selecting
  | .serviceChanged b => charging b

theorem channelNotice_acts (st : ChannelState) : Acts (effectsOf (.channelChanged b st)) w (channelNotice b st w) := by
  have charged : charging b ⊆ effectsOf (.channelChanged b st) := fun _ among => .inl (.inl among)
  have session : sessionEnding b ⊆ effectsOf (.channelChanged b st) := fun _ among => .inl (.inr among)
  have later : Acts (effectsOf (.channelChanged b st)) w
      ((chargeChannel b st (channelAbort b st w)).raise (.reevaluate b)) :=
    ((channelAbort_acts st session).trans (chargeChannel_acts charged st)).tell (.inr (.inl rfl))
  have first : Acts (effectsOf (.channelChanged b st)) w ((chargeChannel b st w).raise (.laneChannel b st)) :=
    (chargeChannel_acts charged st).tell (.inr (.inr (.inl rfl)))
  have free : Effect.freeChoice ∈ effectsOf (.channelChanged b st) := .inr (.inr (.inr rfl))
  have silenced : Acts (effectsOf (.channelChanged b st)) w
      (if (w.st.laneWorking b && managed (w.st.bay b).charge.state) = true then
        if Config.bccTakesFirst w.st.freeCount = true then
          ((chargeChannel b st w).raise (.laneChannel b st)).upd fun s => { s with freeCount := s.freeCount + 1 }
        else ((chargeChannel b st (channelAbort b st w)).raise (.reevaluate b)).upd fun s =>
          { s with freeCount := s.freeCount + 1 }
      else (chargeChannel b st (channelAbort b st w)).raise (.reevaluate b)) := by
    split
    · split
      · exact first.change free .freeChoice
      · exact later.change free .freeChoice
    · exact later
  cases st
  case silent | stuck => exact silenced
  all_goals exact later

theorem readingNotice_acts (r : DockRegister) (cls : IdentClass) :
    Acts (readingEffects b) w (readingNotice b r cls w) := by
  have charged : chargeReads b ⊆ readingEffects b := fun _ among => .inl (.inl (.inl among))
  have noting : identNoting b ⊆ readingEffects b := fun _ among => .inl (.inl (.inr among))
  have session : sessionEnding b ⊆ readingEffects b := fun _ among => .inl (.inr among)
  have again : Effect.tell (.reevaluate b) ∈ readingEffects b := .inr (.inl rfl)
  cases r
  case ident =>
    have noted : Acts (readingEffects b) w (identNotice b cls (chargeReading b .ident w)) :=
      (chargeReading_acts charged .ident).trans (identNotice_acts cls noting)
    simp only [readingNotice]
    refine Acts.tell ?_ again
    split
    · exact noted.trans (clearAttempts_acts (session (.inl (.inl (.inl (.inl rfl))))))
    · exact noted
  case battery => exact ((chargeReading_acts charged .battery).trans (batteryAbort_acts session)).tell again
  case chargeRequest => exact chargeReading_acts charged .chargeRequest
  case profile => exact (profileReading_acts session (.inr (.inr rfl))).tell again
  all_goals exact .refl

theorem requestRelease_acts (r : ReleaseRecord) :
    Acts (effectsOf (.releaseAsked b r)) w (requestRelease b r w) := by
  have asked : Acts (effectsOf (.releaseAsked b r)) w (askRelease b r w) :=
    askRelease_acts r fun _ among => .inl (.inl among)
  unfold requestRelease
  split
  · exact asked
  · exact (asked.trans (abortLane_acts _ fun _ among => .inl (.inr among))).tell (.inr rfl)

/-- Working a notice has its effects and no other. -/
theorem handle_acts (n : Notice) (w : Work) : Acts (effectsOf n) w (handle n w) := by
  cases n with
  | recompute => exact recompute_acts fun _ among => among
  | split => exact runSplit_acts fun _ among => among
  | wishInput b => exact refreshWish_acts fun _ among => among
  | chargeChanged b => exact (chargeAbort_acts fun _ among => .inl among).tell (.inr rfl)
  | channelChanged b st => exact channelNotice_acts st
  | laneChannel b st => exact (channelAbort_acts st fun _ among => .inl among).tell (.inr rfl)
  | reading b r cls => exact readingNotice_acts r cls
  | writeEnded b x o =>
    cases x with
    | custody v => exact custodyEnded_acts v o fun _ among => among
    | provControl v => exact provEnded_acts v o fun _ among => among
    | chargeLimit g => exact .refl
  | discarded f => exact discardNotice_acts f fun _ among => among
  | doorMoved b left =>
    refine Acts.tell ?_ (.inr rfl)
    split <;> [exact abortLane_acts _ fun _ among => .inl among; exact .refl]
  | episodeEnded b attr r p => exact (episodeEndNotice_acts attr r p fun _ among => .inl among).tell (.inr rfl)
  | releaseAsked b r => exact requestRelease_acts r
  | releaseAnswered b r o => exact releaseAnswer_acts r o fun _ among => among
  | laneIdle b => exact laneReportedIdle_acts fun _ among => among
  | reevaluate b => exact reevaluate_acts fun _ among => among
  | reevaluateAll => exact reevaluateAll_acts fun _ among => among
  | select n => exact selectLane_acts n fun _ among => among
  | serviceChanged b => exact serviceChanged_acts fun _ among => among

end

end Sys2Proof.Machine
end

section
/-! What holds when all notices of a command have been worked, from what each effect keeps. -/

namespace Sys2Proof.Machine

/-- The effects of the notices, and not those of commands alone. -/
def Effect.inner : Effect → Bool
  | .withdraw | .channel _ | .view _ | .door _ | .attrs _ | .present _ | .claimed _ | .hand | .slots | .loans | .lanes
  | .answers | .flags | .monitor | .peer | .share | .meter | .link | .tables
  | .time => false
  | _ => true

theorem inner_of_writing {r : DockRegister} {b : BayIx} {e : Effect} (h : e ∈ writing r b) : e.inner = true := by
  rcases h with rfl | ⟨x, -, rfl | ⟨o, rfl⟩⟩ <;> rfl

theorem inner_of_refreshing {b : BayIx} {e : Effect} (h : e ∈ refreshing b) : e.inner = true := by
  rcases h with rfl | rfl | rfl | rfl <;> rfl

theorem inner_of_placing {k : FrameKind} {e : Effect} (h : e ∈ placing k) : e.inner = true := by
  rcases h with rfl | ⟨f, rfl⟩ <;> rfl

theorem inner_of_charging {b : BayIx} {e : Effect} (h : e ∈ charging b) : e.inner = true := by
  rcases h with (((rfl | rfl) | h) | h) | h
  · rfl
  · rfl
  · exact inner_of_refreshing h
  · rcases h with rfl | rfl | rfl | rfl <;> rfl
  · exact inner_of_writing h

theorem inner_of_sessionEnding {b : BayIx} {e : Effect} (h : e ∈ sessionEnding b) : e.inner = true := by
  rcases h with (((rfl | rfl | rfl) | h) | h) | h
  iterate 3 rfl
  · exact inner_of_refreshing h
  · exact inner_of_placing h
  · exact inner_of_writing h

theorem inner_of_releasing {b : BayIx} {e : Effect} (h : e ∈ releasing b) : e.inner = true := by
  rcases h with rfl | rfl | rfl | ⟨r, o, rfl⟩ <;> rfl

theorem inner_of_evaluating {e : Effect} (h : e ∈ evaluating) : e.inner = true := by
  rcases h with rfl | rfl | rfl <;> rfl

theorem inner_of_effectsOf {n : Notice} {e : Effect} (h : e ∈ effectsOf n) : e.inner = true := by
  cases n with
  | recompute => rcases h with rfl | rfl <;> rfl
  | split =>
    rcases h with rfl | ⟨b, (h | h) | rfl | rfl⟩
    · rfl
    · exact inner_of_refreshing h
    · exact inner_of_writing h
    · rfl
    · rfl
  | wishInput b => exact inner_of_refreshing h
  | chargeChanged b =>
    rcases h with h | rfl
    · exact inner_of_sessionEnding h
    · rfl
  | channelChanged b st =>
    rcases h with (h | h) | rfl | rfl | rfl
    · exact inner_of_charging h
    · exact inner_of_sessionEnding h
    all_goals rfl
  | laneChannel b st =>
    rcases h with h | rfl
    · exact inner_of_sessionEnding h
    · rfl
  | reading b r cls =>
    rcases h with (((rfl | h) | (h | rfl) | h) | h) | rfl | rfl
    · rfl
    · exact inner_of_charging h
    · exact inner_of_placing h
    · rfl
    · exact inner_of_writing h
    · exact inner_of_sessionEnding h
    all_goals rfl
  | writeEnded b x o =>
    cases x with
    | custody v => exact inner_of_placing h
    | provControl v =>
      rcases h with h | rfl | rfl | rfl | rfl
      · exact inner_of_sessionEnding h
      all_goals rfl
    | chargeLimit g => exact absurd h (Set.notMem_empty _)
  | discarded f => rcases h with rfl | ⟨b, rfl | rfl⟩ <;> rfl
  | doorMoved b left =>
    rcases h with h | rfl
    · exact inner_of_sessionEnding h
    · rfl
  | episodeEnded b attr r p =>
    rcases h with h | rfl
    · exact inner_of_writing h
    · rfl
  | releaseAsked b r =>
    rcases h with (h | h) | rfl
    · exact inner_of_releasing h
    · exact inner_of_sessionEnding h
    · rfl
  | releaseAnswered b r o =>
    rcases h with (h | h) | h
    · exact inner_of_placing h
    · exact inner_of_placing h
    · exact inner_of_writing h
  | laneIdle b => exact inner_of_releasing h
  | reevaluate b => exact inner_of_evaluating h
  | reevaluateAll => exact inner_of_evaluating h
  | select n =>
    rcases h with rfl | rfl | ⟨b, rfl | h | h⟩
    iterate 3 rfl
    · exact inner_of_refreshing h
    · exact inner_of_writing h
  | serviceChanged b => exact inner_of_charging h

/-- What the effects of the notices of a class keep, holds when all are worked, where these tell only notices of the
class. -/
theorem finish_keeps_of_class {P : State → Prop} (Q : Notice → Prop)
    (closed : ∀ n m, Q n → .tell m ∈ effectsOf n → Q m)
    (keeps : ∀ n e, Q n → e ∈ effectsOf n → ∀ s t, Change e s t → P s → P t)
    {w : Work} (start : ∀ n ∈ w.todo, Q n) (holds : P w.st) : P w.finish := by
  refine settle_keeps (Q := Q) (fun n s among holds => ?_) _ w holds start
  have acts := handle_acts n (startWork s)
  refine ⟨acts.keeps (fun e may => keeps n e among may) holds, fun m told => ?_⟩
  rcases acts.told m told with earlier | now
  · exact absurd earlier (by simp)
  · exact closed n m among now

/-- What every effect of a notice keeps, holds when all notices are worked. -/
theorem finish_keeps {P : State → Prop} (keeps : ∀ e s t, e.inner = true → Change e s t → P s → P t)
    {w : Work} (holds : P w.st) : P w.finish :=
  finish_keeps_of_class (fun _ => True) (fun _ _ _ _ => trivial)
    (fun _ e _ may s t => keeps e s t (inner_of_effectsOf may)) (fun _ _ => trivial) holds

end Sys2Proof.Machine
end

section
/-! What the commands do, as sequences of effects and of the working of notices; the commands of doors and of the
sideband. -/

namespace Sys2Proof.Machine

/-! ### Commands as sequences of effects -/

/-- A state is reached by effects of the kinds in `can` and by the working of notices. -/
inductive Does (can : Set Effect) : State → State → Prop where
  | stay (s : State) : Does can s s
  | change {r s t : State} {e : Effect} : Does can r s → e ∈ can → Change e s t → Does can r t
  | settle {r : State} (w : Work) : Does can r w.st → Does can r w.finish

/-- An outcome that is reached by effects of the kinds in `can`. -/
def Reaches (can : Set Effect) (s : State) (o : Host.Outcome State Fault Refusal) : Prop :=
  ∀ t, o = .next t → Does can s t

section
variable {can : Set Effect} {r s t : State}

theorem Does.trans (h : Does can r s) (h' : Does can s t) : Does can r t := by
  induction h' with
  | stay => exact h
  | change _ may changed ih => exact ih.change may changed
  | settle w _ ih => exact .settle w ih

theorem Acts.does {u v : Work} (h : Acts can u v) : Does can u.st v.st := by
  induction h with
  | refl => exact .stay _
  | tail _ act ih =>
    cases act with
    | tell _ => exact ih
    | change may changed => exact ih.change may changed

/-- A law that the effects and the working of notices keep. -/
theorem Does.keeps {P : State → Prop} (h : Does can s t)
    (each : ∀ e ∈ can, ∀ s t : State, Change e s t → P s → P t) (settled : ∀ w : Work, P w.st → P w.finish)
    (holds : P s) : P t := by
  induction h with
  | stay => exact holds
  | change _ may changed ih => exact each _ may _ _ changed (ih)
  | settle w _ ih => exact settled w ih

theorem Reaches.stay : Reaches can s (.next s) := fun _ same => by
  cases same
  exact .stay s

theorem Reaches.next (h : Does can s t) : Reaches can s (.next t) := fun _ same => by
  cases same
  exact h

theorem Reaches.carryOut {f : Work → Work} (h : Does can s t) (acts : Acts can (startWork t) (f (startWork t))) :
    Reaches can s (carryOut t f) :=
  .next (h.trans (.settle _ acts.does))

theorem Does.time (h : Does can r s) (may : .time ∈ can) (t : Nat) : Does can r (s.advanceTo t) :=
  h.change may (.time t)

/-- A command that takes the frame in a block's hand. -/
theorem Reaches.fromHand {block : Block} {which : RxFrame → Bool} {f : RxFrame → Work → Work}
    (may : .hand ∈ can) (acts : ∀ x w, Acts can w (f x w)) : Reaches can s (fromHand s block which f) := by
  unfold Machine.fromHand
  split
  · exact .stay
  · split
    · exact .carryOut ((Does.stay s).change may (.hand none block fun _ => .inl rfl)) (acts _ _)
    · exact .stay

end

/-! ### Doors -/

/-- The notices that the commands of doors tell. -/
def Notice.ofDoor : Notice → Bool
  | .episodeEnded _ _ _ _ | .releaseAnswered _ _ _ | .discarded _ | .doorMoved _ _ => true
  | _ => false

/-- The effects of the commands of doors, beside those of their notices. -/
def doorEffects : Set Effect := {e | match e with
  | .tell n => n.ofDoor = true
  | .door _ | .prov _ | .count _ | .frame _ | .time => True
  | _ => False}

section
variable {w : Work} {b : BayIx}

theorem placing_doors (k : FrameKind) : placing k ⊆ doorEffects := by
  rintro e (rfl | ⟨f, rfl⟩) <;> trivial

theorem doorEvent_acts (code : Nat) (bay : Byte) (word : Word32) (value : Nat) (k : Block) (small : code < 16) :
    Acts doorEffects w (placeEvent code bay word value k w) := placeEvent_acts _ _ _ _ _ small (placing_doors _)

theorem modDoor_acts (f : State → Door → Door) : Acts doorEffects w (w.upd fun s => s.modDoor b (f s)) :=
  .once (by trivial) (.door _)

/-- A change of the door section in which the lane switch opens too. -/
theorem modDoorSwitch_acts (f : State → Door → Door) :
    Acts doorEffects w (w.upd fun s => openSwitch b (s.modDoor b (f s))) :=
  (modDoor_acts (w := w) (b := b) f).change (f := openSwitch b) (by trivial) (.prov _ (.inr rfl))

theorem endEpisode_acts : Acts doorEffects w (endEpisode b w) := by
  unfold endEpisode
  dsimp only
  split
  · exact .refl
  · exact (modDoor_acts fun _ d => { d with episode := none, release := none, closeHold := none }).tell (by trivial)

theorem settleEpisode_acts : Acts doorEffects w (settleEpisode b w) := by
  unfold settleEpisode
  split <;> [exact endEpisode_acts; exact .refl]

theorem enterOpen_acts (attr : OpenAttr) : Acts doorEffects w (enterOpen b attr w) :=
  modDoorSwitch_acts fun s d => { d with
    state := .opened attr, latch := .off, pullIn := none, window := none, boltWait := none,
    closeHold := none, episode := some (newEpisode s b attr) }

theorem cancelPending_acts : Acts doorEffects w (cancelPending b w) := by
  have cleared := modDoor_acts (w := w) (b := b) fun _ d => { d with pendingLane := false, release := none }
  unfold cancelPending
  dsimp only
  split
  · split
    · exact cleared.tell (by trivial)
    · exact cleared
  · exact .refl

theorem releaseUnused_acts : Acts doorEffects w (releaseUnused b w) := by
  have closed := (modDoor_acts (w := w) (b := b) fun s d =>
    { d with
      state := .secure, latch := .off, release := none, pullIn := none, window := none,
      coolDown := some (s.now + coolDownTime), boltWait := some (s.now + boltWaitTime) }).trans
    (doorEvent_acts 4 (bayByte b) 0 (((w.st.bay b).door.release.map fun x => reasonCode x.reason).getD 0) .ldc
      (by decide))
  unfold releaseUnused
  dsimp only
  split
  · exact (closed.tell (by trivial)).tell (by trivial)
  · exact closed.tell (by trivial)

theorem openForced_acts : Acts doorEffects w (openForced b w) := by
  unfold openForced
  extract_lets w₁ w₂ w₃ w₄
  have ended : Acts doorEffects w w₁ := endEpisode_acts.trans cancelPending_acts
  have opened : Acts doorEffects w₁ w₂ := enterOpen_acts _
  have counted : Acts doorEffects w₂ w₃ := .once (by trivial) (.count _ rfl)
  have placed : Acts doorEffects w₃ w₄ := doorEvent_acts _ _ _ _ _ (by decide)
  exact (((ended.trans opened).trans counted).trans placed).tell (by trivial)

theorem openAuthorized_acts : Acts doorEffects w (openAuthorized b w) :=
  ((enterOpen_acts .authorized).trans
    (modDoor_acts fun s d => { d with coolDown := some (s.now + coolDownTime) })).tell (by trivial)

theorem openUnsecured_acts : Acts doorEffects w (openUnsecured b w) :=
  (endEpisode_acts.trans (enterOpen_acts .unsecured)).tell (by trivial)

theorem openAgain_acts : Acts doorEffects w (openAgain b w) :=
  (modDoor_acts fun _ d =>
    { d with
      state := .opened (((w.st.bay b).door.episode.map (·.attr)).getD .unsecured), boltWait := none,
      closeHold := none }).tell (by trivial)

theorem doorOpened_acts : Acts doorEffects w (doorOpened b w) := by
  unfold doorOpened
  dsimp only
  refine (modDoor_acts (b := b) fun _ d => { d with closed := false }).trans ?_
  split
  · exact openForced_acts
  · exact openAuthorized_acts
  · exact openUnsecured_acts
  · exact openAgain_acts
  · exact .refl

theorem enterSecure_acts : Acts doorEffects w (enterSecure b w) :=
  ((modDoor_acts fun _ d => { d with state := .secure, latch := .off, boltWait := none }).tell (by trivial)).trans
    settleEpisode_acts

theorem enterUnsecured_acts (cause : Nat) : Acts doorEffects w (enterUnsecured b cause w) := by
  unfold enterUnsecured
  extract_lets leaves w₁ w₂ w₃
  have cancelled : Acts doorEffects w w₁ := cancelPending_acts
  have unsecured : Acts doorEffects w₁ w₂ :=
    modDoorSwitch_acts fun _ d => { d with state := .unsecured, latch := .off, boltWait := none }
  have placed : Acts doorEffects w₂ w₃ := doorEvent_acts _ _ _ _ _ (by decide)
  exact (((cancelled.trans unsecured).trans placed).tell (by trivial)).trans settleEpisode_acts

theorem doorClosed_acts : Acts doorEffects w (doorClosed b w) := by
  have shut := modDoor_acts (w := w) (b := b) fun _ d => { d with closed := true }
  have closing := (shut.trans (modDoor_acts (b := b) fun s d =>
    { d with
      state := .closing, boltWait := some (s.now + boltWaitTime),
      closeHold := some (s.now + closeHoldTime) })).tell (n := .doorMoved b false) (by trivial)
  unfold doorClosed
  dsimp only
  split
  · split
    · exact closing.trans enterSecure_acts
    · exact closing
  all_goals exact shut

theorem boltBecomesThrown_acts : Acts doorEffects w (boltBecomesThrown b w) := by
  have thrown := modDoor_acts (w := w) (b := b) fun _ d => { d with bolt := true }
  unfold boltBecomesThrown
  dsimp only
  split
  · split
    iterate 2 exact thrown.trans enterSecure_acts
    all_goals exact thrown
  · exact thrown

theorem boltBecomesClear_acts : Acts doorEffects w (boltBecomesClear b w) := by
  have cleared := modDoor_acts (w := w) (b := b) fun _ d => { d with bolt := false }
  unfold boltBecomesClear
  dsimp only
  split
  · exact cleared.trans (enterUnsecured_acts 2)
  · exact cleared

theorem closeHoldPasses_acts : Acts doorEffects w (closeHoldPasses b w) := by
  unfold closeHoldPasses
  split
  iterate 2 exact endEpisode_acts
  all_goals exact .refl

theorem ajarPasses_acts (e : Episode) : Acts doorEffects w (ajarPasses b e w) :=
  (modDoor_acts fun _ d => { d with episode := some { e with ajar := none } }).trans
    (doorEvent_acts _ _ _ _ _ (by decide))

end

section
variable {s : State} {b : BayIx}

theorem Does.advance (t : Nat) : Does doorEffects s (s.advanceTo t) := (Does.stay s).time (by trivial) t

theorem execDoorOpens_reaches : Reaches doorEffects s (execDoorOpens b s) := by
  unfold execDoorOpens
  split <;> [exact .carryOut (.stay s) doorOpened_acts; exact .stay]

theorem execDoorCloses_reaches : Reaches doorEffects s (execDoorCloses b s) := by
  unfold execDoorCloses
  split <;> [exact .carryOut (.stay s) doorClosed_acts; exact .stay]

theorem execBoltThrown_reaches : Reaches doorEffects s (execBoltThrown b s) := by
  unfold execBoltThrown
  split <;> [exact .carryOut (.stay s) boltBecomesThrown_acts; exact .stay]

theorem execBoltClears_reaches : Reaches doorEffects s (execBoltClears b s) := by
  unfold execBoltClears
  split <;> [exact .carryOut (.stay s) boltBecomesClear_acts; exact .stay]

theorem execPullInEnd_reaches : Reaches doorEffects s (execPullInEnd b s) := by
  unfold execPullInEnd
  split
  · exact .stay
  · split
    · exact .next ((Does.advance _).change (by trivial) (.door _))
    · exact .stay

theorem execReleaseWindowExpired_reaches : Reaches doorEffects s (execReleaseWindowExpired b s) := by
  unfold execReleaseWindowExpired
  split
  · exact .stay
  · split <;> [exact .carryOut (.advance _) releaseUnused_acts; exact .stay]

theorem execCoolDownEnd_reaches : Reaches doorEffects s (execCoolDownEnd b s) := by
  unfold execCoolDownEnd
  split
  · exact .stay
  · exact .next ((Does.advance _).change (by trivial) (.door _))

theorem execBoltWaitClosingExpired_reaches : Reaches doorEffects s (execBoltWaitClosingExpired b s) := by
  unfold execBoltWaitClosingExpired
  split
  · exact .stay
  · split <;> [exact .carryOut (.advance _) (enterUnsecured_acts 1); exact .stay]

theorem execBoltWaitReleaseExpired_reaches : Reaches doorEffects s (execBoltWaitReleaseExpired b s) := by
  unfold execBoltWaitReleaseExpired
  split
  · exact .stay
  · next t _ =>
    have waited : Does doorEffects s ((s.advanceTo t).modDoor b fun d => { d with boltWait := none }) :=
      (Does.advance t).change (by trivial) (.door _)
    split
    · dsimp only
      split <;> [exact .next waited; exact .carryOut waited (enterUnsecured_acts 3)]
    · exact .stay

theorem execCloseHoldEnd_reaches : Reaches doorEffects s (execCloseHoldEnd b s) := by
  unfold execCloseHoldEnd
  split
  · exact .stay
  · exact .carryOut ((Does.advance _).change (by trivial) (.door _)) closeHoldPasses_acts

theorem execAjarTimerExpired_reaches : Reaches doorEffects s (execAjarTimerExpired b s) := by
  unfold execAjarTimerExpired
  split
  · exact .stay
  · split
    · exact .stay
    · exact .carryOut (.advance _) (ajarPasses_acts _)

end

end Sys2Proof.Machine
end

section
/-! The commands of the sideband and of bay charging as sequences of effects. -/

namespace Sys2Proof.Machine

/-! ### Sideband -/

/-- The effects of the commands of the sideband, beside those of their notices. -/
def sidebandEffects : Set Effect := {e | match e with
  | .tell _ | .channel _ | .view _ | .count _ | .reads _ | .frame _ | .time => True
  | _ => False}

section
variable {can : Set Effect} {w : Work} {b : BayIx} (h : sidebandEffects ⊆ can)
include h

theorem modChannel_acts (f : State → Channel → Channel) : Acts can w (w.upd fun s => s.modChannel b (f s)) :=
  .once (h (by trivial)) (.channel _)

theorem raiseAll_acts {α : Type} (xs : List α) (n : α → Notice) :
    Acts can w (forEach xs (fun x => Work.raise (n x)) w) :=
  Acts.forEach (f := fun x => Work.raise (n x)) (fun _ _ => Acts.refl.tell (h (by trivial))) xs w

theorem cancelWrites_acts : Acts can w (cancelWrites b w) :=
  (modChannel_acts h fun _ c => { c with custody := none, provControl := none, chargeLimit := none }).trans
    (raiseAll_acts h _ _)

theorem setChannelState_acts (st : ChannelState) : Acts can w (setChannelState b st w) := by
  unfold setChannelState
  split
  · exact .refl
  · exact (modChannel_acts h fun _ c => { c with state := st }).tell (h (by trivial))

theorem enterSilent_acts (identAtOnce : Bool) : Acts can w (enterSilent b identAtOnce w) :=
  ((cancelWrites_acts h).trans (modChannel_acts h fun s c =>
    { c with
      dueIdent := c.dueIdent || identAtOnce, dueBattery := false, dueRequest := false, dueProfile := false,
      batteryTimer := none, requestTimer := none, profileTimer := none,
      identTimer := if identAtOnce then none else some (s.now + identPollPeriod), drops := 0 })).trans
    (setChannelState_acts h .silent)

theorem startPollAt_acts (r : DockRegister) : Acts can w (w.upd (startPollAt b r)) :=
  .once (h (by trivial)) (.channel _)

theorem dropExchange_acts : Acts can w (dropExchange b w) := by
  unfold dropExchange
  split
  · exact .refl
  · next x _ =>
    extract_lets w₁ w₂
    have cleared : Acts can w w₁ := (modChannel_acts h fun _ c =>
      { c with exchange := none, drops := if c.state == .active then c.drops + 1 else c.drops }).change
        (f := fun s => s.modCounters b fun k => { k with failed := k.failed + 1 }) (h (by trivial)) (.count _ rfl)
    have told : Acts can w₁ w₂ := by
      simp only [w₂]
      cases x.body with
      | write v => exact Acts.refl.tell (h (by trivial))
      | read r =>
        dsimp only
        have polled := startPollAt_acts (w := w₁) (b := b) h r
        split
        · exact polled.trans (modChannel_acts h fun s c => { c with identTimer := some (s.now + identPollPeriod) })
        · exact polled
    refine (cleared.trans told).trans ?_
    split
    · exact enterSilent_acts h false
    · exact .refl

theorem failAttempt_acts (noResponse : Bool) : Acts can w (failAttempt b noResponse w) := by
  unfold failAttempt
  split
  · exact .refl
  · next x _ =>
    split
    · exact dropExchange_acts h
    · exact modChannel_acts h fun _ c => { c with exchange := some { x with stage := .retryWait noResponse } }

theorem endAnswered_acts : Acts can w (w.upd (endAnswered b)) := .once (h (by trivial)) (.channel _)

theorem modView_acts (f : State → TabletView → TabletView) : Acts can w (w.upd fun s => s.modView b (f s)) :=
  .once (h (by trivial)) (.view _)

theorem placing_sideband (k : FrameKind) : placing k ⊆ can := by
  rintro e (rfl | ⟨f, rfl⟩) <;> exact h (by trivial)

theorem takeIdentity_acts (new : Identity) : Acts can w (takeIdentity b new w) := by
  unfold takeIdentity
  dsimp only
  refine Acts.tell ?_ (h (by trivial))
  split
  · exact ((modView_acts h fun _ _ => { identity := some new }).trans
      (placeEvent_acts _ _ _ _ _ (by decide) (placing_sideband h _))).trans
      (requestReads_acts _ (h (by trivial)))
  · exact modView_acts h fun _ v => { v with identity := some new }

theorem takeReading_acts (r : DockRegister) (data : List Byte) : Acts can w (takeReading b r data w) := by
  cases r
  case ident => exact takeIdentity_acts h _
  case battery => exact (modView_acts h fun _ v => { v with battery := some (readBattery data) }).tell (h (by trivial))
  case chargeRequest =>
    exact (modView_acts h fun _ v => { v with request := some (readRequest data) }).tell (h (by trivial))
  case profile => exact (modView_acts h fun _ v => { v with profile := some (readProfile data) }).tell (h (by trivial))
  all_goals exact .refl

theorem answeredFromSilence_acts : Acts can w (answeredFromSilence b w) := by
  unfold answeredFromSilence
  split
  · exact ((modChannel_acts h fun _ c => { c with identTimer := none }).trans
      (setChannelState_acts h .active)).trans (requestReads_acts _ (h (by trivial)))
  · exact .refl

theorem readSucceeds_acts (r : DockRegister) (data : List Byte) : Acts can w (readSucceeds b r data w) := by
  have cleared := endAnswered_acts (w := w) (b := b) h
  unfold readSucceeds
  dsimp only
  split
  · exact (cleared.trans (answeredFromSilence_acts h)).trans ((startPollAt_acts h r).trans (takeReading_acts h r data))
  · exact cleared.trans ((startPollAt_acts h r).trans (takeReading_acts h r data))

theorem readResponse_acts (bytes : List Byte) : Acts can w (readResponse b bytes w) := by
  unfold readResponse
  split
  · exact .refl
  · split
    · split
      · split
        · split <;> [exact readSucceeds_acts h _ _; exact failAttempt_acts h _]
        · exact failAttempt_acts h _
      · exact .refl
    · exact .refl

theorem readWindowCloses_acts (received : Nat) : Acts can w (readWindowCloses b received w) := by
  unfold readWindowCloses
  split
  · exact .refl
  · split
    · split <;> [exact failAttempt_acts h _; exact .refl]
    · exact .refl

theorem writeAnswer_acts (answer : Byte) : Acts can w (writeAnswer b answer w) := by
  unfold writeAnswer
  split
  · exact .refl
  · split
    · dsimp only
      split
      · exact (endAnswered_acts h).tell (h (by trivial))
      · split
        · exact (endAnswered_acts h).tell (h (by trivial))
        · exact failAttempt_acts h _
    · exact .refl

theorem writeWindowCloses_acts : Acts can w (writeWindowCloses b w) := by
  unfold writeWindowCloses
  split
  · exact .refl
  · split <;> [exact failAttempt_acts h _; exact .refl]

theorem framingEnds_acts : Acts can w (framingEnds b w) := by
  unfold framingEnds
  split
  · exact .refl
  · split <;> [exact failAttempt_acts h _; exact .refl]

theorem bitErrorEnds_acts (bit : Nat) (sample : BitSamples) : Acts can w (bitErrorEnds b bit sample w) := by
  unfold bitErrorEnds
  split
  · exact .refl
  · split
    · exact .refl
    · split <;> [exact .refl; exact failAttempt_acts h _]

theorem enterStuck_acts : Acts can w (enterStuck b w) :=
  (((dropExchange_acts h).trans (cancelWrites_acts h)).trans (modChannel_acts h fun _ c =>
    { c with
      dueIdent := false, dueBattery := false, dueRequest := false, dueProfile := false,
      identTimer := none, batteryTimer := none, requestTimer := none, profileTimer := none,
      drops := 0 })).trans (setChannelState_acts h .stuck)

theorem wireReached_acts : Acts can w (wireReached b w) := by
  unfold wireReached
  dsimp only
  split
  iterate 2 split <;> [exact enterStuck_acts h; exact .refl]
  · split <;> [exact enterSilent_acts h true; exact .refl]
  · exact .refl

theorem channelLost_acts : Acts can w (channelLost b w) :=
  ((((modChannel_acts h fun _ c => { c with exchange := none }).trans (raiseAll_acts h _ _)).trans
    (cancelWrites_acts h)).trans ((modChannel_acts h fun _ c =>
      { c with
        dueIdent := false, dueBattery := false, dueRequest := false, dueProfile := false,
        identTimer := none, batteryTimer := none, requestTimer := none, profileTimer := none,
        drops := 0, lowRun := 0, highRun := 0, wakeIdle := 0 }).change
      (f := fun s => s.modView b fun _ => {}) (h (by trivial)) (.view _))).trans (setChannelState_acts h .off)

end

section
variable {s : State} {b : BayIx}

theorem watchStretch_does (r : WireRun) : Does sidebandEffects s (watchStretch b s r) := by
  refine .settle _ ?_
  exact ((Does.stay s).change (e := .channel b) (by trivial) (.channel _)).trans
    (wireReached_acts (w := startWork _) (fun _ among => among)).does

theorem watchWire_does (wire : List WireRun) : Does sidebandEffects s (watchWire b wire s) := by
  induction wire generalizing s with
  | nil => exact .stay s
  | cons r wire ih => exact (watchStretch_does r).trans ih

theorem execExchangeStart_reaches (wire : List WireRun) : Reaches sidebandEffects s (execExchangeStart b s wire) :=
  .next ((watchWire_does wire).change (by trivial) (.channel _))

theorem execCallAfterWake_reaches (wire : List WireRun) : Reaches sidebandEffects s (execCallAfterWake b s wire) :=
  .next ((watchWire_does wire).change (by trivial) (.channel _))

theorem execRetryStart_reaches (wire : List WireRun) : Reaches sidebandEffects s (execRetryStart b s wire) :=
  .next ((watchWire_does wire).change (by trivial) (.channel _))

theorem execReadResponseReceived_reaches (answer : List SampledByte) :
    Reaches sidebandEffects s (execReadResponseReceived b answer s) := by
  unfold execReadResponseReceived
  split <;> [exact .stay; exact .carryOut (.stay s) (readResponse_acts (fun _ h => h) _)]

theorem execResponseWindowExpired_reaches (answer : List SampledByte) :
    Reaches sidebandEffects s (execResponseWindowExpired b answer s) := by
  unfold execResponseWindowExpired
  split <;> [exact .stay; exact .carryOut (.stay s) (readWindowCloses_acts (fun _ h => h) _)]

theorem execWriteAckReceived_reaches (answer : List SampledByte) :
    Reaches sidebandEffects s (execWriteAckReceived b answer s) := by
  unfold execWriteAckReceived
  split <;> [exact .carryOut (.stay s) (writeAnswer_acts (fun _ h => h) _); exact .stay]

theorem execAckWindowExpired_reaches : Reaches sidebandEffects s (execAckWindowExpired b s) :=
  .carryOut (.stay s) (writeWindowCloses_acts fun _ h => h)

theorem execFramingError_reaches (samples : SampledByte) :
    Reaches sidebandEffects s (execFramingError b samples s) := by
  unfold execFramingError
  split <;> [exact .carryOut (.stay s) (framingEnds_acts fun _ h => h); exact .stay]

theorem execSidebandBitError_reaches (bit : Nat) (sample : BitSamples) :
    Reaches sidebandEffects s (execSidebandBitError b bit sample s) :=
  .carryOut (.stay s) (bitErrorEnds_acts (fun _ h => h) _ _)

theorem execPollTimerExpired_reaches (r : PollRegister) : Reaches sidebandEffects s (execPollTimerExpired b r s) := by
  unfold execPollTimerExpired
  split
  · exact .stay
  · split
    · exact .next (((Does.stay s).time (by trivial) _).change (by trivial) (.channel _))
    · exact .stay

theorem execIdentPollTimerExpired_reaches : Reaches sidebandEffects s (execIdentPollTimerExpired b s) := by
  unfold execIdentPollTimerExpired
  split
  · exact .stay
  · split
    · exact .next (((Does.stay s).time (by trivial) _).change (by trivial) (.channel _))
    · exact .stay

end

/-! ### Bay charging, and the attributes -/

/-- The effects of the commands of bay charging and of a BAYSET, beside those of their notices. -/
def chargeEffects : Set Effect := {e | match e with
  | .tell _ | .enter _ | .wish _ | .need | .write _ _ | .answered _ | .reads _ | .channelUp _ | .frame _ | .count _
  | .channel _ | .view _ | .attrs _ | .present _ | .share | .loans | .withdraw | .claim _ | .slot | .hand | .meter
  | .time => True
  | _ => False}

theorem sideband_charge : sidebandEffects ⊆ chargeEffects := by
  intro e among
  cases e <;> trivial

theorem charging_charge (b : BayIx) : charging b ⊆ chargeEffects := by
  rintro e ((((rfl | rfl) | among) | among) | among)
  · trivial
  · trivial
  · rcases among with rfl | rfl | rfl | rfl <;> trivial
  · rcases among with rfl | rfl | rfl | rfl <;> trivial
  · rcases among with rfl | ⟨x, -, rfl | ⟨o, rfl⟩⟩ <;> trivial

/-- The effects of the CSU and the SHU in these commands, which leave the charge sections. -/
def asideEffects : Set Effect := {e | match e with
  | .tell _ | .frame _ | .attrs _ | .share | .loans | .withdraw | .claim _ | .slot => True
  | _ => False}

theorem aside_charge : asideEffects ⊆ chargeEffects := by
  intro e among
  cases e <;> trivial

theorem placing_aside (k : FrameKind) : placing k ⊆ asideEffects := by
  rintro e (rfl | ⟨f, rfl⟩) <;> trivial

section
variable {w : Work} {b : BayIx}

theorem cancelClaim_acts {can : Set Effect} (claims : unanswering ⊆ can) (withdraws : .withdraw ∈ can) :
    Acts can w (cancelClaim b w) := by
  unfold cancelClaim
  split
  · exact .refl
  · next c _ =>
    have withdrawn : Acts can w (if c.inWindow then w else withdraw (slotAnswer .offer c.reader c.sequence) w) := by
      split
      · exact .refl
      · exact .once withdraws (.withdraw _)
    exact (withdrawn.trans (modSlot_acts _ _ _ (fun _ => .inr rfl) (claims (.inl rfl)))).trans (clearClaim_acts claims)

theorem unanswering_aside : unanswering ⊆ asideEffects := by
  rintro e (rfl | ⟨b, rfl | rfl⟩) <;> trivial

theorem setAttrs_acts (new : BayAttrs) : Acts asideEffects w (setAttrs b new w) := by
  unfold setAttrs
  extract_lets old w₁ w₂ w₃ w₄
  have changed : Acts asideEffects w w₁ := .once (e := .attrs b) (by trivial) (.attrs new)
  have cancelled : Acts asideEffects w₁ w₂ := by
    simp only [w₂]
    split <;> [exact cancelClaim_acts unanswering_aside (by trivial); exact .refl]
  exact (((changed.trans cancelled).tellIf (by trivial)).tellIf (by trivial)).tellIf (by trivial)

theorem chargeEvent_acts (code : Nat) (bay : Byte) (word : Word32) (value : Nat) (k : Block) (small : code < 16) :
    Acts asideEffects w (placeEvent code bay word value k w) := placeEvent_acts _ _ _ _ _ small (placing_aside _)

theorem tripBay_acts (kind : FaultKind) : Acts chargeEffects w (tripBay b kind w) := by
  have charged := charging_charge b
  unfold tripBay
  extract_lets second w₁ w₂ w₃ w₄ w₅
  have moved : Acts chargeEffects w w₁ := moveCharge_acts charged _
  have cut : Acts chargeEffects w₁ w₂ := (modCharge_acts charged fun s c =>
      { withGrant 0 c with lastFault := some s.seconds, faultKind := some kind, unmanagedTimer := none }).change
    (f := fun s => s.modCounters b fun k => { k with faults := k.faults + 1 }) (by trivial) (.count _ rfl)
  have refreshed : Acts chargeEffects w₂ w₃ := refreshed_acts charged
  have placed : Acts chargeEffects w₃ w₄ := (chargeEvent_acts _ _ _ _ _ (by decide)).mono aside_charge
  have limited : Acts chargeEffects w₄ w₅ := (limited_acts charged).tell (by trivial)
  have tripped := (((moved.trans cut).trans refreshed).trans placed).trans limited
  split
  · exact tripped.trans (((setAttrs_acts _).trans (chargeEvent_acts _ _ _ _ _ (by decide))).mono aside_charge)
  · exact tripped

theorem evaluateGuard_shu (s : State) :
    evaluateGuard s = s.modShu (fun _ => (evaluateGuard s).shu) ∧
      (evaluateGuard s).shu.allowance = s.shu.allowance ∧ (evaluateGuard s).shu.settled = s.shu.settled ∧
      (evaluateGuard s).shu.floor = s.shu.floor ∧ (evaluateGuard s).shu.available = s.shu.available := by
  simp only [evaluateGuard]
  split
  · split
    · split <;> exact ⟨rfl, rfl, rfl, rfl, rfl⟩
    · exact ⟨rfl, rfl, rfl, rfl, rfl⟩
  · split <;> exact ⟨rfl, rfl, rfl, rfl, rfl⟩

theorem presentDraw_acts (draw : Nat) : Acts asideEffects w (presentDraw draw w) := by
  have drawn : Acts asideEffects w
      { w with st := w.st.modShu fun u => { u with draw := heldAt 65535 draw } } :=
    .once (e := .share) (by trivial) (.share _ ⟨rfl, rfl, rfl, rfl⟩)
  unfold presentDraw
  dsimp only
  split
  · refine Acts.tellIf (drawn.trans ?_) (by trivial)
    obtain ⟨same, kept⟩ := evaluateGuard_shu { w.st with shu := { w.st.shu with draw := heldAt 65535 draw } }
    rw [same]
    exact .once (w := { w with st := { w.st with shu := { w.st.shu with draw := heldAt 65535 draw } } })
      (e := .share) (by trivial) (.share _ kept)
  · exact drawn

theorem modBay_measureBay (s : State) (b : BayIx) (p : PortSense) :
    s.modBay b (measureBay p) =
      (s.modCharge b fun _ => (measureBay p (s.bay b)).charge).modCounters b fun _ =>
        (measureBay p (s.bay b)).counters := by
  simp only [State.modCounters, State.modCharge, State.modBay_modBay]
  rfl

theorem takeMeasurement_acts (ports : Vector PortSense 8) : Acts chargeEffects w (takeMeasurement ports w) := by
  unfold takeMeasurement
  extract_lets w₁ w₂
  have measured : Acts chargeEffects w w₁ :=
    Acts.forEach (f := fun b => Work.upd fun s => s.modBay b (measureBay ports[b])) (fun b w => by
      simp only [Work.upd, modBay_measureBay]
      have counters (s : State) (c : BayIx) (f : Charge → Charge) :
          ((s.modCharge c f).bay c).counters.sessions = (s.bay c).counters.sessions :=
        s.read_modBay c c (·.counters.sessions) fun _ => rfl
      exact (Acts.once (w := w) (e := .enter b) (by trivial) (.enter _)).change
        (f := fun s => s.modCounters b fun _ => (measureBay ports[b] (w.st.bay b)).counters)
        (e := .count b) (by trivial) (.count _ (counters _ b _).symm)) _ w
  have presented : Acts chargeEffects w₁ w₂ := (presentDraw_acts _).mono aside_charge
  refine (measured.trans presented).trans (Acts.forEach (fun b w => ?_) _ _)
  split <;> [exact tripBay_acts _; exact .refl]

theorem enterIdentifying_charge : Acts chargeEffects w (enterIdentifying b false w) :=
  enterIdentifying_acts (charging_charge b) false

theorem recordLoan_acts (asset : Word32) (r : ReleaseRecord) : Acts asideEffects w (recordLoan b asset r w) := by
  unfold recordLoan
  dsimp only
  split
  · next room => exact .once (e := .loans) (by trivial) (.recorded (loanOf w.st b asset r) room)
  · exact place_acts _ (by decide : 16 + 9 < 4096) rfl nofun (placing_aside _)

theorem takeRemoval_acts : Acts asideEffects w (takeRemoval b w) := by
  have removal : Acts asideEffects w (doorRemoval b w) := by
    unfold doorRemoval
    split
    · exact .refl
    · split <;> [exact chargeEvent_acts _ _ _ _ _ (by decide); exact .refl]
  unfold takeRemoval
  dsimp only
  split
  · exact removal
  · refine removal.trans ?_
    unfold removalNotice
    split
    · dsimp only
      split <;> [exact recordLoan_acts _ _; exact .refl]
    · exact .refl

theorem losePresence_acts : Acts chargeEffects w (losePresence b w) := by
  unfold losePresence
  dsimp only
  refine (channelLost_acts (b := b) sideband_charge).trans (Acts.trans ?_ (takeRemoval_acts.mono aside_charge))
  split
  · exact .refl
  · exact enterVacant_acts (charging_charge b)

theorem clearFault_acts : Acts chargeEffects w (clearFault b w) := by
  unfold clearFault
  split <;> [exact enterIdentifying_charge; exact .refl]

theorem takeField_acts (f : BaysetField) (e : CredentialEntry) (body : BaysetBody) :
    Acts chargeEffects w (takeField f e body b w) := by
  unfold takeField
  split
  · cases f
    case clearFault => exact clearFault_acts
    all_goals exact (setAttrs_acts _).mono aside_charge
  · exact .refl

end

section
variable {s : State} {b : BayIx}

theorem execMeasurement_reaches (ports : Vector PortSense 8) : Reaches chargeEffects s (execMeasurement ports s) := by
  unfold execMeasurement
  split
  · exact .stay
  · exact .carryOut (((Does.stay s).time (by trivial) _).change (e := .meter) (by trivial) (.meter _))
      (takeMeasurement_acts ports)

theorem execPresenceGain_reaches : Reaches chargeEffects s (execPresenceGain b s) := by
  unfold execPresenceGain
  split
  · refine .carryOut ((Does.stay s).change (e := .present b) (by trivial) (.present true)) ?_
    split <;> [exact enterIdentifying_charge; exact .refl]
  · exact .stay

theorem execPresenceLoss_reaches : Reaches chargeEffects s (execPresenceLoss b s) := by
  unfold execPresenceLoss
  split
  · exact .carryOut ((Does.stay s).change (e := .present b) (by trivial) (.present false)) losePresence_acts
  · exact .stay

theorem execIdentificationTimerExpired_reaches : Reaches chargeEffects s (execIdentificationTimerExpired b s) := by
  unfold execIdentificationTimerExpired
  split
  · exact .stay
  · split
    · exact .carryOut ((Does.stay s).time (by trivial) _) (enterUnmanaged_acts (charging_charge b))
    · exact .stay

theorem execUnmanagedReadTimerExpired_reaches : Reaches chargeEffects s (execUnmanagedReadTimerExpired b s) := by
  unfold execUnmanagedReadTimerExpired
  split
  · exact .stay
  · split
    · exact .next ((((Does.stay s).time (by trivial) _).change (e := .enter b) (by trivial) (.enter _)).change
        (e := .reads b) (by trivial) (.reads _))
    · exact .stay

theorem execShortHoldStart_reaches (mV : Nat) : Reaches chargeEffects s (execShortHoldStart b mV s) := by
  unfold execShortHoldStart
  dsimp only
  split
  · exact .next ((Does.stay s).change (e := .enter b) (by trivial) (.enter _))
  · exact .stay

theorem execShortHoldAbandoned_reaches (mV : Nat) : Reaches chargeEffects s (execShortHoldAbandoned b mV s) := by
  unfold execShortHoldAbandoned
  split
  · exact .stay
  · exact .next ((Does.stay s).change (e := .enter b) (by trivial) (.enter _))

theorem execShortTrip_reaches : Reaches chargeEffects s (execShortTrip b s) := by
  unfold execShortTrip
  split
  · exact .stay
  · split
    · exact .carryOut ((Does.stay s).time (by trivial) _) (tripBay_acts _)
    · exact .stay

theorem takeBayset_reaches (f : BaysetField) : Reaches chargeEffects s (takeBayset f s) := by
  have handed : ∀ x, Does chargeEffects s (s.setHand x .csu) :=
    fun x => (Does.stay s).change (e := .hand) (by trivial) (.hand x .csu nofun)
  unfold takeBayset
  split
  · exact .stay
  · split
    · dsimp only
      split
      · exact .carryOut (handed _) ((chargeEvent_acts _ _ _ _ _ (by decide)).mono aside_charge)
      · split
        · split
          · exact .carryOut (handed _) (takeField_acts _ _ _)
          · split <;> [exact .next (handed _); exact .stay]
        · exact .next (handed _)
    · exact .stay

end

end Sys2Proof.Machine
end

section
/-! The commands of custody, of the lanes, of queries and of peers as sequences of effects. -/

namespace Sys2Proof.Machine

/-! ### Custody -/

/-- The effects of the commands of presentations, answers and loans, beside those of their notices. -/
def custodyEffects : Set Effect := {e | match e with
  | .tell _ | .slots | .slot | .claim _ | .claimed _ | .withdraw | .frame _ | .freeChoice | .loan | .hand | .time => True
  | _ => False}

theorem unanswering_custody : unanswering ⊆ custodyEffects := by
  rintro e (rfl | ⟨b, rfl | rfl⟩) <;> trivial

theorem placing_custody (k : FrameKind) : placing k ⊆ custodyEffects := by
  rintro e (rfl | ⟨f, rfl⟩) <;> trivial

section
variable {w : Work} {b : BayIx} {r : Reader}

theorem withdraw_acts (which : TxFrame → Bool) : Acts custodyEffects w (withdraw which w) :=
  .once (e := .withdraw) (by trivial) (.withdraw _)

theorem setSlot_acts (f : State → Option PresentationSlot) : Acts custodyEffects w (w.upd fun s => s.setSlot r (f s)) :=
  .once (e := .slots) (by trivial) (.slots r _)

theorem withdrawAnswer_acts : Acts custodyEffects w (withdrawAnswer r w) := by
  unfold withdrawAnswer
  split
  · exact .refl
  · next x _ =>
    split
    · exact ((withdraw_acts _).trans (setSlot_acts fun _ => some { x with own := .none })).trans
        (removeQueuedClaim_acts _ _ unanswering_custody)
    · exact (withdraw_acts _).trans (setSlot_acts fun _ => some { x with own := .none })
    all_goals exact .refl

theorem takePresent_acts (p : PresentBody) : Acts custodyEffects w (takePresent p w) := by
  unfold takePresent
  split
  · exact .refl
  · split
    · exact .refl
    · split
      · exact .refl
      · exact withdrawAnswer_acts.trans (setSlot_acts fun s => some (newSlot s.now p _))

theorem heardAnswer_acts (sequence : Byte) : Acts custodyEffects w (heardAnswer r sequence w) := by
  unfold heardAnswer
  split
  · exact .refl
  · next x _ =>
    split
    · exact (setSlot_acts fun _ => some { x with decided := true }).trans withdrawAnswer_acts
    · exact .refl

theorem cancelWindows_acts (which : PendingClaim → Bool) : Acts custodyEffects w (cancelWindows which w) := by
  refine Acts.forEach (fun b w => ?_) _ _
  split <;> [exact cancelClaim_acts unanswering_custody (by trivial); exact .refl]

theorem takeOffer_acts (f : RxFrame) : Acts custodyEffects w (takeOffer f w) := by
  unfold takeOffer
  split
  · exact .refl
  · exact (heardAnswer_acts _).trans (cancelWindows_acts _)

theorem takeDeny_acts (f : RxFrame) : Acts custodyEffects w (takeDeny f w) := by
  unfold takeDeny
  split
  · exact .refl
  · exact (heardAnswer_acts _).trans (cancelWindows_acts _)

theorem advance_acts (t : Nat) : Acts custodyEffects w (w.upd fun s => s.advanceTo t) :=
  .once (e := .time) (by trivial) (.time t)

theorem deadlineEnds_acts : Acts custodyEffects w (deadlineEnds r w) := by
  unfold deadlineEnds
  split
  · exact .refl
  · next x _ =>
    split
    · exact .refl
    · next t _ =>
      exact ((advance_acts t).trans (setSlot_acts fun _ => some { x with deadline := none })).trans
        withdrawAnswer_acts

theorem denyDeadlineEnds_acts (sequence : Byte) : Acts custodyEffects w (denyDeadlineEnds r sequence w) := by
  unfold denyDeadlineEnds
  split
  · exact .refl
  · exact (advance_acts _).trans (withdraw_acts _)

theorem ruleDeny_custody (c : Word32) (q : Byte) : Acts custodyEffects w (ruleDeny c r q w) :=
  ruleDeny_acts c r q (placing_custody _)

theorem windowEnds_acts : Acts custodyEffects w (windowEnds b w) := by
  unfold windowEnds
  split
  · exact .refl
  · next c _ =>
    split
    · extract_lets w₁ w₂
      have ended : Acts custodyEffects w w₁ :=
        (advance_acts c.endTime).change (f := fun s => s.modBay b fun x => { x with claim := none })
          (e := .claim b) (by trivial) .claim
      have answered : Acts custodyEffects w₁ w₂ := by
        simp only [w₂]
        split
        · exact Acts.refl.tell (by trivial)
        · exact ruleDeny_custody _ _
      exact (ended.trans answered).tell (by trivial)
    · exact .refl

/-- A change of a slot, where it holds the sequence. -/
theorem modSlots_acts {can : Set Effect} (may : .slots ∈ can) (q : Byte)
    (f : PresentationSlot → PresentationSlot) : Acts can w (w.upd fun s => s.modSlot r q f) := by
  unfold State.modSlot
  cases held : w.st.slot r with
  | none =>
    simp only [Work.upd, held]
    exact .refl
  | some x =>
    by_cases same : x.sequence = q
    · simp only [Work.upd, held, same, if_true]
      exact .once may (.slots r _)
    · simp only [Work.upd, held, same, if_false]
      exact .refl

theorem offerCompleted_acts (f : TxFrame) : Acts custodyEffects w (offerCompleted f w) := by
  unfold offerCompleted
  dsimp only
  split
  · next q c _ claimed =>
    split
    · have opened : Acts custodyEffects w (w.upd fun s => s.modBay (offerBay f.body) fun x =>
          { x with claim := some (openWindow s.now c) }) :=
        .once (e := .claimed (offerBay f.body)) (by trivial) (.claimed _ (.inl (by rw [claimed]; rfl)))
      exact opened.trans (modSlots_acts (by trivial) _ fun x => { x with decided := true, own := .claimed })
    · exact .refl
  · exact .refl

theorem denyCompleted_acts (f : TxFrame) : Acts custodyEffects w (denyCompleted f w) := by
  unfold denyCompleted
  split
  · exact .refl
  · unfold State.modAnswered
    cases answerReader f.body with
    | none => exact .refl
    | some q => exact modSlots_acts (by trivial) _ fun x => { x with decided := true, own := .none }

theorem queueOffer_acts (x : PresentationSlot) (f : TxFrame) (bid : f.bid < 4096) (idle : f.inTransmission = false)
    (other : f.kind ≠ .heartbeat) (free : w.st.laneWorking b = false) :
    Acts custodyEffects w (queueOffer r x b f w) := by
  have claimed : Acts custodyEffects w (w.upd fun s =>
      ({ s with freeCount := s.freeCount + 1 }.setSlot r (some { x with own := .offerQueued })).modBay b fun y =>
        { y with claim := some (newClaim r x (f.key s.cfl.address)) }) :=
    ((Acts.once (w := w) (e := .freeChoice) (by trivial) .freeChoice).trans
      (setSlot_acts fun _ => some { x with own := .offerQueued })).change
      (f := fun s => s.modBay b fun y => { y with claim := some (newClaim r x (f.key s.cfl.address)) })
      (e := .claimed b) (by trivial) (.claimed _ (.inr free))
  exact (claimed.tell (by trivial)).trans (place_acts f bid idle other (placing_custody _))

/-! The OFFERs that are decided. -/

theorem checkoutBid_lt (soc : Nat) (b : BayIx) : checkoutBid soc b < 4096 := by
  simp only [checkoutBid]
  omega

theorem bestBy_mem {score : BayIx → Nat} {bays : List BayIx} {b : BayIx} (h : bestBy score bays = some b) :
    b ∈ bays := by
  induction bays generalizing b with
  | nil => cases h
  | cons c bays ih =>
    simp only [bestBy] at h
    split at h
    · cases h; simp
    · next d best =>
      split at h <;> cases h
      · exact List.mem_cons_of_mem _ (ih best)
      · simp

/-- What holds of an answer, where it is an OFFER: its bid has 12 bits, and no lane machine is at work at its bay
(R151). -/
def Answer.Sound (s : State) : Answer → Prop
  | .offer b _ _ bid => bid < 4096 ∧ s.laneWorking b = false
  | _ => True

theorem decideCheckout_sound (s : State) (e : CredentialEntry) : (decideCheckout s e).Sound s := by
  have open_sound : (openCheckout s e).Sound s := by
    unfold openCheckout
    split
    · trivial
    · next b best =>
      have eligible := (List.mem_filter.1 (bestBy_mem best)).2
      simp only [checkoutEligible, Bool.and_eq_true, Bool.not_eq_true'] at eligible
      exact ⟨checkoutBid_lt _ _, eligible.1.1.2⟩
  have assigned_sound : ∀ asset, (assignedCheckout s e asset).Sound s := fun asset => by
    unfold assignedCheckout
    split
    · trivial
    · next b _ =>
      dsimp only
      split
      · trivial
      · next free =>
        split
        · trivial
        · split <;> [exact ⟨checkoutBid_lt _ _, by simpa using free⟩; trivial]
  unfold decideCheckout
  split
  · trivial
  · split <;> [exact open_sound; exact assigned_sound _]

theorem decideReturn_sound (s : State) (e : CredentialEntry) : (decideReturn s e).Sound s := by
  unfold decideReturn
  split
  · trivial
  · next b best =>
    have eligible := (List.mem_filter.1 (bestBy_mem best)).2
    simp only [returnEligible, Bool.and_eq_true, Bool.not_eq_true'] at eligible
    have small : returnPreference s e b ≤ 1 := by
      unfold returnPreference
      split <;> omega
    exact ⟨by omega, eligible.2⟩

theorem decideOpen_sound (s : State) (e : CredentialEntry) (station index : Byte) :
    (decideOpen s e station index).Sound s := by
  unfold decideOpen
  dsimp only
  repeat' split
  all_goals trivial

theorem decideSlot_sound (s : State) (x : PresentationSlot) : (decideSlot s x).Sound s := by
  unfold decideSlot
  split
  · trivial
  · split
    · trivial
    · cases x.kind
      · exact decideCheckout_sound _ _
      · exact decideReturn_sound _ _
      · exact decideOpen_sound _ _ _ _

theorem giveAnswer_acts (x : PresentationSlot) (a : Answer) (sound : a.Sound w.st) :
    Acts custodyEffects w (giveAnswer r x a w) := by
  cases a with
  | nothing => exact .refl
  | offer bay asset low n => exact queueOffer_acts x _ sound.1 rfl nofun sound.2
  | deny reason =>
    exact (setSlot_acts fun _ => some { x with own := .denyQueued }).trans
      (place_acts _ (denyCode_lt reason) rfl nofun (placing_custody _))
  | release bay reason => exact Acts.refl.tell (by trivial)

theorem answerDelayEnds_acts : Acts custodyEffects w (answerDelayEnds r w) := by
  unfold answerDelayEnds
  split
  · exact .refl
  · next x _ =>
    split
    · exact .refl
    · next t _ =>
      exact ((advance_acts t).trans (setSlot_acts fun _ => some { x with answerDelay := none })).trans
        (giveAnswer_acts _ _ (decideSlot_sound _ _))

theorem loanSeen_acts (asset : Word32) : Acts custodyEffects w (loanSeen asset w) :=
  .once (e := .loan) (by trivial) (.loan asset)

end

section
variable {s : State} {r : Reader}

theorem execPresent_reaches : Reaches custodyEffects s (execPresent s) := by
  refine .fromHand (by trivial) fun x w => ?_
  split <;> [exact takePresent_acts _; exact .refl]

theorem execOfferHeard_reaches : Reaches custodyEffects s (execOfferHeard s) := by
  refine .fromHand (by trivial) fun x w => ?_
  split <;> [exact takeOffer_acts _; exact .refl]

theorem execDenyHeard_reaches : Reaches custodyEffects s (execDenyHeard s) := by
  refine .fromHand (by trivial) fun x w => ?_
  split <;> [exact takeDeny_acts _; exact .refl]

theorem execReleasedHeard_reaches : Reaches custodyEffects s (execReleasedHeard s) :=
  .fromHand (by trivial) fun _ _ => loanSeen_acts _

theorem execReturnedHeard_reaches : Reaches custodyEffects s (execReturnedHeard s) :=
  .fromHand (by trivial) fun _ _ => loanSeen_acts _

theorem execAnswerDelayEnd_reaches : Reaches custodyEffects s (execAnswerDelayEnd r s) :=
  .carryOut (.stay s) answerDelayEnds_acts

theorem execWithdrawalDeadline_reaches : Reaches custodyEffects s (execWithdrawalDeadline r s) :=
  .carryOut (.stay s) deadlineEnds_acts

theorem execObjectionWindowEnd_reaches (b : BayIx) : Reaches custodyEffects s (execObjectionWindowEnd b s) :=
  .carryOut (.stay s) windowEnds_acts

theorem execDenyDeadline_reaches (q : Byte) : Reaches custodyEffects s (execDenyDeadline r q s) :=
  .carryOut (.stay s) (denyDeadlineEnds_acts q)

end

/-! ### Lanes -/

/-- The effects of the commands of the lanes, beside those of their notices. -/
def laneEffects : Set Effect := {e | match e with
  | .tell _ | .lanes | .lane | .items | .prov _ | .count _ | .frame _ | .write _ _ | .answered _ | .wish _ | .need | .hand
  | .time => True
  | _ => False}

theorem sessionEnding_lanes (b : BayIx) : sessionEnding b ⊆ laneEffects := by
  rintro e ((((rfl | rfl | rfl) | among) | among) | among)
  iterate 3 trivial
  · rcases among with rfl | rfl | rfl | rfl <;> trivial
  · rcases among with rfl | ⟨f, rfl⟩ <;> trivial
  · rcases among with rfl | ⟨x, -, rfl | ⟨o, rfl⟩⟩ <;> trivial

section
variable {w : Work} {n : LaneIx}

theorem endSession_lanes (o : LaneOutcome) : Acts laneEffects w (endSession n o w) :=
  endSession_acts n o fun _ _ => sessionEnding_lanes _

theorem modPvs_acts (f : State → Pvs → Pvs) : Acts laneEffects w (w.upd fun s => s.modPvs (f s)) :=
  .once (e := .lanes) (by trivial) (.lanes _)

theorem renewLimit_acts (k : SlotIx) (limit : Nat) : Acts laneEffects w (renewLimit k limit n w) := by
  unfold renewLimit
  split
  · exact .refl
  · next x _ =>
    split
    · next t _ _ =>
      split
      · dsimp only
        have renewed : Acts laneEffects w (w.upd fun s =>
            s.setLane n (some { x with limit := some (t + limit * 60000) })) :=
          .once (e := .lane) (by trivial) (.lane n _)
        split
        · exact renewed.trans (endSession_lanes _)
        · exact renewed
      · exact .refl
    · exact .refl

theorem startCampaign_acts (body : CampaignBody) : Acts laneEffects w (startCampaign body w) := by
  unfold startCampaign
  split
  · dsimp only
    split
    · next k _ =>
      exact ((modPvs_acts fun _ p => 
        { p with campaigns := p.campaigns.set k (some (campaignOf w.st.cfl.config body)) }).trans
        (Acts.forEach (fun _ _ => renewLimit_acts _ _) _ _)).tell (by trivial)
    · split
      · next k _ =>
        exact (modPvs_acts fun _ p => 
          { p with campaigns := p.campaigns.set k (some (campaignOf w.st.cfl.config body)) }).tell (by trivial)
      · refine placeEvent_acts _ _ _ _ _ (by decide) ?_
        rintro e (rfl | ⟨f, rfl⟩) <;> trivial
  · exact .refl

theorem cancelLanes_acts (k : SlotIx) : Acts laneEffects w (cancelLanes k w) := by
  refine Acts.forEach (fun n w => ?_) _ _
  split <;> [exact endSession_lanes _; exact .refl]

theorem cancelCampaign_acts (body : CampaignBody) : Acts laneEffects w (cancelCampaign body w) := by
  unfold cancelCampaign
  split
  · split
    · exact .refl
    · next k _ =>
      exact ((((cancelLanes_acts k).trans
        (modPvs_acts fun _ p => { p with queue := p.queue.filter fun x => x.slot != k })).trans
        (Acts.forEach (f := fun b => Work.upd (clearAttemptsFor k b))
          (fun b _ => .once (e := .prov b) (by trivial) (.prov _ (.inl rfl))) _ _)).trans
        (modPvs_acts fun _ p => { p with campaigns := p.campaigns.set k none })).tell (by trivial)
  · exact .refl

theorem wakeWaitEnds_acts : Acts laneEffects w (wakeWaitEnds n w) := by
  unfold wakeWaitEnds
  split
  · exact .refl
  · split
    · exact (Acts.once (e := .time) (by trivial) (.time _)).trans (endSession_lanes _)
    · exact .refl

theorem laneLimitEnds_acts : Acts laneEffects w (laneLimitEnds n w) := by
  unfold laneLimitEnds
  split
  · exact .refl
  · split
    · exact (Acts.once (e := .time) (by trivial) (.time _)).trans (endSession_lanes _)
    · exact .refl

end

section
variable {s : State} {n : LaneIx}

theorem execCampaignStart_reaches : Reaches laneEffects s (execCampaignStart s) := by
  refine .fromHand (by trivial) fun x w => ?_
  split <;> [exact startCampaign_acts _; exact .refl]

theorem execCampaignCancel_reaches : Reaches laneEffects s (execCampaignCancel s) := by
  refine .fromHand (by trivial) fun x w => ?_
  split <;> [exact cancelCampaign_acts _; exact .refl]

theorem execWakeWaitExpired_reaches : Reaches laneEffects s (execWakeWaitExpired n s) :=
  .carryOut (.stay s) wakeWaitEnds_acts

theorem execLaneTimeLimitExpired_reaches : Reaches laneEffects s (execLaneTimeLimitExpired n s) :=
  .carryOut (.stay s) laneLimitEnds_acts

end

/-! ### Queries -/

/-- The effects of the commands of queries. -/
def queryEffects : Set Effect := {e | match e with
  | .tell _ | .hand | .answers | .flags | .session _ | .frame _ => True
  | _ => False}

section
variable {w : Work} {s : State}

theorem placing_queries (k : FrameKind) : placing k ⊆ queryEffects := by
  rintro e (rfl | ⟨f, rfl⟩) <;> trivial

theorem placeParts_acts (fs : List TxFrame) (formed : ∀ f ∈ fs, f.bid < 4096 ∧ f.inTransmission = false ∧ f.kind ≠ .heartbeat) (all : Bool) :
    Acts queryEffects w (placeParts fs (w, all)).1 := by
  induction fs generalizing w all with
  | nil => exact .refl
  | cons f fs ih =>
    obtain ⟨bid, idle, other⟩ := formed f (by simp)
    exact (place_acts f bid idle other (placing_queries _)).trans (ih (fun g among => formed g (by simp [among])) _)

/-- R158: a payload is cut in order into pieces of one size. -/
theorem piecesOf_eq {size n : Nat} {xs : List Byte} (some : 0 < size) (enough : xs.length ≤ n) :
    piecesOf size n xs =
      (List.range ((xs.length + size - 1) / size)).map fun i => (xs.drop (size * i)).take size := by
  induction n generalizing xs with
  | zero =>
    obtain rfl : xs = [] := List.eq_nil_of_length_eq_zero (by omega)
    have none : (size - 1) / size = 0 := Nat.div_eq_of_lt (by omega)
    simp [piecesOf, none]
  | succ n ih =>
    cases xs with
    | nil =>
      have none : (size - 1) / size = 0 := Nat.div_eq_of_lt (by omega)
      simp [piecesOf, none]
    | cons x xs =>
      have rest := ih (xs := (x :: xs).drop size) (by
        simp only [List.length_drop, List.length_cons] at enough ⊢
        omega)
      have count : ((x :: xs).length + size - 1) / size =
          (((x :: xs).drop size).length + size - 1) / size + 1 := by
        rw [← Nat.add_div_right _ some, List.length_drop]
        rcases Nat.lt_or_ge (x :: xs).length size with short | long
        · rw [Nat.div_eq_of_lt_le (k := 1) (by simp only [List.length_cons] at *; omega) (by omega),
            Nat.div_eq_of_lt_le (k := 1) (by omega) (by omega)]
        · congr 1
          omega
      rw [count, List.range_succ_eq_map]
      simp only [piecesOf, rest, List.map_cons, List.map_map, Nat.mul_zero, List.drop_zero, List.drop_drop]
      refine congrArg _ (List.map_congr_left fun i _ => ?_)
      simp only [Function.comp, Nat.mul_succ, Nat.add_comm]

theorem pieceSize_pos (maximum : Nat) : 5 ≤ pieceSize maximum := by
  simp only [pieceSize, clampTo]
  omega

theorem length_answerParts (source : Addr) (q : QueryBody) (payload : List Byte) :
    (answerParts source q payload).length = (payload.length + pieceSize q.maximum - 1) / pieceSize q.maximum := by
  have := pieceSize_pos q.maximum
  simp only [answerParts, List.length_mapIdx]
  rw [piecesOf_eq (by omega) le_rfl, List.length_map, List.length_range]

/-- R158: the bids of the parts have 12 bits, for an item that is a byte and a payload of the Formats chapter. -/
theorem answerParts_formed {source : Addr} {q : QueryBody} {payload : List Byte} (byte : q.item < 256)
    (short : payload.length ≤ 80) : ∀ f ∈ answerParts source q payload,
      f.bid < 4096 ∧ f.inTransmission = false ∧ f.kind ≠ .heartbeat := by
  intro f among
  have size := pieceSize_pos q.maximum
  have few : (payload.length + pieceSize q.maximum - 1) / pieceSize q.maximum ≤ 16 := by
    rw [Nat.div_le_iff_le_mul_add_pred (by omega)]
    omega
  rw [← length_answerParts source q payload] at few
  obtain ⟨i, small, rfl⟩ := List.mem_iff_getElem.1 among
  have below : i < 16 := by omega
  simp only [answerParts, List.getElem_mapIdx, partFrame, newFrame]
  exact ⟨by omega, trivial, nofun⟩

/-! The payloads of the Formats chapter are short. -/

theorem readQuery_item (b : List Byte) : (readQuery b).item < 256 := (byteAt b 0).isLt

theorem length_stationPayload (s : State) : (stationPayload s).length ≤ 80 := by
  simp [stationPayload, bytesHeld, bytes16]

theorem length_batteryBytes (x : Option Battery) : (batteryBytes x).length = 4 := by
  cases x <;> rfl

theorem length_bayAnswer (s : State) (index : Nat) : (bayAnswer s index).length ≤ 80 := by
  unfold bayAnswer
  split
  · split
    · simp [bayPayload, length_batteryBytes, bytesHeld, bytes16, bytes32, attrBytes]
    · simp [notPopulated]
  · simp [noEntry]

theorem length_countersAnswer (s : State) (index : Nat) : (countersAnswer s index).length ≤ 80 := by
  unfold countersAnswer
  split
  · split
    · simp [bayCounterPayload, bytes32]
    · simp [notPopulated]
  · split
    · simp [stationCounterPayload, bytes32]
    · simp [noEntry]

theorem length_loanAnswer (s : State) (index : Nat) : (loanAnswer s index).length ≤ 80 := by
  unfold loanAnswer
  split
  · simp [loanPayload, bytesHeld, bytes16, bytes32]
  · simp [noEntry]

theorem length_peerAnswer (s : State) (index : Nat) : (peerAnswer s index).length ≤ 80 := by
  unfold peerAnswer
  split
  · unfold peerPayload
    split <;> simp [bytesHeld, bytes16]
  · simp [noEntry]

theorem length_campaignAnswer (s : State) (index : Nat) : (campaignAnswer s index).length ≤ 80 := by
  unfold campaignAnswer
  split
  · unfold campaignPayload
    split <;> simp [bytesHeld, bytes16]
  · simp [noEntry]

theorem answerQuery_acts (source : Addr) (q : QueryBody) (payload : State → List Byte) (byte : q.item < 256)
    (short : ∀ s, (payload s).length ≤ 80) : Acts queryEffects w (answerQuery source q payload w).1 :=
  (Acts.once (e := .answers) (by trivial) (.answers _)).trans (placeParts_acts _ (answerParts_formed byte (short _)) _)

theorem answerFrom_reaches {which : QueryBody → Bool} {payload : QueryBody → State → List Byte}
    (short : ∀ q s, (payload q s).length ≤ 80) : Reaches queryEffects s (answerFrom s which payload) :=
  .fromHand (by trivial) fun _ _ => answerQuery_acts _ _ _ (readQuery_item _) (short _)

theorem execQueryCountersClear_reaches : Reaches queryEffects s (execQueryCountersClear s) := by
  refine .fromHand (by trivial) fun f w => ?_
  have answered := answerQuery_acts (w := w) f.source (readQuery f.body)
    (fun s => countersAnswer s (readQuery f.body).index) (readQuery_item _) fun s => length_countersAnswer s _
  unfold answerAndClear
  dsimp only
  split
  · refine answered.trans ?_
    unfold clearSet
    by_cases bay : (readQuery f.body).index < 8
    · simp only [bay, dif_pos]
      exact .once (e := .session _) (by trivial) (.session _)
    · by_cases station : (readQuery f.body).index = 8
      · simp only [station, if_true]
        exact (Acts.once (e := .flags) (by trivial) (.flags _ _ _ {})).change
          (f := fun s => { s with rpu := { s.rpu with answered := 0 } }) (e := .answers) (by trivial) (.answers 0)
      · simp only [bay, station, dif_neg, if_false, not_false_eq_true]
        exact .refl
  · exact answered

end

end Sys2Proof.Machine
end

section
/-! The commands of peers, of the line and of the tables as sequences of effects, and every step: a millisecond, a
command of a group with its effects, or a command of start-up. -/

namespace Sys2Proof.Machine

/-! ### Peers -/

/-- The effects of the commands of peers, beside those of their notices. -/
def peerEffects : Set Effect := {e | match e with
  | .tell _ | .hand | .peer | .monitor | .share | .frame _ | .time => True
  | _ => False}

section
variable {w : Work} {s : State}

theorem peerEvent_acts (code : Nat) (bay : Byte) (word : Word32) (value : Nat) (k : Block) (small : code < 16) :
    Acts peerEffects w (placeEvent code bay word value k w) := by
  refine placeEvent_acts _ _ _ _ _ small ?_
  rintro e (rfl | ⟨f, rfl⟩) <;> trivial

theorem takeHeartbeat_acts (a : Addr) (h : HeartbeatBody) : Acts peerEffects w (takeHeartbeat a h w) := by
  unfold takeHeartbeat
  extract_lets old new held w₁ w₂
  have taken : Acts peerEffects w w₁ := .once (e := .peer) (by trivial) (.peer a _)
  have told : Acts peerEffects w₁ w₂ := by
    simp only [w₂]
    split <;> [exact peerEvent_acts _ _ _ _ _ (by decide); exact .refl]
  exact (taken.trans told).tellIf (by trivial)

theorem agePeer_acts (a : Addr) (limit : Nat) (old new : PeerState) : Acts peerEffects w (agePeer a limit old new w) := by
  unfold agePeer
  split
  · exact .refl
  · next p _ =>
    split
    · exact ((Acts.once (e := .time) (by trivial) (.time _)).change
        (f := fun s => s.setPeer a (some { p with state := new, mismatch := false })) (e := .peer) (by trivial)
        (.peer a _)).tell (by trivial)
    · exact .refl

theorem execIsolationTimerExpired_reaches : Reaches peerEffects s (execIsolationTimerExpired s) := by
  unfold execIsolationTimerExpired
  split
  · exact .stay
  · exact .carryOut (((Does.stay s).time (by trivial) _).change (e := .monitor) (by trivial)
      (.monitor { s.pmn with isolationTimer := none, isolated := true } rfl)) (Acts.refl.tell (by trivial))

theorem execClashHoldExpired_reaches : Reaches peerEffects s (execClashHoldExpired s) := by
  unfold execClashHoldExpired
  split
  · exact .stay
  · exact .carryOut (((Does.stay s).time (by trivial) _).change (e := .monitor) (by trivial)
      (.monitor { s.pmn with clashHold := none } rfl)) (Acts.refl.tell (by trivial))

theorem execGuardLiftTimerExpired_reaches : Reaches peerEffects s (execGuardLiftTimerExpired s) := by
  unfold execGuardLiftTimerExpired
  split
  · exact .stay
  · exact .carryOut (((Does.stay s).time (by trivial) _).change (e := .share) (by trivial)
      (.share { s.shu with guard := false, liftTimer := none } ⟨rfl, rfl, rfl, rfl⟩)) (Acts.refl.tell (by trivial))

theorem execHeartbeat_reaches : Reaches peerEffects s (execHeartbeat s) := by
  refine .fromHand (by trivial) fun x w => ?_
  split <;> [exact .refl; exact takeHeartbeat_acts _ _]

theorem execPeerQuiet_reaches (a : Addr) : Reaches peerEffects s (execPeerQuiet a s) :=
  .carryOut (.stay s) (agePeer_acts _ _ _ _)

theorem execPeerLost_reaches (a : Addr) : Reaches peerEffects s (execPeerLost a s) :=
  .carryOut (.stay s) (agePeer_acts _ _ _ _)

end

section
variable {s : State}

theorem execQueryStation_reaches : Reaches queryEffects s (execQueryStation s) :=
  answerFrom_reaches (payload := fun _ => stationPayload) fun _ => length_stationPayload

theorem execQueryBay_reaches : Reaches queryEffects s (execQueryBay s) :=
  answerFrom_reaches (payload := fun q s => bayAnswer s q.index) fun _ _ => length_bayAnswer _ _

theorem execQueryCounters_reaches : Reaches queryEffects s (execQueryCounters s) :=
  answerFrom_reaches (payload := fun q s => countersAnswer s q.index) fun _ _ => length_countersAnswer _ _

theorem execQueryLoan_reaches : Reaches queryEffects s (execQueryLoan s) :=
  answerFrom_reaches (payload := fun q s => loanAnswer s q.index) fun _ _ => length_loanAnswer _ _

theorem execQueryPeer_reaches : Reaches queryEffects s (execQueryPeer s) :=
  answerFrom_reaches (payload := fun q s => peerAnswer s q.index) fun _ _ => length_peerAnswer _ _

theorem execQueryCampaign_reaches : Reaches queryEffects s (execQueryCampaign s) :=
  answerFrom_reaches (payload := fun q s => campaignAnswer s q.index) fun _ _ => length_campaignAnswer _ _

theorem execQueryUnknownItem_reaches : Reaches queryEffects s (execQueryUnknownItem s) :=
  answerFrom_reaches (payload := fun _ _ => noEntry) fun _ _ => by simp [noEntry]

end

/-! ### The line -/

/-- The effects of the commands of the cart link, beside those of their notices. -/
def linkEffects : Set Effect := {e | match e with
  | .tell _ | .link | .hand | .monitor | .share | .slots | .slot | .claim _ | .claimed _ | .withdraw | .frame _
  | .freeChoice | .loan | .time => True
  | _ => False}

theorem custody_link : custodyEffects ⊆ linkEffects := by
  intro e among
  cases e <;> trivial

section
variable {w : Work} {s : State}

theorem modLkc_acts (f : State → Lkc → Lkc) : Acts linkEffects w (w.upd fun s => s.modLkc (f s)) :=
  .once (e := .link) (by trivial) (.link _)

/-- Placing any frame, as far as the LKC's record is concerned. -/
theorem place_link (f : TxFrame) : Acts linkEffects w (place f w) := by
  rw [place_eq]
  have placed : Acts linkEffects w { w with st := w.st.modLkc (Lkc.placed f) } :=
    .once (e := .link) (by trivial) (.link _)
  cases (placeInQueue f w.st.lkc.queue).2 with
  | none => simpa using placed
  | some g => exact placed.tell (by trivial)

theorem dropFrame_link (f : TxFrame) : Acts linkEffects w (dropFrame f w) :=
  (Acts.once (e := .link) (by trivial) (.link _)).tell (by trivial)

theorem placeHeartbeat_acts (body : List Byte) : Acts linkEffects w (placeHeartbeat body w) :=
  (place_link _).trans (modLkc_acts fun _ => Lkc.refillHeartbeat)

theorem offerHeartbeat_acts (body : List Byte) : Acts linkEffects w (offerHeartbeat body w) := by
  unfold offerHeartbeat
  split
  · exact placeHeartbeat_acts _
  · split
    · exact modLkc_acts fun _ l => { l with pendingHeartbeat := some body }
    · exact modLkc_acts fun _ l => l.replaceHeartbeat body

theorem placePending_acts : Acts linkEffects w (placePending w) := by
  unfold placePending
  split
  · exact .refl
  · exact (modLkc_acts fun _ l => { l with pendingHeartbeat := none }).trans (placeHeartbeat_acts _)

theorem transmitError_acts (f : TxFrame) (read : List Bool) : Acts linkEffects w (transmitError f read w) := by
  unfold transmitError
  extract_lets w₁ w₂ w₃ w₄
  have followed : Acts linkEffects w w₁ := .once (e := .link) (by trivial) (.link _)
  have dropped : Acts linkEffects w₁ w₂ := modLkc_acts fun _ l => { l with queue := dropSending l.queue }
  split
  · exact followed.trans dropped
  · split
    · have told : Acts linkEffects w w₃ := (followed.trans dropped).trans (dropFrame_link _)
      split
      · exact (told.trans (modLkc_acts fun _ => Lkc.heartbeatDropped)).trans placePending_acts
      · exact told
    · have kept : Acts linkEffects w w₄ := followed.trans (modLkc_acts fun _ l =>
        { l with queue := mapSending (fun g => { g with attempts := g.attempts + 1, inTransmission := false }) l.queue })
      split
      · exact kept.trans (modLkc_acts fun _ => Lkc.replaceByPending)
      · exact kept

theorem completeTransmission_acts (f : TxFrame) : Acts linkEffects w (completeTransmission f w) := by
  unfold completeTransmission
  extract_lets w₁
  have sent : Acts linkEffects w w₁ := .once (e := .link) (by trivial) (.link _)
  split
  · exact sent.trans ((modLkc_acts fun _ => Lkc.heartbeatDone).trans placePending_acts)
  · exact sent

/-- The effects of a completion notice (R8, R25, R131). -/
def completionEffects : Set Effect := {e | e ∈ custodyEffects ∨ e = .monitor ∨ e = .share}

theorem completion_link : completionEffects ⊆ linkEffects := by
  rintro e (custody | rfl | rfl)
  · exact custody_link custody
  all_goals trivial

theorem completionNotice_acts (f : TxFrame) : Acts completionEffects w (completionNotice f w) := by
  have custody : custodyEffects ⊆ completionEffects := fun _ h => .inl h
  unfold completionNotice
  split
  · exact ((Acts.once (e := .monitor) (.inr (.inl rfl))
      (.monitor { w.st.pmn with isolated := false, isolationTimer := some (w.st.now + isolationTime) } rfl)).change
      (f := fun s => s.modShu fun u => { u with history := appendHistory u.history (word16At f.body 4).toNat })
      (e := .share) (.inr (.inr rfl)) (.share _ ⟨rfl, rfl, rfl, rfl⟩)).tell (custody (by trivial))
  · exact (offerCompleted_acts f).mono custody
  · exact (denyCompleted_acts f).mono custody
  · exact .refl

theorem lkcOnly_does {t : State} (only : t = s.modLkc fun _ => t.lkc) : Does linkEffects s t := by
  rw [only]
  exact (Does.stay s).change (e := .link) (by trivial) (.link _)

theorem lineFree_lkcOnly {t : State} (only : t = s.modLkc fun _ => t.lkc) :
    lineFree t = s.modLkc fun _ => (lineFree t).lkc := by
  rw [only]
  rfl

theorem takeFrame_acts (h : Header) (body : List Byte) (good : Bool) : Acts linkEffects w (takeFrame h body good w) := by
  have discards : ∀ f, Acts linkEffects w (w.upd (discardReceived f)) :=
    fun f => .once (e := .link) (by trivial) (.link _)
  have accepts : ∀ f, Acts linkEffects w (w.upd (acceptFrame f)) := fun f => by
    have only : acceptFrame f w.st = w.st.modLkc fun _ => (acceptFrame f w.st).lkc := by
      unfold acceptFrame stormLimit
      dsimp only
      repeat' split
      all_goals rfl
    simp only [Work.upd]
    rw [only]
    exact .once (e := .link) (by trivial) (.link _)
  have clashes : Acts linkEffects w (reportClash (w.upd (discardReceived .clash))) := by
    have held : Acts linkEffects w ((w.upd (discardReceived .clash)).upd fun s =>
        s.modPmn fun m => { m with clashHold := some (s.now + clashTime) }) :=
      (discards .clash).change (e := .monitor) (by trivial) (.monitor _ rfl)
    unfold reportClash
    dsimp only
    split
    · exact held
    · exact (held.trans (place_link _)).tell (by trivial)
  unfold takeFrame
  split
  · exact discards _
  · split
    · exact discards _
    · split
      · exact discards _
      · split
        · exact clashes
        · split <;> [exact accepts _; exact .refl]

theorem execLineIdleDetected_reaches (bits : List Bool) : Reaches linkEffects s (execLineIdleDetected s bits) := by
  unfold execLineIdleDetected
  split
  · dsimp only
    split <;> exact .next (lkcOnly_does rfl)
  · exact .stay

theorem execStartBitReceived_reaches : Reaches linkEffects s (execStartBitReceived s) := by
  unfold execStartBitReceived
  split <;> [exact .next (lkcOnly_does rfl); exact .stay]

theorem execTransmissionStart_reaches (k : Nat) : Reaches linkEffects s (execTransmissionStart s k) := by
  have passed : Does linkEffects s (passIdle k s) := by
    unfold passIdle
    split <;> [exact lkcOnly_does rfl; exact .stay s]
  unfold execTransmissionStart
  dsimp only
  split
  · exact .next (passed.trans (lkcOnly_does rfl))
  · exact .next passed

theorem execContentionLost_reaches (read : List Bool) : Reaches linkEffects s (execContentionLost s read) := by
  unfold execContentionLost
  split <;> [exact .next (lkcOnly_does rfl); exact .stay]

theorem execTransmitBitError_reaches (read : List Bool) : Reaches linkEffects s (execTransmitBitError s read) := by
  unfold execTransmitBitError
  split <;> [exact .carryOut (.stay s) (transmitError_acts _ _); exact .stay]

theorem execTransmissionComplete_reaches : Reaches linkEffects s (execTransmissionComplete s) := by
  unfold execTransmissionComplete
  split
  · exact .stay
  · exact .carryOut (.stay s) ((completeTransmission_acts _).trans ((completionNotice_acts _).mono completion_link))

theorem noteCorrected_does (c : Bool) : Does linkEffects s (noteCorrected c s) := by
  rw [noteCorrected_eq]
  exact lkcOnly_does rfl

theorem execReceptionAborted_reaches (bits : List Bool) : Reaches linkEffects s (execReceptionAborted bits s) := by
  unfold execReceptionAborted
  split
  · split
    · exact .next (lkcOnly_does rfl)
    · exact .next ((noteCorrected_does _).trans (lkcOnly_does rfl))
    · exact .next ((noteCorrected_does _).trans (lkcOnly_does rfl))
    all_goals exact .stay
  · exact .stay

theorem execFrameReceived_reaches (bits : List Bool) : Reaches linkEffects s (execFrameReceived bits s) := by
  unfold execFrameReceived
  split
  · split
    · exact .carryOut ((noteCorrected_does _).trans (lkcOnly_does rfl)) (takeFrame_acts _ _ _)
    all_goals exact .stay
  · exact .stay

theorem modLkc_setHand (f : Lkc → Lkc) (x : Option RxFrame) (k : Block) :
    (s.modLkc f).setHand x k = (s.setHand x k).modLkc fun _ => f s.lkc := by
  cases k <;> rfl

theorem execFrameHandover_reaches : Reaches linkEffects s (execFrameHandover s) := by
  refine .next ?_
  unfold handOver
  split
  · exact .stay s
  · split
    · exact lkcOnly_does rfl
    · split
      · exact .stay s
      · dsimp only
        split
        · next waiting _ _ _ _ _ =>
          have some_wait : s.lkc.received ≠ [] := by
            rw [waiting]
            exact List.cons_ne_nil _ _
          rw [modLkc_setHand]
          exact ((Does.stay s).change (e := .hand) (by trivial) (.hand _ _ fun _ => .inr some_wait)).change
            (e := .link) (by trivial) (.link _)
        · exact lkcOnly_does rfl

theorem execHeartbeatTimerExpired_reaches : Reaches linkEffects s (execHeartbeatTimerExpired s) := by
  unfold execHeartbeatTimerExpired
  split
  · exact .stay
  · exact .carryOut (((Does.stay s).time (by trivial) _).change (e := .share) (by trivial)
      (.share { s.shu with heartbeatTimer := _ } ⟨rfl, rfl, rfl, rfl⟩)) (offerHeartbeat_acts _)

end

/-! ### The tables -/

/-- The effects of the commands of the credential table and of the minute. -/
def tableEffects : Set Effect := {e | match e with
  | .tell _ | .hand | .tables | .loans | .frame _ | .time => True
  | _ => False}

section
variable {w : Work} {s : State}

theorem placing_tables (k : FrameKind) : placing k ⊆ tableEffects := by
  rintro e (rfl | ⟨f, rfl⟩) <;> trivial

theorem takeEnroll_acts (body : EnrollBody) : Acts tableEffects w (takeEnroll body w) := by
  unfold takeEnroll
  split
  · exact .refl
  · split
    · exact .refl
    · dsimp only
      split
      · exact .once (e := .tables) (by trivial) (.tables _ _ _)
      · exact placeEvent_acts _ _ _ _ _ (by decide) (placing_tables _)

theorem minutePasses_acts : Acts tableEffects w (minutePasses w) := by
  unfold minutePasses
  extract_lets w₁ due w₂
  have passed : Acts tableEffects w w₁ :=
    (Acts.once (e := .time) (by trivial) (.time w.st.csu.minuteTimer)).change
      (f := fun s => s.modCsu fun c =>
        { c with
          minute := heldAt 65535 (c.minute + 1), minuteTimer := c.minuteTimer + minuteTime,
          credentials := c.credentials.filter fun e =>
            !guestExpired s.cfl.config.guestTime (heldAt 65535 (c.minute + 1)) e })
      (e := .tables) (by trivial) (.tables _ _ _)
  have marked : Acts tableEffects w₁ w₂ := .once (e := .loans) (by trivial) (.overdue _)
  exact (passed.trans marked).trans (Acts.forEach (fun l w =>
    place_acts _ (by decide : (64 : Nat) < 4096) rfl (fun same => by cases same) (placing_tables _)) due w₂)

theorem execMinuteTick_reaches : Reaches tableEffects s (execMinuteTick s) := .carryOut (.stay s) minutePasses_acts

theorem execEnroll_reaches : Reaches tableEffects s (execEnroll s) :=
  .fromHand (by trivial) fun _ _ => takeEnroll_acts _

theorem execRevoke_reaches : Reaches tableEffects s (execRevoke s) :=
  .fromHand (by trivial) fun _ _ => .once (e := .tables) (by trivial) (.tables _ _ _)

end

/-! ### Every command -/

/-- The groups of commands by their effects; those of start-up stand alone. -/
inductive CommandGroup where
  | alone | link | tables | peers | charge | sideband | doors | custody | lanes | queries
deriving DecidableEq

/-- The group of a command. -/
def groupOf : Instr → CommandGroup
  | .powerOn _ _ | .restartLineHeld | .restartLineReleased _ | .configReadEnd _ | .configReadTimeout
  | .listenTimerExpired | .restart _ => .alone
  | .lineIdleDetected _ | .transmissionStart _ | .contentionLost _ | .transmitBitError _ | .transmissionComplete
  | .receptionAborted _ | .frameReceived _ | .frameHandover | .heartbeatTimerExpired | .startBitReceived => .link
  | .minuteTick | .enroll | .revoke => .tables
  | .isolationTimerExpired | .heartbeat | .peerQuiet _ | .peerLost _ | .clashHoldExpired
  | .guardLiftTimerExpired => .peers
  | .measurement _ | .presenceGain _ | .presenceLoss _ | .identificationTimerExpired _ | .unmanagedReadTimerExpired _
  | .shortTrip _ | .shortHoldStart _ _ | .shortHoldAbandoned _ _ | .baysetGroup | .baysetOpenLevel | .baysetReserved
  | .baysetOutOfService | .baysetProvOptOut | .baysetClearFault => .charge
  | .exchangeStart _ _ | .callAfterWake _ _ | .retryStart _ _ | .readResponseReceived _ _ | .responseWindowExpired _ _
  | .writeAckReceived _ _ | .ackWindowExpired _ | .framingError _ _ | .sidebandBitError _ _ _ | .pollTimerExpired _ _
  | .identPollTimerExpired _ | .wireStuck _ _ | .wireRecovered _ _ => .sideband
  | .doorOpens _ | .doorCloses _ | .boltThrown _ | .boltClears _ | .pullInEnd _ | .releaseWindowExpired _
  | .coolDownEnd _ | .boltWaitClosingExpired _ | .boltWaitReleaseExpired _ | .closeHoldEnd _
  | .ajarTimerExpired _ => .doors
  | .present | .answerDelayEnd _ | .offerHeard | .denyHeard | .withdrawalDeadline _ | .objectionWindowEnd _
  | .denyDeadline _ _ | .releasedHeard | .returnedHeard => .custody
  | .campaignStart | .campaignCancel | .wakeWaitExpired _ | .laneTimeLimitExpired _ => .lanes
  | .queryStation | .queryBay | .queryCounters | .queryCountersClear | .queryLoan | .queryPeer | .queryCampaign
  | .queryUnknownItem => .queries

/-- The effects of the commands of a group. -/
def CommandGroup.effects : CommandGroup → Set Effect
  | .alone => ∅
  | .link => linkEffects
  | .tables => tableEffects
  | .peers => peerEffects
  | .charge => chargeEffects
  | .sideband => sidebandEffects
  | .doors => doorEffects
  | .custody => custodyEffects
  | .lanes => laneEffects
  | .queries => queryEffects

/-- A command of a group does no more than the effects of its group, and the working of its notices. -/
theorem exec_reaches (i : Instr) (s : State) (grouped : groupOf i ≠ .alone) :
    Reaches (groupOf i).effects s (exec i s) := by
  cases i
  case lineIdleDetected bits => exact execLineIdleDetected_reaches bits
  case transmissionStart k => exact execTransmissionStart_reaches k
  case contentionLost read => exact execContentionLost_reaches read
  case transmitBitError read => exact execTransmitBitError_reaches read
  case transmissionComplete => exact execTransmissionComplete_reaches
  case receptionAborted bits => exact execReceptionAborted_reaches bits
  case frameReceived bits => exact execFrameReceived_reaches bits
  case frameHandover => exact execFrameHandover_reaches
  case heartbeatTimerExpired => exact execHeartbeatTimerExpired_reaches
  case startBitReceived => exact execStartBitReceived_reaches
  case minuteTick => exact execMinuteTick_reaches
  case enroll => exact execEnroll_reaches
  case revoke => exact execRevoke_reaches
  case isolationTimerExpired => exact execIsolationTimerExpired_reaches
  case heartbeat => exact execHeartbeat_reaches
  case peerQuiet a => exact execPeerQuiet_reaches a
  case peerLost a => exact execPeerLost_reaches a
  case clashHoldExpired => exact execClashHoldExpired_reaches
  case guardLiftTimerExpired => exact execGuardLiftTimerExpired_reaches
  case measurement ports => exact execMeasurement_reaches ports
  case presenceGain b => exact execPresenceGain_reaches
  case presenceLoss b => exact execPresenceLoss_reaches
  case identificationTimerExpired b => exact execIdentificationTimerExpired_reaches
  case unmanagedReadTimerExpired b => exact execUnmanagedReadTimerExpired_reaches
  case shortTrip b => exact execShortTrip_reaches
  case shortHoldStart b mV => exact execShortHoldStart_reaches mV
  case shortHoldAbandoned b mV => exact execShortHoldAbandoned_reaches mV
  case baysetGroup => exact takeBayset_reaches _
  case baysetOpenLevel => exact takeBayset_reaches _
  case baysetReserved => exact takeBayset_reaches _
  case baysetOutOfService => exact takeBayset_reaches _
  case baysetProvOptOut => exact takeBayset_reaches _
  case baysetClearFault => exact takeBayset_reaches _
  case exchangeStart b wire => exact execExchangeStart_reaches wire
  case callAfterWake b wire => exact execCallAfterWake_reaches wire
  case retryStart b wire => exact execRetryStart_reaches wire
  case readResponseReceived b answer => exact execReadResponseReceived_reaches answer
  case responseWindowExpired b answer => exact execResponseWindowExpired_reaches answer
  case writeAckReceived b answer => exact execWriteAckReceived_reaches answer
  case ackWindowExpired b => exact execAckWindowExpired_reaches
  case framingError b samples => exact execFramingError_reaches samples
  case sidebandBitError b bit sample => exact execSidebandBitError_reaches bit sample
  case pollTimerExpired b r => exact execPollTimerExpired_reaches r
  case identPollTimerExpired b => exact execIdentPollTimerExpired_reaches
  case wireStuck b wire => exact .next (watchWire_does wire)
  case wireRecovered b wire => exact .next (watchWire_does wire)
  case doorOpens b => exact execDoorOpens_reaches
  case doorCloses b => exact execDoorCloses_reaches
  case boltThrown b => exact execBoltThrown_reaches
  case boltClears b => exact execBoltClears_reaches
  case pullInEnd b => exact execPullInEnd_reaches
  case releaseWindowExpired b => exact execReleaseWindowExpired_reaches
  case coolDownEnd b => exact execCoolDownEnd_reaches
  case boltWaitClosingExpired b => exact execBoltWaitClosingExpired_reaches
  case boltWaitReleaseExpired b => exact execBoltWaitReleaseExpired_reaches
  case closeHoldEnd b => exact execCloseHoldEnd_reaches
  case ajarTimerExpired b => exact execAjarTimerExpired_reaches
  case present => exact execPresent_reaches
  case answerDelayEnd r => exact execAnswerDelayEnd_reaches
  case offerHeard => exact execOfferHeard_reaches
  case denyHeard => exact execDenyHeard_reaches
  case withdrawalDeadline r => exact execWithdrawalDeadline_reaches
  case objectionWindowEnd b => exact execObjectionWindowEnd_reaches b
  case denyDeadline r q => exact execDenyDeadline_reaches q
  case releasedHeard => exact execReleasedHeard_reaches
  case returnedHeard => exact execReturnedHeard_reaches
  case campaignStart => exact execCampaignStart_reaches
  case campaignCancel => exact execCampaignCancel_reaches
  case wakeWaitExpired n => exact execWakeWaitExpired_reaches
  case laneTimeLimitExpired n => exact execLaneTimeLimitExpired_reaches
  case queryStation => exact execQueryStation_reaches
  case queryBay => exact execQueryBay_reaches
  case queryCounters => exact execQueryCounters_reaches
  case queryCountersClear => exact execQueryCountersClear_reaches
  case queryLoan => exact execQueryLoan_reaches
  case queryPeer => exact execQueryPeer_reaches
  case queryCampaign => exact execQueryCampaign_reaches
  case queryUnknownItem => exact execQueryUnknownItem_reaches
  all_goals exact absurd rfl grouped

/-- Every step: a millisecond, or the command at the front of the queue. -/
theorem step_cases {s t : State} (h : step s = .next t) :
    t = { s with now := s.now + 1 } ∨ ∃ c rest, exec c { s with pending := rest } = .next t := by
  unfold step at h
  split at h
  · exact .inl (by cases h; rfl)
  · next c rest _ => exact .inr ⟨c, rest, h⟩

/-- A law is kept by every step that is kept by the clock and the waiting commands, by the working of notices, by the
effects of the groups of commands but some, and by each command of those and of the commands that stand alone. -/
theorem step_keeps {P : State → Prop} {s t : State} (h : step s = .next t) (single : CommandGroup → Bool)
    (clock : ∀ (s : State) (pending : List Instr) (now : Nat), P s → P { s with pending := pending, now := now })
    (each : ∀ g : CommandGroup, single g = false → ∀ e ∈ g.effects, ∀ s t : State, Change e s t → P s → P t)
    (settled : ∀ w : Work, P w.st → P w.finish)
    (alone : ∀ i, groupOf i = .alone ∨ single (groupOf i) = true → ∀ s t : State, exec i s = .next t → P s → P t)
    (holds : P s) : P t := by
  rcases step_cases h with rfl | ⟨c, rest, ran⟩
  · exact clock s s.pending _ holds
  · have start : P { s with pending := rest } := clock s rest s.now holds
    by_cases one : groupOf c = .alone ∨ single (groupOf c) = true
    · exact alone c one _ _ ran start
    · obtain ⟨grouped, many⟩ := not_or.1 one
      exact (exec_reaches c _ grouped t ran).keeps (each _ (by simpa using many)) settled start

end Sys2Proof.Machine
end

section
/-! What no effect touches, what the commands that stand alone do, and the laws of the tables (R117, R133). -/

namespace Sys2Proof.Machine

/-! ### What no effect touches -/

/-- What is the same in two states whatever the effects between them. -/
structure Untouched (s t : State) : Prop where
  cfl : t.cfl = s.cfl
  credentials : t.csu.credentials = s.csu.credentials
  line : t.lkc.line = s.lkc.line
  received : t.lkc.received = s.lkc.received
  storm : t.lkc.storm = s.lkc.storm

theorem Untouched.of_steady {s t : State} (h : t.steady = s.steady) : Untouched s t :=
  ⟨steady_cfl h, steady_credentials h, steady_line h, steady_received h, steady_storm h⟩

theorem Lkc.placed_eq (f : TxFrame) (l : Lkc) :
    l.placed f = { l with
      queue := (placeInQueue f l.queue).1, errors := (l.placed f).errors, renewal := (l.placed f).renewal,
      counters := (l.placed f).counters } := by
  unfold Lkc.placed
  split <;> rfl

theorem State.setSlot_eq (s : State) (r : Reader) (x : Option PresentationSlot) :
    s.setSlot r x = { s with csu := { s.csu with slots := s.csu.slots.set r x } } := rfl

theorem Change.untouched {e : Effect} {s t : State} (h : Change e s t) (link : e ≠ .link) (tables : e ≠ .tables) :
    Untouched s t := by
  cases h
  case recompute => exact .of_steady (recomputed_steady s)
  case reads b rs => exact .of_steady (requestReads_steady b rs s)
  case release b r ready => exact .of_steady (startRelease_steady b r (startWork s))
  case frame f bid idle other =>
    have same := Lkc.placed_eq f s.lkc
    refine ⟨rfl, rfl, ?_, ?_, ?_⟩ <;> rw [State.modLkc_lkc, same]
  case hand x k may => cases k <;> exact ⟨rfl, rfl, rfl, rfl, rfl⟩
  case link l => exact absurd rfl link
  case tables m n x => exact absurd rfl tables
  all_goals exact ⟨rfl, rfl, rfl, rfl, rfl⟩

theorem Untouched.trans {r s t : State} (h : Untouched r s) (h' : Untouched s t) : Untouched r t :=
  ⟨h'.cfl.trans h.cfl, h'.credentials.trans h.credentials, h'.line.trans h.line, h'.received.trans h.received,
    h'.storm.trans h.storm⟩

theorem finish_untouched (w : Work) : Untouched w.st w.finish := .of_steady (finish_steady w)

end Sys2Proof.Machine
end

section
/-! What the commands of start-up and restart keep, and the laws of the tables (R117, R133). -/

namespace Sys2Proof.Machine

/-! ### The commands that stand alone -/

section
variable {P : State → Prop} {s t : State}

/-- A law that a command of a block's hand keeps. -/
theorem keeps_fromHand {block : Block} {which : RxFrame → Bool} {g : RxFrame → Work → Work}
    (settled : ∀ w : Work, P w.st → P w.finish)
    (taken : ∀ f, P (g f (startWork (s.setHand none block))).st)
    (ran : fromHand s block which g = .next t) (holds : P s) : P t := by
  unfold fromHand at ran
  split at ran
  · cases ran; exact holds
  · split at ran
    · cases ran; exact settled _ (taken _)
    · cases ran; exact holds

/-- A power-on before the straps are read (R167). -/
def freshState (low : Bool) (pending : List Instr) (free : Nat) : State :=
  { State.reset with pending := pending, freeCount := free, cfl := { cflReset with restartHeld := low } }

/-- A law that the restart line keeps. -/
theorem restartLine_keeps (line : ∀ (s : State) (low : Bool), P s → P (s.modCfl fun c => { c with restartHeld := low }))
    (restart : ∀ s, P s → P (restartValues s))
    (straps : ∀ pins s, s.cfl.phase = .start → P s → P (readStraps pins s)) (i : Instr)
    (line_command : i = .restartLineHeld ∨ ∃ pins, i = .restartLineReleased pins)
    (ran : exec i s = .next t) (holds : P s) : P t := by
  rcases line_command with rfl | ⟨pins, rfl⟩
  · simp only [exec, execRestartLineHeld] at ran
    split at ran
    · cases ran; exact holds
    · cases ran; exact restart _ (line s true holds)
  · simp only [exec, execRestartLineReleased] at ran
    split at ran
    · split at ran
      · cases ran; exact line s false holds
      · next deaf =>
        cases ran
        have start : s.cfl.phase = .start := by
          simpa [State.hearing] using deaf
        exact straps pins _ start (line s false holds)
    · cases ran; exact holds

/-- A law that the commands of start-up and restart keep. -/
theorem alone_keeps {i : Instr} (alone : groupOf i = .alone)
    (clock : ∀ (s : State) (now : Nat), P s → P { s with now := now })
    (fresh : ∀ low pending free, P (freshState low pending free))
    (line : ∀ (s : State) (low : Bool), P s → P (s.modCfl fun c => { c with restartHeld := low }))
    (restart : ∀ s, P s → P (restartValues s))
    (straps : ∀ pins s, s.cfl.phase = .start → P s → P (readStraps pins s))
    (config : ∀ record s, s.cfl.configRead.isSome = true → P s → P (endConfigRead record s))
    (rejected : ∀ e ∈ ({.hand} ∪ placing .event : Set Effect), ∀ s t : State, Change e s t → P s → P t)
    (active : ∀ s, s.cfl.phase = .listen → P s → P (enterActive (startWork s)).st)
    (settled : ∀ w : Work, P w.st → P w.finish)
    (ran : exec i s = .next t) (holds : P s) : P t := by
  cases i
  case powerOn low pins =>
    cases ran
    unfold poweredOn
    dsimp only
    split
    · exact fresh _ _ _
    · exact straps _ _ rfl (fresh _ _ _)
  case restartLineHeld => exact restartLine_keeps line restart straps _ (.inl rfl) ran holds
  case restartLineReleased pins => exact restartLine_keeps line restart straps _ (.inr ⟨pins, rfl⟩) ran holds
  case configReadEnd record =>
    simp only [exec, execConfigReadEnd] at ran
    split at ran
    · cases ran; exact holds
    · next its => cases ran; exact config _ _ (by rw [its]; rfl) holds
  case configReadTimeout =>
    simp only [exec, execConfigReadTimeout] at ran
    split at ran
    · cases ran; exact holds
    · next r its =>
      cases ran
      exact config none (s.advanceTo r.limit) (by simp only [State.advanceTo, its]; rfl) (clock s _ holds)
  case listenTimerExpired =>
    simp only [exec, execListenTimerExpired] at ran
    split at ran
    · cases ran; exact holds
    · split at ran
      · next listening => cases ran; exact settled _ (active _ listening (clock s _ holds))
      · cases ran; exact holds
  case restart pins =>
    simp only [exec, execRestart] at ran
    split at ran
    · cases ran; exact holds
    · split at ran
      · split at ran
        · cases ran
          unfold stationRestart
          dsimp only
          split
          · exact restart s holds
          · exact straps pins _ rfl (restart s holds)
        · cases ran
          have free : P (s.setHand none .csu) := rejected .hand (.inl rfl) _ _ (.hand _ _ fun _ => .inl rfl) holds
          refine settled _ ?_
          exact (placeEvent_acts 11 noBay _ 2 .csu (by decide) (can := {.hand} ∪ placing .event)
            (fun e may => .inr may)).keeps rejected free
      · cases ran; exact holds
  all_goals cases alone

/-- The effects of the entry to ACTIVE but the heartbeat it offers, once the phase is ACTIVE. -/
def enteringEffects : Set Effect :=
  {e | (∃ n, e = .tell n) ∨ e = .share ∨ e = .monitor ∨ e = .recompute ∨ ∃ b, e ∈ charging b}

/-- The effects of the entry to ACTIVE, once the phase is ACTIVE. -/
def activeEffects : Set Effect := {e | e ∈ linkEffects ∨ e = .recompute ∨ ∃ b, e ∈ charging b}

theorem entering_active : enteringEffects ⊆ activeEffects := by
  rintro e (⟨n, rfl⟩ | rfl | rfl | rfl | charged)
  · exact .inl trivial
  · exact .inl trivial
  · exact .inl trivial
  · exact .inr (.inl rfl)
  · exact .inr (.inr charged)

/-- The entry to ACTIVE before the blocks take part in it (R167). -/
def begun (s : State) : State := s.modCfl fun c => { c with phase := .active, listenTimer := none }

/-- The recomputation at the entry to ACTIVE (R54), with a zero history and no guard. -/
def firstShare (s : State) : Work :=
  recompute ((startWork (begun s)).upd fun s => s.modShu fun u =>
    { u with history := Vector.replicate 4 0, guard := false, liftTimer := none })

/-- The heartbeat and the isolation timer run (R26, R54). -/
def timersRunning (s : State) : Work :=
  (firstShare s).upd fun s =>
    (s.modShu fun u => { u with heartbeatTimer := some (s.now + heartbeatPeriod) }).modPmn fun m =>
      { m with isolationTimer := some (s.now + isolationTime) }

/-- The entry to ACTIVE with its first heartbeat offered. -/
def firstHeartbeat (s : State) : Work := offerHeartbeat (heartbeatBody (timersRunning s).st) (timersRunning s)

theorem enterActive_eq :
    enterActive (startWork s) = forEach (firstHeartbeat s).st.populatedBays identifyPresent (firstHeartbeat s) := rfl

theorem firstShare_acts : Acts enteringEffects (startWork (begun s)) (firstShare s) := by
  have cleared : Acts enteringEffects (startWork (begun s)) ((startWork (begun s)).upd fun s => s.modShu fun u =>
      { u with history := Vector.replicate 4 0, guard := false, liftTimer := none }) :=
    .once (e := .share) (.inr (.inl rfl)) (.share _ ⟨rfl, rfl, rfl, rfl⟩)
  refine cleared.trans (recompute_acts ?_)
  rintro e (rfl | rfl) <;> [exact .inr (.inr (.inr (.inl rfl))); exact .inl ⟨_, rfl⟩]

theorem timersRunning_acts : Acts enteringEffects (firstShare s) (timersRunning s) :=
  (Acts.once (e := .share) (.inr (.inl rfl))
    (.share { (firstShare s).st.shu with heartbeatTimer := some ((firstShare s).st.now + heartbeatPeriod) }
      ⟨rfl, rfl, rfl, rfl⟩)).change
    (f := fun t => t.modPmn fun m => { m with isolationTimer := some ((firstShare s).st.now + isolationTime) })
    (e := .monitor) (.inr (.inr (.inl rfl))) (.monitor _ rfl)

theorem identifyPresent_acts : Acts enteringEffects (firstHeartbeat s) (enterActive (startWork s)) := by
  rw [enterActive_eq]
  refine Acts.forEach (fun b w => ?_) _ _
  unfold identifyPresent
  split
  · exact enterIdentifying_acts (fun e may => .inr (.inr (.inr (.inr ⟨b, may⟩)))) false
  · exact .refl

/-- The entry to ACTIVE after its recomputation. -/
theorem enterActive_firstShare : Acts activeEffects (firstShare s) (enterActive (startWork s)) :=
  ((timersRunning_acts.mono entering_active).trans ((offerHeartbeat_acts _).mono fun _ h => .inl h)).trans
    (identifyPresent_acts.mono entering_active)

theorem enterActive_acts : Acts activeEffects (startWork (begun s)) (enterActive (startWork s)) :=
  (firstShare_acts.mono entering_active).trans enterActive_firstShare

/-- A law that the entry to ACTIVE keeps, effect by effect. -/
theorem enterActive_keeps (phase : P s → P (begun s))
    (each : ∀ e ∈ activeEffects, ∀ s t : State, Change e s t → P s → P t) (holds : P s) :
    P (enterActive (startWork s)).st :=
  enterActive_acts.keeps each (phase holds)

end

end Sys2Proof.Machine
end

section
/-! The laws of the credential table and of the loan list (R117, R133). -/

namespace Sys2Proof.Machine

/-! ### The credential table (R117) -/

section
variable {s t : State}

theorem CredentialLaw.of_eq (h : CredentialLaw s) (same : t.csu.credentials = s.csu.credentials) : CredentialLaw t :=
  ⟨same ▸ h.capacity, same ▸ h.ordered⟩

theorem CredentialLaw.of_sublist (h : CredentialLaw s) (sub : t.csu.credentials.Sublist s.csu.credentials) :
    CredentialLaw t :=
  ⟨sub.length_le.trans h.capacity, h.ordered.sublist sub⟩

theorem mem_putCredential {e x : CredentialEntry} {table : List CredentialEntry} (h : x ∈ putCredential e table) :
    x = e ∨ x ∈ table := by
  induction table with
  | nil => exact .inl (List.mem_singleton.1 h)
  | cons y ys ih =>
    simp only [putCredential] at h
    split at h
    · exact (List.mem_cons.1 h).imp_right (List.mem_cons_of_mem _)
    · split at h
      · exact List.mem_cons.1 h
      · rcases List.mem_cons.1 h with rfl | later
        · exact .inr List.mem_cons_self
        · exact (ih later).imp_right (List.mem_cons_of_mem _)

/-- R117: an entry put in its place leaves the table in order. -/
theorem putCredential_ordered (e : CredentialEntry) {table : List CredentialEntry}
    (ordered : table.Pairwise fun x y => x.number.toNat < y.number.toNat) :
    (putCredential e table).Pairwise fun x y => x.number.toNat < y.number.toNat := by
  induction table with
  | nil => exact List.pairwise_singleton _ _
  | cons y ys ih =>
    obtain ⟨below, rest⟩ := List.pairwise_cons.1 ordered
    simp only [putCredential]
    split
    · next same => exact List.pairwise_cons.2 ⟨same ▸ below, rest⟩
    · next differs =>
      split
      · next before =>
        refine List.pairwise_cons.2 ⟨fun x among => ?_, ordered⟩
        rcases List.mem_cons.1 among with rfl | later
        · exact before
        · exact before.trans (below x later)
      · next behind =>
        refine List.pairwise_cons.2 ⟨fun x among => ?_, ih rest⟩
        rcases mem_putCredential among with rfl | later
        · exact lt_of_le_of_ne (not_lt.1 behind) fun same => differs (BitVec.eq_of_toNat_eq same.symm)
        · exact below x later

/-- R118: an entry put takes the place of the one of its number, or one more. -/
theorem length_putCredential (e : CredentialEntry) {table : List CredentialEntry}
    (ordered : table.Pairwise fun x y => x.number.toNat < y.number.toNat) :
    (putCredential e table).length =
      if (lookupCredential table e.number).isSome then table.length else table.length + 1 := by
  induction table with
  | nil => rfl
  | cons y ys ih =>
    obtain ⟨below, rest⟩ := List.pairwise_cons.1 ordered
    simp only [putCredential, lookupCredential_cons]
    by_cases same : y.number = e.number
    · simp [same]
    · rw [if_neg (Ne.symm same), if_neg same]
      split
      · next before =>
        have stranger : lookupCredential ys e.number = none := by
          refine List.find?_eq_none.2 fun x among its => ?_
          have above := before.trans (below x among)
          rw [eq_of_beq its] at above
          exact lt_irrefl _ above
        simp [stranger]
      · rw [List.length_cons, ih rest]
        split <;> rfl

theorem takeEnroll_credentialLaw (body : EnrollBody) {w : Work} (h : CredentialLaw w.st) :
    CredentialLaw (takeEnroll body w).st := by
  unfold takeEnroll
  split
  · exact h
  · split
    · exact h
    · next role _ =>
      dsimp only
      split
      · next room =>
        refine ⟨?_, putCredential_ordered _ h.ordered⟩
        refine (length_putCredential _ h.ordered).trans_le ?_
        split
        · exact h.capacity
        · next stranger => exact room.resolve_left stranger
      · exact h.of_eq (steady_credentials (placeEvent_steady ..))

theorem revokeCredential_sublist (table : List CredentialEntry) (number : Word32) :
    (revokeCredential table number).Sublist table := by
  unfold revokeCredential
  split
  · exact List.nil_sublist _
  · exact List.filter_sublist

/-- R120: the minute takes GUEST entries away, and no other change reaches the table. -/
theorem minutePasses_credentialLaw {w : Work} (h : CredentialLaw w.st) : CredentialLaw (minutePasses w).st := by
  unfold minutePasses
  extract_lets w₁ due w₂
  have placed : (forEach due (fun l => place (overdueFrame l)) w₂).st.csu.credentials = w₂.st.csu.credentials :=
    forEach_keeps (fun s => s.csu.credentials) due _ (fun l w => steady_credentials (place_steady _ w)) w₂
  have kept : CredentialLaw w₂.st := h.of_sublist (List.filter_sublist (l := w.st.csu.credentials))
  exact kept.of_eq placed

theorem finish_credentialLaw (w : Work) (h : CredentialLaw w.st) : CredentialLaw w.finish :=
  h.of_eq (finish_untouched w).credentials

/-- R117: every effect but those of the tables leaves the credential table. -/
theorem Change.credentialLaw {e : Effect} (h : Change e s t) (tables : e ≠ .tables) (law : CredentialLaw s) :
    CredentialLaw t := by
  by_cases link : e = .link
  · subst link
    cases h
    exact law.of_eq rfl
  · exact law.of_eq (h.untouched link tables).credentials

theorem restart_credentialLaw {i : Instr} (alone : groupOf i = .alone) (ran : exec i s = .next t)
    (h : CredentialLaw s) : CredentialLaw t := by
  refine alone_keeps alone (fun _ _ law => law.of_eq rfl) (fun _ _ _ => ⟨Nat.zero_le _, List.Pairwise.nil⟩)
    (fun _ _ law => law.of_eq rfl) (fun _ law => law.of_eq rfl) (fun _ _ _ law => law.of_eq rfl)
    (fun record s _ law => law.of_eq ?_) (fun e may _ _ changed law => changed.credentialLaw ?_ law)
    (fun s _ law => enterActive_keeps (fun law => law.of_eq rfl) (fun e may _ _ changed law => changed.credentialLaw ?_ law) law)
    finish_credentialLaw ran h
  · unfold endConfigRead
    dsimp only
    split <;> rfl
  · rintro rfl
    rcases may with may | may | ⟨f, may⟩ <;> cases may
  · rintro rfl
    rcases may with may | may | ⟨b, may⟩
    · exact may
    · cases may
    · exact absurd (inner_of_charging may) (by decide)

theorem step_credentialLaw (ran : step s = .next t) (h : CredentialLaw s) : CredentialLaw t := by
  refine step_keeps ran (fun g => g == .tables) (fun _ _ _ law => law.of_eq rfl)
    (fun g other e may _ _ changed law => changed.credentialLaw ?_ law) finish_credentialLaw ?_ h
  · rintro rfl
    cases g
    case tables => cases other
    case alone => exact may
    all_goals exact may
  · rintro i (alone | table) s t ran law
    · exact restart_credentialLaw alone ran law
    · cases i
      case minuteTick =>
        cases ran
        exact finish_credentialLaw _ (minutePasses_credentialLaw law)
      case enroll =>
        exact keeps_fromHand finish_credentialLaw
          (fun f => takeEnroll_credentialLaw _ (law.of_eq rfl)) ran law
      case revoke =>
        exact keeps_fromHand finish_credentialLaw
          (fun f => law.of_sublist (revokeCredential_sublist _ _)) ran law
      all_goals cases table
end

/-! ### The loan list (R133) -/

theorem mem_insertLoan {l x : Loan} {loans : List Loan} : x ∈ insertLoan l loans ↔ x = l ∨ x ∈ loans := by
  induction loans with
  | nil => exact List.mem_singleton.trans (by simp)
  | cons y ys ih =>
    unfold insertLoan
    split
    · exact List.mem_cons
    · rw [List.mem_cons, ih, List.mem_cons]
      tauto

theorem length_insertLoan (l : Loan) (loans : List Loan) : (insertLoan l loans).length = loans.length + 1 := by
  induction loans with
  | nil => rfl
  | cons y ys ih =>
    unfold insertLoan
    split
    · rfl
    · rw [List.length_cons, ih, List.length_cons]

/-- A symmetric relation of a new loan to all of the list holds in the list with it. -/
theorem insertLoan_apart {l : Loan} {loans : List Loan} (apart : loans.Pairwise fun x y => x.asset ≠ y.asset)
    (new : ∀ x ∈ loans, x.asset ≠ l.asset) : (insertLoan l loans).Pairwise fun x y => x.asset ≠ y.asset := by
  induction loans with
  | nil => exact List.pairwise_singleton _ _
  | cons y ys ih =>
    obtain ⟨first, rest⟩ := List.pairwise_cons.1 apart
    unfold insertLoan
    split
    · exact List.pairwise_cons.2 ⟨fun x among => (new x among).symm, apart⟩
    · refine List.pairwise_cons.2 ⟨fun x among => ?_, ih rest fun x later => new x (List.mem_cons_of_mem _ later)⟩
      rcases mem_insertLoan.1 among with rfl | later
      · exact new y List.mem_cons_self
      · exact first x later

theorem insertLoan_ordered {l : Loan} {loans : List Loan} (ordered : loans.Pairwise fun x y => x.due ≤ y.due) :
    (insertLoan l loans).Pairwise fun x y => x.due ≤ y.due := by
  induction loans with
  | nil => exact List.pairwise_singleton _ _
  | cons y ys ih =>
    obtain ⟨first, rest⟩ := List.pairwise_cons.1 ordered
    unfold insertLoan
    split
    · next before =>
      refine List.pairwise_cons.2 ⟨fun x among => ?_, ordered⟩
      rcases List.mem_cons.1 among with rfl | later
      · exact before.le
      · exact before.le.trans (first x later)
    · next behind =>
      refine List.pairwise_cons.2 ⟨fun x among => ?_, ih rest⟩
      rcases mem_insertLoan.1 among with rfl | later
      · exact not_lt.1 behind
      · exact first x later

section
variable {s t : State}

theorem LoanLaw.of_eq (h : LoanLaw s) (same : t.csu.loans = s.csu.loans) : LoanLaw t :=
  ⟨same ▸ h.capacity, same ▸ h.assets, same ▸ h.ordered⟩

theorem LoanLaw.of_sublist (h : LoanLaw s) (sub : t.csu.loans.Sublist s.csu.loans) : LoanLaw t :=
  ⟨sub.length_le.trans h.capacity, h.assets.sublist sub, h.ordered.sublist sub⟩

/-- R134: a loan recorded in the place of an earlier one of its asset. -/
theorem LoanLaw.recorded (h : LoanLaw s) (l : Loan) (room : (closeLoan l.asset s.csu.loans).length < loanCapacity)
    (its : t.csu.loans = insertLoan l (closeLoan l.asset s.csu.loans)) : LoanLaw t := by
  have sub : (closeLoan l.asset s.csu.loans).Sublist s.csu.loans := List.filter_sublist
  refine ⟨?_, ?_, ?_⟩ <;> rw [its]
  · exact (length_insertLoan l _).trans_le room
  · refine insertLoan_apart (h.assets.sublist sub) fun x among => ?_
    simpa using (List.mem_filter.1 among).2
  · exact insertLoan_ordered (h.ordered.sublist sub)

/-- R137: loans that change in nothing but asset and due minute do not change are in order as before. -/
theorem LoanLaw.mapped (h : LoanLaw s) (f : Loan → Loan) (asset : ∀ l, (f l).asset = l.asset)
    (due : ∀ l, (f l).due = l.due) (its : t.csu.loans = s.csu.loans.map f) : LoanLaw t := by
  refine ⟨?_, ?_, ?_⟩ <;> rw [its]
  · exact (List.length_map _).trans_le h.capacity
  · refine List.pairwise_map.2 (h.assets.imp fun apart => ?_)
    rwa [asset, asset]
  · refine List.pairwise_map.2 (h.ordered.imp fun order => ?_)
    rwa [due, due]

/-- R48: a recomputation changes the SHU alone. -/
theorem recomputed_eq (s : State) : recomputed s = { s with shu := (recomputed s).shu } := by
  unfold recomputed
  split
  · rw [(evaluateGuard_shu (recomputeFloor (recomputeClaim s))).1]
    rfl
  · rfl

/-- R133: every effect keeps the law of the loan list. -/
theorem Change.loanLaw {e : Effect} (h : Change e s t) (law : LoanLaw s) : LoanLaw t := by
  cases h
  case recompute =>
    rw [recomputed_eq]
    exact law.of_eq rfl
  case reads b rs =>
    refine law.of_eq ?_
    unfold requestReads
    split <;> rfl
  case loan asset => exact law.of_sublist List.filter_sublist
  case recorded l room => exact law.recorded l room rfl
  case overdue which =>
    exact law.mapped _ (fun l => by split <;> rfl) (fun l => by split <;> rfl) rfl
  case hand x k may => cases k <;> exact law.of_eq rfl
  all_goals exact law.of_eq rfl

theorem finish_loanLaw (w : Work) (h : LoanLaw w.st) : LoanLaw w.finish :=
  finish_keeps (fun _ _ _ _ changed law => changed.loanLaw law) h

theorem restart_loanLaw {i : Instr} (alone : groupOf i = .alone) (ran : exec i s = .next t)
    (h : LoanLaw s) : LoanLaw t := by
  refine alone_keeps alone (fun _ _ law => law.of_eq rfl)
    (fun _ _ _ => ⟨Nat.zero_le _, List.Pairwise.nil, List.Pairwise.nil⟩)
    (fun _ _ law => law.of_eq rfl) (fun _ law => law.of_eq rfl) (fun _ _ _ law => law.of_eq rfl)
    (fun record s _ law => law.of_eq ?_) (fun _ _ _ _ changed law => changed.loanLaw law)
    (fun s _ law => enterActive_keeps (fun law => law.of_eq rfl) (fun _ _ _ _ changed law => changed.loanLaw law) law)
    finish_loanLaw ran h
  unfold endConfigRead
  dsimp only
  split <;> rfl

theorem step_loanLaw (ran : step s = .next t) (h : LoanLaw s) : LoanLaw t :=
  step_keeps ran (fun _ => false) (fun _ _ _ law => law.of_eq rfl) (fun _ _ _ _ _ _ changed law => changed.loanLaw law)
    finish_loanLaw (fun _ which _ _ ran law => restart_loanLaw (which.resolve_right (by decide)) ran law) h

end

/-- Settles O57: the two laws are each kept by themselves. -/
theorem stepsKeepTheTableLaws : Obligations.StepsKeepTheTableLaws :=
  fun _ _ ran => ⟨step_credentialLaw ran, step_loanLaw ran⟩

end Sys2Proof.Machine
end

section
/-! The law of the peer table (R27, R32, R34). -/

namespace Sys2Proof.Machine

section
variable {s t : State} {w : Work}

/-- What the law of the peer table speaks of. -/
theorem PeerLaw.of_same (h : PeerLaw s) (cfl : t.cfl = s.cfl) (peers : t.pmn.peers = s.pmn.peers)
    (line : t.lkc.line = s.lkc.line) (received : t.lkc.received = s.lkc.received) (hand : t.hands.pmn = s.hands.pmn) :
    PeerLaw t := by
  have peer : ∀ a, t.peer a = s.peer a := fun a => by simp only [State.peer, peers]
  refine ⟨?_, ?_, ?_, ?_⟩ <;> simp only [peer, cfl, line, received, hand]
  · exact h.ownAbsent
  · exact h.mismatched
  · exact h.startAbsent
  · exact h.startQuiet

/-- R27, R32, R34: of all effects only those of a peer entry and of the LKC reach the law of the peer table. -/
theorem Change.peerLaw {e : Effect} (h : Change e s t) (link : e ≠ .link) (peer : e ≠ .peer) (law : PeerLaw s) :
    PeerLaw t := by
  cases h
  case link l => exact absurd rfl link
  case peer a p => exact absurd rfl peer
  case recompute =>
    rw [recomputed_eq]
    exact law.of_same rfl rfl rfl rfl rfl
  case reads b rs =>
    unfold requestReads
    split <;> exact law.of_same rfl rfl rfl rfl rfl
  case frame f bid idle other =>
    refine law.of_same rfl rfl ?_ ?_ rfl <;> rw [State.modLkc_lkc, Lkc.placed_eq]
  case monitor m same => exact law.of_same rfl same rfl rfl rfl
  case hand x k may =>
    by_cases pmn : k = .pmn
    · subst pmn
      refine ⟨law.ownAbsent, law.mismatched, law.startAbsent, fun start => ?_⟩
      obtain ⟨line, received, hand⟩ := law.startQuiet start
      exact ⟨line, received, (may rfl).resolve_right (not_not.2 received)⟩
    · cases k <;> first | exact absurd rfl pmn | exact law.of_same rfl rfl rfl rfl rfl
  all_goals exact law.of_same rfl rfl rfl rfl rfl

theorem finish_peerLaw (w : Work) (h : PeerLaw w.st) : PeerLaw w.finish :=
  h.of_same (steady_cfl (finish_steady w)) (congrArg Pmn.peers (steady_pmn (finish_steady w)))
    (steady_line (finish_steady w)) (steady_received (finish_steady w))
    (congrArg Hands.pmn (steady_hands (finish_steady w)))

theorem CommandGroup.no_link {g : CommandGroup} (other : g ≠ .link) : .link ∉ g.effects := by
  cases g
  case link => exact absurd rfl other
  all_goals exact id

theorem CommandGroup.no_peer {g : CommandGroup} (other : g ≠ .peers) : .peer ∉ g.effects := by
  cases g
  case peers => exact absurd rfl other
  all_goals exact id

theorem ne_link_of_placing {k : FrameKind} {e : Effect} (may : e ∈ placing k) : e ≠ .link := by
  rcases may with rfl | ⟨f, rfl⟩ <;> nofun

theorem ne_peer_of_placing {k : FrameKind} {e : Effect} (may : e ∈ placing k) : e ≠ .peer := by
  rcases may with rfl | ⟨f, rfl⟩ <;> nofun

/-! ### The commands of peers -/

/-- R28, R29: an entry replaced, of another station and once frames are received. -/
theorem PeerLaw.entry (h : PeerLaw s) {a : Addr} {p : Peer} (other : a ≠ s.cfl.address)
    (receives : s.cfl.phase ≠ .start) (mark : p.mismatch = true → p.state = .live ∧ p.role = .shelf) :
    PeerLaw (s.setPeer a (some p)) := by
  have peer := s.peer_setPeer a (p := some p)
  refine ⟨?_, ?_, fun start => absurd start receives, fun start => absurd start receives⟩
  · exact (peer _).trans ((if_neg (Ne.symm other)).trans h.ownAbsent)
  · intro c q its marked
    rw [peer] at its
    split at its
    · cases its
      exact mark marked
    · exact h.mismatched c q its marked

theorem takeHeartbeat_peerLaw {a : Addr} (b : HeartbeatBody) (other : a ≠ w.st.cfl.address)
    (receives : w.st.cfl.phase ≠ .start) (h : PeerLaw w.st) : PeerLaw (takeHeartbeat a b w).st := by
  unfold takeHeartbeat
  extract_lets old new held w₁ w₂
  have taken : PeerLaw w₁.st := h.entry other receives fun marked => by
    simp only [new, heardPeer, Bool.and_eq_true, beq_iff_eq] at marked ⊢
    exact ⟨trivial, marked.1⟩
  have told : PeerLaw w₂.st := by
    simp only [w₂]
    split
    · exact (placeEvent_acts 12 noBay _ _ .pmn (by decide) (can := placing .event) subset_rfl).keeps
        (fun e may _ _ changed => changed.peerLaw (ne_link_of_placing may) (ne_peer_of_placing may)) taken
    · exact taken
  simpa using told

theorem agePeer_peerLaw (a : Addr) (limit : Nat) (old new : PeerState) (h : PeerLaw w.st) :
    PeerLaw (agePeer a limit old new w).st := by
  unfold agePeer
  split
  · exact h
  · next p its =>
    split
    · have early : PeerLaw (w.st.advanceTo (p.heardAt + limit)) := h.of_same rfl rfl rfl rfl rfl
      refine early.entry (a := a) ?_ ?_ nofun
      · intro own
        rw [show a = w.st.cfl.address from own, h.ownAbsent] at its
        cases its
      · intro start
        rw [h.startAbsent (show w.st.cfl.phase = .start from start)] at its
        cases its
    · exact h

theorem execHeartbeat_peerLaw (ran : execHeartbeat s = .next t) (h : PeerLaw s) : PeerLaw t := by
  unfold execHeartbeat fromHand at ran
  split at ran
  · cases ran; exact h
  · next f held =>
    split at ran
    · cases ran
      have receives : s.cfl.phase ≠ .start := fun start => by
        have none := (h.startQuiet start).2.2
        rw [show s.hands.pmn = some f from held] at none
        cases none
      have free : PeerLaw (s.setHand none .pmn) :=
        (Change.hand none .pmn fun _ => .inl rfl).peerLaw nofun nofun h
      refine finish_peerLaw _ ?_
      dsimp only
      split
      · exact free
      · next other => exact takeHeartbeat_peerLaw _ other receives free
    · cases ran; exact h

/-- The commands of peers keep the law of the peer table. -/
theorem peers_peerLaw {i : Instr} (peers : groupOf i = .peers) (ran : exec i s = .next t) (h : PeerLaw s) :
    PeerLaw t := by
  cases i
  case isolationTimerExpired =>
    simp only [exec, execIsolationTimerExpired] at ran
    split at ran <;> cases ran
    · exact h
    · exact finish_peerLaw _ (h.of_same rfl rfl rfl rfl rfl)
  case clashHoldExpired =>
    simp only [exec, execClashHoldExpired] at ran
    split at ran <;> cases ran
    · exact h
    · exact finish_peerLaw _ (h.of_same rfl rfl rfl rfl rfl)
  case guardLiftTimerExpired =>
    simp only [exec, execGuardLiftTimerExpired] at ran
    split at ran <;> cases ran
    · exact h
    · exact finish_peerLaw _ (h.of_same rfl rfl rfl rfl rfl)
  case heartbeat => exact execHeartbeat_peerLaw ran h
  case peerQuiet a =>
    cases ran
    exact finish_peerLaw _ (agePeer_peerLaw _ _ _ _ h)
  case peerLost a =>
    cases ran
    exact finish_peerLaw _ (agePeer_peerLaw _ _ _ _ h)
  all_goals cases peers

/-! ### The commands of the cart link -/

/-- R17: the LKC's record after a heartbeat body has been offered. -/
def Lkc.offered (body : List Byte) (l : Lkc) : Lkc :=
  match queuedHeartbeat l.queue with
  | none => (l.placed (newFrame .heartbeat 0 toAll body .shu)).refillHeartbeat
  | some f => if f.inTransmission then { l with pendingHeartbeat := some body } else l.replaceHeartbeat body

theorem offerHeartbeat_st (body : List Byte) : (offerHeartbeat body w).st = w.st.modLkc (Lkc.offered body) := by
  unfold offerHeartbeat
  split
  · next none =>
    simp only [placeHeartbeat, place_eq, Work.upd, State.modLkc, Lkc.offered, none]
  · next f some =>
    split <;> next sending => simp [Work.upd, State.modLkc, Lkc.offered, some, sending]

/-- R17: an offered heartbeat leaves the line and the received frames. -/
theorem Lkc.offered_keeps (body : List Byte) (l : Lkc) :
    (l.offered body).line = l.line ∧ (l.offered body).received = l.received ∧ (l.offered body).storm = l.storm := by
  unfold Lkc.offered
  split
  · rw [Lkc.placed_eq]
    exact ⟨rfl, rfl, rfl⟩
  · split <;> exact ⟨rfl, rfl, rfl⟩

/-- R21: in START the commands of the line find nothing to do. -/
theorem link_rests {i : Instr} (link : groupOf i = .link) (start : s.cfl.phase = .start)
    (waiting : s.lkc.line = .waiting) (empty : s.lkc.received = []) :
    exec i s = .next s ∨ i = .heartbeatTimerExpired := by
  have deaf : s.hearing = false := by simp [State.hearing, start]
  have unsent : sentFrame s = none := by simp [sentFrame, waiting]
  cases i
  case lineIdleDetected bits => exact .inl (by simp [exec, execLineIdleDetected, deaf])
  case startBitReceived => exact .inl (by simp [exec, execStartBitReceived, deaf])
  case transmissionStart k => exact .inl (by simp [exec, execTransmissionStart, passIdle, waiting, State.isActive, start])
  case contentionLost read => exact .inl (by simp [exec, execContentionLost, unsent])
  case transmitBitError read => exact .inl (by simp [exec, execTransmitBitError, unsent])
  case transmissionComplete => exact .inl (by simp [exec, execTransmissionComplete, unsent])
  case receptionAborted bits => exact .inl (by simp [exec, execReceptionAborted, waiting])
  case frameReceived bits => exact .inl (by simp [exec, execFrameReceived, waiting])
  case frameHandover => exact .inl (by simp [exec, execFrameHandover, handOver, empty])
  case heartbeatTimerExpired => exact .inr rfl
  all_goals cases link

/-- The heartbeat timer leaves all that the law of the peer table speaks of. -/
theorem execHeartbeatTimerExpired_peerLaw (ran : execHeartbeatTimerExpired s = .next t) (h : PeerLaw s) :
    PeerLaw t := by
  unfold execHeartbeatTimerExpired at ran
  split at ran <;> cases ran
  · exact h
  · refine finish_peerLaw _ ?_
    rw [offerHeartbeat_st]
    obtain ⟨line, received, -⟩ := Lkc.offered_keeps _ _
    exact h.of_same rfl rfl line received rfl

/-- The entries of the peer table, once frames are received. -/
theorem PeerLaw.of_entries (h : PeerLaw s) (address : t.cfl.address = s.cfl.address)
    (peers : t.pmn.peers = s.pmn.peers) (receives : t.cfl.phase ≠ .start) : PeerLaw t := by
  have peer : ∀ a, t.peer a = s.peer a := fun a => by simp only [State.peer, peers]
  refine ⟨?_, ?_, fun start => ?_, fun start => ?_⟩
  · rw [peer, address]
    exact h.ownAbsent
  · intro a p
    rw [peer]
    exact h.mismatched a p
  iterate 2 exact absurd start receives

/-- The law of the peer table in a station that receives. -/
def PeersHeard (s : State) : Prop := PeerLaw s ∧ s.cfl.phase ≠ .start

theorem Change.peersHeard {e : Effect} (h : Change e s t) (peer : e ≠ .peer) (tables : e ≠ .tables)
    (heard : PeersHeard s) : PeersHeard t := by
  obtain ⟨law, receives⟩ := heard
  by_cases link : e = .link
  · subst link
    cases h
    exact ⟨law.of_entries rfl rfl receives, receives⟩
  · exact ⟨h.peerLaw link peer law, (h.untouched link tables).cfl ▸ receives⟩

/-- Once frames are received, the commands of the line keep the law of the peer table. -/
theorem link_peerLaw {i : Instr} (link : groupOf i = .link) (ran : exec i s = .next t) (h : PeerLaw s) : PeerLaw t := by
  by_cases start : s.cfl.phase = .start
  · obtain ⟨waiting, empty, -⟩ := h.startQuiet start
    rcases link_rests link start waiting empty with rests | rfl
    · rw [rests] at ran
      cases ran
      exact h
    · exact execHeartbeatTimerExpired_peerLaw ran h
  · have grouped : groupOf i ≠ .alone := by
      rw [link]
      nofun
    refine ((exec_reaches i s grouped t ran).keeps (P := PeersHeard) ?_ ?_ ⟨h, start⟩).1
    · rintro e may s t changed heard
      rw [link] at may
      refine changed.peersHeard ?_ ?_ heard <;> (rintro rfl; exact may)
    · rintro w ⟨law, receives⟩
      exact ⟨finish_peerLaw w law, (finish_untouched w).cfl ▸ receives⟩

/-! ### Start-up -/

theorem PeerLaw.begun (h : PeerLaw s) : PeersHeard (begun s) := ⟨h.of_entries rfl rfl nofun, nofun⟩

theorem restart_peerLaw {i : Instr} (alone : groupOf i = .alone) (ran : exec i s = .next t)
    (h : PeerLaw s) : PeerLaw t := by
  have absent (a : Addr) : (Vector.replicate 16 (none : Option Peer))[a] = none := by simp
  refine alone_keeps alone (fun _ _ law => law.of_same rfl rfl rfl rfl rfl)
    (fun _ _ _ => ⟨absent _, fun a p its => ?_, fun _ => absent, fun _ => ⟨rfl, rfl, rfl⟩⟩)
    (fun _ _ law => ⟨law.ownAbsent, law.mismatched, law.startAbsent, law.startQuiet⟩)
    (fun s law => ⟨absent _, fun a p its => ?_, fun _ => absent, fun _ => ⟨rfl, rfl, rfl⟩⟩)
    (fun pins s start law => ⟨law.startAbsent start _, law.mismatched, law.startAbsent, law.startQuiet⟩)
    (fun record s _ law => ?_)
    (fun e may _ _ changed law => changed.peerLaw ?_ ?_ law)
    (fun s listening law => (enterActive_keeps (P := PeersHeard) (fun heard => heard.1.begun)
      (fun e may _ _ changed heard => changed.peersHeard ?_ ?_ heard) ⟨law, by rw [listening]; nofun⟩).1)
    finish_peerLaw ran h
  · rw [show (freshState _ _ _).peer a = none from absent a] at its
    cases its
  · rw [show (restartValues s).peer a = none from absent a] at its
    cases its
  · unfold endConfigRead
    dsimp only
    split
    · exact ⟨law.ownAbsent, law.mismatched, law.startAbsent, law.startQuiet⟩
    · exact law.of_entries rfl rfl fun same => by cases same
  · rcases may with rfl | may <;> [nofun; exact ne_link_of_placing may]
  · rcases may with rfl | may <;> [nofun; exact ne_peer_of_placing may]
  all_goals
    rintro rfl
    rcases may with may | may | ⟨b, may⟩
    · exact may
    · cases may
    · exact absurd (inner_of_charging may) (by decide)

theorem step_peerLaw (ran : step s = .next t) (h : PeerLaw s) : PeerLaw t := by
  refine step_keeps ran (fun g => g == .link || g == .peers) (fun _ _ _ law => law.of_same rfl rfl rfl rfl rfl)
    (fun g other e may _ _ changed law => ?_) finish_peerLaw ?_ h
  · obtain ⟨link, peer⟩ : g ≠ .link ∧ g ≠ .peers := by simpa using other
    exact changed.peerLaw (fun its => CommandGroup.no_link link (its ▸ may))
      (fun its => CommandGroup.no_peer peer (its ▸ may)) law
  · rintro i (alone | own) s t ran law
    · exact restart_peerLaw alone ran law
    · rcases Bool.or_eq_true_iff.1 own with link | peers
      · exact link_peerLaw (eq_of_beq link) ran law
      · exact peers_peerLaw (eq_of_beq peers) ran law

end

/-- Settles O53: the commands of the line and of peers by themselves, every other by its effects. -/
theorem stepsKeepThePeerLaw : Obligations.StepsKeepThePeerLaw := fun _ _ h ran => step_peerLaw ran h

end Sys2Proof.Machine
end

section
/-! The law of the allowance (R46): the target of a recomputation within its bounds. -/

namespace Sys2Proof.Machine

/-! ### Terms, surplus and excess (R42, R43) -/

theorem surplusOf_cons (floor t : Nat) (ts : List Nat) : surplusOf floor (t :: ts) = (floor - t) + surplusOf floor ts := by
  simp only [surplusOf, List.map_cons, List.sum_cons]

theorem excessOf_cons (floor t : Nat) (ts : List Nat) : excessOf floor (t :: ts) = (t - floor) + excessOf floor ts := by
  simp only [excessOf, List.map_cons, List.sum_cons]

/-- R43: no term has more surplus than F. -/
theorem surplusOf_le (floor : Nat) (ts : List Nat) : surplusOf floor ts ≤ ts.length * floor := by
  induction ts with
  | nil => exact Nat.zero_le _
  | cons t ts ih =>
    rw [surplusOf_cons, List.length_cons, Nat.succ_mul]
    omega

/-- R44, R45: the target is never below the lesser of the settled claim and the floor share. -/
theorem min_le_targetOf (suspended : Bool) (settled floor surplus total : Nat) :
    min settled floor ≤ targetOf suspended settled floor surplus total := by
  unfold targetOf
  split
  · exact le_rfl
  · split
    · exact min_le_left _ _
    · split
      · exact min_le_left _ _
      · exact (min_le_right _ _).trans (Nat.le_add_right _ _)

/-- R45: what is given beyond the floor is less than the excess. -/
theorem targetOf_le_settled (suspended : Bool) (settled floor surplus total : Nat) :
    targetOf suspended settled floor surplus total ≤ settled := by
  unfold targetOf
  split
  · exact min_le_left _ _
  · split
    · exact le_rfl
    · next above =>
      split
      · exact le_rfl
      · next scarce =>
        have part : surplus * (settled - floor) / total ≤ settled - floor := by
          refine Nat.div_le_of_le_mul ?_
          exact Nat.mul_le_mul_right _ (not_le.1 scarce).le
        omega

/-- R43, R45: of the terms of `n` stations, the own one and `n - 1` others, the target never exceeds `n` floors. -/
theorem targetOf_le_floors (suspended : Bool) (settled floor : Nat) (others : List Nat) :
    targetOf suspended settled floor (surplusOf floor (settled :: others)) (excessOf floor (settled :: others)) ≤
      (others.length + 1) * floor := by
  have spare := surplusOf_le floor others
  rw [surplusOf_cons, excessOf_cons, Nat.succ_mul]
  unfold targetOf
  split
  · omega
  · split
    · omega
    · next above =>
      have own : floor - settled = 0 := by omega
      rw [own, Nat.zero_add]
      split
      · omega
      · next scarce =>
        have part : surplusOf floor others * (settled - floor) / (settled - floor + excessOf floor others) ≤
            surplusOf floor others := by
          refine Nat.div_le_of_le_mul ?_
          rw [Nat.mul_comm]
          exact Nat.mul_le_mul_right _ (Nat.le_add_right _ _)
        omega

/-! ### A recomputation within its bounds -/

/-- R46: the bounds of the allowance in ACTIVE. -/
structure AllowanceBounds (u : Shu) : Prop where
  belowSettled : u.allowance ≤ u.settled
  belowAvailable : u.allowance ≤ u.available
  aboveFloor : min u.settled u.floor ≤ u.allowance

theorem shelfPeers_evaluateGuard (s : State) : (evaluateGuard s).shelfPeers = s.shelfPeers := by
  rw [(evaluateGuard_shu s).1]
  rfl

theorem evaluateGuard_unheard (s : State) : (evaluateGuard s).shu.unheard = s.shu.unheard := by
  simp only [evaluateGuard]
  split
  · split
    · split <;> rfl
    · rfl
  · split <;> rfl

/-- R38: the terms of a recomputation are those of N_eff stations. -/
theorem recomputeTarget_bounds {s : State} {n : Nat} (stations : 1 + s.shelfPeers.length ≤ n)
    (floor : s.shu.floor = s.shu.available / n) (unheard : s.shu.unheard = n - 1 - s.shelfPeers.length) :
    AllowanceBounds (recomputeTarget s).shu := by
  have many : (s.shelfPeers.map (peerTerm s.shu.floor) ++ List.replicate s.shu.unheard s.shu.floor).length + 1 = n := by
    simp only [List.length_append, List.length_map, List.length_replicate]
    omega
  have target : (recomputeTarget s).shu.allowance ≤ n * s.shu.floor := by
    rw [← many]
    exact targetOf_le_floors _ _ _ _
  refine ⟨targetOf_le_settled .., target.trans ?_, min_le_targetOf ..⟩
  rw [floor]
  exact Nat.mul_div_le _ _

theorem recomputed_bounds {s : State} (active : s.isActive = true) : AllowanceBounds (recomputed s).shu := by
  unfold recomputed
  rw [if_pos active]
  obtain ⟨same, -, -, floor, available⟩ := evaluateGuard_shu (recomputeFloor (recomputeClaim s))
  have peers := shelfPeers_evaluateGuard (recomputeFloor (recomputeClaim s))
  have unheard : (evaluateGuard (recomputeFloor (recomputeClaim s))).shu.unheard =
      (recomputeFloor (recomputeClaim s)).shu.unheard := evaluateGuard_unheard _
  refine recomputeTarget_bounds (n := max s.cfl.config.shelves (1 + s.shelfPeers.length)) ?_ ?_ ?_
  · rw [peers]
    exact le_max_right _ _
  · rw [floor, available]
    rfl
  · rw [peers, unheard]
    rfl

section
variable {s t : State} {w : Work}

theorem AllowanceLaw.of_same (h : AllowanceLaw s) (cfl : t.cfl = s.cfl) (allowance : t.shu.allowance = s.shu.allowance)
    (settled : t.shu.settled = s.shu.settled) (floor : t.shu.floor = s.shu.floor)
    (available : t.shu.available = s.shu.available) : AllowanceLaw t := by
  refine ⟨?_, ?_, ?_, ?_, ?_⟩ <;> simp only [cfl, allowance, settled, floor, available]
  · exact h.readInStart
  · exact h.zeroBefore
  · exact h.belowSettled
  · exact h.belowAvailable
  · exact h.aboveFloor

/-- R46: in ACTIVE the law holds where the bounds do. -/
theorem AllowanceLaw.of_bounds (bounds : AllowanceBounds s.shu) (active : s.cfl.phase = .active)
    (unread : s.cfl.configRead = none) : AllowanceLaw s := by
  refine ⟨fun reads => ?_, fun other => absurd active other, bounds.belowSettled, bounds.belowAvailable,
    fun _ => bounds.aboveFloor⟩
  rw [unread] at reads
  cases reads

theorem AllowanceLaw.unread (h : AllowanceLaw s) (later : s.cfl.phase ≠ .start) : s.cfl.configRead = none := by
  cases its : s.cfl.configRead with
  | none => rfl
  | some r => exact absurd (h.readInStart (by rw [its]; rfl)) later

/-- Before ACTIVE the law holds with an allowance of 0. -/
theorem AllowanceLaw.of_zero (zero : s.shu.allowance = 0) (waits : s.cfl.phase ≠ .active)
    (reads : s.cfl.configRead.isSome = true → s.cfl.phase = .start) : AllowanceLaw s :=
  ⟨reads, fun _ => zero, zero ▸ Nat.zero_le _, zero ▸ Nat.zero_le _, fun active => absurd active waits⟩

theorem recomputed_allowanceLaw (h : AllowanceLaw s) : AllowanceLaw (recomputed s) := by
  by_cases active : s.isActive = true
  · have phase : s.cfl.phase = .active := by simpa [State.isActive] using active
    have cfl : (recomputed s).cfl = s.cfl := by rw [recomputed_eq]
    refine .of_bounds (recomputed_bounds active) (cfl ▸ phase) ?_
    rw [cfl]
    exact h.unread (by rw [phase]; decide)
  · rwa [recomputed, if_neg active]

/-- R46: every effect keeps the bounds of the allowance. -/
theorem Change.allowanceLaw {e : Effect} (h : Change e s t) (law : AllowanceLaw s) : AllowanceLaw t := by
  cases h
  case recompute => exact recomputed_allowanceLaw law
  case reads b rs =>
    unfold requestReads
    split <;> exact law.of_same rfl rfl rfl rfl rfl
  case hand x k may => cases k <;> exact law.of_same rfl rfl rfl rfl rfl
  case share u same =>
    obtain ⟨allowance, settled, floor, available⟩ := same
    exact law.of_same rfl allowance settled floor available
  all_goals exact law.of_same rfl rfl rfl rfl rfl

theorem finish_allowanceLaw (w : Work) (h : AllowanceLaw w.st) : AllowanceLaw w.finish :=
  finish_keeps (fun _ _ _ _ changed law => changed.allowanceLaw law) h

theorem endConfigRead_allowanceLaw (record : Option (List Byte)) (reads : s.cfl.configRead.isSome = true)
    (h : AllowanceLaw s) : AllowanceLaw (endConfigRead record s) := by
  have start := h.readInStart reads
  have zero : s.shu.allowance = 0 := h.zeroBefore (by rw [start]; decide)
  unfold endConfigRead
  dsimp only
  split
  · exact .of_zero zero (by rw [show (loadConfig _ s).cfl.phase = .start from start]; decide) nofun
  · exact .of_zero zero nofun nofun

theorem restart_allowanceLaw {i : Instr} (alone : groupOf i = .alone) (ran : exec i s = .next t)
    (h : AllowanceLaw s) : AllowanceLaw t := by
  refine alone_keeps alone (fun _ _ law => law.of_same rfl rfl rfl rfl rfl)
    (fun _ _ _ => .of_zero rfl nofun nofun)
    (fun _ _ law => ⟨law.readInStart, law.zeroBefore, law.belowSettled, law.belowAvailable, law.aboveFloor⟩)
    (fun _ _ => .of_zero rfl nofun nofun)
    (fun pins s start law => ⟨fun _ => start, law.zeroBefore, law.belowSettled, law.belowAvailable, law.aboveFloor⟩)
    (fun record s reads law => endConfigRead_allowanceLaw record reads law)
    (fun e _ _ _ changed law => changed.allowanceLaw law)
    (fun s listening law => enterActive_firstShare.keeps (fun _ _ _ _ changed law => changed.allowanceLaw law) ?_)
    finish_allowanceLaw ran h
  have unread : s.cfl.configRead = none := law.unread (by rw [listening]; decide)
  have cfl : (firstShare s).st.cfl = (begun s).cfl := by
    simp only [firstShare, recompute, Work.raiseIf_st, Work.upd_st]
    rw [recomputed_eq]
    rfl
  refine .of_bounds ?_ (by rw [cfl]; rfl) (by rw [cfl]; exact unread)
  simp only [firstShare, recompute, Work.raiseIf_st, Work.upd_st]
  exact recomputed_bounds rfl

theorem step_allowanceLaw (ran : step s = .next t) (h : AllowanceLaw s) : AllowanceLaw t :=
  step_keeps ran (fun _ => false) (fun _ _ _ law => law.of_same rfl rfl rfl rfl rfl)
    (fun _ _ _ _ _ _ changed law => changed.allowanceLaw law) finish_allowanceLaw
    (fun _ which _ _ ran law => restart_allowanceLaw (which.resolve_right (by decide)) ran law) h

end

/-- Settles O54: a recomputation forms the allowance within its bounds, and nothing else changes it. -/
theorem stepsKeepTheAllowanceLaw : Obligations.StepsKeepTheAllowanceLaw := fun _ _ h ran => step_allowanceLaw ran h

end Sys2Proof.Machine
end

section
/-! The door sections: what the operations of the LDC make of them, and the law of the doors (R99 to R103). -/

namespace Sys2Proof.Machine

/-! ### Reading a door -/

section
variable (s : State) (b c : BayIx)

@[simp] theorem State.door_modDoor (f : Door → Door) :
    ((s.modDoor b f).bay c).door = if c = b then f (s.bay c).door else (s.bay c).door := by
  rw [State.modDoor, State.bay_modBay_at]
  split <;> rfl

@[simp] theorem State.door_modProv (f : Prov → Prov) : ((s.modProv b f).bay c).door = (s.bay c).door :=
  s.read_modBay b c (·.door) fun _ => rfl

@[simp] theorem State.door_modCounters (f : BayCounters → BayCounters) :
    ((s.modCounters b f).bay c).door = (s.bay c).door := s.read_modBay b c (·.door) fun _ => rfl

@[simp] theorem State.door_modCharge (f : Charge → Charge) : ((s.modCharge b f).bay c).door = (s.bay c).door :=
  s.read_modBay b c (·.door) fun _ => rfl

@[simp] theorem State.door_modChannel (f : Channel → Channel) : ((s.modChannel b f).bay c).door = (s.bay c).door :=
  s.read_modBay b c (·.door) fun _ => rfl

@[simp] theorem State.prov_modDoor (f : Door → Door) : ((s.modDoor b f).bay c).prov = (s.bay c).prov :=
  s.read_modBay b c (·.prov) fun _ => rfl

@[simp] theorem State.prov_modProv (f : Prov → Prov) :
    ((s.modProv b f).bay c).prov = if c = b then f (s.bay c).prov else (s.bay c).prov := by
  rw [State.modProv, State.bay_modBay_at]
  split <;> rfl

@[simp] theorem State.prov_modCounters (f : BayCounters → BayCounters) :
    ((s.modCounters b f).bay c).prov = (s.bay c).prov := s.read_modBay b c (·.prov) fun _ => rfl

theorem place_bay (f : TxFrame) (w : Work) : (place f w).st.bay c = w.st.bay c := by
  rw [place_eq]
  rfl

@[simp] theorem placeEvent_bay (code : Nat) (bay : Byte) (word : Word32) (value : Nat) (k : Block) (w : Work) :
    (placeEvent code bay word value k w).st.bay c = w.st.bay c := place_bay c _ w

end

/-! ### The door section after each operation -/

/-- R102: the episode is over, with the release record. -/
def Door.episodeOver (d : Door) : Door :=
  match d.episode with
  | none => d
  | some _ => { d with episode := none, release := none, closeHold := none }

/-- R102: the episode is over unless its close hold runs. -/
def Door.settled (d : Door) : Door := if d.closeHold.isNone then d.episodeOver else d

/-- R103: no release waits for a lane. -/
def Door.unpended (d : Door) : Door := if d.pendingLane then { d with pendingLane := false, release := none } else d

/-- R107, R108: the door machine is in OPEN with a new episode. -/
def Door.openedAs (attr : OpenAttr) (e : Episode) (d : Door) : Door :=
  { d with
    state := .opened attr, latch := .off, pullIn := none, window := none, boltWait := none, closeHold := none,
    episode := some e }

/-- R109, R110: the door machine has entered SECURE. -/
def Door.secured (d : Door) : Door := { d with state := .secure, latch := .off, boltWait := none }.settled

/-- R109, R110: the door machine has entered UNSECURED. -/
def Door.unsecured (d : Door) : Door :=
  { d.unpended with state := .unsecured, latch := .off, boltWait := none }.settled

section
variable (b c : BayIx) (w : Work)

@[simp] theorem endEpisode_door :
    ((endEpisode b w).st.bay c).door =
      if c = b then (w.st.bay c).door.episodeOver else (w.st.bay c).door := by
  simp only [endEpisode]
  by_cases here : c = b
  · subst here
    rw [if_pos rfl, Door.episodeOver]
    split <;> next its => simp [its]
  · rw [if_neg here]
    split <;> simp [here]

@[simp] theorem endEpisode_prov : ((endEpisode b w).st.bay c).prov = (w.st.bay c).prov := by
  simp only [endEpisode]
  split <;> simp

@[simp] theorem settleEpisode_door :
    ((settleEpisode b w).st.bay c).door = if c = b then (w.st.bay c).door.settled else (w.st.bay c).door := by
  unfold settleEpisode Door.settled
  by_cases here : c = b
  · subst here
    split <;> simp_all
  · split <;> simp [here]

@[simp] theorem settleEpisode_prov : ((settleEpisode b w).st.bay c).prov = (w.st.bay c).prov := by
  unfold settleEpisode
  split <;> simp

@[simp] theorem cancelPending_door :
    ((cancelPending b w).st.bay c).door = if c = b then (w.st.bay c).door.unpended else (w.st.bay c).door := by
  simp only [cancelPending, Door.unpended]
  by_cases here : c = b
  · subst here
    split
    · split <;> simp
    · simp
  · split
    · split <;> simp [here]
    · simp

@[simp] theorem cancelPending_prov : ((cancelPending b w).st.bay c).prov = (w.st.bay c).prov := by
  simp only [cancelPending]
  split
  · split <;> simp
  · rfl

@[simp] theorem openSwitch_door (s : State) : ((openSwitch b s).bay c).door = (s.bay c).door :=
  State.door_modProv ..

@[simp] theorem openSwitch_prov (s : State) :
    ((openSwitch b s).bay c).prov = if c = b then { (s.bay c).prov with switch := none } else (s.bay c).prov :=
  State.prov_modProv ..

@[simp] theorem enterOpen_door (attr : OpenAttr) :
    ((enterOpen b attr w).st.bay c).door =
      if c = b then (w.st.bay c).door.openedAs attr (newEpisode w.st b attr) else (w.st.bay c).door := by
  simp [enterOpen, Door.openedAs]

@[simp] theorem enterOpen_prov (attr : OpenAttr) :
    ((enterOpen b attr w).st.bay c).prov =
      if c = b then { (w.st.bay c).prov with switch := none } else (w.st.bay c).prov := by
  simp [enterOpen]

@[simp] theorem enterOpen_now (attr : OpenAttr) : (enterOpen b attr w).st.now = w.st.now := rfl

@[simp] theorem enterSecure_door :
    ((enterSecure b w).st.bay c).door = if c = b then (w.st.bay c).door.secured else (w.st.bay c).door := by
  simp only [enterSecure, settleEpisode_door, Door.secured]
  by_cases here : c = b <;> simp [here]

@[simp] theorem enterSecure_prov : ((enterSecure b w).st.bay c).prov = (w.st.bay c).prov := by
  simp [enterSecure]

@[simp] theorem enterUnsecured_door (cause : Nat) :
    ((enterUnsecured b cause w).st.bay c).door =
      if c = b then (w.st.bay c).door.unsecured else (w.st.bay c).door := by
  simp only [enterUnsecured, settleEpisode_door, Door.unsecured]
  by_cases here : c = b <;> simp [here]

@[simp] theorem enterUnsecured_prov (cause : Nat) :
    ((enterUnsecured b cause w).st.bay c).prov =
      if c = b then { (w.st.bay c).prov with switch := none } else (w.st.bay c).prov := by
  simp [enterUnsecured]

end

/-! ### The door section after a command -/

/-- R107 to R109: the door section after the door has opened. -/
def Door.opens (episode : OpenAttr → Episode) (coolDown : Nat) (d : Door) : Door :=
  match d.state with
  | .secure => { d with closed := false }.episodeOver.unpended.openedAs .forced (episode .forced)
  | .releasing =>
    { { d with closed := false }.openedAs .authorized (episode .authorized) with coolDown := some coolDown }
  | .unsecured => { d with closed := false }.episodeOver.openedAs .unsecured (episode .unsecured)
  | .closing =>
    { d with
      closed := false, state := .opened ((d.episode.map (·.attr)).getD .unsecured), boltWait := none, closeHold := none }
  | .opened _ => { d with closed := false }

/-- R109: the door section after the door has closed. -/
def Door.closes (boltWait closeHold : Nat) (d : Door) : Door :=
  match d.state with
  | .opened _ =>
    let closing : Door :=
      { d with closed := true, state := .closing, boltWait := some boltWait, closeHold := some closeHold }
    if d.bolt then closing.secured else closing
  | .secure | .releasing | .closing | .unsecured => { d with closed := true }

/-- R109, R110: the door section after the bolt has been thrown. -/
def Door.throws (d : Door) : Door :=
  if d.closed ∧ (d.state = .closing ∨ d.state = .unsecured) then { d with bolt := true }.secured
  else { d with bolt := true }

/-- R110: the door section after the bolt has cleared. -/
def Door.clears (d : Door) : Door :=
  if d.closed && d.state == .secure && d.boltWait.isNone then { d with bolt := false }.unsecured
  else { d with bolt := false }

/-- R104: the door section after the release window with the door closed. -/
def Door.unused (coolDown boltWait : Nat) (d : Door) : Door :=
  { d with
    state := .secure, latch := .off, release := none, pullIn := none, window := none, coolDown := some coolDown,
    boltWait := some boltWait }

section
variable (b c : BayIx) (w : Work)

@[simp] theorem newEpisode_modDoor (s : State) (f : Door → Door) : newEpisode (s.modDoor b f) c = newEpisode s c := by
  have view : ((s.modDoor b f).bay c).view = (s.bay c).view := s.read_modBay b c (·.view) fun _ => rfl
  funext attr
  simp only [newEpisode, view]
  rfl

@[simp] theorem endEpisode_newEpisode : newEpisode (endEpisode b w).st c = newEpisode w.st c := by
  simp only [endEpisode]
  split <;> simp

@[simp] theorem cancelPending_newEpisode : newEpisode (cancelPending b w).st c = newEpisode w.st c := by
  simp only [cancelPending]
  split
  · split <;> simp
  · rfl

theorem doorOpened_door :
    ((doorOpened b w).st.bay c).door =
      if c = b then (w.st.bay c).door.opens (newEpisode w.st b) (w.st.now + coolDownTime) else (w.st.bay c).door := by
  simp only [doorOpened, Door.opens]
  by_cases here : c = b
  · subst here
    split <;> next state => simp [state, openForced, openAuthorized, openUnsecured, openAgain]
  · split <;> simp [here, openForced, openAuthorized, openUnsecured, openAgain]

theorem doorClosed_door :
    ((doorClosed b w).st.bay c).door =
      if c = b then (w.st.bay c).door.closes (w.st.now + boltWaitTime) (w.st.now + closeHoldTime)
      else (w.st.bay c).door := by
  simp only [doorClosed, Door.closes]
  by_cases here : c = b
  · subst here
    split
    · next attr state => split <;> next bolt => simp [state, bolt]
    all_goals next state => simp [state]
  · split
    · split <;> simp [here]
    all_goals simp [here]

theorem boltBecomesThrown_door :
    ((boltBecomesThrown b w).st.bay c).door = if c = b then (w.st.bay c).door.throws else (w.st.bay c).door := by
  simp only [boltBecomesThrown, Door.throws]
  by_cases here : c = b
  · subst here
    split
    · next shut => split <;> next state => simp [shut, state]
    · next wide => simp [wide]
  · split
    · split <;> simp [here]
    · simp [here]

theorem boltBecomesClear_door :
    ((boltBecomesClear b w).st.bay c).door = if c = b then (w.st.bay c).door.clears else (w.st.bay c).door := by
  simp only [boltBecomesClear, Door.clears]
  by_cases here : c = b
  · subst here
    split <;> simp
  · split <;> simp [here]

theorem releaseUnused_door :
    ((releaseUnused b w).st.bay c).door =
      if c = b then (w.st.bay c).door.unused (w.st.now + coolDownTime) (w.st.now + boltWaitTime)
      else (w.st.bay c).door := by
  simp only [releaseUnused, Door.unused]
  split <;> by_cases here : c = b <;> simp [here]

/-- R104: the door section after a release has started. -/
theorem startRelease_door (r : ReleaseRecord) :
    ((startRelease b r w).st.bay c).door =
      if c = b then
        { (w.st.bay c).door with
          state := .releasing, latch := .full, release := some { r with start := w.st.csu.minute },
          pendingLane := false, pullIn := some (w.st.now + pullInTime),
          window := some (w.st.now + w.st.cfl.config.releaseTime * 1000), boltWait := none }
      else (w.st.bay c).door := by
  simp [startRelease]

end

/-! ### The law of a door -/

section
variable {d : Door}

theorem BayDoorLaw.released_none (h : BayDoorLaw d) (other : d.state ≠ .secure) : d.pendingLane = false := by
  by_contra pending
  exact other (h.pendingLane (by simpa using pending)).1

theorem BayDoorLaw.shut (h : BayDoorLaw d) (shut : ∀ a, d.state ≠ .opened a) : d.closed = true := by
  by_contra wide
  obtain ⟨a, its⟩ := h.openFlag.2 (by simpa using wide)
  exact shut a its

/-- A door in OPEN, with its episode. -/
theorem BayDoorLaw.of_open {attr : OpenAttr} (state : d.state = .opened attr) (wide : d.closed = false)
    (off : d.latch = .off) (idle : d.pendingLane = false) (episode : d.episode.isSome = true) : BayDoorLaw d where
  latch on := absurd off on
  pendingLane waits := by rw [idle] at waits; cases waits
  openFlag := ⟨fun _ => wide, fun _ => ⟨attr, state⟩⟩
  episode _ := episode

/-- A closed door outside of OPEN and CLOSING, with its latch off. -/
theorem BayDoorLaw.of_rest (rests : d.state = .secure ∨ d.state = .unsecured) (shut : d.closed = true)
    (off : d.latch = .off)
    (waits : d.pendingLane = true → d.state = .secure ∧ d.release.isSome = true ∧ d.episode = none) : BayDoorLaw d := by
  have unopened : ∀ a, d.state ≠ .opened a := fun a its => by rcases rests with rest | rest <;> simp [rest] at its
  refine ⟨fun on => absurd off on, waits, ⟨fun ⟨a, its⟩ => absurd its (unopened a), fun wide => ?_⟩, fun its => ?_⟩
  · rw [shut] at wide
    cases wide
  · rcases its with ⟨a, its⟩ | its
    · exact absurd its (unopened a)
    · rcases rests with rest | rest <;> simp [rest] at its

/-! What the end of an episode and of a waiting release leave. -/

theorem Door.episodeOver_eq (d : Door) :
    d.episodeOver = { d with
      episode := none, release := d.episodeOver.release, closeHold := d.episodeOver.closeHold } := by
  unfold Door.episodeOver
  split
  · next its => rw [← its]
  · rfl

@[simp] theorem Door.episodeOver_state : d.episodeOver.state = d.state := by rw [Door.episodeOver_eq]
@[simp] theorem Door.episodeOver_closed : d.episodeOver.closed = d.closed := by rw [Door.episodeOver_eq]
@[simp] theorem Door.episodeOver_latch : d.episodeOver.latch = d.latch := by rw [Door.episodeOver_eq]
@[simp] theorem Door.episodeOver_pendingLane : d.episodeOver.pendingLane = d.pendingLane := by rw [Door.episodeOver_eq]

theorem Door.episodeOver_of_none (its : d.episode = none) : d.episodeOver = d := by
  unfold Door.episodeOver
  rw [its]

theorem Door.settled_eq_or (d : Door) : d.settled = d ∨ d.settled = d.episodeOver := by
  unfold Door.settled
  split <;> [exact .inr rfl; exact .inl rfl]

@[simp] theorem Door.settled_state : d.settled.state = d.state := by
  rcases d.settled_eq_or with its | its <;> simp [its]
@[simp] theorem Door.settled_closed : d.settled.closed = d.closed := by
  rcases d.settled_eq_or with its | its <;> simp [its]
@[simp] theorem Door.settled_latch : d.settled.latch = d.latch := by
  rcases d.settled_eq_or with its | its <;> simp [its]
@[simp] theorem Door.settled_pendingLane : d.settled.pendingLane = d.pendingLane := by
  rcases d.settled_eq_or with its | its <;> simp [its]

theorem Door.settled_of_none (its : d.episode = none) : d.settled = d := by
  rcases d.settled_eq_or with its' | its' <;> rw [its']
  exact Door.episodeOver_of_none its

@[simp] theorem Door.unpended_pendingLane : d.unpended.pendingLane = false := by
  unfold Door.unpended
  split <;> simp_all
@[simp] theorem Door.unpended_state : d.unpended.state = d.state := by unfold Door.unpended; split <;> rfl
@[simp] theorem Door.unpended_closed : d.unpended.closed = d.closed := by unfold Door.unpended; split <;> rfl

/-! The law after each move. -/

theorem BayDoorLaw.opens (h : BayDoorLaw d) (shut : d.closed = true) (episode : OpenAttr → Episode) (coolDown : Nat) :
    BayDoorLaw (d.opens episode coolDown) := by
  unfold Door.opens
  cases state : d.state with
  | secure => exact .of_open rfl (by simp [Door.openedAs]) rfl (by simp [Door.openedAs]) rfl
  | releasing => exact .of_open rfl rfl rfl (h.released_none (by simp [state])) rfl
  | unsecured =>
    exact .of_open rfl (by simp [Door.openedAs]) rfl (by simpa [Door.openedAs] using h.released_none (by simp [state])) rfl
  | closing =>
    have off : d.latch = .off := by
      by_contra on
      have := h.latch on
      simp [state] at this
    exact .of_open rfl rfl off (h.released_none (by simp [state])) (h.episode (.inr state))
  | opened a =>
    have wide := h.openFlag.1 ⟨a, state⟩
    rw [shut] at wide
    cases wide

/-- The door machine enters SECURE from CLOSING or UNSECURED. -/
theorem BayDoorLaw.secured (h : d.pendingLane = false) (shut : d.closed = true) : BayDoorLaw d.secured := by
  refine .of_rest (.inl ?_) ?_ ?_ ?_ <;> simp [Door.secured, shut, h]

theorem BayDoorLaw.unsecured (shut : d.closed = true) : BayDoorLaw d.unsecured := by
  refine .of_rest (.inr ?_) ?_ ?_ ?_ <;> simp [Door.unsecured, shut]

theorem BayDoorLaw.closes (h : BayDoorLaw d) (wide : d.closed = false) (boltWait closeHold : Nat) :
    BayDoorLaw (d.closes boltWait closeHold) := by
  obtain ⟨a, state⟩ := h.openFlag.2 wide
  have idle := h.released_none (by simp [state])
  have off : d.latch = .off := by
    by_contra on
    have := h.latch on
    simp [state] at this
  simp only [Door.closes, state]
  split
  · exact .secured idle rfl
  · exact ⟨fun on => absurd off on, fun waits => by simp [idle] at waits,
      ⟨fun ⟨a, its⟩ => (by cases its), fun its => (by cases its)⟩, fun _ => h.episode (.inl ⟨a, state⟩)⟩

theorem BayDoorLaw.throws (h : BayDoorLaw d) : BayDoorLaw d.throws := by
  unfold Door.throws
  split
  · next moves =>
    refine .secured (h.released_none ?_) moves.1
    rcases moves.2 with state | state <;> simp [state]
  · exact ⟨h.latch, h.pendingLane, h.openFlag, h.episode⟩

theorem BayDoorLaw.clears (h : BayDoorLaw d) : BayDoorLaw d.clears := by
  unfold Door.clears
  split
  · next moves =>
    simp only [Bool.and_eq_true] at moves
    exact .unsecured moves.1.1
  · exact ⟨h.latch, h.pendingLane, h.openFlag, h.episode⟩

theorem BayDoorLaw.unused (h : BayDoorLaw d) (releasing : d.state = .releasing) (coolDown boltWait : Nat) :
    BayDoorLaw (d.unused coolDown boltWait) := by
  have idle := h.released_none (by simp [releasing])
  exact .of_rest (.inl rfl) (h.shut (by simp [releasing])) rfl fun waits => by simp [Door.unused, idle] at waits

/-- R102: an episode ends only in SECURE and UNSECURED. -/
theorem BayDoorLaw.episodeOver (h : BayDoorLaw d) (rests : d.state = .secure ∨ d.state = .unsecured) :
    BayDoorLaw d.episodeOver := by
  have shut := h.shut fun a its => by rcases rests with rest | rest <;> simp [rest] at its
  have off : d.latch = .off := by
    by_contra on
    have releasing := h.latch on
    rcases rests with rest | rest <;> simp [rest] at releasing
  refine .of_rest (by simpa using rests) (by simpa using shut) (by simpa using off) fun waits => ?_
  have waiting := h.pendingLane (by simpa using waits)
  rwa [Door.episodeOver_of_none waiting.2.2]

/-- A release that starts at a SECURE door. -/
theorem BayDoorLaw.released (h : BayDoorLaw d) (ready : d.state = .secure ∨ d.pendingLane = true) (r : ReleaseRecord)
    (pullIn window : Option Nat) :
    BayDoorLaw { d with
      state := .releasing, latch := .full, release := some r, pendingLane := false, pullIn := pullIn, window := window,
      boltWait := none } := by
  have secure : d.state = .secure := ready.elim id fun waits => (h.pendingLane waits).1
  have shut := h.shut fun a its => by simp [secure] at its
  exact ⟨fun _ => rfl, nofun, ⟨fun ⟨a, its⟩ => (by cases its), fun wide => (by simp [shut] at wide)⟩,
    fun its => by rcases its with ⟨a, its⟩ | its <;> cases its⟩

/-- A release that waits for a lane. -/
theorem BayDoorLaw.pended (h : BayDoorLaw d) (secure : d.state = .secure) (closed : d.episode = none)
    (r : ReleaseRecord) : BayDoorLaw { d with release := some r, pendingLane := true } :=
  ⟨h.latch, fun _ => ⟨secure, rfl, closed⟩, h.openFlag, h.episode⟩

end

/-! ### The law of the doors -/

section
variable {s t : State} {w : Work} {b : BayIx}

/-- The effects that reach a door section. -/
def Effect.ofDoor : Effect → Bool
  | .door _ | .release _ | .pend _ => true
  | _ => false

/-- Every other effect leaves the door sections. -/
theorem Change.door_same {e : Effect} (h : Change e s t) (other : e.ofDoor = false) (c : BayIx) :
    (t.bay c).door = (s.bay c).door := by
  cases h
  case recompute => rw [recomputed_eq]; rfl
  case reads b rs => unfold requestReads; split <;> [exact State.door_modChannel ..; exact State.door_modChannel ..; rfl; rfl]
  case hand x k may => rw [State.bay_setHand]
  case door b d => cases other
  case release b r ready => cases other
  case pend b r busy => cases other
  case wish b => exact State.door_modCharge ..
  case tune b x tuned => exact State.door_modCharge ..
  case enter b x => exact State.door_modCharge ..
  case write b x active limit => exact State.door_modChannel ..
  case answered b => exact State.door_modChannel ..
  case profileNow b active => exact State.door_modChannel ..
  case channelUp b off => exact State.door_modChannel ..
  case channel b x => exact State.door_modChannel ..
  case count b k sessions => exact State.door_modCounters ..
  case session b k => exact State.door_modCounters ..
  case prov b p opens => exact State.door_modProv ..
  case switch b p => exact State.door_modProv ..
  case claim b => exact s.read_modBay b c (·.door) fun _ => rfl
  case view b v => exact s.read_modBay b c (·.door) fun _ => rfl
  case attrs b v => exact s.read_modBay b c (·.door) fun _ => rfl
  case present b v => exact s.read_modBay b c (·.door) fun _ => rfl
  case claimed b v free => exact s.read_modBay b c (·.door) fun _ => rfl
  all_goals rfl

theorem releaseBusy_eq_false_iff :
    releaseBusy s b = false ↔
      s.isActive = true ∧ (s.bay b).door.state = .secure ∧ (s.bay b).door.episode = none ∧
        (s.bay b).door.release = none ∧ (s.bay b).door.coolDown = none := by
  simp [releaseBusy, Bool.or_eq_false_iff]
  tauto

theorem DoorLaw.of_same (h : DoorLaw s) (same : ∀ c, (t.bay c).door = (s.bay c).door) : DoorLaw t :=
  fun c => same c ▸ h c

/-- A law of every door is kept where one door moves and keeps it. -/
theorem DoorLaw.of_moved (h : DoorLaw s) {d : BayIx → Door}
    (moved : ∀ c, (t.bay c).door = if c = b then d c else (s.bay c).door) (law : BayDoorLaw (d b)) : DoorLaw t := by
  intro c
  rw [moved]
  split
  · next here => exact here ▸ law
  · exact h c

/-- R99, R103: every effect but a free change of a door section keeps the law of the doors. -/
theorem Change.doorLaw {e : Effect} (h : Change e s t) (other : ∀ b, e ≠ .door b) (law : DoorLaw s) : DoorLaw t := by
  by_cases touches : e.ofDoor = true
  · cases h
    case door b d => exact absurd rfl (other b)
    case release b r ready =>
      exact law.of_moved (startRelease_door b · _ r) ((law b).released ready _ _ _)
    case pend b r free =>
      obtain ⟨-, secure, shut, -, -⟩ := releaseBusy_eq_false_iff.1 free
      exact law.of_moved (fun c => s.door_modDoor b c _) ((law b).pended secure shut r)
    all_goals cases touches
  · exact law.of_same (h.door_same (by simpa using touches))

theorem finish_doorLaw (w : Work) (h : DoorLaw w.st) : DoorLaw w.finish :=
  finish_keeps (fun e _ _ inner changed law => changed.doorLaw (fun b its => by rw [its] at inner; cases inner) law) h

/-- What a command of a door does to the door sections, before its notices are worked. -/
theorem doors_doorLaw {i : Instr} (doors : groupOf i = .doors) (ran : exec i s = .next t) (h : DoorLaw s) :
    DoorLaw t := by
  cases i
  case doorOpens b =>
    simp only [exec, execDoorOpens] at ran
    split at ran <;> cases ran
    · next shut =>
      simp only [Bool.and_eq_true] at shut
      exact finish_doorLaw _ (h.of_moved (doorOpened_door b · _) ((h b).opens shut.2 _ _))
    · exact h
  case doorCloses b =>
    simp only [exec, execDoorCloses] at ran
    split at ran <;> cases ran
    · next wide =>
      simp only [Bool.and_eq_true, Bool.not_eq_true'] at wide
      exact finish_doorLaw _ (h.of_moved (doorClosed_door b · _) ((h b).closes wide.2 _ _))
    · exact h
  case boltThrown b =>
    simp only [exec, execBoltThrown] at ran
    split at ran <;> cases ran
    · exact finish_doorLaw _ (h.of_moved (boltBecomesThrown_door b · _) (h b).throws)
    · exact h
  case boltClears b =>
    simp only [exec, execBoltClears] at ran
    split at ran <;> cases ran
    · exact finish_doorLaw _ (h.of_moved (boltBecomesClear_door b · _) (h b).clears)
    · exact h
  case pullInEnd b =>
    simp only [exec, execPullInEnd] at ran
    split at ran
    · cases ran; exact h
    · split at ran <;> cases ran
      · next state =>
        refine h.of_moved (fun c => State.door_modDoor _ b c _) ?_
        exact ⟨fun _ => state, (h b).pendingLane, (h b).openFlag, (h b).episode⟩
      · exact h
  case releaseWindowExpired b =>
    simp only [exec, execReleaseWindowExpired] at ran
    split at ran
    · cases ran; exact h
    · split at ran <;> cases ran
      · next state => exact finish_doorLaw _ (h.of_moved (releaseUnused_door b · _) ((h b).unused state _ _))
      · exact h
  case coolDownEnd b =>
    simp only [exec, execCoolDownEnd] at ran
    split at ran <;> cases ran
    · exact h
    · refine h.of_moved (fun c => State.door_modDoor _ b c _) ?_
      exact ⟨(h b).latch, (h b).pendingLane, (h b).openFlag, (h b).episode⟩
  case boltWaitClosingExpired b =>
    simp only [exec, execBoltWaitClosingExpired] at ran
    split at ran
    · cases ran; exact h
    · split at ran <;> cases ran
      · next state =>
        refine finish_doorLaw _ (h.of_moved (fun c => enterUnsecured_door b c _ _) (.unsecured ?_))
        exact (h b).shut (by simp [show (s.bay b).door.state = .closing from state])
      · exact h
  case boltWaitReleaseExpired b =>
    simp only [exec, execBoltWaitReleaseExpired] at ran
    split at ran
    · cases ran; exact h
    · next t _ =>
      have waited : DoorLaw ((s.advanceTo t).modDoor b fun d => { d with boltWait := none }) :=
        h.of_moved (fun c => State.door_modDoor _ b c _)
          ⟨(h b).latch, (h b).pendingLane, (h b).openFlag, (h b).episode⟩
      split at ran
      · next state =>
        split at ran <;> cases ran
        · exact waited
        · refine finish_doorLaw _ (waited.of_moved (fun c => enterUnsecured_door b c _ _) (.unsecured ?_))
          exact (waited b).shut (by simp [State.door_modDoor, state])
      · cases ran; exact h
  case closeHoldEnd b =>
    simp only [exec, execCloseHoldEnd] at ran
    split at ran <;> cases ran
    · exact h
    · next t _ =>
      have passed : DoorLaw ((s.advanceTo t).modDoor b fun d => { d with closeHold := none }) :=
        h.of_moved (fun c => State.door_modDoor _ b c _)
          ⟨(h b).latch, (h b).pendingLane, (h b).openFlag, (h b).episode⟩
      refine finish_doorLaw _ ?_
      unfold closeHoldPasses
      split
      · next state => exact passed.of_moved (endEpisode_door b · _) ((passed b).episodeOver (.inl state))
      · next state => exact passed.of_moved (endEpisode_door b · _) ((passed b).episodeOver (.inr state))
      all_goals exact passed
  case ajarTimerExpired b =>
    simp only [exec, execAjarTimerExpired] at ran
    split at ran
    · cases ran; exact h
    · next e its =>
      split at ran <;> cases ran
      · exact h
      · next t _ =>
        have early : DoorLaw (s.advanceTo t) := h
        refine finish_doorLaw _ (early.of_moved (b := b) (d := fun c =>
          { (s.bay c).door with episode := some { e with ajar := none } }) (fun c => ?_) ?_)
        · simp [ajarPasses]
        · refine ⟨(h b).latch, fun waits => ?_, (h b).openFlag, fun _ => rfl⟩
          have closed := ((h b).pendingLane waits).2.2
          rw [its] at closed
          cases closed
  all_goals cases doors

/-! ### Start-up -/

theorem BayDoorLaw.fresh : BayDoorLaw {} := .of_rest (.inr rfl) rfl rfl nofun

theorem BayDoorLaw.found (ajarEnd : Nat) (closed bolt : Bool) : BayDoorLaw (Door.found ajarEnd closed bolt) := by
  cases closed with
  | false => exact .of_open rfl rfl rfl rfl rfl
  | true => cases bolt <;> [exact .of_rest (.inr rfl) rfl rfl nofun; exact .of_rest (.inl rfl) rfl rfl nofun]

theorem readStraps_doorLaw (pins : StartPins) (s : State) : DoorLaw (readStraps pins s) := by
  intro b
  rcases lt_or_ge b.val (countOf pins.count) with counted | beyond
  · rw [bay_readStraps_sampled pins s b counted]
    exact .found _ _ _
  · rw [bay_readStraps_unsampled pins s b beyond]
    exact .fresh

theorem restart_doorLaw {i : Instr} (alone : groupOf i = .alone) (ran : exec i s = .next t)
    (h : DoorLaw s) : DoorLaw t := by
  refine alone_keeps alone (fun _ _ law => law) (fun _ _ _ b => ?_) (fun _ _ law => law) (fun s _ b => ?_)
    (fun pins s _ _ => readStraps_doorLaw pins s) (fun record s _ law => ?_)
    (fun e may _ _ changed law => changed.doorLaw (fun b its => ?_) law)
    (fun s _ law => enterActive_keeps id (fun e may _ _ changed law => changed.doorLaw (fun b its => ?_) law) law)
    finish_doorLaw ran h
  · rw [show (freshState _ _ _).bay b = {} by simp [freshState, State.bay, State.reset]]
    exact .fresh
  · rw [bay_restartValues]
    exact .fresh
  · unfold endConfigRead
    dsimp only
    split <;> exact law
  · subst its
    rcases may with may | may
    · cases may
    · exact absurd (inner_of_placing may) Bool.false_ne_true
  · subst its
    rcases may with may | may | ⟨c, may⟩
    · exact may
    · cases may
    · exact absurd (inner_of_charging may) Bool.false_ne_true

theorem step_doorLaw (ran : step s = .next t) (h : DoorLaw s) : DoorLaw t := by
  refine step_keeps ran (fun g => g == .doors) (fun _ _ _ law => law)
    (fun g other e may _ _ changed law => changed.doorLaw (fun b its => ?_) law) finish_doorLaw ?_ h
  · subst its
    cases g
    case doors => cases other
    all_goals exact may
  · rintro i (alone | doors) s t ran law
    · exact restart_doorLaw alone ran law
    · exact doors_doorLaw (eq_of_beq doors) ran law

end

/-- Settles O56: by what each command of a door makes of its section. -/
theorem stepsKeepTheDoorLaw : Obligations.StepsKeepTheDoorLaw := fun _ _ h ran => step_doorLaw ran h

end Sys2Proof.Machine
end

section
/-! The transmit queue: what the operations of the LKC keep of its order, its bounds and its marks (R3, R5, R16 to
R18). -/

namespace Sys2Proof.Machine

/-! ### A queue in order -/

/-- What the law of the link says of the queue alone. -/
structure QueueLaw (q : List TxFrame) : Prop where
  capacity : q.length ≤ txCapacity
  ordered : q.Pairwise fun f g => f.rank ≤ g.rank
  bids : ∀ f ∈ q, f.bid < 4096
  oneSending : (q.filter fun f => f.inTransmission).length ≤ 1
  oneHeartbeat : (q.filter fun f => f.kind == .heartbeat).length ≤ 1

/-- No frame of the queue is in transmission. -/
def Unsent (q : List TxFrame) : Prop := ∀ f ∈ q, f.inTransmission = false

/-- The queue holds no HEARTBEAT. -/
def NoHeartbeat (q : List TxFrame) : Prop := ∀ f ∈ q, f.kind ≠ .heartbeat

section
variable {f g : TxFrame} {q rest : List TxFrame}

theorem QueueLaw.sublist (h : QueueLaw q) (sub : rest.Sublist q) : QueueLaw rest where
  capacity := sub.length_le.trans h.capacity
  ordered := h.ordered.sublist sub
  bids f among := h.bids f (sub.subset among)
  oneSending := (sub.filter _).length_le.trans h.oneSending
  oneHeartbeat := (sub.filter _).length_le.trans h.oneHeartbeat

theorem Unsent.sublist (h : Unsent q) (sub : rest.Sublist q) : Unsent rest := fun f among => h f (sub.subset among)

theorem NoHeartbeat.sublist (h : NoHeartbeat q) (sub : rest.Sublist q) : NoHeartbeat rest :=
  fun f among => h f (sub.subset among)

theorem filter_sending_nil (h : Unsent q) : (q.filter fun f => f.inTransmission) = [] :=
  List.filter_eq_nil_iff.2 fun f among => by simp [h f among]

theorem filter_heartbeat_nil (h : NoHeartbeat q) : (q.filter fun f => f.kind == .heartbeat) = [] :=
  List.filter_eq_nil_iff.2 fun f among => by simpa using h f among

/-- A rewriting of the frames that keeps kind and bid and puts none in transmission. -/
theorem QueueLaw.map (h : QueueLaw q) (c : TxFrame → TxFrame) (kind : ∀ f, (c f).kind = f.kind)
    (bid : ∀ f, (c f).bid = f.bid) (sending : ∀ f, (c f).inTransmission = true → f.inTransmission = true) :
    QueueLaw (q.map c) where
  capacity := (List.length_map _).trans_le h.capacity
  ordered := List.pairwise_map.2 (h.ordered.imp fun order => by simpa [TxFrame.rank, kind, bid] using order)
  bids f among := by
    obtain ⟨g, its, rfl⟩ := List.mem_map.1 among
    exact bid g ▸ h.bids g its
  oneSending := by
    rw [List.filter_map, List.length_map]
    exact (List.monotone_filter_right q fun f => sending f).length_le.trans h.oneSending
  oneHeartbeat := by
    rw [List.filter_map, List.length_map]
    simpa [Function.comp_def, kind] using h.oneHeartbeat

/-! ### Placing (R16) -/

theorem mem_insertFrame : g ∈ insertFrame f q ↔ g = f ∨ g ∈ q := by
  induction q with
  | nil => exact List.mem_singleton.trans (by simp)
  | cons x xs ih =>
    unfold insertFrame
    split
    · exact List.mem_cons
    · rw [List.mem_cons, ih, List.mem_cons]
      tauto

theorem insertFrame_perm (f : TxFrame) (q : List TxFrame) : (insertFrame f q).Perm (f :: q) := by
  induction q with
  | nil => exact .refl _
  | cons x xs ih =>
    unfold insertFrame
    split
    · exact .refl _
    · exact (ih.cons x).trans (.swap f x xs)

theorem insertFrame_ordered (ordered : q.Pairwise fun f g => f.rank ≤ g.rank) :
    (insertFrame f q).Pairwise fun f g => f.rank ≤ g.rank := by
  induction q with
  | nil => exact List.pairwise_singleton _ _
  | cons x xs ih =>
    obtain ⟨first, later⟩ := List.pairwise_cons.1 ordered
    unfold insertFrame
    split
    · next before =>
      refine List.pairwise_cons.2 ⟨fun g among => ?_, ordered⟩
      rcases List.mem_cons.1 among with rfl | among
      · exact before.le
      · exact before.le.trans (first g among)
    · next behind =>
      refine List.pairwise_cons.2 ⟨fun g among => ?_, ih later⟩
      rcases mem_insertFrame.1 among with rfl | among
      · exact not_lt.1 behind
      · exact first g among

theorem QueueLaw.insert (h : QueueLaw q) (room : q.length < txCapacity) (bid : f.bid < 4096)
    (idle : f.inTransmission = false) (other : f.kind ≠ .heartbeat ∨ NoHeartbeat q) : QueueLaw (insertFrame f q) where
  capacity := (length_insertFrame f q).trans_le room
  ordered := insertFrame_ordered h.ordered
  bids g among := by
    rcases mem_insertFrame.1 among with rfl | among
    · exact bid
    · exact h.bids g among
  oneSending := by
    rw [((insertFrame_perm f q).filter _).length_eq, List.filter_cons_of_neg (by simp [idle])]
    exact h.oneSending
  oneHeartbeat := by
    rw [((insertFrame_perm f q).filter _).length_eq]
    rcases other with other | none
    · rw [List.filter_cons_of_neg (by simpa using other)]
      exact h.oneHeartbeat
    · rw [List.filter_cons, filter_heartbeat_nil none]
      split <;> simp

/-- R16: the frame that gives way is of the queue, and the others stay in their order. -/
theorem takeLastIdle_spec (its : takeLastIdle q = some (f, rest)) :
    rest.Sublist q ∧ q.length = rest.length + 1 := by
  induction q generalizing f rest with
  | nil => cases its
  | cons x xs ih =>
    unfold takeLastIdle at its
    split at its
    · next victim others later =>
      cases its
      obtain ⟨sub, length⟩ := ih later
      exact ⟨sub.cons_cons x, by simp [length]⟩
    · split at its
      · cases its
      · cases its
        exact ⟨List.sublist_cons_self x xs, rfl⟩

/-- R16: what placing a frame makes of the queue: the frame in its place, in all of the queue or in the queue without
the frame that gives way; or the queue as it was. -/
theorem placeInQueue_cases (f : TxFrame) (q : List TxFrame) (bound : q.length ≤ txCapacity) :
    (placeInQueue f q).1 = q ∨
      ∃ rest, rest.Sublist q ∧ rest.length < txCapacity ∧ (placeInQueue f q).1 = insertFrame f rest := by
  unfold placeInQueue
  split
  · next room => exact .inr ⟨q, .refl q, room, rfl⟩
  · split
    · exact .inl rfl
    · next victim rest its =>
      split
      · obtain ⟨sub, length⟩ := takeLastIdle_spec its
        exact .inr ⟨rest, sub, by omega, rfl⟩
      · exact .inl rfl

theorem QueueLaw.placed (h : QueueLaw q) (bid : f.bid < 4096)
    (idle : f.inTransmission = false) (other : f.kind ≠ .heartbeat ∨ NoHeartbeat q) :
    QueueLaw (placeInQueue f q).1 := by
  rcases placeInQueue_cases f q h.capacity with same | ⟨rest, sub, room, placed⟩
  · rwa [same]
  · rw [placed]
    exact (h.sublist sub).insert room bid idle (other.imp_right fun none => none.sublist sub)

theorem mem_placeInQueue (bound : q.length ≤ txCapacity) (among : g ∈ (placeInQueue f q).1) : g = f ∨ g ∈ q := by
  rcases placeInQueue_cases f q bound with same | ⟨rest, sub, room, placed⟩
  · exact .inr (same ▸ among)
  · rw [placed] at among
    exact (mem_insertFrame.1 among).imp_right fun its => sub.subset its

/-! ### Withdrawing (R18) -/

theorem withdrawFrames_eq (which : TxFrame → Bool) (q : List TxFrame) :
    withdrawFrames which q = (q.filter fun f => !which f || f.inTransmission).map fun f =>
      if which f then { f with withdrawal := true } else f := by
  induction q with
  | nil => rfl
  | cons f fs ih =>
    unfold withdrawFrames at ih ⊢
    rw [List.filterMap_cons]
    cases picked : which f
    · simpa [picked] using ih
    · cases sending : f.inTransmission
      · simpa [picked, sending] using ih
      · simpa [picked, sending] using ih

theorem QueueLaw.withdrawn (h : QueueLaw q) (which : TxFrame → Bool) : QueueLaw (withdrawFrames which q) := by
  rw [withdrawFrames_eq]
  refine (h.sublist List.filter_sublist).map _ (fun f => ?_) (fun f => ?_) fun f => ?_
  · split <;> rfl
  · split <;> rfl
  · split <;> exact id

theorem mem_withdrawFrames {which : TxFrame → Bool} (among : g ∈ withdrawFrames which q) :
    ∃ f ∈ q, g.inTransmission = f.inTransmission := by
  obtain ⟨f, its, kept⟩ := List.mem_filterMap.1 among
  refine ⟨f, its, ?_⟩
  split at kept
  · split at kept <;> cases kept
    rfl
  · cases kept
    rfl

/-! ### The frame in transmission -/

theorem unsent_dropSending (q : List TxFrame) : Unsent (dropSending q) := fun f among => by
  simpa using (List.mem_filter.1 among).2

theorem QueueLaw.dropSending (h : QueueLaw q) : QueueLaw (dropSending q) := h.sublist List.filter_sublist

theorem unsent_mapSending {c : TxFrame → TxFrame} (quiet : ∀ f, (c f).inTransmission = false) :
    Unsent (mapSending c q) := by
  intro f among
  obtain ⟨g, -, rfl⟩ := List.mem_map.1 among
  split
  · exact quiet g
  · next idle => simpa using idle

theorem QueueLaw.mapSending (h : QueueLaw q) {c : TxFrame → TxFrame}
    (kind : ∀ f, (c f).kind = f.kind) (bid : ∀ f, (c f).bid = f.bid) : QueueLaw (mapSending c q) := by
  refine h.map _ (fun f => ?_) (fun f => ?_) (fun f => ?_)
  · split <;> [exact kind f; rfl]
  · split <;> [exact bid f; rfl]
  · split
    · next sending => exact fun _ => sending
    · exact id

/-- R5: the head goes out where no frame does. -/
theorem QueueLaw.markHead (h : QueueLaw q) (unsent : Unsent q) : QueueLaw (markHead q) := by
  cases q with
  | nil => exact h
  | cons f fs =>
    have later : Unsent fs := fun g among => unsent g (List.mem_cons_of_mem f among)
    refine ⟨h.capacity, ?_, ?_, ?_, ?_⟩
    · exact List.pairwise_cons.2 (List.pairwise_cons.1 h.ordered)
    · intro g among
      rcases List.mem_cons.1 among with rfl | among
      · exact h.bids f List.mem_cons_self
      · exact h.bids g (List.mem_cons_of_mem f among)
    · rw [Machine.markHead, List.filter_cons, filter_sending_nil later]
      exact le_rfl
    · have one := h.oneHeartbeat
      rw [List.filter_cons] at one
      rw [Machine.markHead, List.filter_cons]
      split <;> next its => simpa [its] using one

/-- The one HEARTBEAT of a queue is not in the queue without the frame in transmission, where that is it. -/
theorem noHeartbeat_dropSending (h : QueueLaw q) (among : f ∈ q) (sending : f.inTransmission = true)
    (heartbeat : f.kind = .heartbeat) : NoHeartbeat (Machine.dropSending q) := by
  intro g its kind
  obtain ⟨gq, idle⟩ := List.mem_filter.1 its
  have fh : f ∈ q.filter fun f => f.kind == .heartbeat := List.mem_filter.2 ⟨among, by simp [heartbeat]⟩
  have gh : g ∈ q.filter fun f => f.kind == .heartbeat := List.mem_filter.2 ⟨gq, by simp [kind]⟩
  obtain ⟨k, its⟩ : ∃ k, q.filter (fun f => f.kind == .heartbeat) ⊆ [k] := by
    cases its : q.filter fun f => f.kind == .heartbeat with
    | nil => exact ⟨f, List.nil_subset _⟩
    | cons k ks =>
      have one := h.oneHeartbeat
      rw [its] at one
      have none : ks = [] := List.length_eq_zero_iff.1 (by simpa using one)
      exact ⟨k, none ▸ List.Subset.refl [k]⟩
  have same : g = f := (List.mem_singleton.1 (its gh)).trans (List.mem_singleton.1 (its fh)).symm
  simp [same, sending] at idle

end

end Sys2Proof.Machine
end

section
/-! The laws of the link queues (R1, R3, R5, R13, R14, R16, R17, R21). -/

namespace Sys2Proof.Machine

/-! ### The LKC's record -/

/-- The queue and the line of an LKC. -/
structure LineLaw (l : Lkc) : Prop where
  queue : QueueLaw l.queue
  sendingLine : ∀ f ∈ l.queue, f.inTransmission = true → l.line = .sending

section
variable {l m : Lkc} {f : TxFrame}

theorem LineLaw.of_unsent (queue : QueueLaw l.queue) (unsent : Unsent l.queue) : LineLaw l :=
  ⟨queue, fun f among sending => by rw [unsent f among] at sending; cases sending⟩

theorem LineLaw.unsent (h : LineLaw l) (rests : l.line ≠ .sending) : Unsent l.queue := fun f among => by
  by_contra sending
  exact rests (h.sendingLine f among (by simpa using sending))

theorem LineLaw.of_same (h : LineLaw l) (queue : m.queue = l.queue) (line : m.line = l.line) : LineLaw m :=
  ⟨queue ▸ h.queue, by rw [queue, line]; exact h.sendingLine⟩

/-- A line that is not sending can become any other. -/
theorem LineLaw.of_resting (h : LineLaw l) (rests : l.line ≠ .sending) (queue : m.queue = l.queue) : LineLaw m :=
  .of_unsent (queue ▸ h.queue) (queue ▸ h.unsent rests)

/-- A rewriting of the queued frames that keeps kind, bid and marks. -/
theorem LineLaw.map (h : LineLaw l) (c : TxFrame → TxFrame) (queue : m.queue = l.queue.map c) (line : m.line = l.line)
    (kind : ∀ f, (c f).kind = f.kind) (bid : ∀ f, (c f).bid = f.bid)
    (sending : ∀ f, (c f).inTransmission = f.inTransmission) : LineLaw m := by
  refine ⟨queue ▸ h.queue.map c kind bid fun f its => (sending f).symm.trans its, fun f among its => ?_⟩
  rw [queue] at among
  obtain ⟨g, its', rfl⟩ := List.mem_map.1 among
  rw [line]
  exact h.sendingLine g its' ((sending g).symm.trans its)

@[simp] theorem Lkc.placed_queue (f : TxFrame) (l : Lkc) : (l.placed f).queue = (placeInQueue f l.queue).1 := by
  rw [Lkc.placed_eq]

@[simp] theorem Lkc.placed_line (f : TxFrame) (l : Lkc) : (l.placed f).line = l.line := by rw [Lkc.placed_eq]

theorem LineLaw.placed (h : LineLaw l) (bid : f.bid < 4096) (idle : f.inTransmission = false)
    (other : f.kind ≠ .heartbeat ∨ NoHeartbeat l.queue) : LineLaw (l.placed f) := by
  refine ⟨?_, fun g among sending => ?_⟩
  · rw [Lkc.placed_queue]
    exact h.queue.placed bid idle other
  · rw [Lkc.placed_queue] at among
    rw [Lkc.placed_line]
    rcases mem_placeInQueue h.queue.capacity among with rfl | among
    · rw [idle] at sending
      cases sending
    · exact h.sendingLine g among sending

theorem LineLaw.withdrawn (h : LineLaw l) (which : TxFrame → Bool) :
    LineLaw { l with queue := withdrawFrames which l.queue } := by
  refine ⟨h.queue.withdrawn which, fun g among sending => ?_⟩
  obtain ⟨f, its, same⟩ := mem_withdrawFrames among
  exact h.sendingLine f its (same ▸ sending)

/-! ### The heartbeat in the queue (R17) -/

theorem LineLaw.refill (h : LineLaw l) : LineLaw l.refillHeartbeat := by
  refine h.map _ rfl rfl (fun f => ?_) (fun f => ?_) (fun f => ?_) <;> (split <;> rfl)

theorem LineLaw.replaceHeartbeat (h : LineLaw l) (body : List Byte) : LineLaw (l.replaceHeartbeat body) := by
  refine LineLaw.refill (h.map _ rfl rfl (fun f => ?_) (fun f => ?_) (fun f => ?_)) <;> (split <;> rfl)

theorem LineLaw.replaceByPending (h : LineLaw l) : LineLaw l.replaceByPending := by
  unfold Lkc.replaceByPending
  split
  · exact h
  · exact (h.of_same rfl rfl : LineLaw { l with pendingHeartbeat := none }).replaceHeartbeat _

theorem noHeartbeat_of_none {q : List TxFrame} (h : queuedHeartbeat q = none) : NoHeartbeat q := fun f among kind => by
  have := List.find?_eq_none.1 h f among
  simp [kind] at this

theorem LineLaw.placeHeartbeat (h : LineLaw l) (none : NoHeartbeat l.queue) (body : List Byte) :
    LineLaw (l.placed (newFrame .heartbeat 0 toAll body .shu)).refillHeartbeat :=
  (h.placed (by decide : (0 : Nat) < 4096) rfl (.inr none)).refill

theorem LineLaw.offered (h : LineLaw l) (body : List Byte) : LineLaw (l.offered body) := by
  unfold Lkc.offered
  split
  · next none => exact h.placeHeartbeat (noHeartbeat_of_none none) body
  · split
    · exact h.of_same rfl rfl
    · exact h.replaceHeartbeat body

/-- R17: the LKC's record after the pending heartbeat has been placed as a new one. -/
def Lkc.pendingPlaced (l : Lkc) : Lkc :=
  match l.pendingHeartbeat with
  | none => l
  | some body => ({ l with pendingHeartbeat := none }.placed (newFrame .heartbeat 0 toAll body .shu)).refillHeartbeat

theorem placePending_st (w : Work) : (placePending w).st = w.st.modLkc Lkc.pendingPlaced := by
  unfold placePending
  split
  · next none => simp [State.modLkc, Lkc.pendingPlaced, none]
  · next body some => simp [placeHeartbeat, place_eq, Work.upd, State.modLkc, Lkc.pendingPlaced, some]

theorem LineLaw.pendingPlaced (h : LineLaw l) (none : NoHeartbeat l.queue) : LineLaw l.pendingPlaced := by
  unfold Lkc.pendingPlaced
  split
  · exact h
  · exact (h.of_same rfl rfl : LineLaw { l with pendingHeartbeat := Option.none }).placeHeartbeat none _

/-! ### The endings of a transmission (R6 to R8) -/

/-- The LKC's record after a frame has been dropped on transmit (R7). -/
def Lkc.dropCounted (l : Lkc) : Lkc :=
  { l.setFlag .txDropped with counters := { l.counters with dropped := l.counters.dropped + 1 } }

theorem dropFrame_st (f : TxFrame) (w : Work) : (dropFrame f w).st = w.st.modLkc Lkc.dropCounted := rfl

/-- The LKC's record after a transmit bit error (R7, R17). -/
def Lkc.bitErred (f : TxFrame) (read : List Bool) (l : Lkc) : Lkc :=
  let l := (l.setFlag .txBitError).followAsReceiver read
  if f.withdrawal then { l with queue := dropSending l.queue }
  else if f.attempts + 1 = 3 then
    let l := Lkc.dropCounted { l with queue := dropSending l.queue }
    if f.kind == .heartbeat then l.heartbeatDropped.pendingPlaced else l
  else
    let l := { l with
      queue := mapSending (fun g => { g with attempts := g.attempts + 1, inTransmission := false }) l.queue }
    if f.kind == .heartbeat then l.replaceByPending else l

theorem transmitError_st (f : TxFrame) (read : List Bool) (w : Work) :
    (transmitError f read w).st = w.st.modLkc (Lkc.bitErred f read) := by
  by_cases withdrawn : f.withdrawal = true
  · simp only [transmitError, State.modLkc, Lkc.bitErred, if_pos withdrawn]
    rfl
  · by_cases third : f.attempts + 1 = 3
    · by_cases heartbeat : (f.kind == .heartbeat) = true
      · simp only [transmitError, State.modLkc, Lkc.bitErred, if_neg withdrawn, if_pos third, if_pos heartbeat,
          placePending_st, Work.upd_st, dropFrame_st, State.setFlag]
      · simp only [transmitError, State.modLkc, Lkc.bitErred, if_neg withdrawn, if_pos third, if_neg heartbeat]
        rfl
    · by_cases heartbeat : (f.kind == .heartbeat) = true
      · simp only [transmitError, State.modLkc, Lkc.bitErred, if_neg withdrawn, if_neg third, if_pos heartbeat]
        rfl
      · simp only [transmitError, State.modLkc, Lkc.bitErred, if_neg withdrawn, if_neg third, if_neg heartbeat]
        rfl

/-- The LKC's record after a completed transmission (R8, R17, R19). -/
def Lkc.sentOff (f : TxFrame) (now : Nat) (l : Lkc) : Lkc :=
  let l : Lkc := { l with
    line := .idle, idleSince := now, idleBits := 0, driven := [], queue := dropSending l.queue,
    counters := { l.counters with sent := l.counters.sent + 1 } }
  if f.kind == .heartbeat then l.heartbeatDone.pendingPlaced else l

theorem completeTransmission_st (f : TxFrame) (w : Work) :
    (completeTransmission f w).st = w.st.modLkc (Lkc.sentOff f w.st.now) := by
  by_cases heartbeat : (f.kind == .heartbeat) = true
  · simp only [completeTransmission, State.modLkc, Lkc.sentOff, if_pos heartbeat, placePending_st]
    rfl
  · simp only [completeTransmission, State.modLkc, Lkc.sentOff, if_neg heartbeat]
    rfl

/-- The frame whose transmission ends: of the queue, in transmission, on a sending line. -/
theorem sentFrame_eq_some {s : State} (h : sentFrame s = some f) :
    s.lkc.line = .sending ∧ f ∈ s.lkc.queue ∧ f.inTransmission = true := by
  unfold sentFrame at h
  split at h
  · next sending => exact ⟨sending, List.mem_of_find?_eq_some h, List.find?_some h⟩
  · cases h

theorem LineLaw.bitErred (h : LineLaw l) (among : f ∈ l.queue) (sending : f.inTransmission = true)
    (read : List Bool) : LineLaw (l.bitErred f read) := by
  have dropped : ∀ m : Lkc, m.queue = dropSending l.queue → LineLaw m := fun m queue =>
    .of_unsent (queue ▸ h.queue.dropSending) (queue ▸ unsent_dropSending _)
  simp only [Lkc.bitErred]
  split
  · exact dropped _ rfl
  · split
    · split
      · next heartbeat =>
        exact (dropped _ rfl).pendingPlaced (noHeartbeat_dropSending h.queue among sending (eq_of_beq heartbeat))
      · exact dropped _ rfl
    · have kept : ∀ m : Lkc, m.queue = mapSending (fun g => { g with attempts := g.attempts + 1, inTransmission := false })
          l.queue → LineLaw m := fun m queue =>
        .of_unsent (queue ▸ h.queue.mapSending (fun _ => rfl) fun _ => rfl) (queue ▸ unsent_mapSending fun _ => rfl)
      split
      · exact (kept _ rfl).replaceByPending
      · exact kept _ rfl

theorem LineLaw.sentOff (h : LineLaw l) (among : f ∈ l.queue) (sending : f.inTransmission = true)
    (now : Nat) : LineLaw (l.sentOff f now) := by
  have dropped : ∀ m : Lkc, m.queue = dropSending l.queue → LineLaw m := fun m queue =>
    .of_unsent (queue ▸ h.queue.dropSending) (queue ▸ unsent_dropSending _)
  simp only [Lkc.sentOff]
  split
  · next heartbeat =>
    exact (dropped _ rfl).pendingPlaced (noHeartbeat_dropSending h.queue among sending (eq_of_beq heartbeat))
  · exact dropped _ rfl

theorem LineLaw.loseContention (h : LineLaw l) (f : TxFrame) (read : List Bool) : LineLaw (loseContention f read l) := by
  have kept : ∀ m : Lkc, m.queue = mapSending (fun g => { g with inTransmission := false }) l.queue → LineLaw m :=
    fun m queue =>
      .of_unsent (queue ▸ h.queue.mapSending (fun _ => rfl) fun _ => rfl) (queue ▸ unsent_mapSending fun _ => rfl)
  simp only [Machine.loseContention]
  split
  · exact .of_unsent h.queue.dropSending (unsent_dropSending _)
  · split
    · exact (kept _ rfl).replaceByPending
    · exact kept _ rfl

theorem LineLaw.beginSending (h : LineLaw l) (rests : l.line ≠ .sending) (own : Addr) : LineLaw (beginSending own l) :=
  ⟨h.queue.markHead (h.unsent rests), fun _ _ _ => rfl⟩

end

end Sys2Proof.Machine
end

section
/-! Every step keeps the laws of the link queues (R1, R3, R5, R13, R14, R16, R17, R21). -/

namespace Sys2Proof.Machine

section
variable {s t : State} {w : Work}

/-! ### The effects -/

theorem LinkLaw.line (h : LinkLaw s) : LineLaw s.lkc :=
  ⟨⟨h.capacity, h.ordered, h.bids, h.oneSending, h.oneHeartbeat⟩, h.sendingLine⟩

theorem LinkLaw.of_line (h : LineLaw s.lkc) (start : s.cfl.phase = .start → s.lkc.line = .waiting)
    (reads : s.cfl.configRead.isSome = true → s.cfl.phase = .start) : LinkLaw s :=
  ⟨h.queue.capacity, h.queue.ordered, h.queue.bids, h.queue.oneSending, h.sendingLine, h.queue.oneHeartbeat, start,
    reads⟩

/-- A change of the LKC's record that leaves the line. -/
theorem LinkLaw.of_kept (h : LinkLaw s) (cfl : t.cfl = s.cfl) (line : t.lkc.line = s.lkc.line)
    (law : LineLaw t.lkc) : LinkLaw t :=
  .of_line law (by rw [cfl, line]; exact h.startLine) (by rw [cfl]; exact h.readInStart)

theorem LinkLaw.of_same (h : LinkLaw s) (cfl : t.cfl = s.cfl) (lkc : t.lkc = s.lkc) : LinkLaw t :=
  h.of_kept cfl (by rw [lkc]) (lkc ▸ h.line)

theorem LinkLaw.unread (h : LinkLaw s) (later : s.cfl.phase ≠ .start) : s.cfl.configRead = none := by
  cases its : s.cfl.configRead with
  | none => rfl
  | some r => exact absurd (h.readInStart (by rw [its]; rfl)) later

/-- Once frames are received, the law is that of the LKC's record. -/
theorem LinkLaw.of_hearing (law : LineLaw t.lkc) (phase : t.cfl.phase ≠ .start) (unread : t.cfl.configRead = none) :
    LinkLaw t := .of_line law (fun start => absurd start phase) (by rw [unread]; nofun)

/-- R16 to R18: every effect of an operation but those of the LKC itself keeps the law of the link. -/
theorem Change.linkLaw {e : Effect} (h : Change e s t) (link : e ≠ .link) (law : LinkLaw s) : LinkLaw t := by
  cases h
  case link l => exact absurd rfl link
  case frame f bid idle other =>
    exact law.of_kept rfl (Lkc.placed_line f s.lkc) (law.line.placed bid idle (.inl other))
  case withdraw which => exact law.of_kept rfl rfl (law.line.withdrawn which)
  case flags x y z k => exact law.of_kept rfl rfl (law.line.of_same rfl rfl)
  case recompute =>
    rw [recomputed_eq]
    exact law.of_same rfl rfl
  case reads b rs =>
    unfold requestReads
    split <;> exact law.of_same rfl rfl
  case hand x k may => cases k <;> exact law.of_same rfl rfl
  all_goals exact law.of_same rfl rfl

theorem inner_ne_link {e : Effect} (inner : e.inner = true) : e ≠ .link := by
  rintro rfl
  cases inner

theorem finish_linkLaw (w : Work) (h : LinkLaw w.st) : LinkLaw w.finish :=
  finish_keeps (fun _ _ _ inner changed law => changed.linkLaw (inner_ne_link inner) law) h

/-- R13, R14: the received frames and the storm windows. -/
theorem ReceiveLaw.of_same (h : ReceiveLaw s) (received : t.lkc.received = s.lkc.received)
    (storm : t.lkc.storm = s.lkc.storm) : ReceiveLaw t :=
  ⟨received ▸ h.capacity, by rw [storm]; exact h.windows⟩

theorem Change.receiveLaw {e : Effect} (h : Change e s t) (link : e ≠ .link) (law : ReceiveLaw s) : ReceiveLaw t := by
  by_cases tables : e = .tables
  · subst tables
    cases h
    exact law.of_same rfl rfl
  · exact law.of_same (h.untouched link tables).received (h.untouched link tables).storm

theorem finish_receiveLaw (w : Work) (h : ReceiveLaw w.st) : ReceiveLaw w.finish :=
  h.of_same (finish_untouched w).received (finish_untouched w).storm

/-! ### Receiving (R10 to R14) -/

theorem discardReceived_receives (f : LinkFlag) (s : State) : ReceiveLaw (discardReceived f s) ↔ ReceiveLaw s :=
  ⟨fun h => h.of_same rfl rfl, fun h => h.of_same rfl rfl⟩

/-- R14: a window that opens or counts on holds a count of 1 to 4. -/
theorem ReceiveLaw.counted (h : ReceiveLaw s) (room : s.lkc.received.length < rxCapacity) (f : RxFrame) (r : Reader)
    {win : StormWindow} (few : 1 ≤ win.count ∧ win.count ≤ 4) :
    ReceiveLaw (queueReceived f (s.modLkc fun l => { l with storm := l.storm.set r (some win) })) := by
  refine ⟨?_, fun q v its => ?_⟩
  · simpa [queueReceived] using room
  · simp only [queueReceived, State.modLkc_lkc, Fin.getElem_fin, Vector.getElem_set] at its
    split at its
    · cases its
      exact few
    · exact h.windows q v its

theorem stormLimit_receiveLaw (h : ReceiveLaw s) (room : s.lkc.received.length < rxCapacity) (f : RxFrame) :
    ReceiveLaw (stormLimit f s) := by
  simp only [stormLimit]
  split
  · exact h.counted room f _ (by simp)
  · next win its =>
    split
    · exact h.counted room f _ (by simp)
    · split
      · next few => exact h.counted room f _ (by simpa using few)
      · exact h.of_same rfl rfl

theorem acceptFrame_receiveLaw (h : ReceiveLaw s) (f : RxFrame) : ReceiveLaw (acceptFrame f s) := by
  have counted : ReceiveLaw (s.countLink fun c => { c with good := c.good + 1 }) := h.of_same rfl rfl
  simp only [acceptFrame]
  split
  · exact counted
  · split
    · exact counted.of_same rfl rfl
    · next room =>
      split
      · exact stormLimit_receiveLaw counted (not_le.1 room) f
      · refine ⟨?_, counted.windows⟩
        simpa [queueReceived] using room

/-- R13, R14: accepting a frame leaves the queue and the line. -/
theorem acceptFrame_line (f : RxFrame) (s : State) :
    (acceptFrame f s).lkc.queue = s.lkc.queue ∧ (acceptFrame f s).lkc.line = s.lkc.line ∧
      (acceptFrame f s).cfl = s.cfl := by
  simp only [acceptFrame, stormLimit]
  repeat' split
  all_goals exact ⟨rfl, rfl, rfl⟩

/-- A law that receiving keeps: discarding, accepting, and the report of a clash. -/
theorem takeFrame_keeps {P : State → Prop} (discards : ∀ f s, P s → P (discardReceived f s))
    (accepts : ∀ f s, P s → P (acceptFrame f s))
    (each : ∀ e : Effect, e = .monitor ∨ e ∈ placing .event → ∀ s t, Change e s t → P s → P t)
    (h : Header) (body : List Byte) (good : Bool) (holds : P w.st) : P (takeFrame h body good w).st := by
  have clashes : P (reportClash (w.upd (discardReceived .clash))).st := by
    have held : P ((w.upd (discardReceived .clash)).upd fun s =>
        s.modPmn fun m => { m with clashHold := some (s.now + clashTime) }).st :=
      each .monitor (.inl rfl) _ _ (.monitor _ rfl) (discards .clash _ holds)
    simp only [reportClash]
    split
    · exact held
    · exact (placeEvent_acts 13 noBay 0 0 .pmn (by decide) (can := placing .event) subset_rfl).keeps
        (fun e may => each e (.inr may)) held
  unfold takeFrame
  split
  · exact discards _ _ holds
  · split
    · exact discards _ _ holds
    · split
      · exact discards _ _ holds
      · split
        · exact clashes
        · split <;> [exact accepts _ _ holds; exact holds]

/-! ### What the endings of a transmission leave of the received frames -/

/-- Two records of an LKC with the same received frames and storm windows. -/
def SameReceived (l m : Lkc) : Prop := m.received = l.received ∧ m.storm = l.storm

theorem sameReceived_placed (f : TxFrame) (l : Lkc) : SameReceived l (l.placed f) := by
  rw [Lkc.placed_eq]
  exact ⟨rfl, rfl⟩

theorem sameReceived_pendingPlaced (l : Lkc) : SameReceived l l.pendingPlaced := by
  unfold Lkc.pendingPlaced
  split
  · exact ⟨rfl, rfl⟩
  · exact sameReceived_placed _ { l with pendingHeartbeat := none }

theorem sameReceived_replaceByPending (l : Lkc) : SameReceived l l.replaceByPending := by
  unfold Lkc.replaceByPending
  split <;> exact ⟨rfl, rfl⟩

theorem sameReceived_bitErred (f : TxFrame) (read : List Bool) (l : Lkc) : SameReceived l (l.bitErred f read) := by
  simp only [Lkc.bitErred]
  split
  · exact ⟨rfl, rfl⟩
  · split
    · split
      · exact sameReceived_pendingPlaced
          (Lkc.dropCounted { (l.setFlag .txBitError).followAsReceiver read with
            queue := dropSending l.queue }).heartbeatDropped
      · exact ⟨rfl, rfl⟩
    · split
      · exact sameReceived_replaceByPending
          { (l.setFlag .txBitError).followAsReceiver read with
            queue := mapSending (fun g => { g with attempts := g.attempts + 1, inTransmission := false }) l.queue }
      · exact ⟨rfl, rfl⟩

theorem sameReceived_sentOff (f : TxFrame) (now : Nat) (l : Lkc) : SameReceived l (l.sentOff f now) := by
  simp only [Lkc.sentOff]
  split
  · exact sameReceived_pendingPlaced _
  · exact ⟨rfl, rfl⟩

theorem sameReceived_loseContention (f : TxFrame) (read : List Bool) (l : Lkc) :
    SameReceived l (loseContention f read l) := by
  simp only [loseContention]
  split
  · exact ⟨rfl, rfl⟩
  · split
    · exact sameReceived_replaceByPending
        { l.followAsReceiver read with queue := mapSending (fun g => { g with inTransmission := false }) l.queue }
    · exact ⟨rfl, rfl⟩

theorem ReceiveLaw.of_sameReceived {f : Lkc → Lkc} (h : ReceiveLaw s) (same : SameReceived s.lkc (f s.lkc)) :
    ReceiveLaw (s.modLkc f) := h.of_same same.1 same.2

/-! ### The commands of the cart link -/

theorem noteCorrected_keeps (c : Bool) (s : State) :
    (noteCorrected c s).cfl = s.cfl ∧ (noteCorrected c s).lkc.queue = s.lkc.queue ∧
      (noteCorrected c s).lkc.line = s.lkc.line ∧ SameReceived s.lkc (noteCorrected c s).lkc := by
  unfold noteCorrected
  split <;> exact ⟨rfl, rfl, rfl, rfl, rfl⟩

theorem completionEffects_ne_link {e : Effect} (may : e ∈ completionEffects) : e ≠ .link := by
  rintro rfl
  rcases may with may | may | may
  · exact may
  · cases may
  · cases may

theorem handOver_receiveLaw (h : ReceiveLaw s) : ReceiveLaw (handOver s) := by
  unfold handOver
  split
  · exact h
  · next f rest waiting =>
    have shorter : ReceiveLaw (s.modLkc fun l => { l with received := rest }) := by
      refine ⟨?_, h.windows⟩
      have bound := h.capacity
      rw [waiting, List.length_cons] at bound
      exact (Nat.le_succ _).trans bound
    split
    · exact shorter
    · split
      · exact h
      · dsimp only
        split
        · exact shorter.of_same (by simp) (by simp)
        · exact shorter.of_same rfl rfl

theorem handOver_line (s : State) :
    (handOver s).cfl = s.cfl ∧ (handOver s).lkc.queue = s.lkc.queue ∧ (handOver s).lkc.line = s.lkc.line := by
  unfold handOver
  split
  · exact ⟨rfl, rfl, rfl⟩
  · split
    · exact ⟨rfl, rfl, rfl⟩
    · split
      · exact ⟨rfl, rfl, rfl⟩
      · dsimp only
        split
        · simp
        · exact ⟨rfl, rfl, rfl⟩

theorem link_receiveLaw {i : Instr} (link : groupOf i = .link) (ran : exec i s = .next t) (h : ReceiveLaw s) :
    ReceiveLaw t := by
  cases i
  case lineIdleDetected bits =>
    simp only [exec, execLineIdleDetected] at ran
    split at ran
    · split at ran <;> (cases ran; exact h.of_same rfl rfl)
    · cases ran; exact h
  case startBitReceived =>
    simp only [exec, execStartBitReceived] at ran
    split at ran <;> cases ran
    · exact h.of_same rfl rfl
    · exact h
  case transmissionStart k =>
    have passed : ReceiveLaw (passIdle k s) := by
      unfold passIdle
      split <;> exact h.of_same rfl rfl
    simp only [exec, execTransmissionStart] at ran
    split at ran <;> cases ran
    · exact passed.of_same rfl rfl
    · exact passed
  case contentionLost read =>
    simp only [exec, execContentionLost] at ran
    split at ran <;> cases ran
    · exact h.of_sameReceived (sameReceived_loseContention _ _ _)
    · exact h
  case transmitBitError read =>
    simp only [exec, execTransmitBitError] at ran
    split at ran <;> cases ran
    · refine finish_receiveLaw _ ?_
      rw [transmitError_st]
      exact h.of_sameReceived (sameReceived_bitErred _ _ _)
    · exact h
  case transmissionComplete =>
    simp only [exec, execTransmissionComplete] at ran
    split at ran <;> cases ran
    · exact h
    · next f _ =>
      refine finish_receiveLaw _ ((completionNotice_acts f).keeps
        (fun e may _ _ changed law => changed.receiveLaw (completionEffects_ne_link may) law) ?_)
      rw [completeTransmission_st]
      exact h.of_sameReceived (sameReceived_sentOff _ _ _)
  case receptionAborted bits =>
    simp only [exec, execReceptionAborted] at ran
    split at ran
    · split at ran <;> cases ran
      · exact h.of_same rfl rfl
      · next c _ =>
        obtain ⟨-, -, -, received, storm⟩ := noteCorrected_keeps c s
        exact h.of_same received storm
      · next c _ =>
        obtain ⟨-, -, -, received, storm⟩ := noteCorrected_keeps c s
        exact h.of_same received storm
      all_goals exact h
    · cases ran; exact h
  case frameReceived bits =>
    simp only [exec, execFrameReceived] at ran
    split at ran
    · split at ran <;> cases ran
      · next c hd body good _ =>
        obtain ⟨-, -, -, received, storm⟩ := noteCorrected_keeps c s
        refine finish_receiveLaw _ (takeFrame_keeps (fun f s law => law.of_same rfl rfl)
          (fun f s law => acceptFrame_receiveLaw law f) (fun e may s t changed law => changed.receiveLaw ?_ law)
          hd body good (h.of_same received storm))
        rcases may with rfl | may
        · nofun
        · exact ne_link_of_placing may
      all_goals exact h
    · cases ran; exact h
  case frameHandover =>
    cases ran
    exact handOver_receiveLaw h
  case heartbeatTimerExpired =>
    simp only [exec, execHeartbeatTimerExpired] at ran
    split at ran <;> cases ran
    · exact h
    · refine finish_receiveLaw _ ?_
      rw [offerHeartbeat_st]
      exact (h.of_same rfl rfl : ReceiveLaw ((s.advanceTo _).modShu _)).of_sameReceived (Lkc.offered_keeps _ _).2
  all_goals cases link

/-- R21: where the LKC sends or receives, the phase is not START. -/
theorem LinkLaw.hears (h : LinkLaw s) (busy : s.lkc.line ≠ .waiting) : s.cfl.phase ≠ .start :=
  fun start => busy (h.startLine start)

/-- A line that becomes another, where no frame is in transmission. -/
theorem LinkLaw.of_resting (h : LinkLaw s) (hears : s.cfl.phase ≠ .start) (rests : s.lkc.line ≠ .sending)
    (cfl : t.cfl = s.cfl) (queue : t.lkc.queue = s.lkc.queue) : LinkLaw t :=
  .of_hearing (h.line.of_resting rests queue) (cfl ▸ hears) (cfl ▸ h.unread hears)

theorem hearing_iff : s.hearing = true ↔ s.cfl.phase ≠ .start := by simp [State.hearing]

theorem link_linkLaw {i : Instr} (link : groupOf i = .link) (ran : exec i s = .next t) (h : LinkLaw s) :
    LinkLaw t := by
  cases i
  case lineIdleDetected bits =>
    simp only [exec, execLineIdleDetected] at ran
    split at ran
    · next ready =>
      obtain ⟨hears, waits⟩ := Bool.and_eq_true_iff.1 ready
      have rests : s.lkc.line ≠ .sending := by rw [eq_of_beq waits]; decide
      split at ran <;> (cases ran; exact h.of_resting (hearing_iff.1 hears) rests rfl rfl)
    · cases ran; exact h
  case startBitReceived =>
    simp only [exec, execStartBitReceived] at ran
    split at ran <;> cases ran
    · next ready =>
      obtain ⟨hears, idle⟩ := Bool.and_eq_true_iff.1 ready
      have rests : s.lkc.line ≠ .sending := by rw [eq_of_beq idle]; decide
      exact h.of_resting (hearing_iff.1 hears) rests rfl rfl
    · exact h
  case transmissionStart k =>
    have passed : LinkLaw (passIdle k s) := by
      unfold passIdle
      split <;> [exact h.of_kept rfl rfl (h.line.of_same rfl rfl); exact h]
    simp only [exec, execTransmissionStart] at ran
    split at ran <;> cases ran
    · next ready =>
      simp only [Bool.and_eq_true, beq_iff_eq] at ready
      have idle : (passIdle k s).lkc.line = .idle := by
        by_contra other
        simp [State.idleCount, other] at ready
      have hears := passed.hears (by rw [idle]; decide)
      exact .of_hearing (passed.line.beginSending (by rw [idle]; decide) _) hears (passed.unread hears)
    · exact passed
  case contentionLost read =>
    simp only [exec, execContentionLost] at ran
    split at ran <;> cases ran
    · next f _ its _ =>
      obtain ⟨sending, among, marked⟩ := sentFrame_eq_some its
      have hears := h.hears (by rw [sending]; decide)
      exact .of_hearing (h.line.loseContention _ read) hears (h.unread hears)
    · exact h
  case transmitBitError read =>
    simp only [exec, execTransmitBitError] at ran
    split at ran <;> cases ran
    · next f _ its _ =>
      obtain ⟨sending, among, marked⟩ := sentFrame_eq_some its
      have hears := h.hears (by rw [sending]; decide)
      refine finish_linkLaw _ ?_
      rw [transmitError_st]
      exact .of_hearing (h.line.bitErred among marked read) hears (h.unread hears)
    · exact h
  case transmissionComplete =>
    simp only [exec, execTransmissionComplete] at ran
    split at ran <;> cases ran
    · exact h
    · next f its =>
      obtain ⟨sending, among, marked⟩ := sentFrame_eq_some its
      have hears := h.hears (by rw [sending]; decide)
      refine finish_linkLaw _ ((completionNotice_acts f).keeps
        (fun e may _ _ changed law => changed.linkLaw (completionEffects_ne_link may) law) ?_)
      rw [completeTransmission_st]
      exact .of_hearing (h.line.sentOff among marked _) hears (h.unread hears)
  case receptionAborted bits =>
    simp only [exec, execReceptionAborted] at ran
    split at ran
    · next receives =>
      have rests : s.lkc.line ≠ .sending := by rw [receives]; decide
      have hears := h.hears (by rw [receives]; decide)
      have waits : ∀ f c, LinkLaw (waitForIdle (discardReceived f (noteCorrected c s))) := fun f c => by
        obtain ⟨cfl, queue, -, -, -⟩ := noteCorrected_keeps c s
        exact h.of_resting hears rests cfl queue
      split at ran <;> cases ran
      · exact waits .hdrBad false
      · exact waits .lengthBad _
      · exact waits .bodyBad _
      all_goals exact h
    · cases ran; exact h
  case frameReceived bits =>
    simp only [exec, execFrameReceived] at ran
    split at ran
    · next receives =>
      have rests : s.lkc.line ≠ .sending := by rw [receives]; decide
      have hears := h.hears (by rw [receives]; decide)
      split at ran <;> cases ran
      · next c hd body good _ =>
        obtain ⟨cfl, queue, -, -, -⟩ := noteCorrected_keeps c s
        refine finish_linkLaw _ (takeFrame_keeps (fun f s law => law.of_kept rfl rfl (law.line.of_same rfl rfl))
          (fun f s law => ?_) (fun e may s t changed law => changed.linkLaw ?_ law)
          hd body good (h.of_resting hears rests cfl queue))
        · obtain ⟨queue, line, cfl⟩ := acceptFrame_line f s
          exact law.of_kept cfl line (law.line.of_same queue line)
        · rcases may with rfl | may
          · nofun
          · exact ne_link_of_placing may
      all_goals exact h
    · cases ran; exact h
  case frameHandover =>
    cases ran
    obtain ⟨cfl, queue, line⟩ := handOver_line s
    exact h.of_kept cfl line (h.line.of_same queue line)
  case heartbeatTimerExpired =>
    simp only [exec, execHeartbeatTimerExpired] at ran
    split at ran <;> cases ran
    · exact h
    · refine finish_linkLaw _ ?_
      rw [offerHeartbeat_st]
      exact h.of_kept rfl (Lkc.offered_keeps _ _).1 (h.line.offered _)
  all_goals cases link

/-! ### Start-up -/

/-- A law that the entry to ACTIVE keeps, by its effects and the heartbeat offered. -/
theorem enterActive_keeps_offered {P : State → Prop} (phase : P s → P (begun s))
    (each : ∀ e ∈ enteringEffects, ∀ s t : State, Change e s t → P s → P t)
    (offered : ∀ body s, P s → P (s.modLkc (Lkc.offered body))) (holds : P s) : P (enterActive (startWork s)).st := by
  have timed : P (timersRunning s).st := (firstShare_acts.trans timersRunning_acts).keeps each (phase holds)
  refine identifyPresent_acts.keeps each ?_
  rw [firstHeartbeat, offerHeartbeat_st]
  exact offered _ _ timed

theorem enteringEffects_ne_link {e : Effect} (may : e ∈ enteringEffects) : e ≠ .link := by
  rcases may with ⟨n, rfl⟩ | rfl | rfl | rfl | ⟨b, may⟩
  iterate 4 nofun
  exact inner_ne_link (inner_of_charging may)

theorem unsent_nil : LineLaw ({} : Lkc) := .of_unsent ⟨Nat.zero_le _, .nil, nofun, Nat.zero_le _, Nat.zero_le _⟩ nofun

theorem restart_linkLaw {i : Instr} (alone : groupOf i = .alone) (ran : exec i s = .next t)
    (h : LinkLaw s) : LinkLaw t := by
  refine alone_keeps alone (fun _ _ law => law.of_same rfl rfl) (fun _ _ _ => .of_line unsent_nil (fun _ => rfl) nofun)
    (fun _ _ law => .of_line law.line law.startLine law.readInStart)
    (fun _ _ => .of_line (unsent_nil.of_same rfl rfl) (fun _ => rfl) nofun)
    (fun pins s start law => .of_line law.line law.startLine (fun _ => start))
    (fun record s reads law => ?_)
    (fun e may _ _ changed law => changed.linkLaw ?_ law)
    (fun s listening law => enterActive_keeps_offered
      (fun law => .of_hearing law.line nofun (law.unread (by rw [listening]; decide)))
      (fun e may _ _ changed law => changed.linkLaw (enteringEffects_ne_link may) law)
      (fun body s law => law.of_kept rfl (Lkc.offered_keeps _ _).1 (law.line.offered body)) law)
    finish_linkLaw ran h
  · have start := law.readInStart reads
    have rests : s.lkc.line ≠ .sending := by rw [law.startLine start]; decide
    unfold endConfigRead
    dsimp only
    split
    · exact .of_line law.line law.startLine nofun
    · exact .of_hearing (law.line.of_resting rests rfl) (fun same => by cases same) rfl
  · rcases may with rfl | may <;> [nofun; exact ne_link_of_placing may]

theorem restart_receiveLaw {i : Instr} (alone : groupOf i = .alone) (ran : exec i s = .next t)
    (h : ReceiveLaw s) : ReceiveLaw t := by
  have fresh (k : LinkCounters) : ∀ (r : Reader) win, ({ counters := k } : Lkc).storm[r] = some win → False := by
    simp
  refine alone_keeps alone (fun _ _ law => law.of_same rfl rfl)
    (fun _ _ _ => ⟨Nat.zero_le _, fun r win its => (fresh {} r win its).elim⟩)
    (fun _ _ law => law.of_same rfl rfl)
    (fun s _ => ⟨Nat.zero_le _, fun r win its => (fresh s.lkc.counters r win its).elim⟩)
    (fun _ _ _ law => law.of_same rfl rfl) (fun record s reads law => ?_)
    (fun e may _ _ changed law => changed.receiveLaw ?_ law)
    (fun s listening law => enterActive_keeps_offered (fun law => law.of_same rfl rfl)
      (fun e may _ _ changed law => changed.receiveLaw (enteringEffects_ne_link may) law)
      (fun body s law => law.of_sameReceived (Lkc.offered_keeps _ _).2) law)
    finish_receiveLaw ran h
  · unfold endConfigRead
    dsimp only
    split <;> exact law.of_same rfl rfl
  · rcases may with rfl | may <;> [nofun; exact ne_link_of_placing may]

/-! ### Every step -/

theorem step_linkLaw (ran : step s = .next t) (h : LinkLaw s) : LinkLaw t := by
  refine step_keeps ran (fun g => g == .link) (fun _ _ _ law => law.of_same rfl rfl)
    (fun g other e may _ _ changed law => ?_) finish_linkLaw ?_ h
  · exact changed.linkLaw (fun its => CommandGroup.no_link (by simpa using other) (its ▸ may)) law
  · rintro i (alone | link) s t ran law
    · exact restart_linkLaw alone ran law
    · exact link_linkLaw (eq_of_beq link) ran law

theorem step_receiveLaw (ran : step s = .next t) (h : ReceiveLaw s) : ReceiveLaw t := by
  refine step_keeps ran (fun g => g == .link) (fun _ _ _ law => law.of_same rfl rfl)
    (fun g other e may _ _ changed law => ?_) finish_receiveLaw ?_ h
  · exact changed.receiveLaw (fun its => CommandGroup.no_link (by simpa using other) (its ▸ may)) law
  · rintro i (alone | link) s t ran law
    · exact restart_receiveLaw alone ran law
    · exact link_receiveLaw (eq_of_beq link) ran law

end

/-- Settles O52: the commands of the cart link by themselves, every other by its effects. -/
theorem stepsKeepTheLinkLaws : Obligations.StepsKeepTheLinkLaws :=
  fun _ _ ran => ⟨step_linkLaw ran, step_receiveLaw ran⟩

end Sys2Proof.Machine
end

section
/-! The charge section of one bay: its law after each operation of the BCC (R57 to R66, R68). -/

namespace Sys2Proof.Machine

/-! ### Voltages, wishes and classes (R63 to R65) -/

/-- R63: the five port voltages. -/
def portVoltages : List Nat := [5, 9, 12, 15, 20]

theorem portVoltage_le {v : Nat} (h : v ∈ portVoltages) : v ≤ 20 := by
  revert v
  decide

theorem voltageOfCode_mem (code : Byte) : voltageOfCode code ∈ portVoltages := by
  unfold voltageOfCode
  repeat' split
  all_goals decide

theorem requestedVoltage_mem (v : TabletView) : requestedVoltage v ∈ portVoltages := by
  unfold requestedVoltage
  cases v.request with
  | none => decide
  | some r => exact voltageOfCode_mem r.code

theorem raiseWish_floor (voltage wish : Nat) : raiseWish voltage wish = 0 ∨ voltage ≤ raiseWish voltage wish := by
  unfold raiseWish
  split <;> [exact .inl rfl; exact .inr (le_max_left _ _)]

theorem requestedWish_floor (c : WorkingConfig) (x : Bay) :
    requestedWish c x = 0 ∨ x.charge.voltage ≤ requestedWish c x := by
  unfold requestedWish
  split
  · exact .inl rfl
  · split <;> [exact .inl rfl; exact raiseWish_floor _ _]

/-- R170: P_min and P_unmanaged are no less than any port voltage. -/
def Minimum (c : WorkingConfig) : Prop := 20 ≤ c.bayMin ∧ 20 ≤ c.unmanaged

section
variable {s : State} {b : BayIx}

theorem wishOf_resting (h : takesPart (s.bay b).charge.state = false) : s.wishOf b = 0 := by
  unfold State.wishOf
  dsimp only
  split <;> simp_all [takesPart]

/-- R64: a nonzero wish is at least V dW. -/
theorem wishOf_floor (minimum : Minimum s.cfl.config) (voltage : (s.bay b).charge.voltage ∈ portVoltages) :
    s.wishOf b = 0 ∨ (s.bay b).charge.voltage ≤ s.wishOf b := by
  have managedWish : (if s.laneWorking b then
        raiseWish (s.bay b).charge.voltage (requestedWish s.cfl.config (s.bay b) + s.cfl.config.laneExtra)
      else requestedWish s.cfl.config (s.bay b)) = 0 ∨
      (s.bay b).charge.voltage ≤ if s.laneWorking b then
        raiseWish (s.bay b).charge.voltage (requestedWish s.cfl.config (s.bay b) + s.cfl.config.laneExtra)
      else requestedWish s.cfl.config (s.bay b) := by
    split <;> [exact raiseWish_floor _ _; exact requestedWish_floor _ _]
  unfold State.wishOf
  dsimp only
  cases (s.bay b).charge.state
  case unmanaged => exact .inr ((portVoltage_le voltage).trans minimum.2)
  case charging | held | maintain => exact managedWish
  all_goals exact .inl rfl

theorem classOf_le : s.classOf b ≤ 3 := by
  unfold State.classOf
  dsimp only
  repeat' split
  all_goals omega

end

/-! ### The law of a bay but for its wish and class -/

/-- What the law of a bay's charge section says beside its wish and class. -/
structure ChargeRest (x : Bay) : Prop where
  voltage : x.charge.voltage ∈ portVoltages
  vacant : x.charge.state = .vacant → x.charge.voltage = 5
  resting : takesPart x.charge.state = false → x.charge.grant = 0
  limit : x.charge.limit = portLimit x.charge.grant x.charge.voltage
  grantFloor : x.charge.grant = 0 ∨ x.charge.voltage ≤ x.charge.grant
  stocked : x.present = true ∨ x.charge.state = .vacant ∨ x.charge.state = .outOfService

section
variable {x y : Bay}

theorem BayChargeLaw.rest (h : BayChargeLaw x) : ChargeRest x :=
  ⟨h.voltage, h.vacant, fun rests => (h.resting rests).1, h.limit, h.grantFloor, h.stocked⟩

/-- The law of a bay speaks of seven fields. -/
theorem BayChargeLaw.of_same (h : BayChargeLaw x) (state : y.charge.state = x.charge.state)
    (voltage : y.charge.voltage = x.charge.voltage) (grant : y.charge.grant = x.charge.grant)
    (limit : y.charge.limit = x.charge.limit) (wish : y.charge.wish = x.charge.wish) (cls : y.charge.cls = x.charge.cls)
    (present : y.present = x.present) : BayChargeLaw y := by
  refine ⟨?_, ?_, ?_, ?_, ?_, ?_, ?_, ?_⟩ <;> simp only [state, voltage, grant, limit, wish, cls, present]
  · exact h.voltage
  · exact h.vacant
  · exact h.resting
  · exact h.limit
  · exact h.grantFloor
  · exact h.wishFloor
  · exact h.cls
  · exact h.stocked

theorem BayChargeLaw.of_charge (h : BayChargeLaw x) (charge : y.charge = x.charge) (present : y.present = x.present) :
    BayChargeLaw y := by
  refine h.of_same ?_ ?_ ?_ ?_ ?_ ?_ present <;> rw [charge]

theorem ChargeRest.of_charge (h : ChargeRest x) (charge : y.charge = x.charge) (present : y.present = x.present) :
    ChargeRest y := by
  refine ⟨?_, ?_, ?_, ?_, ?_, ?_⟩ <;> simp only [charge, present]
  · exact h.voltage
  · exact h.vacant
  · exact h.resting
  · exact h.limit
  · exact h.grantFloor
  · exact h.stocked

/-- A bay with no grant. -/
theorem ChargeRest.of_zero (voltage : x.charge.voltage ∈ portVoltages)
    (vacant : x.charge.state = .vacant → x.charge.voltage = 5) (grant : x.charge.grant = 0) (limit : x.charge.limit = 0)
    (stocked : x.present = true ∨ x.charge.state = .vacant ∨ x.charge.state = .outOfService) : ChargeRest x :=
  ⟨voltage, vacant, fun _ => grant, by rw [grant, limit, portLimit_zero], .inl grant, stocked⟩

/-- A bay with no wish either. -/
theorem ChargeRest.whole (h : ChargeRest x) (wish : x.charge.wish = 0) (cls : x.charge.cls ≤ 3) : BayChargeLaw x :=
  ⟨h.voltage, h.vacant, fun rests => ⟨h.resting rests, wish⟩, h.limit, h.grantFloor, .inl wish, cls, h.stocked⟩

theorem BayChargeLaw.present_of_state (h : BayChargeLaw x) (vacant : x.charge.state ≠ .vacant)
    (service : x.charge.state ≠ .outOfService) : x.present = true :=
  h.stocked.resolve_right fun other => other.elim vacant service

end

/-! ### What the operations leave of a bay -/

section
variable {w : Work} {b : BayIx}

/-- R64, R65: the law of a bay holds once its wish and class are computed afresh. -/
theorem refreshWish_bayLaw (minimum : Minimum w.st.cfl.config) (h : ChargeRest (w.st.bay b)) :
    BayChargeLaw ((refreshWish b w).st.bay b) := by
  have charge : ((refreshWish b w).st.bay b).charge =
      { (w.st.bay b).charge with wish := w.st.wishOf b, cls := w.st.classOf b } := by
    rw [refreshWish_charge, if_pos rfl]
  have present : ((refreshWish b w).st.bay b).present = (w.st.bay b).present :=
    steady_present (refreshWish_steady b w) b
  refine ⟨?_, ?_, ?_, ?_, ?_, ?_, ?_, ?_⟩ <;> simp only [charge, present]
  · exact h.voltage
  · exact h.vacant
  · exact fun rests => ⟨h.resting rests, wishOf_resting rests⟩
  · exact h.limit
  · exact h.grantFloor
  · exact wishOf_floor minimum h.voltage
  · exact classOf_le
  · exact h.stocked

/-- A grant of 0, with its port limit. -/
theorem withGrant_zero (c : Charge) : withGrant 0 c = { c with grant := 0, limit := 0, shortHold := none } := by
  unfold withGrant
  dsimp only
  rw [portLimit_zero, if_pos rfl]

/-- The shape of most entries into a charge state (R57 to R62): the move, the grant 0, one more change of the charge
section, and wish and class computed afresh. -/
def entered (b : BayIx) (st : ChargeState) (f : State → Charge → Charge) (w : Work) : Work :=
  refreshWish b ((setGrant b 0 (moveCharge b st w)).upd fun s => s.modCharge b (f s))

/-- R58: the timer and the stage of an identification. -/
def identifyingCharge (identRead : Bool) (s : State) (c : Charge) : Charge :=
  { c with
    identTimer := some (s.now + identificationTime), unmanagedTimer := none,
    stage := if identRead then .awaitBattery else .awaitIdent }

/-- R57: the charge section of a bay that becomes VACANT. -/
def vacantCharge (_ : State) (c : Charge) : Charge :=
  { c with voltage := 5, identTimer := none, unmanagedTimer := none, shortHold := none,
           overdraw := 0, limitOwed := false, stage := .awaitIdent }

/-- R61: the charge section of a bay that becomes UNMANAGED. -/
def unmanagedCharge (b : BayIx) (s : State) (c : Charge) : Charge :=
  { c with
    voltage := 5, identTimer := none,
    unmanagedTimer := if (s.bay b).channel.state == .active then some (s.now + unmanagedPeriod) else none }

/-- R62: the charge section of a bay that goes out of service. -/
def retiredCharge (_ : State) (c : Charge) : Charge :=
  { c with identTimer := none, unmanagedTimer := none, shortHold := none, overdraw := 0 }

theorem enterIdentifying_eq (identRead : Bool) :
    enterIdentifying b identRead w =
      if identRead then (entered b .identifying (identifyingCharge identRead) w).upd (requestReads b followingReads)
      else requestIdentification b (entered b .identifying (identifyingCharge identRead) w) := rfl

theorem enterVacant_eq : enterVacant b w = (entered b .vacant vacantCharge w).raise .split := rfl

theorem enterUnmanaged_eq : enterUnmanaged b w = (entered b .unmanaged (unmanagedCharge b) w).raise .split := rfl

theorem enterOutOfService_eq : enterOutOfService b w = (entered b .outOfService retiredCharge w).raise .split := rfl

/-- The charge section before wish and class are computed afresh. -/
theorem entering_charge (st : ChargeState) (f : State → Charge → Charge) :
    ((((setGrant b 0 (moveCharge b st w)).upd fun s => s.modCharge b (f s))).st.bay b).charge =
      f (setGrant b 0 (moveCharge b st w)).st (withGrant 0 ((w.st.bay b).charge.moved st)) := by
  simp [setGrant_charge, moveCharge_charge]

theorem entering_present (st : ChargeState) (f : State → Charge → Charge) :
    ((((setGrant b 0 (moveCharge b st w)).upd fun s => s.modCharge b (f s))).st.bay b).present =
      (w.st.bay b).present := by
  have charged : ((((setGrant b 0 (moveCharge b st w)).upd fun s => s.modCharge b (f s))).st.bay b).present =
      ((setGrant b 0 (moveCharge b st w)).st.bay b).present := State.read_modBay _ b b (·.present) fun _ => rfl
  rw [charged, steady_present (setGrant_steady b 0 _) b, steady_present (moveCharge_steady b st w) b]

theorem entering_cfl (st : ChargeState) (f : State → Charge → Charge) :
    (((setGrant b 0 (moveCharge b st w)).upd fun s => s.modCharge b (f s))).st.cfl = w.st.cfl := by
  have charged : (((setGrant b 0 (moveCharge b st w)).upd fun s => s.modCharge b (f s))).st.cfl =
      (setGrant b 0 (moveCharge b st w)).st.cfl := rfl
  rw [charged, steady_cfl (setGrant_steady b 0 _), steady_cfl (moveCharge_steady b st w)]

/-- R57 to R62: an entry with grant 0 leaves the bay without a grant. -/
theorem entered_grant (st : ChargeState) (f : State → Charge → Charge) (kept : ∀ s c, (f s c).grant = c.grant) :
    ((entered b st f w).st.bay b).charge.grant = 0 := by
  rw [entered, refreshWish_charge, if_pos rfl]
  dsimp only
  rw [entering_charge, kept]
  rfl

/-- R57 to R62: an entry into a state with grant 0 leaves the law of the bay, whatever was before. -/
theorem entered_bayLaw (minimum : Minimum w.st.cfl.config) (st : ChargeState) (f : State → Charge → Charge)
    (voltage : ∀ s c, (f s c).voltage ∈ portVoltages ∨ (f s c).voltage = c.voltage ∧
      (w.st.bay b).charge.voltage ∈ portVoltages)
    (vacant : ∀ s c, st = .vacant → (f s c).voltage = 5)
    (kept : ∀ s c, (f s c).state = c.state ∧ (f s c).grant = c.grant ∧ (f s c).limit = c.limit)
    (stocked : (w.st.bay b).present = true ∨ st = .vacant ∨ st = .outOfService) :
    BayChargeLaw ((entered b st f w).st.bay b) := by
  have charge := entering_charge (w := w) (b := b) st f
  have present := entering_present (w := w) (b := b) st f
  have config := entering_cfl (w := w) (b := b) st f
  unfold entered
  generalize (setGrant b 0 (moveCharge b st w)).upd (fun s => s.modCharge b (f s)) = u at charge present config ⊢
  generalize (setGrant b 0 (moveCharge b st w)).st = s at charge
  obtain ⟨state, grant, limit⟩ := kept s (withGrant 0 ((w.st.bay b).charge.moved st))
  rw [withGrant_zero] at state grant limit charge
  refine refreshWish_bayLaw (config ▸ minimum) (.of_zero ?_ ?_ ?_ ?_ ?_)
  · rw [charge]
    rcases voltage s { (w.st.bay b).charge.moved st with grant := 0, limit := 0, shortHold := none } with new | ⟨same, old⟩
    · exact new
    · rw [same, Charge.moved_eq]
      exact old
  · rw [charge, state]
    exact fun its => vacant _ _ (by simpa using its)
  · rw [charge, grant]
  · rw [charge, limit]
  · rw [charge, present, state]
    simpa using stocked

end

end Sys2Proof.Machine
end

section
/-! The law of the charge sections together (R56, R66, R69): what the operations of the BCC at one bay keep. -/

namespace Sys2Proof.Machine

/-! ### Effects at one bay -/

/-- What operations at the charge section of one bay leave: the applied allowance, the configuration, the present flags
and the charge sections of the other bays. -/
structure OthersKept (b : BayIx) (s t : State) : Prop where
  applied : t.bcc.applied = s.bcc.applied
  cfl : t.cfl = s.cfl
  present : ∀ c, (t.bay c).present = (s.bay c).present
  charge : ∀ c, c ≠ b → (t.bay c).charge = (s.bay c).charge

/-- The effects that reach no charge section but that of one bay. -/
def Effect.atCharge (b : BayIx) : Effect → Prop
  | .wish c | .tune c | .enter c => c = b
  | .applied | .present _ => False
  | _ => True

section
variable {s t : State} {b : BayIx}

theorem OthersKept.refl (s : State) : OthersKept b s s := ⟨rfl, rfl, fun _ => rfl, fun _ _ => rfl⟩

theorem OthersKept.trans {r : State} (h : OthersKept b r s) (h' : OthersKept b s t) : OthersKept b r t :=
  ⟨h'.applied.trans h.applied, h'.cfl.trans h.cfl, fun c => (h'.present c).trans (h.present c),
    fun c other => (h'.charge c other).trans (h.charge c other)⟩

theorem OthersKept.of_bays (applied : t.bcc.applied = s.bcc.applied) (cfl : t.cfl = s.cfl) (bays : t.bays = s.bays) :
    OthersKept b s t :=
  ⟨applied, cfl, fun c => by rw [State.bay_congr bays], fun c _ => by rw [State.bay_congr bays]⟩

/-- A rewriting of a bay that leaves its present flag and its charge section. -/
theorem OthersKept.of_modBay {c : BayIx} {f : Bay → Bay} (present : ∀ x, (f x).present = x.present)
    (charge : ∀ x, (f x).charge = x.charge) : OthersKept b s (s.modBay c f) :=
  ⟨rfl, rfl, fun d => s.read_modBay c d (·.present) present, fun d _ => s.read_modBay c d (·.charge) charge⟩

theorem OthersKept.of_modCounters {c : BayIx} (f : BayCounters → BayCounters) : OthersKept b s (s.modCounters c f) :=
  .of_modBay (fun _ => rfl) fun _ => rfl

theorem OthersKept.of_modCharge (f : Charge → Charge) : OthersKept b s (s.modCharge b f) :=
  ⟨rfl, rfl, fun d => s.read_modBay b d (·.present) fun _ => rfl, fun d other => by
    rw [State.charge_modCharge, if_neg other]⟩

@[simp] theorem State.charge_modDoor (c d : BayIx) (f : Door → Door) :
    ((s.modDoor c f).bay d).charge = (s.bay d).charge := s.read_modBay c d (·.charge) fun _ => rfl

@[simp] theorem State.charge_modProv (c d : BayIx) (f : Prov → Prov) :
    ((s.modProv c f).bay d).charge = (s.bay d).charge := s.read_modBay c d (·.charge) fun _ => rfl

theorem startRelease_charge (c d : BayIx) (r : ReleaseRecord) (w : Work) :
    ((startRelease c r w).st.bay d).charge = (w.st.bay d).charge := by
  simp [startRelease, openSwitch]

/-- The charge section of `b` too is kept by the effects that reach none. -/
theorem Change.othersKept {e : Effect} (h : Change e s t) (at_charge : e.atCharge b) : OthersKept b s t := by
  cases h
  case recompute =>
    rw [recomputed_eq]
    exact .of_bays rfl rfl rfl
  case reads c rs =>
    unfold requestReads
    split
    · exact .of_modBay (fun _ => rfl) fun _ => rfl
    · exact .of_modBay (fun _ => rfl) fun _ => rfl
    all_goals exact .refl s
  case release c r ready =>
    exact ⟨rfl, rfl, fun d => steady_present (startRelease_steady c r (startWork s)) d,
      fun d _ => startRelease_charge c d r (startWork s)⟩
  case hand x k may => cases k <;> exact .of_bays rfl rfl rfl
  case wish c => cases at_charge; exact .of_modCharge _
  case tune c x tuned => cases at_charge; exact .of_modCharge _
  case enter c x => cases at_charge; exact .of_modCharge _
  case applied => cases at_charge
  case present c p => cases at_charge
  case write c x active limit => exact .of_modBay (fun _ => rfl) fun _ => rfl
  case answered c => exact .of_modBay (fun _ => rfl) fun _ => rfl
  case profileNow c active =>
    unfold profileAtOnce
    exact .of_modBay (fun _ => rfl) fun _ => rfl
  case channelUp c off => exact .of_modBay (fun _ => rfl) fun _ => rfl
  case channel c x => exact .of_modBay (fun _ => rfl) fun _ => rfl
  case count c k sessions => exact .of_modBay (fun _ => rfl) fun _ => rfl
  case prov c p opens => exact .of_modBay (fun _ => rfl) fun _ => rfl
  case switch c p => exact .of_modBay (fun _ => rfl) fun _ => rfl
  case session c k => exact .of_modBay (fun _ => rfl) fun _ => rfl
  case claim c => exact .of_modBay (fun _ => rfl) fun _ => rfl
  case view c v => exact .of_modBay (fun _ => rfl) fun _ => rfl
  case attrs c v => exact .of_modBay (fun _ => rfl) fun _ => rfl
  case claimed c v free => exact .of_modBay (fun _ => rfl) fun _ => rfl
  case door c d => exact .of_modBay (fun _ => rfl) fun _ => rfl
  case pend c r free => exact .of_modBay (fun _ => rfl) fun _ => rfl
  all_goals exact .of_bays rfl rfl rfl

theorem Acts.othersKept {can : Set Effect} {u v : Work} (h : Acts can u v) (at_charge : ∀ e ∈ can, e.atCharge b) :
    OthersKept b u.st v.st :=
  h.keeps (P := OthersKept b u.st) (fun e may _ _ changed kept => kept.trans (changed.othersKept (at_charge e may)))
    (.refl _)

theorem atCharge_of_charging {e : Effect} (may : e ∈ charging b) : e.atCharge b := by
  rcases may with (((rfl | rfl) | may) | may) | may
  · rfl
  · trivial
  · rcases may with rfl | rfl | rfl | rfl <;> trivial
  · rcases may with rfl | rfl | rfl | rfl <;> trivial
  · rcases may with rfl | ⟨x, -, rfl | ⟨o, rfl⟩⟩ <;> trivial

theorem atCharge_of_chargeReads {e : Effect} (may : e ∈ chargeReads b) : e.atCharge b := by
  rcases may with rfl | may
  · trivial
  · exact atCharge_of_charging may

end

/-! ### The law but for one bay -/

/-- The law of the charge sections, but for what it says of one bay by itself. -/
structure ChargeLawBut (b : BayIx) (s : State) : Prop where
  bays : ∀ c, c ≠ b → BayChargeLaw (s.bay c)
  applied : s.grantSum ≤ s.bcc.applied
  unpopulated : ∀ c, s.populated c = false → (s.bay c).charge.grant = 0
  minimum : Minimum s.cfl.config

section
variable {s t : State} {b : BayIx}

theorem ChargeLaw.but (h : ChargeLaw s) (b : BayIx) : ChargeLawBut b s :=
  ⟨fun c _ => h.bays c, h.applied, h.unpopulated, h.minimum⟩

theorem ChargeLawBut.whole (h : ChargeLawBut b s) (bay : BayChargeLaw (s.bay b)) : ChargeLaw s := by
  refine ⟨fun c => ?_, h.applied, h.unpopulated, h.minimum⟩
  by_cases here : c = b
  · exact here ▸ bay
  · exact h.bays c here

/-- R69: grants that do not rise do not rise together. -/
theorem grantSum_mono (less : ∀ c, (t.bay c).charge.grant ≤ (s.bay c).charge.grant) : t.grantSum ≤ s.grantSum :=
  List.sum_le_sum fun c _ => less c

theorem populated_of_cfl (cfl : t.cfl = s.cfl) (c : BayIx) : t.populated c = s.populated c := by
  simp only [State.populated, cfl]

/-- Operations at one bay that do not raise its grant. -/
theorem ChargeLawBut.of_kept (h : ChargeLawBut b s) (kept : OthersKept b s t)
    (grant : (t.bay b).charge.grant ≤ (s.bay b).charge.grant) : ChargeLawBut b t := by
  have less : ∀ c, (t.bay c).charge.grant ≤ (s.bay c).charge.grant := fun c => by
    by_cases here : c = b
    · exact here ▸ grant
    · rw [kept.charge c here]
  refine ⟨fun c other => (h.bays c other).of_charge (kept.charge c other) (kept.present c), ?_, fun c none => ?_, ?_⟩
  · rw [kept.applied]
    exact (grantSum_mono less).trans h.applied
  · exact Nat.le_zero.1 ((less c).trans_eq (h.unpopulated c (populated_of_cfl kept.cfl c ▸ none)))
  · rw [kept.cfl]
    exact h.minimum

theorem ChargeLaw.of_kept (h : ChargeLaw s) (kept : OthersKept b s t) (bay : BayChargeLaw (t.bay b))
    (grant : (t.bay b).charge.grant ≤ (s.bay b).charge.grant) : ChargeLaw t :=
  ((h.but b).of_kept kept grant).whole bay

/-- Operations that reach no charge section and no present flag. -/
theorem ChargeLaw.of_same (h : ChargeLaw s) (kept : OthersKept b s t) (charge : (t.bay b).charge = (s.bay b).charge) :
    ChargeLaw t :=
  h.of_kept kept ((h.bays b).of_charge charge (kept.present b)) (by rw [charge])

end

end Sys2Proof.Machine
end

section
/-! The operations of the BCC at one bay keep the law of the charge sections (R57 to R63, R72 to R76). -/

namespace Sys2Proof.Machine

section
variable {b : BayIx} {w v : Work}

/-! ### The entries -/

theorem charging_othersKept (acts : Acts (charging b) w v) : OthersKept b w.st v.st :=
  acts.othersKept fun _ => atCharge_of_charging

theorem entered_othersKept (st : ChargeState) (f : State → Charge → Charge) :
    OthersKept b w.st (entered b st f w).st :=
  charging_othersKept ((moveGrantCharge_acts subset_rfl st f).trans (refreshed_acts subset_rfl))

theorem entered_chargeLaw (h : ChargeLawBut b w.st) (st : ChargeState) (f : State → Charge → Charge)
    (voltage : ∀ s c, (f s c).voltage ∈ portVoltages ∨ (f s c).voltage = c.voltage ∧
      (w.st.bay b).charge.voltage ∈ portVoltages)
    (vacant : ∀ s c, st = .vacant → (f s c).voltage = 5)
    (kept : ∀ s c, (f s c).state = c.state ∧ (f s c).grant = c.grant ∧ (f s c).limit = c.limit)
    (stocked : (w.st.bay b).present = true ∨ st = .vacant ∨ st = .outOfService) :
    ChargeLaw (entered b st f w).st := by
  have grant : ((entered b st f w).st.bay b).charge.grant = 0 := entered_grant st f fun s c => (kept s c).2.1
  exact (h.of_kept (entered_othersKept st f) (by rw [grant]; exact Nat.zero_le _)).whole
    (entered_bayLaw h.minimum st f voltage vacant kept stocked)

theorem enterIdentifying_chargeLaw (h : ChargeLawBut b w.st) (voltage : (w.st.bay b).charge.voltage ∈ portVoltages)
    (present : (w.st.bay b).present = true) (identRead : Bool) : ChargeLaw (enterIdentifying b identRead w).st := by
  have law := entered_chargeLaw h .identifying (identifyingCharge identRead)
    (fun _ _ => .inr ⟨rfl, voltage⟩) (fun _ _ its => by cases its) (fun _ _ => ⟨rfl, rfl, rfl⟩) (.inl present)
  rw [enterIdentifying_eq]
  generalize entered b .identifying (identifyingCharge identRead) w = u at law ⊢
  cases identRead
  · exact law.of_same (charging_othersKept (requestIdentification_acts identifying_charging))
      (requestIdentification_charge b b u)
  · exact law.of_same (charging_othersKept (requestReads_acts _ (identifying_charging (b := b) (.inl rfl))))
      (requestReads_charge b b followingReads u.st)

theorem enterVacant_chargeLaw (h : ChargeLawBut b w.st) : ChargeLaw (enterVacant b w).st := by
  rw [enterVacant_eq, Work.raise_st]
  exact entered_chargeLaw h .vacant vacantCharge (fun _ _ => .inl (show 5 ∈ portVoltages by decide))
    (fun _ _ _ => rfl) (fun _ _ => ⟨rfl, rfl, rfl⟩) (.inr (.inl rfl))

theorem enterUnmanaged_chargeLaw (h : ChargeLawBut b w.st) (present : (w.st.bay b).present = true) :
    ChargeLaw (enterUnmanaged b w).st := by
  rw [enterUnmanaged_eq, Work.raise_st]
  exact entered_chargeLaw h .unmanaged (unmanagedCharge b) (fun _ _ => .inl (show 5 ∈ portVoltages by decide)) (fun _ _ its => by cases its)
    (fun _ _ => ⟨rfl, rfl, rfl⟩) (.inl present)

theorem enterOutOfService_chargeLaw (h : ChargeLawBut b w.st) (voltage : (w.st.bay b).charge.voltage ∈ portVoltages) :
    ChargeLaw (enterOutOfService b w).st := by
  rw [enterOutOfService_eq, Work.raise_st]
  exact entered_chargeLaw h .outOfService retiredCharge (fun _ _ => .inr ⟨rfl, voltage⟩) (fun _ _ its => by cases its)
    (fun _ _ => ⟨rfl, rfl, rfl⟩) (.inr (.inr rfl))

theorem serviceChanged_chargeLaw (h : ChargeLaw w.st) : ChargeLaw (serviceChanged b w).st := by
  unfold serviceChanged leaveOutOfService
  split
  · exact enterOutOfService_chargeLaw (h.but b) (h.bays b).voltage
  · split
    · split
      · next here =>
        exact enterIdentifying_chargeLaw (h.but b) (h.bays b).voltage (Bool.and_eq_true_iff.1 here).1 false
      · exact enterVacant_chargeLaw (h.but b)
    · exact h

/-- A wish and class computed afresh, of a bay that keeps the rest of its law. -/
theorem refreshWish_chargeLaw (h : ChargeLawBut b w.st) (rest : ChargeRest (w.st.bay b)) :
    ChargeLaw (refreshWish b w).st := by
  have kept : OthersKept b w.st (refreshWish b w).st := charging_othersKept (refreshWish_acts refreshing_charging)
  refine (h.of_kept kept ?_).whole (refreshWish_bayLaw h.minimum rest)
  rw [refreshWish_charge, if_pos rfl]

/-! ### Moves and readings -/

/-- A move of a bay with its grant, to a state that takes part or that it has no grant for. -/
theorem moveCharge_rest (st : ChargeState) (rest : ChargeRest (w.st.bay b)) (other : st ≠ .vacant)
    (grant : takesPart st = true ∨ (w.st.bay b).charge.grant = 0) (present : (w.st.bay b).present = true) :
    ChargeRest ((moveCharge b st w).st.bay b) := by
  have charge : ((moveCharge b st w).st.bay b).charge = (w.st.bay b).charge.moved st := by
    rw [moveCharge_charge, if_pos rfl]
  have here : ((moveCharge b st w).st.bay b).present = true := by
    rw [steady_present (moveCharge_steady b st w) b, present]
  rw [Charge.moved_eq] at charge
  refine ⟨?_, ?_, ?_, ?_, ?_, .inl here⟩ <;> simp only [charge]
  · exact rest.voltage
  · exact fun its => absurd its other
  · exact fun rests => grant.elim (fun takes => by rw [rests] at takes; cases takes) id
  · exact rest.limit
  · exact rest.grantFloor

theorem moveCharge_but (h : ChargeLawBut b w.st) (st : ChargeState) : ChargeLawBut b (moveCharge b st w).st := by
  refine h.of_kept (charging_othersKept (moveCharge_acts subset_rfl st)) ?_
  rw [moveCharge_charge, if_pos rfl, Charge.moved_eq]

theorem requestLimit_chargeLaw (h : ChargeLaw w.st) : ChargeLaw (requestLimit b w).st :=
  h.of_same (charging_othersKept (requestLimit_acts limiting_charging)) (requestLimit_charge ..)

/-- R59: a move between managed states keeps the law of the bay. -/
theorem moveManaged_chargeLaw (h : ChargeLaw w.st) (st : ChargeState) (from_managed : managed (w.st.bay b).charge.state = true)
    (into : managed st = true) : ChargeLaw (moveCharge b st w).st := by
  have law := h.bays b
  have present := law.present_of_state (fun its => by rw [its] at from_managed; cases from_managed)
    fun its => by rw [its] at from_managed; cases from_managed
  have charge : ((moveCharge b st w).st.bay b).charge = (w.st.bay b).charge.moved st := by
    rw [moveCharge_charge, if_pos rfl]
  have rest := moveCharge_rest st law.rest (fun its => by rw [its] at into; cases into)
    (.inl (managed_takesPart into)) present
  refine (moveCharge_but (h.but b) st).whole
    ⟨rest.voltage, rest.vacant, fun rests => ?_, rest.limit, rest.grantFloor, ?_, ?_, rest.stocked⟩
  · rw [charge, Charge.moved_state, managed_takesPart into] at rests
    cases rests
  · rw [charge, Charge.moved_eq]
    exact law.wishFloor
  · rw [charge, Charge.moved_eq]
    exact law.cls

theorem heldMoves_chargeLaw (h : ChargeLaw w.st) : ChargeLaw (heldMoves b w).st := by
  unfold heldMoves
  dsimp only
  split
  · next state => split <;> [exact moveManaged_chargeLaw h _ (by rw [state]; rfl) rfl; exact h]
  · next state => split <;> [exact moveManaged_chargeLaw h _ (by rw [state]; rfl) rfl; exact h]
  all_goals exact h

/-- R60: the entry to THERMAL. -/
theorem enterThermal_chargeLaw (h : ChargeLawBut b w.st) (voltage : (w.st.bay b).charge.voltage ∈ portVoltages)
    (present : (w.st.bay b).present = true) : ChargeLaw (enterThermal b w).st := by
  unfold enterThermal
  extract_lets w₁ w₂
  have moved : ChargeLawBut b w₁.st := moveCharge_but h .thermal
  have charge : (w₂.st.bay b).charge = withGrant 0 ((w.st.bay b).charge.moved .thermal) := by
    simp [w₂, w₁, moveCharge_charge]
  rw [withGrant_zero] at charge
  have kept : OthersKept b w₁.st w₂.st := .of_modCharge _
  have here : (w₂.st.bay b).present = true := by
    rw [kept.present, steady_present (moveCharge_steady b .thermal w) b, present]
  have cut : ChargeLawBut b w₂.st := moved.of_kept kept (by rw [charge]; exact Nat.zero_le _)
  have limited : OthersKept b w₂.st (requestLimit b w₂).st := charging_othersKept (requestLimit_acts limiting_charging)
  have same : ((requestLimit b w₂).st.bay b).charge = (w₂.st.bay b).charge := requestLimit_charge ..
  rw [Work.raise_st]
  refine refreshWish_chargeLaw (cut.of_kept limited (by rw [same])) (ChargeRest.of_charge ?_ same (limited.present b))
  refine .of_zero ?_ ?_ ?_ ?_ (.inl here) <;> rw [charge]
  · rw [Charge.moved_eq]
    exact voltage
  · rw [Charge.moved_eq]
    exact fun its => absurd (show ChargeState.thermal = .vacant from its) (by decide)

/-- R59, R60: the moves of a managed bay, whatever its wish was. -/
theorem managedMoves_chargeLaw (h : ChargeLawBut b w.st) (rest : ChargeRest (w.st.bay b))
    (isManaged : managed (w.st.bay b).charge.state = true) : ChargeLaw (managedMoves b w).st := by
  have present : (w.st.bay b).present = true :=
    rest.stocked.resolve_right fun other => by rcases other with its | its <;> (rw [its] at isManaged; cases isManaged)
  have moves : ∀ st, managed st = true →
      ChargeLawBut b (moveCharge b st w).st ∧ ChargeRest ((moveCharge b st w).st.bay b) := fun st into =>
    ⟨moveCharge_but h st, moveCharge_rest st rest (fun its => by rw [its] at into; cases into)
      (.inl (managed_takesPart into)) present⟩
  have finish : ∀ u : Work, ChargeLawBut b u.st ∧ ChargeRest (u.st.bay b) → ChargeLaw (heldMoves b (refreshWish b u)).st :=
    fun u law => heldMoves_chargeLaw (refreshWish_chargeLaw law.1 law.2)
  unfold managedMoves
  simp only [isManaged, Bool.not_true, Bool.false_eq_true, if_false]
  split
  · exact enterThermal_chargeLaw h rest.voltage present
  · refine finish _ ?_
    split
    · exact ⟨h, rest⟩
    · split
      · split <;> [exact ⟨h, rest⟩; exact moves _ rfl]
      · split <;> [exact moves _ rfl; exact ⟨h, rest⟩]

theorem managedMoves_keeps (h : ChargeLaw w.st) : ChargeLaw (managedMoves b w).st := by
  by_cases isManaged : managed (w.st.bay b).charge.state = true
  · exact managedMoves_chargeLaw (h.but b) (h.bays b).rest isManaged
  · unfold managedMoves
    simp only [isManaged, Bool.not_false, if_true]
    exact h

/-- R63: a voltage taken with no grant. -/
theorem takeVoltage_but (h : ChargeLaw w.st) (other : (w.st.bay b).charge.state ≠ .vacant) :
    ChargeLawBut b (takeVoltage b w).st ∧ ChargeRest ((takeVoltage b w).st.bay b) := by
  have kept : OthersKept b w.st (takeVoltage b w).st := charging_othersKept (takeVoltage_acts subset_rfl)
  have law := h.bays b
  by_cases none : (w.st.bay b).charge.grant = 0
  · have charge : ((takeVoltage b w).st.bay b).charge =
        { (w.st.bay b).charge with voltage := requestedVoltage (w.st.bay b).view } := by
      rw [takeVoltage_charge, if_pos ⟨rfl, none⟩]
    refine ⟨(h.but b).of_kept kept (by rw [charge]), .of_zero ?_ ?_ ?_ ?_ ?_⟩ <;> simp only [charge, kept.present]
    · exact requestedVoltage_mem _
    · exact fun its => absurd its other
    · exact none
    · rw [law.limit, none, portLimit_zero]
    · exact law.stocked
  · have charge : ((takeVoltage b w).st.bay b).charge = (w.st.bay b).charge := by
      rw [takeVoltage_charge, if_neg fun both => none both.2]
    exact ⟨(h.but b).of_kept kept (by rw [charge]), law.rest.of_charge charge (kept.present b)⟩

/-- R63: a voltage taken by a bay that takes no part in the split. -/
theorem takeVoltage_chargeLaw (h : ChargeLaw w.st) (other : (w.st.bay b).charge.state ≠ .vacant)
    (rests : takesPart (w.st.bay b).charge.state = false) : ChargeLaw (takeVoltage b w).st := by
  obtain ⟨but, rest⟩ := takeVoltage_but h other
  have charge : ((takeVoltage b w).st.bay b).charge.wish = (w.st.bay b).charge.wish ∧
      ((takeVoltage b w).st.bay b).charge.cls = (w.st.bay b).charge.cls := by
    rw [takeVoltage_charge]
    split <;> exact ⟨rfl, rfl⟩
  exact but.whole (rest.whole (charge.1.trans ((h.bays b).resting rests).2) (charge.2.trans_le (h.bays b).cls))

theorem leaveThermal_chargeLaw (h : ChargeLaw w.st) (state : (w.st.bay b).charge.state = .thermal) :
    ChargeLaw (leaveThermal b w).st := by
  unfold leaveThermal
  split
  · exact h
  · split
    · refine refreshWish_chargeLaw (moveCharge_but (h.but b) _) (moveCharge_rest _ (h.bays b).rest ?_ (.inl ?_) ?_)
      · split <;> decide
      · split <;> rfl
      · exact (h.bays b).present_of_state (by rw [state]; decide) (by rw [state]; decide)
    · exact h

/-- R58, R63: the completed identification of a bay without a grant. -/
theorem identifyAs_chargeLaw (h : ChargeLaw w.st) (st : ChargeState) (state : (w.st.bay b).charge.state = .identifying)
    (other : st ≠ .vacant) : ChargeLaw (identifyAs b st w).st := by
  have law := h.bays b
  have present := law.present_of_state (by rw [state]; decide) (by rw [state]; decide)
  have grant : (w.st.bay b).charge.grant = 0 := (law.resting (by rw [state]; rfl)).1
  unfold identifyAs
  extract_lets w₁ w₂ w₃
  have charge : (w₁.st.bay b).charge = identifiedCharge (w.st.bay b).view (w.st.bay b).charge := by
    simp [w₁]
  have kept : OthersKept b w.st w₁.st := (OthersKept.of_modCharge _).trans (.of_modCounters _)
  have taken : ChargeLawBut b w₁.st := (h.but b).of_kept kept (by rw [charge]; exact le_rfl)
  have here : (w₁.st.bay b).present = true := by rw [kept.present, present]
  have rest : ChargeRest (w₁.st.bay b) := by
    refine .of_zero ?_ ?_ ?_ ?_ (.inl here) <;> rw [charge]
    · exact requestedVoltage_mem _
    · exact fun its => absurd (state.symm.trans its) (by decide)
    · exact grant
    · exact law.limit.trans (by rw [grant, portLimit_zero])
  have moved : ChargeLawBut b w₂.st := moveCharge_but taken st
  have settled : ChargeRest (w₂.st.bay b) :=
    moveCharge_rest st rest other (.inr (by rw [charge]; exact grant)) here
  have limited : ChargeLawBut b w₃.st ∧ ChargeRest (w₃.st.bay b) := by
    simp only [w₃]
    split
    · have only : OthersKept b w₂.st (requestLimit b w₂).st := charging_othersKept (requestLimit_acts limiting_charging)
      have same : ((requestLimit b w₂).st.bay b).charge = (w₂.st.bay b).charge := requestLimit_charge ..
      exact ⟨moved.of_kept only (by rw [same]), settled.of_charge same (only.present b)⟩
    · exact ⟨moved, settled⟩
  exact refreshWish_chargeLaw limited.1 limited.2

/-- A change of the charge section that leaves what the law speaks of. -/
theorem ChargeLaw.of_charge {s : State} (h : ChargeLaw s) (f : Charge → Charge)
    (kept : ∀ c, (f c).state = c.state ∧ (f c).voltage = c.voltage ∧ (f c).grant = c.grant ∧ (f c).limit = c.limit ∧
      (f c).wish = c.wish ∧ (f c).cls = c.cls) : ChargeLaw (s.modCharge b f) := by
  have charge : ((s.modCharge b f).bay b).charge = f (s.bay b).charge := by rw [State.charge_modCharge, if_pos rfl]
  have others : OthersKept b s (s.modCharge b f) := .of_modCharge f
  obtain ⟨state, voltage, grant, limit, wish, cls⟩ := kept (s.bay b).charge
  refine h.of_kept others ((h.bays b).of_same ?_ ?_ ?_ ?_ ?_ ?_ (others.present b)) ?_ <;> rw [charge]
  · exact state
  · exact voltage
  · exact grant
  · exact limit
  · exact wish
  · exact cls
  · exact grant.le

theorem identificationRead_chargeLaw (h : ChargeLaw w.st) (r : DockRegister)
    (state : (w.st.bay b).charge.state = .identifying) : ChargeLaw (identificationRead b r w).st := by
  unfold identificationRead
  dsimp only
  split
  · exact h.of_charge (b := b) (fun c => { c with stage := .awaitBattery }) fun _ => ⟨rfl, rfl, rfl, rfl, rfl, rfl⟩
  · split
    · exact h.of_charge (b := b) (fun c => { c with stage := .awaitRequest }) fun _ => ⟨rfl, rfl, rfl, rfl, rfl, rfl⟩
    · split
      · refine identifyAs_chargeLaw h _ state ?_
        unfold identifiedState
        dsimp only
        split
        · decide
        · split <;> decide
      · exact h

/-- R58 to R61, R63 to R65: a reading notice at the BCC. -/
theorem chargeReading_chargeLaw (h : ChargeLaw w.st) (r : DockRegister) : ChargeLaw (chargeReading b r w).st := by
  have law := h.bays b
  have refreshed : ChargeLaw (refreshWish b w).st := refreshWish_chargeLaw (h.but b) law.rest
  have managedRead (isManaged : managed (w.st.bay b).charge.state = true) : ChargeLaw (managedReading b r w).st := by
    have other : (w.st.bay b).charge.state ≠ .vacant := fun its => by rw [its] at isManaged; cases isManaged
    cases r
    case ident => exact refreshed
    case battery => exact managedMoves_keeps h
    case chargeRequest =>
      obtain ⟨but, rest⟩ := takeVoltage_but h other
      exact managedMoves_chargeLaw but rest (by rw [takeVoltage_state, isManaged])
    all_goals exact h
  have identified (vacant : (w.st.bay b).charge.state ≠ .vacant) (service : (w.st.bay b).charge.state ≠ .outOfService) :
      ChargeLaw (enterIdentifying b true w).st :=
    enterIdentifying_chargeLaw (h.but b) law.voltage (law.present_of_state vacant service) true
  have restingRead (vacant : (w.st.bay b).charge.state ≠ .vacant) (rests : takesPart (w.st.bay b).charge.state = false) :
      ChargeLaw (restingReading b r w).st := by
    cases r
    case chargeRequest => exact takeVoltage_chargeLaw h vacant rests
    all_goals exact refreshed
  unfold chargeReading
  cases state : (w.st.bay b).charge.state
  case vacant => exact h
  case identifying => exact identificationRead_chargeLaw h r state
  case thermal =>
    cases r
    case ident => exact identified (by rw [state]; decide) (by rw [state]; decide)
    case battery => exact leaveThermal_chargeLaw h state
    case chargeRequest => exact takeVoltage_chargeLaw h (by rw [state]; decide) (by rw [state]; rfl)
    all_goals exact h
  case unmanaged =>
    cases r
    case ident => exact identified (by rw [state]; decide) (by rw [state]; decide)
    all_goals exact refreshed
  case fault => exact restingRead (by rw [state]; decide) (by rw [state]; rfl)
  case outOfService => exact restingRead (by rw [state]; decide) (by rw [state]; rfl)
  all_goals exact managedRead (by rw [state]; rfl)

/-- R58, R61: a channel state notice at the BCC. -/
theorem chargeChannel_chargeLaw (h : ChargeLaw w.st) (st : ChannelState) : ChargeLaw (chargeChannel b st w).st := by
  have law := h.bays b
  have silenced : ChargeLaw (match (w.st.bay b).charge.state with
      | .identifying | .charging | .held | .maintain => enterUnmanaged b w
      | .unmanaged => w.upd fun s => s.modCharge b fun c => { c with unmanagedTimer := none }
      | .vacant | .thermal | .fault | .outOfService => w).st := by
    have unmanaged (vacant : (w.st.bay b).charge.state ≠ .vacant) (service : (w.st.bay b).charge.state ≠ .outOfService) :=
      enterUnmanaged_chargeLaw (h.but b) (law.present_of_state vacant service)
    cases state : (w.st.bay b).charge.state
    case unmanaged => exact h.of_charge (b := b) (fun c => { c with unmanagedTimer := none }) fun _ => ⟨rfl, rfl, rfl, rfl, rfl, rfl⟩
    case vacant | thermal | fault | outOfService => exact h
    all_goals exact unmanaged (by rw [state]; decide) (by rw [state]; decide)
  cases st
  case off | active => exact h
  all_goals exact silenced

end

/-! ### Every other effect -/

section
variable {s t : State}

/-- An effect of no charge section leaves them all. -/
theorem Change.charge_same {e : Effect} (h : Change e s t) (elsewhere : ∀ b, e.atCharge b) (c : BayIx) :
    (t.bay c).charge = (s.bay c).charge := by
  obtain ⟨b, other⟩ := exists_ne c
  exact (h.othersKept (elsewhere b)).charge c other.symm

/-- The effects that a law of the charge sections has to say something of. -/
def Effect.ofCharge : Effect → Bool
  | .tune _ | .enter _ | .applied | .present _ => true
  | _ => false

/-- R64: of all effects only those of the BCC and of presence reach the law of the charge sections. -/
theorem Change.chargeLaw {e : Effect} (h : Change e s t) (other : e.ofCharge = false) (law : ChargeLaw s) :
    ChargeLaw t := by
  by_cases wish : ∃ b, e = .wish b
  · obtain ⟨b, rfl⟩ := wish
    cases h
    have charge : ((s.modCharge b fun c => { c with wish := s.wishOf b, cls := s.classOf b }).bay b).charge =
        { (s.bay b).charge with wish := s.wishOf b, cls := s.classOf b } := by
      rw [State.charge_modCharge, if_pos rfl]
    have others : OthersKept b s (s.modCharge b fun c => { c with wish := s.wishOf b, cls := s.classOf b }) :=
      .of_modCharge _
    have bay := law.bays b
    refine law.of_kept others ⟨?_, ?_, ?_, ?_, ?_, ?_, ?_, ?_⟩ ?_ <;> simp only [charge, others.present]
    · exact bay.voltage
    · exact bay.vacant
    · exact fun rests => ⟨(bay.resting rests).1, wishOf_resting rests⟩
    · exact bay.limit
    · exact bay.grantFloor
    · exact wishOf_floor law.minimum bay.voltage
    · exact classOf_le
    · exact bay.stocked
    · exact le_rfl
  · have elsewhere : ∀ b, e.atCharge b := fun b => by
      cases e
      case wish c => exact absurd ⟨c, rfl⟩ wish
      case tune | enter | applied | present => cases other
      all_goals trivial
    exact law.of_same (h.othersKept (elsewhere 0)) (h.charge_same elsewhere 0)

end

end Sys2Proof.Machine
end

section
/-! A split keeps the law of the charge sections (R66 to R69): the grants only fall until the allowance is applied, and
then rise to those of the split. -/

namespace Sys2Proof.Machine

/-! ### The bays of a split -/

theorem splitOrder_nodup {bays : List SplitBay} (once : (bays.map (·.bay)).Nodup) :
    ((splitOrder bays).map (·.bay)).Nodup := by
  have inj : ∀ x ∈ bays, ∀ y ∈ bays, x.bay = y.bay → x = y := fun x x_in y y_in =>
    List.inj_on_of_nodup_map once x_in y_in
  have plain : (splitOrder bays).Nodup := by
    unfold splitOrder
    refine List.nodup_flatMap.2 ⟨fun k _ => once.of_map.filter _, ?_⟩
    have classes : ([0, 1, 2, 3] : List Nat).Nodup := by decide
    refine List.Pairwise.imp (fun {i j} apart => ?_) classes
    intro x in_i in_j
    have at_i := (List.mem_filter.1 in_i).2
    have at_j := (List.mem_filter.1 in_j).2
    simp only [beq_iff_eq] at at_i at_j
    exact apart (at_i.symm.trans at_j)
  exact List.Nodup.map_on (fun x x_in y y_in => inj x (mem_splitOrder x_in) y (mem_splitOrder y_in)) plain

section
variable {s : State}

/-- R67: no bay gets two grants. -/
theorem newGrants_nodup (s : State) : (s.newGrants.map (·.1)).Nodup := by
  have bays : (s.splitBays.map (·.bay)).Nodup := by
    have all : allBays.Nodup := by decide
    simpa [State.splitBays, State.populatedBays, Function.comp_def] using (all.filter _).filter _
  have keys := congrArg (List.map (·.1)) (splitGrants_keys s.shu.allowance s.cfl.config.bayMin s.splitBays)
  rw [List.map_map, List.map_map] at keys
  simp only [State.newGrants, List.map_map]
  exact keys ▸ splitOrder_nodup bays

theorem newGrants_single (s : State) : ∀ x ∈ s.newGrants, ∀ y ∈ s.newGrants, x.1 = y.1 → x = y :=
  fun _ x_in _ y_in => List.inj_on_of_nodup_map (newGrants_nodup s) x_in y_in

theorem newGrants_sum (s : State) : (s.newGrants.map (·.2)).sum ≤ s.shu.allowance := by
  have most := splitGrants_sum s.shu.allowance s.cfl.config.bayMin s.splitBays
  simpa [State.newGrants, grantsOf, Function.comp_def] using most

theorem mem_allBays (b : BayIx) : b ∈ allBays := by
  revert b
  decide

/-- R67: an eligible bay gets its grant, if only 0. -/
theorem mem_newGrants {b : BayIx} (populated : s.populated b = true)
    (takes : takesPart (s.bay b).charge.state = true) (cls : (s.bay b).charge.cls ≤ 3) :
    ∃ x ∈ s.newGrants, x.1 = b := by
  have read : (⟨b, (s.bay b).charge.cls, (s.bay b).charge.wish, 0⟩ : SplitBay) ∈ s.splitBays :=
    List.mem_map_of_mem (List.mem_filter.2 ⟨List.mem_filter.2 ⟨mem_allBays b, populated⟩, takes⟩)
  have ordered : (⟨b, (s.bay b).charge.cls, (s.bay b).charge.wish, 0⟩ : SplitBay) ∈ splitOrder s.splitBays := by
    have four : (s.bay b).charge.cls ∈ ([0, 1, 2, 3] : List Nat) := by simp; omega
    exact List.mem_flatMap.2 ⟨_, four, List.mem_filter.2 ⟨read, by simp⟩⟩
  have key := List.mem_map_of_mem (f := SplitBay.key) ordered
  rw [← splitGrants_keys s.shu.allowance s.cfl.config.bayMin] at key
  obtain ⟨y, given, same⟩ := List.mem_map.1 key
  exact ⟨_, List.mem_map_of_mem given, congrArg (·.1) same⟩

end

/-- R69: a grant for each bay of a list, together. -/
theorem grantSum_le {s : State} {grants : List (BayIx × Nat)}
    (granted : ∀ b, (s.bay b).charge.grant = 0 ∨ ∃ x ∈ grants, x.1 = b ∧ (s.bay b).charge.grant ≤ x.2) :
    s.grantSum ≤ (grants.map (·.2)).sum := by
  have per_bay : ∀ xs : List (BayIx × Nat),
      ∑ b : BayIx, ((xs.filter fun x => x.1 == b).map (·.2)).sum = (xs.map (·.2)).sum := by
    intro xs
    induction xs with
    | nil => simp
    | cons x xs ih =>
      have one : ∀ b, (((x :: xs).filter fun x => x.1 == b).map (·.2)).sum =
          (if x.1 = b then x.2 else 0) + ((xs.filter fun x => x.1 == b).map (·.2)).sum := fun b => by
        rw [List.filter_cons]
        by_cases here : x.1 = b <;> simp [here]
      simp [one, Finset.sum_add_distrib, ih]
  have all : s.grantSum = ∑ b : BayIx, (s.bay b).charge.grant := by
    simp [State.grantSum, allBays, Fin.sum_univ_eight]
    omega
  rw [all, ← per_bay]
  refine Finset.sum_le_sum fun b _ => ?_
  rcases granted b with none | ⟨x, among, rfl, most⟩
  · exact none ▸ Nat.zero_le _
  · exact most.trans (List.le_sum_of_mem (List.mem_map_of_mem (List.mem_filter.2 ⟨among, by simp⟩)))

/-! ### One bay lowered or raised -/

section
variable {b : BayIx} {w : Work}

theorem setGrant_othersKept (g : Nat) : OthersKept b w.st (setGrant b g w).st := by
  unfold setGrant
  split
  · exact .of_modCharge _
  · have limited := charging_othersKept (b := b) (requestLimit_acts limiting_charging)
      (w := w.upd fun s => s.modCharge b (withGrant g))
    exact (OthersKept.of_modCharge (s := w.st) (withGrant g)).trans limited

theorem takeVoltage_othersKept : OthersKept b w.st (takeVoltage b w).st := charging_othersKept (takeVoltage_acts subset_rfl)

/-- R68: a grant that is given to a bay that takes part, or none. -/
theorem setGrant_rest {g : Nat} (rest : ChargeRest (w.st.bay b))
    (floor : g = 0 ∨ (w.st.bay b).charge.voltage ≤ g) (takes : takesPart (w.st.bay b).charge.state = true ∨ g = 0) :
    ChargeRest ((setGrant b g w).st.bay b) := by
  have charge : ((setGrant b g w).st.bay b).charge = withGrant g (w.st.bay b).charge := by
    rw [setGrant_charge, if_pos rfl]
  have present := (setGrant_othersKept (b := b) (w := w) g).present b
  refine ⟨?_, ?_, ?_, ?_, ?_, ?_⟩ <;> simp only [charge, present]
  · exact rest.voltage
  · exact rest.vacant
  · exact fun rests => takes.elim (fun its => absurd (its.symm.trans rests) (by decide)) id
  · rfl
  · exact floor
  · exact rest.stocked

theorem setGrant_bayLaw {g : Nat} (law : BayChargeLaw (w.st.bay b))
    (floor : g = 0 ∨ (w.st.bay b).charge.voltage ≤ g) (takes : takesPart (w.st.bay b).charge.state = true ∨ g = 0) :
    BayChargeLaw ((setGrant b g w).st.bay b) := by
  have rest := setGrant_rest law.rest floor takes
  have charge : ((setGrant b g w).st.bay b).charge = withGrant g (w.st.bay b).charge := by
    rw [setGrant_charge, if_pos rfl]
  refine ⟨rest.voltage, rest.vacant, fun rests => ⟨rest.resting rests, ?_⟩, rest.limit, rest.grantFloor, ?_, ?_,
    rest.stocked⟩ <;> rw [charge] at *
  · exact (law.resting rests).2
  · exact law.wishFloor
  · exact law.cls

/-- R69: a lowering keeps the law. -/
theorem lowerBay_chargeLaw {g : Nat} (h : ChargeLaw w.st) (floor : g = 0 ∨ (w.st.bay b).charge.voltage ≤ g) :
    ChargeLaw (lowerBay b g w).st := by
  have law := h.bays b
  unfold lowerBay
  split
  · next lower =>
    have takes : takesPart (w.st.bay b).charge.state = true := by
      by_contra rests
      have none := (law.resting (by simpa using rests)).1
      omega
    have granted : ((setGrant b g w).st.bay b).charge.grant = g := by rw [setGrant_charge, if_pos rfl]; rfl
    have lowered : ChargeLaw (setGrant b g w).st :=
      h.of_kept (setGrant_othersKept g) (setGrant_bayLaw law floor (.inl takes)) (granted.trans_le lower.le)
    dsimp only
    split
    · next zero =>
      have isManaged : managed ((setGrant b g w).st.bay b).charge.state = true := zero.2.1
      obtain ⟨but, rest⟩ := takeVoltage_but lowered (b := b) fun its => by rw [its] at isManaged; cases isManaged
      exact refreshWish_chargeLaw but rest
    · exact lowered
  · exact h

theorem lowerBay_othersKept (g : Nat) : OthersKept b w.st (lowerBay b g w).st := by
  have refreshed (u : Work) : OthersKept b u.st (refreshWish b u).st :=
    charging_othersKept (refreshWish_acts refreshing_charging)
  unfold lowerBay
  split
  · dsimp only
    split
    · exact ((setGrant_othersKept g).trans takeVoltage_othersKept).trans (refreshed _)
    · exact setGrant_othersKept g
  · exact .refl _

/-- R69: what a lowering leaves as the grant. -/
theorem lowerBay_grant (g : Nat) : ((lowerBay b g w).st.bay b).charge.grant = min (w.st.bay b).charge.grant g := by
  unfold lowerBay
  split
  · next lower =>
    have granted : ((setGrant b g w).st.bay b).charge.grant = g := by rw [setGrant_charge, if_pos rfl]; rfl
    rw [min_eq_right lower.le]
    dsimp only
    split
    · rw [refreshWish_charge, if_pos rfl]
      dsimp only
      rw [takeVoltage_charge]
      split <;> exact granted
    · exact granted
  · next same => rw [min_eq_left (Nat.le_of_not_lt same)]

/-- R63: a lowering to a grant leaves the voltage. -/
theorem lowerBay_voltage {g : Nat} (some : g ≠ 0) :
    ((lowerBay b g w).st.bay b).charge.voltage = (w.st.bay b).charge.voltage := by
  unfold lowerBay
  simp only [some, false_and, if_false]
  split
  · rw [setGrant_charge, if_pos rfl]
    rfl
  · rfl

theorem raiseBay_othersKept (g : Nat) : OthersKept b w.st (raiseBay b g w).st := by
  unfold raiseBay
  split <;> [exact setGrant_othersKept g; exact .refl _]

theorem raiseBay_charge (g : Nat) : ((raiseBay b g w).st.bay b).charge =
    if (w.st.bay b).charge.grant < g then withGrant g (w.st.bay b).charge else (w.st.bay b).charge := by
  unfold raiseBay
  split <;> [rw [setGrant_charge, if_pos rfl]; rfl]

end

/-! ### The passes -/

/-- A split leaves the allowance it reads. -/
theorem splitting_allowance {u v : Work} (acts : Acts splitting u v) : v.st.shu.allowance = u.st.shu.allowance := by
  refine acts.keeps (P := fun s => s.shu.allowance = u.st.shu.allowance) (fun e may s t changed same => ?_) rfl
  rcases may with rfl | ⟨b, ((rfl | rfl | rfl | rfl) | rfl | ⟨x, -, rfl | ⟨o, rfl⟩⟩) | rfl | rfl⟩ <;>
    cases changed <;> exact same

/-- What a list of grants has to be for the bays as they stand. -/
structure GrantsFit (grants : List (BayIx × Nat)) (s : State) : Prop where
  single : ∀ x ∈ grants, ∀ y ∈ grants, x.1 = y.1 → x = y
  floor : ∀ x ∈ grants, x.2 = 0 ∨ (s.bay x.1).charge.voltage ≤ x.2
  takes : ∀ x ∈ grants, takesPart (s.bay x.1).charge.state = true
  populated : ∀ x ∈ grants, s.populated x.1 = true

section
variable {grants : List (BayIx × Nat)} {s t : State} {w : Work}

theorem newGrants_fit (h : ChargeLaw s) : GrantsFit s.newGrants s := by
  refine ⟨newGrants_single s, fun x among => ?_, fun x among => (newGrants_spec among).2.1,
    fun x among => (newGrants_spec among).1⟩
  obtain ⟨-, -, y, given, bay, grant, wish⟩ := newGrants_spec among
  obtain ⟨most, least⟩ := splitGrants_least given
  have law := h.bays x.1
  have voltage := portVoltage_le law.voltage
  have minimum := h.minimum.1
  rcases law.wishFloor with none | floor
  · omega
  · omega

theorem GrantsFit.lowered (h : GrantsFit grants w.st) {x : BayIx × Nat} (among : x ∈ grants) :
    GrantsFit grants (lowerBay x.1 x.2 w).st := by
  have kept := lowerBay_othersKept (b := x.1) (w := w) x.2
  refine ⟨h.single, fun y y_in => ?_, fun y y_in => ?_, fun y y_in => ?_⟩
  · by_cases same : y.1 = x.1
    · rw [h.single y y_in x among same]
      refine (eq_or_ne x.2 0).imp_right fun some => ?_
      rw [lowerBay_voltage some]
      exact (h.floor x among).resolve_left some
    · rw [kept.charge y.1 same]
      exact h.floor y y_in
  · rw [lowerBay_state]
    exact h.takes y y_in
  · rw [populated_of_cfl kept.cfl]
    exact h.populated y y_in

theorem lowerPass_keeps (xs : List (BayIx × Nat)) (within : xs ⊆ grants) (law : ChargeLaw w.st)
    (fit : GrantsFit grants w.st) :
    ChargeLaw (forEach xs (fun x => lowerBay x.1 x.2) w).st ∧
      GrantsFit grants (forEach xs (fun x => lowerBay x.1 x.2) w).st := by
  induction xs generalizing w with
  | nil => exact ⟨law, fit⟩
  | cons x xs ih =>
    have among : x ∈ grants := within (by simp)
    exact ih (fun y later => within (by simp [later])) (lowerBay_chargeLaw law (fit.floor x among)) (fit.lowered among)

theorem lowerBay_grant_le (g : Nat) (b c : BayIx) :
    ((lowerBay b g w).st.bay c).charge.grant ≤ (w.st.bay c).charge.grant := by
  by_cases same : c = b
  · rw [same, lowerBay_grant]
    exact min_le_left _ _
  · rw [(lowerBay_othersKept g).charge c same]

/-- R69: after the lowerings no bay has more than its new grant. -/
theorem lowerPass_grant (xs : List (BayIx × Nat)) (w : Work) (c : BayIx) :
    ((forEach xs (fun x => lowerBay x.1 x.2) w).st.bay c).charge.grant ≤ (w.st.bay c).charge.grant ∧
      ∀ x ∈ xs, x.1 = c → ((forEach xs (fun x => lowerBay x.1 x.2) w).st.bay c).charge.grant ≤ x.2 := by
  induction xs generalizing w with
  | nil => exact ⟨le_rfl, by simp⟩
  | cons x xs ih =>
    obtain ⟨less, each⟩ := ih (lowerBay x.1 x.2 w)
    refine ⟨less.trans (lowerBay_grant_le ..), fun y among same => ?_⟩
    rcases List.mem_cons.1 among with rfl | later
    · refine less.trans ?_
      rw [← same, lowerBay_grant]
      exact min_le_right _ _
    · exact each y later same

/-- The bays while a split raises them. -/
structure Raising (grants : List (BayIx × Nat)) (s : State) : Prop where
  fit : GrantsFit grants s
  bays : ∀ b, BayChargeLaw (s.bay b)
  granted : ∀ b, (s.bay b).charge.grant = 0 ∨ ∃ x ∈ grants, x.1 = b ∧ (s.bay b).charge.grant ≤ x.2
  applied : (grants.map (·.2)).sum ≤ s.bcc.applied
  minimum : Minimum s.cfl.config

theorem Raising.law (h : Raising grants s) : ChargeLaw s := by
  refine ⟨h.bays, (grantSum_le h.granted).trans h.applied, fun b none => ?_, h.minimum⟩
  refine (h.granted b).resolve_right ?_
  rintro ⟨x, among, rfl, -⟩
  exact absurd ((h.fit.populated x among).symm.trans none) (by decide)

theorem Raising.raised (h : Raising grants w.st) {x : BayIx × Nat} (among : x ∈ grants) :
    Raising grants (raiseBay x.1 x.2 w).st := by
  have kept := raiseBay_othersKept (b := x.1) (w := w) x.2
  have charge := raiseBay_charge (b := x.1) (w := w) x.2
  refine ⟨⟨h.fit.single, fun y y_in => ?_, fun y y_in => ?_, fun y y_in => ?_⟩, fun b => ?_, fun b => ?_, ?_, ?_⟩
  · by_cases same : y.1 = x.1
    · have voltage : ((raiseBay x.1 x.2 w).st.bay x.1).charge.voltage = (w.st.bay x.1).charge.voltage := by
        rw [charge]
        split <;> rfl
      rw [same, voltage, ← same]
      exact h.fit.floor y y_in
    · rw [kept.charge y.1 same]
      exact h.fit.floor y y_in
  · rw [raiseBay_state]
    exact h.fit.takes y y_in
  · rw [populated_of_cfl kept.cfl]
    exact h.fit.populated y y_in
  · by_cases same : b = x.1
    · subst same
      unfold raiseBay
      split
      · exact setGrant_bayLaw (h.bays _) (h.fit.floor x among) (.inl (h.fit.takes x among))
      · exact h.bays _
    · exact (h.bays b).of_charge (kept.charge b same) (kept.present b)
  · by_cases same : b = x.1
    · subst same
      rw [charge]
      split
      · exact .inr ⟨x, among, rfl, le_rfl⟩
      · exact h.granted _
    · rw [kept.charge b same]
      exact h.granted b
  · rw [kept.applied]
    exact h.applied
  · rw [kept.cfl]
    exact h.minimum

theorem raisePass_keeps (xs : List (BayIx × Nat)) (within : xs ⊆ grants) (h : Raising grants w.st) :
    Raising grants (forEach xs (fun x => raiseBay x.1 x.2) w).st := by
  induction xs generalizing w with
  | nil => exact h
  | cons x xs ih => exact ih (fun y later => within (by simp [later])) (h.raised (within (by simp)))

theorem payLimit_chargeLaw {b : BayIx} (h : ChargeLaw w.st) : ChargeLaw (payLimit b w).st := by
  unfold payLimit
  split
  · have paid : ChargeLaw (w.upd fun s => s.modCharge b fun c => { c with limitOwed := false }).st :=
      h.of_charge (fun c => { c with limitOwed := false }) fun _ => ⟨rfl, rfl, rfl, rfl, rfl, rfl⟩
    exact requestLimit_chargeLaw paid
  · exact h

theorem forEach_chargeLaw {f : BayIx → Work → Work} (each : ∀ b w, ChargeLaw w.st → ChargeLaw (f b w).st)
    (bays : List BayIx) (h : ChargeLaw w.st) : ChargeLaw (forEach bays f w).st := by
  induction bays generalizing w with
  | nil => exact h
  | cons b bays ih => exact ih (each b w h)

/-- R66 to R69: a split keeps the law of the charge sections. -/
theorem runSplit_chargeLaw (h : ChargeLaw w.st) : ChargeLaw (runSplit w).st := by
  have fit := newGrants_fit h
  have sum := newGrants_sum w.st
  have given : ∀ b, w.st.populated b = true → takesPart (w.st.bay b).charge.state = true →
      ∃ x ∈ w.st.newGrants, x.1 = b := fun b populated takes => mem_newGrants populated takes (h.bays b).cls
  unfold runSplit
  generalize w.st.newGrants = grants at fit sum given ⊢
  extract_lets _ w₁ w₂ w₃ w₄
  obtain ⟨lowered, fits⟩ : ChargeLaw w₁.st ∧ GrantsFit grants w₁.st := lowerPass_keeps grants (List.Subset.refl _) h fit
  have state : ∀ c, (w₁.st.bay c).charge.state = (w.st.bay c).charge.state := lowerPass_state grants w
  have cfl : w₁.st.cfl = w.st.cfl := forEach_keeps (fun s => s.cfl) grants (fun x => lowerBay x.1 x.2)
    (fun x u => (lowerBay_othersKept (w := u) x.2).cfl) w
  have allowance : w₁.st.shu.allowance = w.st.shu.allowance :=
    splitting_allowance (lowerPass_acts subset_rfl grants fit.takes)
  have applied : Raising grants w₂.st := by
    refine ⟨⟨fits.single, fits.floor, fits.takes, fits.populated⟩, lowered.bays, fun b => ?_, ?_, lowered.minimum⟩
    · change (w₁.st.bay b).charge.grant = 0 ∨ ∃ x ∈ grants, x.1 = b ∧ (w₁.st.bay b).charge.grant ≤ x.2
      by_cases eligible : w.st.populated b = true ∧ takesPart (w.st.bay b).charge.state = true
      · obtain ⟨x, among, same⟩ := given b eligible.1 eligible.2
        exact .inr ⟨x, among, same, (lowerPass_grant grants w b).2 x among same⟩
      · refine .inl ?_
        rcases Bool.eq_false_or_eq_true (w.st.populated b) with populated | none
        · refine ((lowered.bays b).resting ?_).1
          rw [state]
          simpa [populated] using eligible
        · exact lowered.unpopulated b (populated_of_cfl cfl b ▸ none)
    · exact sum.trans_eq allowance.symm
  have raised : ChargeLaw w₃.st := (raisePass_keeps grants (List.Subset.refl _) applied).law
  have moved : ChargeLaw w₄.st := forEach_chargeLaw (f := managedMoves) (fun _ _ => managedMoves_keeps) _ raised
  exact forEach_chargeLaw (f := payLimit) (fun _ _ => payLimit_chargeLaw) _ moved

end

end Sys2Proof.Machine
end

section
/-! Every step keeps the law of the charge sections (R56 to R76): the notices, the commands of bay charging, start-up. -/

namespace Sys2Proof.Machine

/-! ### The effects that reach no charge section -/

theorem ofCharge_of_writing {r : DockRegister} {b : BayIx} {e : Effect} (h : e ∈ writing r b) : e.ofCharge = false := by
  rcases h with rfl | ⟨x, -, rfl | ⟨o, rfl⟩⟩ <;> rfl

theorem ofCharge_of_refreshing {b : BayIx} {e : Effect} (h : e ∈ refreshing b) : e.ofCharge = false := by
  rcases h with rfl | rfl | rfl | rfl <;> rfl

theorem ofCharge_of_placing {k : FrameKind} {e : Effect} (h : e ∈ placing k) : e.ofCharge = false := by
  rcases h with rfl | ⟨f, rfl⟩ <;> rfl

theorem ofCharge_of_sessionEnding {b : BayIx} {e : Effect} (h : e ∈ sessionEnding b) : e.ofCharge = false := by
  rcases h with (((rfl | rfl | rfl) | h) | h) | h
  iterate 3 rfl
  · exact ofCharge_of_refreshing h
  · exact ofCharge_of_placing h
  · exact ofCharge_of_writing h

theorem ofCharge_of_releasing {b : BayIx} {e : Effect} (h : e ∈ releasing b) : e.ofCharge = false := by
  rcases h with rfl | rfl | rfl | ⟨r, o, rfl⟩ <;> rfl

theorem ofCharge_of_evaluating {e : Effect} (h : e ∈ evaluating) : e.ofCharge = false := by
  rcases h with rfl | rfl | rfl <;> rfl

theorem ofCharge_of_identNoting {b : BayIx} {e : Effect} (h : e ∈ identNoting b) : e.ofCharge = false := by
  rcases h with (h | rfl) | h
  · exact ofCharge_of_placing h
  · rfl
  · exact ofCharge_of_writing h

section
variable {w : Work} {b : BayIx} {s t : State}

theorem Acts.chargeLaw {can : Set Effect} {u v : Work} (acts : Acts can u v) (other : ∀ e ∈ can, e.ofCharge = false)
    (law : ChargeLaw u.st) : ChargeLaw v.st :=
  acts.keeps (fun e may _ _ changed law => changed.chargeLaw (other e may) law) law

/-! ### Notices -/

theorem channelAbort_chargeLaw (st : ChannelState) (h : ChargeLaw w.st) : ChargeLaw (channelAbort b st w).st :=
  (channelAbort_acts (b := b) st subset_rfl).chargeLaw (fun _ => ofCharge_of_sessionEnding) h

theorem channelNotice_chargeLaw (st : ChannelState) (h : ChargeLaw w.st) : ChargeLaw (channelNotice b st w).st := by
  have later := chargeChannel_chargeLaw (b := b) (channelAbort_chargeLaw (b := b) st h) st
  have first := chargeChannel_chargeLaw (b := b) h st
  have counted {s : State} (law : ChargeLaw s) : ChargeLaw { s with freeCount := s.freeCount + 1 } :=
    Change.freeChoice.chargeLaw rfl law
  have silenced : ChargeLaw (if (w.st.laneWorking b && managed (w.st.bay b).charge.state) = true then
        if Config.bccTakesFirst w.st.freeCount = true then
          ((chargeChannel b st w).raise (.laneChannel b st)).upd fun s => { s with freeCount := s.freeCount + 1 }
        else ((chargeChannel b st (channelAbort b st w)).raise (.reevaluate b)).upd fun s =>
          { s with freeCount := s.freeCount + 1 }
      else (chargeChannel b st (channelAbort b st w)).raise (.reevaluate b)).st := by
    split
    · split
      · exact counted first
      · exact counted later
    · exact later
  cases st
  case silent | stuck => exact silenced
  all_goals exact later

theorem readingNotice_chargeLaw (r : DockRegister) (cls : IdentClass) (h : ChargeLaw w.st) :
    ChargeLaw (readingNotice b r cls w).st := by
  have read := fun r => chargeReading_chargeLaw (b := b) h r
  cases r
  case ident =>
    have noted : ChargeLaw (identNotice b cls (chargeReading b .ident w)).st :=
      (identNotice_acts cls subset_rfl).chargeLaw (fun _ => ofCharge_of_identNoting) (read .ident)
    simp only [readingNotice, Work.raise_st]
    split
    · exact (clearAttempts_acts (can := {.prov b}) rfl).chargeLaw (fun _ same => same ▸ rfl) noted
    · exact noted
  case battery => exact (batteryAbort_acts subset_rfl).chargeLaw (fun _ => ofCharge_of_sessionEnding) (read .battery)
  case chargeRequest => exact read .chargeRequest
  case profile =>
    exact (profileReading_acts (can := sessionEnding b ∪ {.switch b}) (fun _ may => .inl may) (.inr rfl)).chargeLaw
      (fun _ may => may.elim ofCharge_of_sessionEnding fun same => same ▸ rfl) h
  all_goals exact h

/-- The notices that the BCC takes with a change of a charge section. -/
def Notice.atCharge : Notice → Bool
  | .split | .channelChanged _ _ | .reading _ _ _ | .serviceChanged _ => true
  | _ => false

theorem ofCharge_of_effectsOf {n : Notice} {e : Effect} (other : n.atCharge = false) (h : e ∈ effectsOf n) :
    e.ofCharge = false := by
  cases n with
  | recompute => rcases h with rfl | rfl <;> rfl
  | wishInput b => exact ofCharge_of_refreshing h
  | chargeChanged b | laneChannel b st | doorMoved b left =>
    rcases h with h | rfl <;> [exact ofCharge_of_sessionEnding h; rfl]
  | writeEnded b x o =>
    cases x with
    | custody v => exact ofCharge_of_placing h
    | provControl v =>
      rcases h with h | rfl | rfl | rfl | rfl
      · exact ofCharge_of_sessionEnding h
      all_goals rfl
    | chargeLimit g => exact absurd h (Set.notMem_empty _)
  | discarded f => rcases h with rfl | ⟨b, rfl | rfl⟩ <;> rfl
  | episodeEnded b attr r p =>
    rcases h with h | rfl <;> [exact ofCharge_of_writing h; rfl]
  | releaseAsked b r =>
    rcases h with (h | h) | rfl
    · exact ofCharge_of_releasing h
    · exact ofCharge_of_sessionEnding h
    · rfl
  | releaseAnswered b r o =>
    rcases h with (h | h) | h
    · exact ofCharge_of_placing h
    · exact ofCharge_of_placing h
    · exact ofCharge_of_writing h
  | laneIdle b => exact ofCharge_of_releasing h
  | reevaluate b | reevaluateAll => exact ofCharge_of_evaluating h
  | select n =>
    rcases h with rfl | rfl | ⟨b, rfl | h | h⟩
    iterate 3 rfl
    · exact ofCharge_of_refreshing h
    · exact ofCharge_of_writing h
  | split | channelChanged _ _ | reading _ _ _ | serviceChanged _ => cases other

theorem handle_chargeLaw (n : Notice) (h : ChargeLaw w.st) : ChargeLaw (handle n w).st := by
  cases at_charge : n.atCharge
  · exact (handle_acts n w).chargeLaw (fun _ => ofCharge_of_effectsOf at_charge) h
  · cases n
    case split => exact runSplit_chargeLaw h
    case channelChanged b st => exact channelNotice_chargeLaw st h
    case reading b r cls => exact readingNotice_chargeLaw r cls h
    case serviceChanged b => exact serviceChanged_chargeLaw h
    all_goals cases at_charge

theorem finish_chargeLaw (w : Work) (h : ChargeLaw w.st) : ChargeLaw w.finish :=
  settle_keeps (Q := fun _ => True) (fun n _ _ law => ⟨handle_chargeLaw n law, fun _ _ => trivial⟩) _ w h
    (fun _ _ => trivial)

theorem carryOut_chargeLaw {f : Work → Work} (ran : carryOut s f = .next t) (h : ChargeLaw (f (startWork s)).st) :
    ChargeLaw t := by
  cases ran
  exact finish_chargeLaw _ h

/-! ### The commands of bay charging -/

theorem ofCharge_of_aside {e : Effect} (h : e ∈ asideEffects) : e.ofCharge = false := by
  cases e <;> first | rfl | exact absurd h id

theorem aside_chargeLaw {u v : Work} (acts : Acts asideEffects u v) (h : ChargeLaw u.st) : ChargeLaw v.st :=
  acts.chargeLaw (fun _ => ofCharge_of_aside) h

theorem overdrawStep_eq (c : Charge) : overdrawStep c = { c with overdraw := (overdrawStep c).overdraw } := by
  unfold overdrawStep
  split
  · split <;> rfl
  · rfl

/-- R71, R73: what a measurement makes of a charge section. -/
theorem measureBay_charge (p : PortSense) (x : Bay) : (measureBay p x).charge =
    { senseBay p x.charge with
      overdraw := (overdrawStep (senseBay p x.charge)).overdraw,
      remainder := (energyStep (senseBay p x.charge)).2 } := by
  simp only [measureBay, countEnergy]
  rw [overdrawStep_eq]
  rfl

/-- R71, R73: a measurement leaves what the law speaks of. -/
theorem measureBay_chargeLaw (p : PortSense) (h : ChargeLaw s) : ChargeLaw (s.modBay b (measureBay p)) := by
  have kept : OthersKept b s (s.modBay b (measureBay p)) := by
    rw [modBay_measureBay]
    exact (OthersKept.of_modCharge _).trans (.of_modCounters _)
  have charge : ((s.modBay b (measureBay p)).bay b).charge = (measureBay p (s.bay b)).charge := by
    rw [State.bay_modBay_same]
  rw [measureBay_charge] at charge
  refine h.of_kept kept ((h.bays b).of_same ?_ ?_ ?_ ?_ ?_ ?_ (kept.present b)) ?_ <;> rw [charge] <;> rfl

/-- R75: a trip of a bay that takes part. -/
theorem tripBay_chargeLaw (kind : FaultKind) (takes : takesPart (w.st.bay b).charge.state = true) (h : ChargeLaw w.st) :
    ChargeLaw (tripBay b kind w).st := by
  have law := h.bays b
  have present := law.present_of_state (fun its => by rw [its] at takes; cases takes)
    fun its => by rw [its] at takes; cases takes
  unfold tripBay
  extract_lets second w₁ w₂ w₃ w₄ w₅
  have moved : ChargeLawBut b w₁.st := moveCharge_but (h.but b) .fault
  have kept : OthersKept b w₁.st w₂.st := (OthersKept.of_modCharge (s := w₁.st) (b := b) fun c =>
      { withGrant 0 c with lastFault := some w₁.st.seconds, faultKind := some kind, unmanagedTimer := none }).trans
    (.of_modCounters (c := b) fun k => { k with faults := k.faults + 1 })
  have here : (w₂.st.bay b).present = true := by
    rw [kept.present, steady_present (moveCharge_steady b .fault w) b, present]
  have charge : (w₂.st.bay b).charge = { (w.st.bay b).charge.moved .fault with
      grant := 0, limit := 0, shortHold := none, lastFault := some w₁.st.seconds, faultKind := some kind,
      unmanagedTimer := none } := by
    simp [w₂, w₁, moveCharge_charge, withGrant_zero]
  have cut : ChargeLawBut b w₂.st := moved.of_kept kept (by rw [charge]; exact Nat.zero_le _)
  have faulted : ChargeLaw w₃.st := by
    have state : (w₂.st.bay b).charge.state = .fault := by
      rw [charge]
      exact Charge.moved_state _ _
    refine refreshWish_chargeLaw cut (.of_zero ?_ ?_ ?_ ?_ (.inl here))
    · rw [charge, Charge.moved_eq]
      exact law.voltage
    · intro its
      rw [state] at its
      cases its
    · rw [charge]
    · rw [charge]
  have placed : ChargeLaw w₄.st := aside_chargeLaw (chargeEvent_acts _ _ _ _ _ (by decide)) faulted
  have limited : ChargeLaw w₅.st := by
    simp only [w₅, Work.raise_st]
    exact requestLimit_chargeLaw placed
  split
  · exact aside_chargeLaw ((setAttrs_acts _).trans (chargeEvent_acts _ _ _ _ _ (by decide))) limited
  · exact limited

theorem takeMeasurement_chargeLaw (ports : Vector PortSense 8) (h : ChargeLaw w.st) :
    ChargeLaw (takeMeasurement ports w).st := by
  unfold takeMeasurement
  extract_lets w₁ w₂
  have measured : ChargeLaw w₁.st := forEach_chargeLaw
    (f := fun b => Work.upd fun s => s.modBay b (measureBay ports[b])) (fun _ _ => measureBay_chargeLaw _) _ h
  have presented : ChargeLaw w₂.st := aside_chargeLaw (presentDraw_acts _) measured
  refine forEach_chargeLaw (fun b w law => ?_) _ presented
  split
  · next drawn => exact tripBay_chargeLaw _ (Bool.and_eq_true_iff.1 drawn).1 law
  · exact law

/-- The present flag of a bay that is in no state which asks for a tablet, or with a tablet. -/
theorem present_but (h : ChargeLaw s) (p : Bool) :
    ChargeLawBut b (s.modBay b fun x => { x with present := p }) := by
  have other : ∀ c, c ≠ b → (s.modBay b fun x => { x with present := p }).bay c = s.bay c := fun c apart =>
    State.bay_modBay_other _ apart _
  have grant : ∀ c, ((s.modBay b fun x => { x with present := p }).bay c).charge.grant = (s.bay c).charge.grant :=
    fun c => s.read_modBay b c (·.charge.grant) fun _ => rfl
  refine ⟨fun c apart => other c apart ▸ h.bays c, ?_, fun c none => (grant c).trans (h.unpopulated c none), h.minimum⟩
  exact (grantSum_mono fun c => (grant c).le).trans h.applied

/-- The effects of a command of the sideband leave the charge sections. -/
theorem channelLost_kept (c : BayIx) : OthersKept c w.st (channelLost b w).st :=
  (channelLost_acts (b := b) subset_rfl).othersKept fun e may => by
    cases e <;> trivial

theorem channelLost_charge : ((channelLost b w).st.bay b).charge = (w.st.bay b).charge := by
  obtain ⟨c, other⟩ := exists_ne b
  exact (channelLost_kept c).charge b other.symm

/-- R57, R90: a presence loss, after the flag has been cleared. -/
theorem losePresence_chargeLaw (h : ChargeLawBut b w.st)
    (law : (w.st.bay b).charge.state = .outOfService → BayChargeLaw (w.st.bay b)) :
    ChargeLaw (losePresence b w).st := by
  have kept := channelLost_kept (b := b) (w := w) b
  have charge := channelLost_charge (b := b) (w := w)
  have lost : ChargeLawBut b (channelLost b w).st := h.of_kept kept (by rw [charge])
  have vacated : ChargeLaw (if ((channelLost b w).st.bay b).charge.state == .outOfService then channelLost b w
      else enterVacant b (channelLost b w)).st := by
    split
    · next retired =>
      rw [charge] at retired
      exact lost.whole ((law (by simpa using retired)).of_charge charge (kept.present b))
    · exact enterVacant_chargeLaw lost
  unfold losePresence
  exact aside_chargeLaw (takeRemoval_acts (b := b)) vacated

/-- R57, R62: the bay whose flag has been cleared, where it stays OUT_OF_SERVICE. -/
theorem presenceCleared_bayLaw (h : ChargeLaw s)
    (retired : ((s.modBay b fun x => { x with present := false }).bay b).charge.state = .outOfService) :
    BayChargeLaw ((s.modBay b fun x => { x with present := false }).bay b) := by
  have bay : (s.modBay b fun x => { x with present := false }).bay b = { s.bay b with present := false } :=
    State.bay_modBay_same ..
  have law := h.bays b
  rw [bay] at retired ⊢
  exact ⟨law.voltage, law.vacant, law.resting, law.limit, law.grantFloor, law.wishFloor, law.cls, .inr (.inr retired)⟩

/-- R57: the whole of a presence loss. -/
theorem presenceLoss_chargeLaw (h : ChargeLaw s) :
    ChargeLaw (losePresence b (startWork (s.modBay b fun x => { x with present := false }))).st := by
  have but : ChargeLawBut b (s.modBay b fun x => { x with present := false }) := present_but h false
  have bay := presenceCleared_bayLaw (b := b) h
  generalize s.modBay b (fun x => { x with present := false }) = u at but bay ⊢
  exact losePresence_chargeLaw (w := startWork u) but bay

/-- R57, R58: an identification that begins where a condition holds and a tablet is there. -/
theorem identifyIf_chargeLaw {c : Bool} (h : ChargeLaw w.st) (present : c = true → (w.st.bay b).present = true) :
    ChargeLaw (if c then enterIdentifying b false w else w).st := by
  cases c
  · exact h
  · exact enterIdentifying_chargeLaw (h.but b) (h.bays b).voltage (present rfl) false

/-- R57: a presence gain, after the flag has been set. -/
theorem presenceGain_chargeLaw (h : ChargeLaw s) : ChargeLaw (s.modBay b fun x => { x with present := true }) := by
  have bay : (s.modBay b fun x => { x with present := true }).bay b = { s.bay b with present := true } :=
    State.bay_modBay_same ..
  have law := h.bays b
  refine (present_but h true).whole ⟨?_, ?_, ?_, ?_, ?_, ?_, ?_, ?_⟩ <;> rw [bay]
  · exact law.voltage
  · exact law.vacant
  · exact law.resting
  · exact law.limit
  · exact law.grantFloor
  · exact law.wishFloor
  · exact law.cls
  · exact .inl rfl

theorem takeField_chargeLaw (f : BaysetField) (e : CredentialEntry) (body : BaysetBody) (h : ChargeLaw w.st) :
    ChargeLaw (takeField f e body b w).st := by
  unfold takeField
  split
  · cases f
    case clearFault =>
      dsimp only
      unfold clearFault
      split
      · next faulted =>
        have state : (w.st.bay b).charge.state = .fault := by simpa using faulted
        have law := h.bays b
        exact enterIdentifying_chargeLaw (h.but b) law.voltage
          (law.present_of_state (by rw [state]; decide) (by rw [state]; decide)) false
      · exact h
    all_goals exact aside_chargeLaw (setAttrs_acts _) h
  · exact h

theorem takeBayset_chargeLaw (f : BaysetField) (ran : takeBayset f s = .next t) (h : ChargeLaw s) : ChargeLaw t := by
  have handed : ∀ x, ChargeLaw (s.setHand x .csu) := fun x =>
    Change.chargeLaw (.hand x .csu nofun) rfl h
  unfold takeBayset at ran
  split at ran
  · cases ran; exact h
  · split at ran
    · dsimp only at ran
      split at ran
      · cases ran
        exact finish_chargeLaw _ (aside_chargeLaw (chargeEvent_acts _ _ _ _ _ (by decide)) (handed none))
      · split at ran
        · split at ran
          · cases ran
            exact finish_chargeLaw _ (takeField_chargeLaw _ _ _ (handed _))
          · split at ran
            · cases ran; exact handed none
            · cases ran; exact h
        · cases ran; exact handed none
    · cases ran; exact h

theorem advance_chargeLaw (t : Nat) (h : ChargeLaw s) : ChargeLaw (s.advanceTo t) := (Change.time t).chargeLaw rfl h

/-- A change of the charge section that leaves what the law speaks of, by a record update. -/
theorem shortHold_chargeLaw (x : Option Nat) (h : ChargeLaw s) :
    ChargeLaw (s.modCharge b fun c => { c with shortHold := x }) :=
  h.of_charge (fun c => { c with shortHold := x }) fun _ => ⟨rfl, rfl, rfl, rfl, rfl, rfl⟩

theorem charge_chargeLaw {i : Instr} (group : groupOf i = .charge) (ran : exec i s = .next t) (h : ChargeLaw s) :
    ChargeLaw t := by
  cases i
  case measurement ports =>
    simp only [exec, execMeasurement] at ran
    split at ran
    · cases ran; exact h
    · cases ran
      exact finish_chargeLaw _ (takeMeasurement_chargeLaw ports (Change.chargeLaw (.meter _) rfl (advance_chargeLaw _ h)))
  case presenceGain b =>
    simp only [exec, execPresenceGain] at ran
    split at ran
    · cases ran
      have gained := presenceGain_chargeLaw (b := b) h
      have here : ((s.modBay b fun x => { x with present := true }).bay b).present = true := by
        rw [State.bay_modBay_same]
      exact finish_chargeLaw _ (identifyIf_chargeLaw (w := startWork _) gained fun _ => here)
    · cases ran; exact h
  case presenceLoss b =>
    simp only [exec, execPresenceLoss] at ran
    split at ran
    · exact carryOut_chargeLaw ran (presenceLoss_chargeLaw h)
    · cases ran; exact h
  case identificationTimerExpired b =>
    simp only [exec, execIdentificationTimerExpired] at ran
    split at ran
    · cases ran; exact h
    · next t _ =>
      split at ran
      · next state =>
        have later := advance_chargeLaw t h
        exact carryOut_chargeLaw ran (enterUnmanaged_chargeLaw (later.but b)
          ((h.bays b).present_of_state (by rw [state]; decide) (by rw [state]; decide)))
      · cases ran; exact h
  case unmanagedReadTimerExpired b =>
    simp only [exec, execUnmanagedReadTimerExpired] at ran
    split at ran
    · cases ran; exact h
    · next at_time _ =>
      split at ran
      · cases ran
        have later := advance_chargeLaw at_time h
        exact Change.chargeLaw (.reads [.ident]) rfl (later.of_charge (b := b)
          (fun c => { c with unmanagedTimer := some (at_time + unmanagedPeriod) }) fun _ => ⟨rfl, rfl, rfl, rfl, rfl, rfl⟩)
      · cases ran; exact h
  case shortTrip b =>
    simp only [exec, execShortTrip] at ran
    split at ran
    · cases ran; exact h
    · split at ran
      · next watched =>
        cases ran
        exact finish_chargeLaw _ (tripBay_chargeLaw _ (Bool.and_eq_true_iff.1 watched).1 (advance_chargeLaw _ h))
      · cases ran; exact h
  case shortHoldStart b mV =>
    simp only [exec, execShortHoldStart] at ran
    split at ran
    · cases ran; exact shortHold_chargeLaw _ h
    · cases ran; exact h
  case shortHoldAbandoned b mV =>
    simp only [exec, execShortHoldAbandoned] at ran
    split at ran
    · cases ran; exact h
    · cases ran; exact shortHold_chargeLaw _ h
  case baysetGroup => exact takeBayset_chargeLaw .group ran h
  case baysetOpenLevel => exact takeBayset_chargeLaw .openLevel ran h
  case baysetReserved => exact takeBayset_chargeLaw .reserved ran h
  case baysetOutOfService => exact takeBayset_chargeLaw .outOfService ran h
  case baysetProvOptOut => exact takeBayset_chargeLaw .optOut ran h
  case baysetClearFault => exact takeBayset_chargeLaw .clearFault ran h
  all_goals cases group

/-! ### Start-up, restart and the entry to ACTIVE -/

/-- Charge sections as after a reset. -/
theorem resetCharge_law (a : BayAttrs) (x : Bay) (charge : x.charge = resetCharge a) : BayChargeLaw x := by
  unfold resetCharge at charge
  refine ⟨?_, ?_, ?_, ?_, ?_, ?_, ?_, ?_⟩ <;> rw [charge]
  · exact (show (5 : Nat) ∈ portVoltages by decide)
  · exact fun _ => rfl
  · exact fun _ => ⟨rfl, rfl⟩
  · exact (portLimit_zero _).symm
  · exact .inl rfl
  · exact .inl rfl
  · exact Nat.le_of_ble_eq_true rfl
  · cases a.outOfService <;> [exact .inr (.inl rfl); exact .inr (.inr rfl)]

/-- Bays as after a reset have no grants. -/
theorem ChargeLaw.fresh (bays : ∀ b, (s.bay b).charge = {} ∨ ∃ a, (s.bay b).charge = resetCharge a)
    (minimum : Minimum s.cfl.config) : ChargeLaw s := by
  have fresh : ∀ b, ∃ a, (s.bay b).charge = resetCharge a := fun b =>
    (bays b).elim (fun empty => ⟨{}, empty⟩) id
  have none : ∀ b, (s.bay b).charge.grant = 0 := fun b => by
    obtain ⟨a, charge⟩ := fresh b
    rw [charge]
    rfl
  refine ⟨fun b => ?_, ?_, fun b _ => none b, minimum⟩
  · obtain ⟨a, charge⟩ := fresh b
    exact resetCharge_law a _ charge
  · exact (grantSum_le (grants := []) fun b => .inl (none b)).trans (Nat.zero_le _)

/-- R170: the values of a record, and the defaults. -/
theorem configResult_minimum (record : Option (List Byte)) : Minimum (configResult record).1 := by
  have defaults : Minimum defaultConfig := ⟨by decide, by decide⟩
  have held : ∀ r, Minimum (configOfRecord r) := fun r => ⟨le_max_left _ _, le_max_left _ _⟩
  unfold configResult
  repeat' split
  all_goals first | exact held _ | exact defaults

theorem identifyPresent_chargeLaw (h : ChargeLaw w.st) : ChargeLaw (identifyPresent b w).st :=
  identifyIf_chargeLaw h fun here => (Bool.and_eq_true_iff.1 here).1

/-- What the law of the charge sections speaks of. -/
theorem ChargeLaw.of_parts (law : ChargeLaw s) (bays : t.bays = s.bays) (bcc : t.bcc = s.bcc)
    (config : t.cfl.config = s.cfl.config) (populated : t.cfl.populated = s.cfl.populated) : ChargeLaw t := by
  have same : ∀ b, t.bay b = s.bay b := fun b => by rw [State.bay_congr bays]
  refine ⟨fun b => same b ▸ law.bays b, ?_, fun b none => ?_, config ▸ law.minimum⟩
  · rw [bcc]
    exact (grantSum_mono fun b => by rw [same]).trans law.applied
  · rw [same]
    exact law.unpopulated b (by simpa only [State.populated, populated] using none)

theorem freshState_charge {low : Bool} {pending : List Instr} {free : Nat} (b : BayIx) :
    ((freshState low pending free).bay b).charge = {} := by
  fin_cases b <;> rfl

theorem restart_chargeLaw {i : Instr} (alone : groupOf i = .alone) (ran : exec i s = .next t) (h : ChargeLaw s) :
    ChargeLaw t := by
  refine alone_keeps alone (fun s now law => law.of_parts rfl rfl rfl rfl) (fun _ _ _ => .fresh (fun b => ?_) ?_)
    (fun _ _ law => law.of_parts rfl rfl rfl rfl)
    (fun s law => .fresh (fun b => .inr ⟨_, by rw [bay_restartValues]⟩) law.minimum)
    (fun pins s _ law => .fresh (fun b => ?_) law.minimum)
    (fun record s _ law => ?_)
    (fun e may _ _ changed law => changed.chargeLaw (by rcases may with rfl | rfl | ⟨f, rfl⟩ <;> rfl) law)
    (fun s _ law => ?_) finish_chargeLaw ran h
  · exact .inl (freshState_charge b)
  · exact configResult_minimum none
  · by_cases counted : b.val < countOf pins.count
    · exact .inr ⟨_, by rw [bay_readStraps_sampled _ _ _ counted]⟩
    · exact .inl (by rw [bay_readStraps_unsampled _ _ _ (Nat.le_of_not_lt counted)])
  · have minimum := configResult_minimum record
    have loaded : ChargeLaw (loadConfig (configResult record) s) :=
      ⟨law.bays, law.applied, law.unpopulated, minimum⟩
    unfold endConfigRead
    dsimp only
    split
    · exact loaded
    · exact loaded.of_parts rfl rfl rfl rfl
  · have shared : ChargeLaw (firstShare s).st := by
      simp only [firstShare, recompute, Work.raiseIf_st, Work.upd_st]
      rw [recomputed_eq]
      exact law.of_parts rfl rfl rfl rfl
    have timed : ChargeLaw (timersRunning s).st := shared.of_parts rfl rfl rfl rfl
    have offered : ChargeLaw (firstHeartbeat s).st := by
      rw [firstHeartbeat, offerHeartbeat_st]
      exact timed.of_parts rfl rfl rfl rfl
    rw [enterActive_eq]
    exact forEach_chargeLaw (f := identifyPresent) (fun _ _ => identifyPresent_chargeLaw) _ offered

theorem step_chargeLaw (ran : step s = .next t) (h : ChargeLaw s) : ChargeLaw t := by
  refine step_keeps ran (fun g => g == .charge) (fun _ _ _ law => law.of_parts rfl rfl rfl rfl)
    (fun g other e may _ _ changed law => changed.chargeLaw ?_ law) finish_chargeLaw
    (fun _ which _ _ ran law => ?_) h
  · cases g
    case charge => cases other
    case alone => exact absurd may (Set.notMem_empty _)
    all_goals (cases e <;> first | rfl | exact absurd may id)
  · rcases which with alone | group
    · exact restart_chargeLaw alone ran law
    · exact charge_chargeLaw (by simpa using group) ran law

end

/-- Settles O55: the grants of a split fit its allowance (R67), the other operations lower grants or leave them, and each
leaves the section of its bay in order. -/
theorem stepsKeepTheChargeLaw : Obligations.StepsKeepTheChargeLaw := fun _ _ h ran => step_chargeLaw ran h

end Sys2Proof.Machine
end

section
/-! What the law of the lanes speaks of (R140, R146, R151), and what the operations of the PVS make of it. -/

namespace Sys2Proof.Machine

@[simp] theorem State.claim_modProv (s : State) (b c : BayIx) (f : Prov → Prov) :
    ((s.modProv b f).bay c).claim = (s.bay c).claim := s.read_modBay b c (·.claim) fun _ => rfl

@[simp] theorem State.claim_modDoor (s : State) (b c : BayIx) (f : Door → Door) :
    ((s.modDoor b f).bay c).claim = (s.bay c).claim := s.read_modBay b c (·.claim) fun _ => rfl

@[simp] theorem State.claim_modCounters (s : State) (b c : BayIx) (f : BayCounters → BayCounters) :
    ((s.modCounters b f).bay c).claim = (s.bay c).claim := s.read_modBay b c (·.claim) fun _ => rfl

/-! ### What the law speaks of -/

/-- What the law of the lanes says of a bay: its switch, its door, its claim. -/
structure LaneBay where
  switch : Option LaneIx
  state : DoorState
  pending : Bool
  release : Option ReleaseRecord
  claim : Option PendingClaim

/-- What the law of the lanes reads of a bay. -/
def Bay.laneBay (x : Bay) : LaneBay := ⟨x.prov.switch, x.door.state, x.door.pendingLane, x.door.release, x.claim⟩

/-- Two states in which the law of the lanes reads the same. -/
structure LaneSame (s t : State) : Prop where
  queue : t.pvs.queue = s.pvs.queue
  lane : ∀ n, t.lane n = s.lane n
  bay : ∀ b, (t.bay b).laneBay = (s.bay b).laneBay

/-- The effects that the law of the lanes has to say something of. -/
def Effect.ofLane : Effect → Bool
  | .items | .lane | .prov _ | .switch _ | .release _ | .pend _ | .door _ | .claim _ | .claimed _ | .lanes => true
  | _ => false

section
variable {r s t : State} {b c : BayIx} {w : Work}

theorem LaneSame.refl (s : State) : LaneSame s s := ⟨rfl, fun _ => rfl, fun _ => rfl⟩

theorem LaneSame.trans (h : LaneSame r s) (h' : LaneSame s t) : LaneSame r t :=
  ⟨h'.queue.trans h.queue, fun n => (h'.lane n).trans (h.lane n), fun b => (h'.bay b).trans (h.bay b)⟩

theorem LaneSame.of_bays (pvs : t.pvs = s.pvs) (bays : t.bays = s.bays) : LaneSame s t :=
  ⟨by rw [pvs], fun n => by simp only [State.lane, pvs], fun b => by rw [State.bay_congr bays]⟩

/-- A rewriting of a bay that leaves what the law of the lanes reads. -/
theorem LaneSame.of_modBay {f : Bay → Bay} (same : ∀ x, (f x).laneBay = x.laneBay) : LaneSame s (s.modBay b f) :=
  ⟨rfl, fun _ => rfl, fun c => s.read_modBay b c Bay.laneBay same⟩

theorem Change.laneSame {e : Effect} (h : Change e s t) (other : e.ofLane = false) : LaneSame s t := by
  cases h
  case recompute =>
    rw [recomputed_eq]
    exact .of_bays rfl rfl
  case reads b rs =>
    unfold requestReads
    split <;> first | exact .refl s | exact .of_modBay fun _ => rfl
  case hand x k may => cases k <;> exact .of_bays rfl rfl
  case items | lane | prov | release | pend | door | claim | claimed | lanes | switch => cases other
  case wish b => exact .of_modBay fun _ => rfl
  case tune b x tuned => exact .of_modBay fun _ => rfl
  case enter b x => exact .of_modBay fun _ => rfl
  case write b x active limit => exact .of_modBay fun _ => rfl
  case answered b => exact .of_modBay fun _ => rfl
  case profileNow b active =>
    unfold profileAtOnce
    exact .of_modBay fun _ => rfl
  case channelUp b off => exact .of_modBay fun _ => rfl
  case channel b x => exact .of_modBay fun _ => rfl
  case count b k sessions => exact .of_modBay fun _ => rfl
  case session b k => exact .of_modBay fun _ => rfl
  case view b v => exact .of_modBay fun _ => rfl
  case attrs b v => exact .of_modBay fun _ => rfl
  case present b p => exact .of_modBay fun _ => rfl
  all_goals exact .of_bays rfl rfl

theorem Acts.laneSame {can : Set Effect} {u v : Work} (acts : Acts can u v) (other : ∀ e ∈ can, e.ofLane = false) :
    LaneSame u.st v.st :=
  acts.keeps (P := LaneSame u.st) (fun e may _ _ changed same => same.trans (changed.laneSame (other e may))) (.refl _)

theorem LaneSame.switch (h : LaneSame s t) (b : BayIx) : (t.bay b).prov.switch = (s.bay b).prov.switch :=
  congrArg LaneBay.switch (h.bay b)
theorem LaneSame.state (h : LaneSame s t) (b : BayIx) : (t.bay b).door.state = (s.bay b).door.state :=
  congrArg LaneBay.state (h.bay b)
theorem LaneSame.pending (h : LaneSame s t) (b : BayIx) : (t.bay b).door.pendingLane = (s.bay b).door.pendingLane :=
  congrArg LaneBay.pending (h.bay b)
theorem LaneSame.release (h : LaneSame s t) (b : BayIx) : (t.bay b).door.release = (s.bay b).door.release :=
  congrArg LaneBay.release (h.bay b)
theorem LaneSame.claim (h : LaneSame s t) (b : BayIx) : (t.bay b).claim = (s.bay b).claim :=
  congrArg LaneBay.claim (h.bay b)

/-! ### The law -/

/-- The law where the sessions stay at their bays and the queue loses items at most. -/
theorem LaneLaw.of_sessions (h : LaneLaw s) (queue : t.pvs.queue.Sublist s.pvs.queue)
    (lane : ∀ n y, t.lane n = some y → ∃ x, s.lane n = some x ∧ y.bay = x.bay)
    (switch : ∀ (b : BayIx) (n : LaneIx), (t.bay b).prov.switch = some n →
      (t.bay b).door.state = .secure ∧ ∃ x, t.lane n = some x ∧ x.bay = b ∧ x.stage = .connected)
    (pending : ∀ b : BayIx, (t.bay b).door.pendingLane = true → (t.bay b).door.state = .secure)
    (free : ∀ (n : LaneIx) (x : LaneSession), t.lane n = some x → laneWorks x.stage = true →
      (t.bay x.bay).claim = none ∧ (t.bay x.bay).door.release = none) : LaneLaw t := by
  refine ⟨h.once.sublist queue, fun x among n y session => ?_, fun x y first second => ?_, switch, pending, free⟩
  · obtain ⟨z, served, same⟩ := lane n y session
    exact same ▸ h.notBoth x (queue.subset among) n z served
  · obtain ⟨z, served, same⟩ := lane 0 x first
    obtain ⟨z', served', same'⟩ := lane 1 y second
    exact same ▸ same' ▸ h.apart z z' served served'

theorem LaneLaw.of_same (h : LaneLaw s) (same : LaneSame s t) : LaneLaw t := by
  refine h.of_sessions (same.queue ▸ List.Sublist.refl _) (fun n y session => ⟨y, same.lane n ▸ session, rfl⟩)
    (fun b n closed => ?_) (fun b waits => ?_) (fun n x session works => ?_)
  · rw [same.switch] at closed
    rw [same.state, same.lane]
    exact h.switch b n closed
  · rw [same.pending] at waits
    rw [same.state]
    exact h.pendingLane b waits
  · rw [same.lane] at session
    rw [same.claim, same.release]
    exact h.free n x session works

theorem LaneLaw.of_change {e : Effect} (h : LaneLaw s) (changed : Change e s t) (other : e.ofLane = false) : LaneLaw t :=
  h.of_same (changed.laneSame other)

theorem Acts.laneLaw {can : Set Effect} {u v : Work} (acts : Acts can u v) (other : ∀ e ∈ can, e.ofLane = false)
    (h : LaneLaw u.st) : LaneLaw v.st := h.of_same (acts.laneSame other)

/-- R140: two sessions of one bay are those of one lane machine. -/
theorem LaneLaw.same_lane (h : LaneLaw s) {n m : LaneIx} {x y : LaneSession} (at_n : s.lane n = some x)
    (at_m : s.lane m = some y) (same : x.bay = y.bay) : n = m := by
  have cases_lane : ∀ k : LaneIx, k = 0 ∨ k = 1 := by decide
  rcases cases_lane n with rfl | rfl <;> rcases cases_lane m with rfl | rfl
  · rfl
  · exact absurd same (h.apart x y at_n at_m)
  · exact absurd same.symm (h.apart y x at_m at_n)
  · rfl

theorem laneWorking_eq_true_iff :
    s.laneWorking b = true ↔ ∃ n x, s.lane n = some x ∧ x.bay = b ∧ laneWorks x.stage = true := by
  have all : ∀ n : LaneIx, n ∈ allLanes := by decide
  simp only [State.laneWorking, List.any_eq_true]
  refine exists_congr fun n => ?_
  simp only [all n, true_and]
  change (match s.lane n with | some x => x.bay == b && laneWorks x.stage | none => false) = true ↔ _
  cases s.lane n <;> simp

theorem laneWorking_eq_false_iff :
    s.laneWorking b = false ↔ ∀ n x, s.lane n = some x → x.bay = b → laneWorks x.stage = false := by
  rw [← Bool.not_eq_true, laneWorking_eq_true_iff]
  simp

/-- The law leaves a claim to a bay with no lane machine at work. -/
theorem LaneLaw.of_claim (h : LaneLaw s) (c : Option PendingClaim)
    (free : c = none ∨ (s.bay b).claim.isSome = true ∨ s.laneWorking b = false) :
    LaneLaw (s.modBay b fun x => { x with claim := c }) := by
  have switch : ∀ d, ((s.modBay b fun x => { x with claim := c }).bay d).prov = (s.bay d).prov := fun d =>
    s.read_modBay b d (·.prov) fun _ => rfl
  have door : ∀ d, ((s.modBay b fun x => { x with claim := c }).bay d).door = (s.bay d).door := fun d =>
    s.read_modBay b d (·.door) fun _ => rfl
  refine h.of_sessions (.refl _) (fun n y session => ⟨y, session, rfl⟩) (fun d n closed => ?_) (fun d waits => ?_)
    (fun n x session works => ?_)
  · rw [switch] at closed
    rw [door]
    exact h.switch d n closed
  · rw [door] at waits ⊢
    exact h.pendingLane d waits
  · rw [door, State.bay_modBay_at]
    have law := h.free n x session works
    refine ⟨?_, law.2⟩
    split
    · next here =>
      rcases free with none | claimed | idle
      · exact none
      · rw [← here, law.1] at claimed
        cases claimed
      · have rests := laneWorking_eq_false_iff.1 idle n x session here
        rw [works] at rests
        cases rests
    · exact law.1

/-! ### The effects of the PVS's operations on what the law reads -/

theorem ofLane_of_writing {r : DockRegister} {e : Effect} (h : e ∈ writing r b) : e.ofLane = false := by
  rcases h with rfl | ⟨x, -, rfl | ⟨o, rfl⟩⟩ <;> rfl

theorem ofLane_of_refreshing {e : Effect} (h : e ∈ refreshing b) : e.ofLane = false := by
  rcases h with rfl | rfl | rfl | rfl <;> rfl

theorem ofLane_of_placing {k : FrameKind} {e : Effect} (h : e ∈ placing k) : e.ofLane = false := by
  rcases h with rfl | ⟨f, rfl⟩ <;> rfl

theorem ofLane_of_charging {e : Effect} (h : e ∈ charging b) : e.ofLane = false := by
  rcases h with (((rfl | rfl) | h) | h) | h
  · rfl
  · rfl
  · exact ofLane_of_refreshing h
  · rcases h with rfl | rfl | rfl | rfl <;> rfl
  · exact ofLane_of_writing h

/-- A session that is over at its bay, before the frame and the write that follow. -/
def sessionOver (n : LaneIx) (x : LaneSession) (o : LaneOutcome) (s : State) : State :=
  (s.modProv x.bay fun p => { p with switch := none }).setLane n
    (some { x with stage := .releasing o, wakeWait := none, limit := none })

theorem countOutcome_laneBay (k : SlotIx) (o : LaneOutcome) (x : Bay) : (countOutcome k o x).laneBay = x.laneBay := by
  unfold countOutcome
  split
  · rfl
  · split <;> rfl

/-- R152: what the end of a session is to the law of the lanes. -/
theorem endSession_same {n : LaneIx} {x : LaneSession} (o : LaneOutcome) (session : w.st.lane n = some x)
    (works : laneWorks x.stage = true) : LaneSame (sessionOver n x o w.st) (endSession n o w).st := by
  unfold endSession
  simp only [session, works, if_true]
  have refreshed (u : Work) : LaneSame u.st (refreshWish x.bay u).st :=
    (refreshWish_acts subset_rfl).laneSame fun _ => ofLane_of_refreshing
  have counted (s : State) : LaneSame s (s.modBay x.bay (countOutcome x.slot o)) :=
    .of_modBay (countOutcome_laneBay x.slot o)
  have placed (f : TxFrame) (u : Work) : LaneSame u.st (place f u).st := by
    rw [place_eq]
    exact .of_bays rfl rfl
  have written (y : ProvWrite) (u : Work) : LaneSame u.st (requestWrite x.bay (.provControl y) u).st :=
    (requestWrite_acts (.provControl y) (fun _ its => by cases its) subset_rfl).laneSame fun _ => ofLane_of_writing
  generalize ended : (w.upd fun s => (s.modProv x.bay fun p => { p with switch := none }).setLane n
    (some { x with stage := .releasing o, wakeWait := none, limit := none })) = u
  have start : sessionOver n x o w.st = u.st := congrArg Work.st ended
  rw [start]
  exact (((refreshed u).trans (counted _)).trans
    (placed _ ((refreshWish x.bay u).upd fun s => s.modBay x.bay (countOutcome x.slot o)))).trans (written _ _)

theorem endSession_stay {n : LaneIx} (o : LaneOutcome)
    (idle : ∀ x, w.st.lane n = some x → laneWorks x.stage = false) : endSession n o w = w := by
  unfold endSession
  split
  · rfl
  · next x session => simp [idle x session]

@[simp] theorem sessionOver_door (n : LaneIx) (x : LaneSession) (o : LaneOutcome) (s : State) (c : BayIx) :
    ((sessionOver n x o s).bay c).door = (s.bay c).door := by
  simp [sessionOver]

theorem sessionOver_claim (n : LaneIx) (x : LaneSession) (o : LaneOutcome) (s : State) (c : BayIx) :
    ((sessionOver n x o s).bay c).claim = (s.bay c).claim := by
  simp [sessionOver]

theorem sessionOver_switch (n : LaneIx) (x : LaneSession) (o : LaneOutcome) (s : State) (c : BayIx) :
    ((sessionOver n x o s).bay c).prov.switch = if c = x.bay then none else (s.bay c).prov.switch := by
  have moved : ((sessionOver n x o s).bay c).prov =
      if c = x.bay then { (s.bay c).prov with switch := none } else (s.bay c).prov := by
    unfold sessionOver
    exact State.prov_modProv s x.bay c fun p => { p with switch := none }
  rw [moved]
  split <;> rfl

theorem sessionOver_lane (n m : LaneIx) (x : LaneSession) (o : LaneOutcome) (s : State) :
    (sessionOver n x o s).lane m =
      if m = n then some { x with stage := .releasing o, wakeWait := none, limit := none } else s.lane m :=
  State.lane_setLane ..

/-- R152: the end of a session, where a law holds but for what R151 says of the bay. -/
theorem sessionOver_laneLaw {n : LaneIx} {x : LaneSession} (o : LaneOutcome) (session : s.lane n = some x)
    (h : LaneLaw r) (queue : s.pvs.queue = r.pvs.queue) (lane : ∀ n, s.lane n = r.lane n)
    (switch : ∀ b, (s.bay b).prov.switch = (r.bay b).prov.switch)
    (state : ∀ b, (s.bay b).door.state = (r.bay b).door.state)
    (pending : ∀ b, (s.bay b).door.pendingLane = true → (s.bay b).door.state = .secure)
    (others : ∀ b, b ≠ x.bay → (s.bay b).claim = (r.bay b).claim ∧ (s.bay b).door.release = (r.bay b).door.release) :
    LaneLaw (sessionOver n x o s) := by
  have served : r.lane n = some x := lane n ▸ session
  refine h.of_sessions (queue ▸ List.Sublist.refl _) (fun m y at_m => ?_) (fun b m closed => ?_) (fun b waits => ?_)
    (fun m y at_m works => ?_)
  · rw [sessionOver_lane] at at_m
    split at at_m
    · next same => cases at_m; exact ⟨x, same ▸ served, rfl⟩
    · exact ⟨y, lane m ▸ at_m, rfl⟩
  · rw [sessionOver_switch] at closed
    split at closed
    · cases closed
    · next other =>
      rw [switch] at closed
      obtain ⟨secure, y, at_m, at_b, connected⟩ := h.switch b m closed
      rw [sessionOver_door, sessionOver_lane, state]
      refine ⟨secure, y, ?_, at_b, connected⟩
      rw [if_neg, lane, at_m]
      rintro rfl
      rw [served] at at_m
      cases at_m
      exact other at_b.symm
  · rw [sessionOver_door] at waits ⊢
    exact pending b waits
  · rw [sessionOver_lane] at at_m
    split at at_m
    · cases at_m; cases works
    · next other =>
      rw [lane] at at_m
      have apart : y.bay ≠ x.bay := fun same => other (h.same_lane at_m served same)
      rw [sessionOver_door, sessionOver_claim, (others y.bay apart).1, (others y.bay apart).2]
      exact h.free m y at_m works

theorem endSession_laneLaw (n : LaneIx) (o : LaneOutcome) (h : LaneLaw w.st) : LaneLaw (endSession n o w).st := by
  cases session : w.st.lane n with
  | none =>
    rw [endSession_stay o fun x its => by rw [session] at its; cases its]
    exact h
  | some x =>
    by_cases works : laneWorks x.stage = true
    · refine LaneLaw.of_same ?_ (endSession_same o session works)
      exact sessionOver_laneLaw o session h rfl (fun _ => rfl) (fun _ => rfl) (fun _ => rfl) h.pendingLane
        fun _ _ => ⟨rfl, rfl⟩
    · rw [endSession_stay o fun y its => by rw [session] at its; cases its; simpa using works]
      exact h

theorem abortLane_laneLaw (o : LaneOutcome) (h : LaneLaw w.st) : LaneLaw (abortLane b o w).st := by
  unfold abortLane
  split <;> [exact h; exact endSession_laneLaw _ o h]

theorem clearAttempts_laneLaw (h : LaneLaw s) : LaneLaw (clearAttempts b s) := by
  unfold clearAttempts
  exact h.of_same (.of_modBay fun _ => rfl)

/-- A session that goes on at its bay in its stage. -/
theorem setLane_laneLaw {n : LaneIx} {x y : LaneSession} (session : s.lane n = some x) (bay : y.bay = x.bay)
    (stage : y.stage = x.stage) (h : LaneLaw s) : LaneLaw (s.setLane n (some y)) := by
  refine h.of_sessions (.refl _) (fun m z at_m => ?_) (fun b m closed => ?_) h.pendingLane (fun m z at_m works => ?_)
  · rw [State.lane_setLane] at at_m
    split at at_m
    · next same => cases at_m; exact ⟨x, same ▸ session, bay⟩
    · exact ⟨z, at_m, rfl⟩
  · obtain ⟨secure, z, at_m, at_b, connected⟩ := h.switch b m closed
    refine ⟨secure, ?_⟩
    rw [State.lane_setLane]
    split
    · next same =>
      rw [same, session] at at_m
      cases at_m
      exact ⟨y, rfl, bay.trans at_b, stage.trans connected⟩
    · exact ⟨z, at_m, at_b, connected⟩
  · rw [State.lane_setLane] at at_m
    split at at_m
    · next same =>
      cases at_m
      have law := h.free n x session (stage ▸ works)
      rw [← bay] at law
      exact law
    · exact h.free m z at_m works

/-- R152: a lane machine in RELEASING becomes IDLE. -/
theorem becomeIdle_laneLaw {n : LaneIx} {x : LaneSession} (session : w.st.lane n = some x)
    (rests : x.stage ≠ .connected) (h : LaneLaw w.st) : LaneLaw (becomeIdle n b w).st := by
  have idle : LaneLaw (w.st.setLane n none) := by
    refine h.of_sessions (.refl _) (fun m z at_m => ?_) (fun b m closed => ?_) h.pendingLane (fun m z at_m works => ?_)
    · rw [State.lane_setLane] at at_m
      split at at_m
      · cases at_m
      · exact ⟨z, at_m, rfl⟩
    · obtain ⟨secure, z, at_m, at_b, connected⟩ := h.switch b m closed
      refine ⟨secure, z, ?_, at_b, connected⟩
      rw [State.lane_setLane, if_neg, at_m]
      rintro rfl
      rw [session] at at_m
      cases at_m
      exact rests connected
    · rw [State.lane_setLane] at at_m
      split at at_m
      · cases at_m
      · exact h.free m z at_m works
  exact idle

theorem provEnded_laneLaw (v : ProvWrite) (o : WriteOutcome) (h : LaneLaw w.st) : LaneLaw (provEnded b v o w).st := by
  unfold provEnded
  split
  · exact h
  · next n serves =>
    split
    · exact h
    · next x session =>
      split
      · exact setLane_laneLaw session rfl rfl h
      · exact endSession_laneLaw _ _ h
      · exact h
      · next stage _ _ => exact becomeIdle_laneLaw session (by simp [stage]) h
      · exact h

/-- R150: the entry to CONNECTED. -/
theorem enterConnected_laneLaw {n : LaneIx} {x : LaneSession} (session : w.st.lane n = some x)
    (stage : x.stage = .waking) (h : LaneLaw w.st) : LaneLaw (enterConnected n x w).st := by
  have lane : ∀ m, (enterConnected n x w).st.lane m = if m = n then some { x with
      stage := .connected, wakeWait := none, entered := some w.st.now,
      limit := some (w.st.now + ((w.st.campaign x.slot).map fun c => c.limit).getD 0 * 60000) } else w.st.lane m :=
    fun m => State.lane_setLane ..
  have door : ∀ c, ((enterConnected n x w).st.bay c).door = (w.st.bay c).door := fun c => by
    simp [enterConnected]
  have claim : ∀ c, ((enterConnected n x w).st.bay c).claim = (w.st.bay c).claim := fun c => by
    simp [enterConnected]
  have switch : ∀ c, ((enterConnected n x w).st.bay c).prov = if c = x.bay then
      { (w.st.bay c).prov with switch := if (w.st.bay x.bay).door.state = .secure then some n else none }
      else (w.st.bay c).prov := fun c => by
    unfold enterConnected
    exact State.prov_modProv w.st x.bay c fun p =>
      { p with switch := if (w.st.bay x.bay).door.state = .secure then some n else none }
  refine h.of_sessions (.refl _) (fun m z at_m => ?_) (fun c m closed => ?_) (fun c waits => ?_) (fun m z at_m works => ?_)
  · rw [lane] at at_m
    split at at_m
    · next same => cases at_m; exact ⟨x, same ▸ session, rfl⟩
    · exact ⟨z, at_m, rfl⟩
  · rw [switch] at closed
    rw [door, lane]
    split at closed
    · next here =>
      dsimp only at closed
      split at closed
      · next secure =>
        cases closed
        rw [if_pos rfl, here]
        exact ⟨secure, _, rfl, rfl, rfl⟩
      · cases closed
    · obtain ⟨secure, z, at_m, at_c, connected⟩ := h.switch c m closed
      refine ⟨secure, z, ?_, at_c, connected⟩
      rw [if_neg, at_m]
      rintro rfl
      rw [session] at at_m
      cases at_m
      rw [stage] at connected
      cases connected
  · rw [door] at waits ⊢
    exact h.pendingLane c waits
  · rw [lane] at at_m
    rw [claim, door]
    split at at_m
    · cases at_m
      exact h.free n x session (by rw [stage]; rfl)
    · exact h.free m z at_m works

theorem profileReading_laneLaw (h : LaneLaw w.st) : LaneLaw (profileReading b w).st := by
  unfold profileReading
  split
  · exact h
  · next n serves =>
    split
    · next x p session _ =>
      split
      · next stage =>
        split
        · split
          · exact enterConnected_laneLaw session stage h
          · exact endSession_laneLaw _ _ h
          all_goals exact h
        · exact h
      · split
        iterate 3 exact endSession_laneLaw _ _ h
        all_goals exact h
      · exact h
    · exact h

end

end Sys2Proof.Machine
end

section
/-! Every step keeps the law of the lanes: the queue, selection, releases, the doors, campaigns, start-up. -/

namespace Sys2Proof.Machine

section
variable {r s t : State} {b c : BayIx} {w : Work}

/-! ### The effects that leave the law -/

/-- The effects that the law of the lanes asks for more than the effect says. -/
def Effect.ofSession : Effect → Bool
  | .items | .lane | .prov _ | .switch _ | .release _ | .pend _ | .door _ | .lanes => true
  | _ => false

theorem Change.laneLaw {e : Effect} (changed : Change e s t) (other : e.ofSession = false) (h : LaneLaw s) :
    LaneLaw t := by
  by_cases plain : e.ofLane = false
  · exact h.of_change changed plain
  · cases changed
    case claim b => exact h.of_claim none (.inl rfl)
    case claimed b c free => exact h.of_claim c (.inr free)
    case items | lane | prov | switch | release | pend | door | lanes => cases other
    all_goals exact absurd rfl plain

theorem Acts.keepsLanes {can : Set Effect} {u v : Work} (acts : Acts can u v) (other : ∀ e ∈ can, e.ofSession = false)
    (h : LaneLaw u.st) : LaneLaw v.st :=
  acts.keeps (fun e may _ _ changed law => changed.laneLaw (other e may) law) h

/-! ### The queue (R145, R146) -/

theorem insertItem_perm (x : QueueItem) (q : List QueueItem) : (insertItem x q).Perm (x :: q) := by
  induction q with
  | nil => exact .refl _
  | cons y q ih =>
    unfold insertItem
    split
    · exact .refl _
    · exact (List.Perm.cons y ih).trans (List.Perm.swap x y q)

theorem mem_dropItem {x : QueueItem} {q : List QueueItem} : x ∈ dropItem b q ↔ x ∈ q ∧ x.bay ≠ b := by
  simp [dropItem]

theorem itemOf_eq_none_iff {q : List QueueItem} : itemOf b q = none ↔ ∀ x ∈ q, x.bay ≠ b := by
  simp [itemOf]

theorem bay_of_itemOf {x : QueueItem} {q : List QueueItem} (h : itemOf b q = some x) : x.bay = b := by
  simpa using List.find?_some h

/-- An item more, of a bay that has none and is on no lane. -/
theorem LaneLaw.of_inserted (h : LaneLaw s) {q : List QueueItem} (less : q.Sublist s.pvs.queue) {x : QueueItem}
    (fresh : ∀ y ∈ q, y.bay ≠ x.bay) (free : s.laneOf x.bay = none) (streak : Nat) :
    LaneLaw (s.modPvs fun p => { p with queue := insertItem x q, streak := streak }) := by
  refine ⟨?_, fun y among n z session => ?_, h.apart, h.switch, h.pendingLane, h.free⟩
  · refine ((insertItem_perm x q).pairwise_iff fun apart => apart.symm).2 (List.pairwise_cons.2 ⟨?_, h.once.sublist less⟩)
    exact fun y among => (fresh y among).symm
  · rcases List.mem_cons.1 ((insertItem_perm x q).subset among) with rfl | before
    · exact laneOf_eq_none_iff.1 free n z session
    · exact h.notBoth y (less.subset before) n z session

/-- Items less. -/
theorem LaneLaw.of_dropped (h : LaneLaw s) {q : List QueueItem} (less : q.Sublist s.pvs.queue) (streak : Nat) :
    LaneLaw (s.modPvs fun p => { p with queue := q, streak := streak }) :=
  h.of_sessions less (fun _ y session => ⟨y, session, rfl⟩) h.switch h.pendingLane h.free

theorem evaluateBay_laneLaw (h : LaneLaw s) : LaneLaw (evaluateBay b s) := by
  have dropped : (dropItem b s.pvs.queue).Sublist s.pvs.queue := List.filter_sublist
  unfold evaluateBay
  split
  · exact h
  · next unserved =>
    have free : s.laneOf b = none := by simpa using unserved
    unfold alignQueue
    split
    · exact h.of_dropped (.refl _) s.pvs.streak
    · next k absent _ => exact h.of_inserted (.refl _) (itemOf_eq_none_iff.1 absent) free s.pvs.streak
    · exact h.of_dropped dropped s.pvs.streak
    · next x k held _ =>
      have same := bay_of_itemOf held
      refine h.of_inserted dropped (fun y among => ?_) ?_ s.pvs.streak
      · exact same ▸ (mem_dropItem.1 among).2
      · exact same ▸ free

theorem selectIf_st (added : Bool) (w : Work) : (selectIf added w).st = w.st := by
  cases added <;> rfl

theorem reevaluateAll_laneLaw (h : LaneLaw w.st) : LaneLaw (reevaluateAll w).st := by
  unfold reevaluateAll
  rw [selectIf_st]
  generalize allBays = bays
  induction bays generalizing w with
  | nil => exact h
  | cons b bays ih => exact ih (w := w.upd (evaluateBay b)) (evaluateBay_laneLaw h)

/-! ### Selection (R147, R148) -/

theorem eligible_free {k : SlotIx} (h : eligible s b k = true) :
    s.laneOf b = none ∧ (s.bay b).claim = none ∧ (s.bay b).door.release = none := by
  unfold eligible at h
  split at h
  · cases h
  · simp only [bayEligible, Bool.and_eq_true, Option.isNone_iff_eq_none] at h
    exact ⟨h.2, h.1.1.1.1.2.1.1.2, h.1.1.1.1.2.1.1.1.2⟩

/-- R148: a session that begins, at a bay that is on no lane and not queued, with no claim and no release. -/
theorem setLane_waking_laneLaw {n : LaneIx} {x : LaneSession} (idle : s.lane n = none)
    (unserved : s.laneOf x.bay = none) (unqueued : ∀ y ∈ s.pvs.queue, y.bay ≠ x.bay)
    (free : (s.bay x.bay).claim = none ∧ (s.bay x.bay).door.release = none) (h : LaneLaw s) :
    LaneLaw (s.setLane n (some x)) := by
  have apart : ∀ m y, s.lane m = some y → y.bay ≠ x.bay := laneOf_eq_none_iff.1 unserved
  refine ⟨h.once, fun y among m z at_m => ?_, fun y z at_0 at_1 => ?_, fun c m closed => ?_, h.pendingLane,
    fun m z at_m works => ?_⟩
  · rw [State.lane_setLane] at at_m
    split at at_m
    · cases at_m
      exact (unqueued y among).symm
    · exact h.notBoth y among m z at_m
  · rw [State.lane_setLane] at at_0 at_1
    split at at_0
    · next here =>
      subst here
      rw [if_neg (by decide)] at at_1
      cases at_0
      exact (apart _ z at_1).symm
    · split at at_1
      · cases at_1
        exact apart _ y at_0
      · exact h.apart y z at_0 at_1
  · obtain ⟨secure, z, at_m, at_c, connected⟩ := h.switch c m closed
    refine ⟨secure, z, ?_, at_c, connected⟩
    rw [State.lane_setLane, if_neg, at_m]
    rintro rfl
    rw [idle] at at_m
    cases at_m
  · rw [State.lane_setLane] at at_m
    split at at_m
    · cases at_m
      exact free
    · exact h.free m z at_m works

theorem profileAtOnce_same (b : BayIx) (s : State) : LaneSame s (profileAtOnce b s) := by
  unfold profileAtOnce
  exact .of_modBay fun _ => rfl

theorem enterWaking_laneLaw {n : LaneIx} {x : QueueItem} (c : Campaign) (idle : w.st.lane n = none)
    (unserved : w.st.laneOf x.bay = none) (unqueued : ∀ y ∈ w.st.pvs.queue, y.bay ≠ x.bay)
    (free : (w.st.bay x.bay).claim = none ∧ (w.st.bay x.bay).door.release = none) (h : LaneLaw w.st) :
    LaneLaw (enterWaking n x c w).st := by
  unfold enterWaking
  extract_lets w₁ w₂
  have waking : LaneLaw w₁.st :=
    setLane_waking_laneLaw (x := wakingSession w.st x c) idle unserved unqueued free h
  have asked : LaneLaw w₂.st := (requestWrite_acts (.provControl { enter := true, campaign := c.id })
    (fun _ its => by cases its) subset_rfl).laneLaw (fun _ => ofLane_of_writing) waking
  have due : LaneLaw (w₂.upd (profileAtOnce x.bay)).st := asked.of_same (profileAtOnce_same _ _)
  exact (refreshWish_acts subset_rfl).laneLaw (fun _ => ofLane_of_refreshing) due

theorem selectFrom_laneLaw {n : LaneIx} (k : Nat) (idle : w.st.lane n = none) (h : LaneLaw w.st) :
    LaneLaw (selectFrom n k w).st := by
  induction k generalizing w with
  | zero => exact h
  | succ k ih =>
    unfold selectFrom
    split
    · exact h
    · next x streak _ =>
      dsimp only
      have dropped : LaneLaw (w.upd fun s => s.modPvs fun p => { p with queue := dropItem x.bay p.queue }).st :=
        h.of_dropped (q := dropItem x.bay w.st.pvs.queue) List.filter_sublist w.st.pvs.streak
      split
      · exact ih idle dropped
      · next c _ =>
        split
        · next fits =>
          obtain ⟨unserved, claim, release⟩ := eligible_free fits
          have again : LaneLaw ((w.upd fun s => s.modPvs fun p => { p with queue := dropItem x.bay p.queue }).upd
              fun s => s.modPvs fun p => { p with streak := streak }).st :=
            h.of_dropped (q := dropItem x.bay w.st.pvs.queue) List.filter_sublist streak
          exact enterWaking_laneLaw c idle unserved (fun y among => (mem_dropItem.1 among).2) ⟨claim, release⟩ again
        · exact ih idle dropped

theorem selectLane_laneLaw (n : LaneIx) (h : LaneLaw w.st) : LaneLaw (selectLane n w).st := by
  unfold selectLane
  split
  · next idle => exact selectFrom_laneLaw _ (by simpa using idle) h
  · exact h

/-! ### Releases (R103, R104) -/

/-- What a step at the door of one bay does to what the law of the lanes reads. -/
structure DoorStep (b : BayIx) (s t : State) : Prop where
  pvs : t.pvs = s.pvs
  claim : ∀ c, (t.bay c).claim = (s.bay c).claim
  door : ∀ c, c ≠ b → (t.bay c).door = (s.bay c).door
  switch : ∀ c, c ≠ b → (t.bay c).prov.switch = (s.bay c).prov.switch
  opens : (t.bay b).prov.switch = none ∨ (t.bay b).prov.switch = (s.bay b).prov.switch ∧
    ((s.bay b).door.state = .secure → (t.bay b).door.state = .secure)
  pending : ((s.bay b).door.pendingLane = true → (s.bay b).door.state = .secure) →
    (t.bay b).door.pendingLane = true → (t.bay b).door.state = .secure

theorem LaneLaw.of_doorStep (h : LaneLaw s) (step : DoorStep b s t)
    (free : s.laneWorking b = false ∨ ((s.bay b).door.release = none → (t.bay b).door.release = none)) :
    LaneLaw t := by
  have lane : ∀ n, t.lane n = s.lane n := fun n => by simp only [State.lane, step.pvs]
  refine h.of_sessions (step.pvs ▸ .refl _) (fun n y session => ⟨y, lane n ▸ session, rfl⟩) (fun c n closed => ?_)
    (fun c waits => ?_) (fun n x session works => ?_)
  · rw [lane]
    by_cases here : c = b
    · subst here
      rcases step.opens with opened | ⟨same, secure⟩
      · rw [opened] at closed
        cases closed
      · rw [same] at closed
        obtain ⟨state, served⟩ := h.switch c n closed
        exact ⟨secure state, served⟩
    · rw [step.switch c here] at closed
      rw [step.door c here]
      exact h.switch c n closed
  · by_cases here : c = b
    · subst here
      exact step.pending (h.pendingLane c) waits
    · rw [step.door c here] at waits ⊢
      exact h.pendingLane c waits
  · rw [lane] at session
    obtain ⟨claim, release⟩ := h.free n x session works
    refine ⟨(step.claim _).trans claim, ?_⟩
    by_cases here : x.bay = b
    · rcases free with idle | stays
      · have rests := laneWorking_eq_false_iff.1 idle n x session here
        rw [works] at rests
        cases rests
      · rw [here] at release ⊢
        exact stays release
    · rw [step.door _ here]
      exact release

theorem startRelease_step (r : ReleaseRecord) : DoorStep b w.st (startRelease b r w).st := by
  have door := fun c => startRelease_door b c w r
  refine ⟨rfl, fun c => ?_, fun c other => by rw [door, if_neg other], fun c other => ?_, .inl ?_, fun _ waits => ?_⟩
  · simp [startRelease, openSwitch]
  · simp [startRelease, openSwitch, other]
  · simp [startRelease, openSwitch]
  · rw [door, if_pos rfl] at waits
    cases waits

theorem laneReportedIdle_laneLaw (h : LaneLaw w.st) : LaneLaw (laneReportedIdle b w).st := by
  unfold laneReportedIdle
  dsimp only
  split
  · exact h
  · next r held =>
    split
    · refine h.of_doorStep (startRelease_step r) (.inl (laneWorking_eq_false_iff.2 fun n x session here => ?_))
      by_contra works
      have free := (h.free n x session (by simpa using works)).2
      rw [here, held] at free
      cases free
    · exact h

/-- R103: a release that waits for its lane, before the session is aborted. -/
def pended (b : BayIx) (r : ReleaseRecord) (s : State) : State :=
  s.modDoor b fun d => { d with release := some { r with start := s.csu.minute }, pendingLane := true }

theorem pended_door (r : ReleaseRecord) (c : BayIx) : ((pended b r s).bay c).door =
    if c = b then { (s.bay c).door with release := some { r with start := s.csu.minute }, pendingLane := true }
    else (s.bay c).door := State.door_modDoor ..

theorem pended_claim (r : ReleaseRecord) (c : BayIx) : ((pended b r s).bay c).claim = (s.bay c).claim := by
  simp [pended]

theorem pended_prov (r : ReleaseRecord) (c : BayIx) : ((pended b r s).bay c).prov = (s.bay c).prov := by
  simp [pended]

theorem pended_state (r : ReleaseRecord) (c : BayIx) : ((pended b r s).bay c).door.state = (s.bay c).door.state := by
  rw [pended_door]
  split <;> rfl

theorem pended_pending (r : ReleaseRecord) (secure : (s.bay b).door.state = .secure)
    (h : ∀ c, (s.bay c).door.pendingLane = true → (s.bay c).door.state = .secure) (c : BayIx)
    (waits : ((pended b r s).bay c).door.pendingLane = true) : ((pended b r s).bay c).door.state = .secure := by
  rw [pended_state]
  by_cases here : c = b
  · rw [here, secure]
  · rw [pended_door, if_neg here] at waits
    exact h c waits

/-- R103, R151: a release that waits for a lane, with the session of its bay ended. -/
theorem abortPended_laneLaw (r : ReleaseRecord) (o : LaneOutcome) (secure : (w.st.bay b).door.state = .secure)
    (h : LaneLaw w.st) (u : Work) (at_u : u.st = pended b r w.st) : LaneLaw (abortLane b o u).st := by
  have lane : ∀ n, u.st.lane n = w.st.lane n := fun n => by rw [at_u]; rfl
  have rests (idle : w.st.laneWorking b = false) : LaneLaw u.st := by
    rw [at_u]
    refine h.of_doorStep (b := b) ⟨rfl, pended_claim r, fun c other => ?_, fun c _ => ?_, .inr ⟨?_, ?_⟩, fun waits => ?_⟩
      (.inl idle)
    · rw [pended_door, if_neg other]
    · rw [pended_prov]
    · rw [pended_prov]
    · rw [pended_state]; exact id
    · exact fun _ => (pended_state r b).trans secure
  unfold abortLane
  split
  · next unserved =>
    refine rests (laneWorking_eq_false_iff.2 fun n x session here => ?_)
    exact absurd here (laneOf_eq_none_iff.1 unserved n x (lane n ▸ session))
  · next n serves =>
    obtain ⟨x, session, at_b⟩ := lane_of_laneOf serves
    have served : w.st.lane n = some x := lane n ▸ session
    by_cases works : laneWorks x.stage = true
    · refine LaneLaw.of_same ?_ (endSession_same o session works)
      refine sessionOver_laneLaw o session h (by rw [at_u]; rfl) lane ?_ ?_ ?_ ?_ <;> rw [at_u]
      · exact fun c => by rw [pended_prov]
      · exact pended_state r
      · exact pended_pending r secure h.pendingLane
      · intro c other
        rw [pended_claim, pended_door, if_neg (at_b ▸ other)]
        exact ⟨rfl, rfl⟩
    · rw [endSession_stay o fun y its => by rw [session] at its; cases its; simpa using works]
      refine rests (laneWorking_eq_false_iff.2 fun m y at_m here => ?_)
      have same : m = n := h.same_lane at_m served (here.trans at_b.symm)
      rw [same, served] at at_m
      cases at_m
      simpa using works

theorem requestRelease_laneLaw (r : ReleaseRecord) (h : LaneLaw w.st) : LaneLaw (requestRelease b r w).st := by
  unfold requestRelease
  split
  · next busy =>
    unfold askRelease
    rw [if_pos busy]
    exact h
  · next free =>
    have free : releaseBusy w.st b = false := by simpa using free
    have secure := (releaseBusy_eq_false_iff.1 free).2.1
    rw [Work.raise_st]
    unfold askRelease
    rw [free, if_neg Bool.false_ne_true]
    split
    · exact abortPended_laneLaw r _ secure h _ rfl
    · next unserved =>
      have unserved : w.st.laneOf b = none := by simpa using unserved
      refine abortLane_laneLaw _ (h.of_doorStep (startRelease_step r) (.inl (laneWorking_eq_false_iff.2 ?_)))
      exact fun n x session here => absurd here (laneOf_eq_none_iff.1 unserved n x session)

end

end Sys2Proof.Machine
end

section
/-! Every step keeps the law of the lanes (R140, R146, R151): the notices, and the commands one by one. -/

namespace Sys2Proof.Machine

section
variable {s t : State} {b c : BayIx} {w : Work}

/-! ### Notices -/

theorem ofSession_of_ofLane {e : Effect} (h : e.ofLane = false) : e.ofSession = false := by
  cases e <;> first | rfl | cases h

theorem ofLane_of_chargeReads {e : Effect} (h : e ∈ chargeReads b) : e.ofLane = false := by
  rcases h with rfl | h <;> [rfl; exact ofLane_of_charging h]

theorem ofLane_of_identNoting {e : Effect} (h : e ∈ identNoting b) : e.ofLane = false := by
  rcases h with (h | rfl) | h
  · exact ofLane_of_placing h
  · rfl
  · exact ofLane_of_writing h

theorem ofLane_of_splitting {e : Effect} (h : e ∈ splitting) : e.ofLane = false := by
  rcases h with rfl | ⟨b, (h | h) | rfl | rfl⟩
  · rfl
  · exact ofLane_of_refreshing h
  · exact ofLane_of_writing h
  · rfl
  · rfl

theorem ofLane_of_releaseAnswering {e : Effect} (h : e ∈ releaseAnswering b) : e.ofLane = false := by
  rcases h with (h | h) | h
  · exact ofLane_of_placing h
  · exact ofLane_of_placing h
  · exact ofLane_of_writing h

theorem ofSession_of_unanswering {e : Effect} (h : e ∈ unanswering) : e.ofSession = false := by
  rcases h with rfl | ⟨b, rfl | rfl⟩ <;> rfl

theorem channelAbort_laneLaw (st : ChannelState) (h : LaneLaw w.st) : LaneLaw (channelAbort b st w).st := by
  cases st
  · exact clearAttempts_laneLaw (abortLane_laneLaw _ h)
  · exact h
  all_goals exact abortLane_laneLaw _ h

theorem chargeAbort_laneLaw (h : LaneLaw w.st) : LaneLaw (chargeAbort b w).st := by
  unfold chargeAbort
  split
  · exact abortLane_laneLaw _ h
  iterate 3 exact h
  all_goals exact abortLane_laneLaw _ h

theorem chargeChannel_laneLaw (st : ChannelState) (h : LaneLaw w.st) : LaneLaw (chargeChannel b st w).st :=
  (chargeChannel_acts subset_rfl st).laneLaw (fun _ => ofLane_of_charging) h

theorem channelNotice_laneLaw (st : ChannelState) (h : LaneLaw w.st) : LaneLaw (channelNotice b st w).st := by
  have later := chargeChannel_laneLaw (b := b) st (channelAbort_laneLaw (b := b) st h)
  have first := chargeChannel_laneLaw (b := b) st h
  have counted {s : State} (law : LaneLaw s) : LaneLaw { s with freeCount := s.freeCount + 1 } :=
    law.of_same (.of_bays rfl rfl)
  have silenced : LaneLaw (if (w.st.laneWorking b && managed (w.st.bay b).charge.state) = true then
        if Config.bccTakesFirst w.st.freeCount = true then
          ((chargeChannel b st w).raise (.laneChannel b st)).upd fun s => { s with freeCount := s.freeCount + 1 }
        else ((chargeChannel b st (channelAbort b st w)).raise (.reevaluate b)).upd fun s =>
          { s with freeCount := s.freeCount + 1 }
      else (chargeChannel b st (channelAbort b st w)).raise (.reevaluate b)).st := by
    split
    · split
      · exact counted first
      · exact counted later
    · exact later
  cases st
  case silent | stuck => exact silenced
  all_goals exact later

theorem readingNotice_laneLaw (r : DockRegister) (cls : IdentClass) (h : LaneLaw w.st) :
    LaneLaw (readingNotice b r cls w).st := by
  have read : ∀ r, LaneLaw (chargeReading b r w).st := fun r =>
    (chargeReading_acts subset_rfl r).laneLaw (fun _ => ofLane_of_chargeReads) h
  cases r
  case ident =>
    have noted : LaneLaw (identNotice b cls (chargeReading b .ident w)).st :=
      (identNotice_acts cls subset_rfl).laneLaw (fun _ => ofLane_of_identNoting) (read .ident)
    simp only [readingNotice, Work.raise_st]
    split
    · exact clearAttempts_laneLaw noted
    · exact noted
  case battery =>
    simp only [readingNotice, Work.raise_st]
    unfold batteryAbort
    split <;> [exact abortLane_laneLaw _ (read .battery); exact read .battery]
  case chargeRequest => exact read .chargeRequest
  case profile => exact profileReading_laneLaw h
  all_goals exact h

theorem handle_laneLaw (n : Notice) (h : LaneLaw w.st) : LaneLaw (handle n w).st := by
  cases n with
  | recompute =>
    exact (recompute_acts (can := {.recompute, .tell .split}) subset_rfl).laneLaw
      (fun e may => by rcases may with rfl | rfl <;> rfl) h
  | split => exact (runSplit_acts subset_rfl).laneLaw (fun _ => ofLane_of_splitting) h
  | wishInput b => exact (refreshWish_acts subset_rfl).laneLaw (fun _ => ofLane_of_refreshing) h
  | chargeChanged b => exact chargeAbort_laneLaw h
  | channelChanged b st => exact channelNotice_laneLaw st h
  | laneChannel b st => exact channelAbort_laneLaw st h
  | reading b r cls => exact readingNotice_laneLaw r cls h
  | writeEnded b x o =>
    cases x with
    | custody v => exact (custodyEnded_acts v o subset_rfl).laneLaw (fun _ => ofLane_of_placing) h
    | provControl v => exact provEnded_laneLaw v o h
    | chargeLimit g => exact h
  | discarded f => exact (discardNotice_acts f subset_rfl).keepsLanes (fun _ => ofSession_of_unanswering) h
  | doorMoved b left =>
    simp only [handle, Work.raise_st]
    split <;> [exact abortLane_laneLaw _ h; exact h]
  | episodeEnded b attr r p =>
    exact (episodeEndNotice_acts attr r p subset_rfl).laneLaw (fun _ => ofLane_of_writing) h
  | releaseAsked b r => exact requestRelease_laneLaw r h
  | releaseAnswered b r o => exact (releaseAnswer_acts r o subset_rfl).laneLaw (fun _ => ofLane_of_releaseAnswering) h
  | laneIdle b => exact laneReportedIdle_laneLaw h
  | reevaluate b =>
    simp only [handle, reevaluate, selectIf_st]
    exact evaluateBay_laneLaw h
  | reevaluateAll => exact reevaluateAll_laneLaw h
  | select n => exact selectLane_laneLaw n h
  | serviceChanged b => exact (serviceChanged_acts subset_rfl).laneLaw (fun _ => ofLane_of_charging) h

theorem finish_laneLaw (w : Work) (h : LaneLaw w.st) : LaneLaw w.finish :=
  settle_keeps (Q := fun _ => True) (fun n _ _ law => ⟨handle_laneLaw n law, fun _ _ => trivial⟩) _ w h
    (fun _ _ => trivial)

theorem carryOut_laneLaw {f : Work → Work} (ran : carryOut s f = .next t) (h : LaneLaw (f (startWork s)).st) :
    LaneLaw t := by
  cases ran
  exact finish_laneLaw _ h

/-! ### Doors -/

/-- The effects of a door leave the PVS and the claims. -/
theorem doorEffects_kept {u v : Work} (acts : Acts doorEffects u v) :
    v.st.pvs = u.st.pvs ∧ ∀ c, (v.st.bay c).claim = (u.st.bay c).claim := by
  refine acts.keeps (P := fun s => s.pvs = u.st.pvs ∧ ∀ c, (s.bay c).claim = (u.st.bay c).claim)
    (fun e may s t changed kept => ?_) ⟨rfl, fun _ => rfl⟩
  obtain ⟨pvs, claim⟩ := kept
  cases changed
  case door b d => exact ⟨pvs, fun c => (s.claim_modDoor b c _).trans (claim c)⟩
  case prov b p opens => exact ⟨pvs, fun c => (s.claim_modProv b c _).trans (claim c)⟩
  case count b k sessions => exact ⟨pvs, fun c => (s.claim_modCounters b c _).trans (claim c)⟩
  case frame => exact ⟨pvs, claim⟩
  case time => exact ⟨pvs, claim⟩
  all_goals exact absurd may id

/-- A step at a door, from what it makes of door and switch. -/
theorem DoorStep.of_acts {v : Work} (acts : Acts doorEffects w v) {d : BayIx → Door}
    (door : ∀ c, (v.st.bay c).door = if c = b then d c else (w.st.bay c).door)
    (switch : ∀ c, (v.st.bay c).prov.switch = (w.st.bay c).prov.switch ∨ c = b ∧ (v.st.bay c).prov.switch = none)
    (secure : (v.st.bay b).prov.switch = none ∨ ((w.st.bay b).door.state = .secure → (d b).state = .secure))
    (pending : ((w.st.bay b).door.pendingLane = true → (w.st.bay b).door.state = .secure) →
      (d b).pendingLane = true → (d b).state = .secure) : DoorStep b w.st v.st := by
  obtain ⟨pvs, claim⟩ := doorEffects_kept acts
  have here : (v.st.bay b).door = d b := by rw [door, if_pos rfl]
  refine ⟨pvs, claim, fun c other => by rw [door, if_neg other], fun c other => ?_, ?_, ?_⟩
  · exact (switch c).resolve_right fun both => other both.1
  · rcases secure with opened | stays
    · exact .inl opened
    · rcases switch b with same | ⟨-, opened⟩
      · exact .inr ⟨same, here ▸ stays⟩
      · exact .inl opened
  · rw [here]
    exact pending

end

/-! ### What a door step leaves of release and waiting flag -/

section
variable {d : Door}

theorem Door.episodeOver_release (h : d.release = none) : d.episodeOver.release = none := by
  unfold Door.episodeOver
  split <;> [exact h; rfl]

theorem Door.settled_release (h : d.release = none) : d.settled.release = none := by
  rcases d.settled_eq_or with its | its <;> rw [its]
  · exact h
  · exact Door.episodeOver_release h

theorem Door.unpended_release (h : d.release = none) : d.unpended.release = none := by
  unfold Door.unpended
  split <;> [rfl; exact h]

theorem Door.secured_release (h : d.release = none) : d.secured.release = none := Door.settled_release h

theorem Door.unsecured_release (h : d.release = none) : d.unsecured.release = none :=
  Door.settled_release (d := { d.unpended with state := .unsecured, latch := .off, boltWait := none })
    (Door.unpended_release h)

theorem Door.opens_release (episode : OpenAttr → Episode) (coolDown : Nat) (h : d.release = none) :
    (d.opens episode coolDown).release = none := by
  unfold Door.opens
  split
  · exact Door.unpended_release (Door.episodeOver_release h)
  · exact h
  · exact Door.episodeOver_release (d := { d with closed := false }) h
  · exact h
  · exact h

theorem Door.opens_pending (episode : OpenAttr → Episode) (coolDown : Nat)
    (h : d.pendingLane = true → d.state = .secure) (waits : (d.opens episode coolDown).pendingLane = true) :
    (d.opens episode coolDown).state = .secure := by
  unfold Door.opens at waits ⊢
  split at waits
  · simp [Door.openedAs] at waits
  all_goals
    next state =>
      have secure := h (by simpa [Door.openedAs] using waits)
      rw [state] at secure
      cases secure

theorem Door.secured_state : d.secured.state = .secure := by simp [Door.secured]

theorem Door.unsecured_pending : d.unsecured.pendingLane = false := by simp [Door.unsecured]

end

/-! ### The door commands -/

section
variable {s t : State} {b c : BayIx} {w : Work}

theorem doorOpened_switch (c : BayIx) : ((doorOpened b w).st.bay c).prov.switch = (w.st.bay c).prov.switch ∨
    c = b ∧ ((doorOpened b w).st.bay c).prov.switch = none := by
  simp only [doorOpened]
  by_cases here : c = b
  · subst here
    split
    · exact .inr ⟨rfl, by simp [openForced]⟩
    · exact .inr ⟨rfl, by simp [openAuthorized]⟩
    · exact .inr ⟨rfl, by simp [openUnsecured]⟩
    · exact .inl (by simp [openAgain])
    · exact .inl (by simp)
  · refine .inl ?_
    split <;> simp [here, openForced, openAuthorized, openUnsecured, openAgain]

theorem doorOpened_step : DoorStep b w.st (doorOpened b w).st := by
  refine .of_acts doorOpened_acts (fun c => doorOpened_door b c w) doorOpened_switch ?_
    (Door.opens_pending _ _)
  by_cases secure : (w.st.bay b).door.state = .secure
  · exact .inl (by simp [doorOpened, secure, openForced])
  · exact .inr fun its => absurd its secure

theorem doorClosed_prov (c : BayIx) : ((doorClosed b w).st.bay c).prov = (w.st.bay c).prov := by
  simp only [doorClosed]
  split
  · split <;> simp
  all_goals simp

theorem doorClosed_step : DoorStep b w.st (doorClosed b w).st := by
  refine .of_acts doorClosed_acts (fun c => doorClosed_door b c w) (fun c => .inl (by rw [doorClosed_prov])) (.inr ?_) ?_
  all_goals
    unfold Door.closes
    intro secure
  · split
    · next attr state => rw [secure] at state; cases state
    all_goals exact secure
  · intro waits
    split at waits
    · next attr state =>
      have shut : (w.st.bay b).door.state = .secure := by
        refine secure ?_
        dsimp only at waits
        split at waits
        · simpa [Door.secured] using waits
        · exact waits
      rw [state] at shut
      cases shut
    all_goals exact secure waits

theorem boltBecomesThrown_prov (c : BayIx) : ((boltBecomesThrown b w).st.bay c).prov = (w.st.bay c).prov := by
  simp only [boltBecomesThrown]
  split
  · split <;> simp
  · simp

theorem boltBecomesThrown_step : DoorStep b w.st (boltBecomesThrown b w).st := by
  refine .of_acts boltBecomesThrown_acts (fun c => boltBecomesThrown_door b c w)
    (fun c => .inl (by rw [boltBecomesThrown_prov])) (.inr ?_) ?_
  all_goals
    unfold Door.throws
    intro secure
  · split <;> [exact Door.secured_state; exact secure]
  · intro waits
    split at waits
    · next moves => rw [if_pos moves]; exact Door.secured_state
    · next stays => rw [if_neg stays]; exact secure waits

theorem enterUnsecured_step (cause : Nat) : DoorStep b w.st (enterUnsecured b cause w).st := by
  refine .of_acts (enterUnsecured_acts cause) (fun c => enterUnsecured_door b c w cause) (fun c => ?_)
    (.inl (by rw [enterUnsecured_prov, if_pos rfl])) (fun _ waits => ?_)
  · rw [enterUnsecured_prov]
    by_cases here : c = b
    · exact .inr ⟨here, by rw [if_pos here]⟩
    · exact .inl (by rw [if_neg here])
  · rw [Door.unsecured_pending] at waits
    cases waits

/-- A change of the door section that leaves what the law of the lanes reads. -/
theorem modDoor_same {f : Door → Door} (same : ∀ d, (f d).state = d.state ∧ (f d).pendingLane = d.pendingLane ∧
    (f d).release = d.release) : LaneSame s (s.modDoor b f) := by
  refine .of_modBay fun x => ?_
  obtain ⟨state, pending, release⟩ := same x.door
  simp only [Bay.laneBay, state, pending, release]

theorem boltBecomesClear_laneLaw (h : LaneLaw w.st) : LaneLaw (boltBecomesClear b w).st := by
  have cleared : LaneLaw (w.upd fun s => s.modDoor b fun d => { d with bolt := false }).st :=
    h.of_same (modDoor_same (f := fun d => { d with bolt := false }) fun _ => ⟨rfl, rfl, rfl⟩)
  unfold boltBecomesClear
  dsimp only
  split
  · refine cleared.of_doorStep (enterUnsecured_step 2) (.inr fun none => ?_)
    rw [enterUnsecured_door, if_pos rfl]
    exact Door.unsecured_release none
  · exact cleared

theorem releaseUnused_laneLaw (h : LaneLaw w.st) : LaneLaw (releaseUnused b w).st := by
  have door := fun c => releaseUnused_door b c w
  have prov : ∀ c, ((releaseUnused b w).st.bay c).prov = (w.st.bay c).prov := fun c => by
    simp only [releaseUnused]
    split <;> simp
  refine h.of_doorStep (b := b) (.of_acts releaseUnused_acts door (fun c => .inl (by rw [prov])) (.inr fun _ => rfl)
    fun _ _ => rfl) (.inr fun _ => ?_)
  rw [door, if_pos rfl]
  rfl

theorem endEpisode_laneLaw (h : LaneLaw w.st) : LaneLaw (endEpisode b w).st := by
  have door := fun c => endEpisode_door b c w
  refine h.of_doorStep (b := b) (.of_acts endEpisode_acts door (fun c => .inl (by rw [endEpisode_prov])) (.inr ?_) ?_)
    (.inr fun none => ?_)
  · rw [Door.episodeOver_state]
    exact id
  · rw [Door.episodeOver_state, Door.episodeOver_pendingLane]
    exact id
  · rw [door, if_pos rfl]
    exact Door.episodeOver_release none

theorem enterUnsecured_laneLaw (cause : Nat) (h : LaneLaw w.st) : LaneLaw (enterUnsecured b cause w).st := by
  refine h.of_doorStep (enterUnsecured_step cause) (.inr fun none => ?_)
  rw [enterUnsecured_door, if_pos rfl]
  exact Door.unsecured_release none

theorem advance_laneLaw (t : Nat) (h : LaneLaw s) : LaneLaw (s.advanceTo t) := h.of_same (.of_bays rfl rfl)

theorem doors_laneLaw {i : Instr} (doors : groupOf i = .doors) (ran : exec i s = .next t) (h : LaneLaw s) :
    LaneLaw t := by
  cases i
  case doorOpens b =>
    simp only [exec, execDoorOpens] at ran
    split at ran
    · refine carryOut_laneLaw ran (LaneLaw.of_doorStep (b := b) h (doorOpened_step (w := startWork s)) (.inr fun none => ?_))
      rw [doorOpened_door, if_pos rfl]
      exact Door.opens_release _ _ none
    · cases ran; exact h
  case doorCloses b =>
    simp only [exec, execDoorCloses] at ran
    split at ran
    · refine carryOut_laneLaw ran (LaneLaw.of_doorStep (b := b) h (doorClosed_step (w := startWork s)) (.inr fun none => ?_))
      rw [doorClosed_door, if_pos rfl]
      unfold Door.closes
      split
      · dsimp only
        split <;> [exact Door.secured_release none; exact none]
      all_goals exact none
    · cases ran; exact h
  case boltThrown b =>
    simp only [exec, execBoltThrown] at ran
    split at ran
    · refine carryOut_laneLaw ran (LaneLaw.of_doorStep (b := b) h (boltBecomesThrown_step (w := startWork s)) (.inr fun none => ?_))
      rw [boltBecomesThrown_door, if_pos rfl]
      unfold Door.throws
      split <;> [exact Door.secured_release none; exact none]
    · cases ran; exact h
  case boltClears b =>
    simp only [exec, execBoltClears] at ran
    split at ran
    · exact carryOut_laneLaw ran (boltBecomesClear_laneLaw h)
    · cases ran; exact h
  case pullInEnd b =>
    simp only [exec, execPullInEnd] at ran
    split at ran
    · cases ran; exact h
    · split at ran <;> cases ran
      · exact (advance_laneLaw _ h).of_same (modDoor_same fun _ => ⟨rfl, rfl, rfl⟩)
      · exact h
  case releaseWindowExpired b =>
    simp only [exec, execReleaseWindowExpired] at ran
    split at ran
    · cases ran; exact h
    · split at ran
      · exact carryOut_laneLaw ran (releaseUnused_laneLaw (advance_laneLaw _ h))
      · cases ran; exact h
  case coolDownEnd b =>
    simp only [exec, execCoolDownEnd] at ran
    split at ran <;> cases ran
    · exact h
    · exact (advance_laneLaw _ h).of_same (modDoor_same fun _ => ⟨rfl, rfl, rfl⟩)
  case boltWaitClosingExpired b =>
    simp only [exec, execBoltWaitClosingExpired] at ran
    split at ran
    · cases ran; exact h
    · split at ran
      · exact carryOut_laneLaw ran (enterUnsecured_laneLaw 1 (advance_laneLaw _ h))
      · cases ran; exact h
  case boltWaitReleaseExpired b =>
    simp only [exec, execBoltWaitReleaseExpired] at ran
    split at ran
    · cases ran; exact h
    · next t _ =>
      have waited : LaneLaw ((s.advanceTo t).modDoor b fun d => { d with boltWait := none }) :=
        (advance_laneLaw t h).of_same (modDoor_same fun _ => ⟨rfl, rfl, rfl⟩)
      split at ran
      · split at ran
        · cases ran; exact waited
        · exact carryOut_laneLaw ran (enterUnsecured_laneLaw 3 waited)
      · cases ran; exact h
  case closeHoldEnd b =>
    simp only [exec, execCloseHoldEnd] at ran
    split at ran
    · cases ran; exact h
    · next t _ =>
      have passed : LaneLaw ((s.advanceTo t).modDoor b fun d => { d with closeHold := none }) :=
        (advance_laneLaw t h).of_same (modDoor_same fun _ => ⟨rfl, rfl, rfl⟩)
      refine carryOut_laneLaw ran ?_
      unfold closeHoldPasses
      split
      iterate 2 exact endEpisode_laneLaw passed
      all_goals exact passed
  case ajarTimerExpired b =>
    simp only [exec, execAjarTimerExpired] at ran
    split at ran
    · cases ran; exact h
    · next e _ =>
      split at ran
      · cases ran; exact h
      · next t _ =>
        have passed : LaneLaw ((s.advanceTo t).modDoor b fun d => { d with episode := some { e with ajar := none } }) :=
          (advance_laneLaw t h).of_same (modDoor_same fun _ => ⟨rfl, rfl, rfl⟩)
        refine carryOut_laneLaw ran ?_
        exact (placeEvent_acts _ _ _ _ _ (by decide) subset_rfl).laneLaw (fun _ => ofLane_of_placing) passed
  all_goals cases doors

/-! ### Campaigns -/

theorem forEach_laneLaw {α : Type} {f : α → Work → Work} (each : ∀ x w, LaneLaw w.st → LaneLaw (f x w).st)
    (xs : List α) (h : LaneLaw w.st) : LaneLaw (forEach xs f w).st := by
  induction xs generalizing w with
  | nil => exact h
  | cons x xs ih => exact ih (each x w h)

theorem setCampaign_same (k : SlotIx) (c : Option Campaign) : LaneSame s (s.setCampaign k c) :=
  ⟨rfl, fun _ => rfl, fun _ => rfl⟩

theorem renewLimit_laneLaw (k : SlotIx) (limit : Nat) (n : LaneIx) (h : LaneLaw w.st) :
    LaneLaw (renewLimit k limit n w).st := by
  unfold renewLimit
  split
  · exact h
  · next x session =>
    split
    · next t _ _ =>
      split
      · dsimp only
        have renewed : LaneLaw (w.upd fun s => s.setLane n (some { x with limit := some (t + limit * 60000) })).st :=
          setLane_laneLaw session rfl rfl h
        split <;> [exact endSession_laneLaw n _ renewed; exact renewed]
      · exact h
    · exact h

theorem startCampaign_laneLaw (body : CampaignBody) (h : LaneLaw w.st) : LaneLaw (startCampaign body w).st := by
  unfold startCampaign
  split
  · dsimp only
    split
    · next k _ =>
      have set : LaneLaw (w.upd fun s => s.setCampaign k (some (campaignOf w.st.cfl.config body))).st :=
        h.of_same (setCampaign_same k _)
      exact forEach_laneLaw (f := renewLimit k _) (fun n _ => renewLimit_laneLaw k _ n) _ set
    · split
      · exact h.of_same (setCampaign_same _ _)
      · exact (placeEvent_acts _ _ _ _ _ (by decide) subset_rfl).laneLaw (fun _ => ofLane_of_placing) h
  · exact h

theorem cancelCampaign_laneLaw (body : CampaignBody) (h : LaneLaw w.st) : LaneLaw (cancelCampaign body w).st := by
  unfold cancelCampaign
  split
  · split
    · exact h
    · next k _ =>
      dsimp only
      have ended : LaneLaw (cancelLanes k w).st := forEach_laneLaw (fun n w law => by
        split <;> [exact endSession_laneLaw n _ law; exact law]) _ h
      have emptied : LaneLaw ((cancelLanes k w).upd fun s => s.modPvs fun p =>
          { p with queue := p.queue.filter fun x => x.slot != k }).st :=
        ended.of_dropped (q := (cancelLanes k w).st.pvs.queue.filter fun x => x.slot != k) List.filter_sublist
          (cancelLanes k w).st.pvs.streak
      have cleared : LaneLaw (forEach allBays (fun b => Work.upd (clearAttemptsFor k b))
          ((cancelLanes k w).upd fun s => s.modPvs fun p =>
            { p with queue := p.queue.filter fun x => x.slot != k })).st :=
        forEach_laneLaw (f := fun b => Work.upd (clearAttemptsFor k b)) (fun b w law => by
          have same : LaneSame w.st (clearAttemptsFor k b w.st) := by
            unfold clearAttemptsFor
            exact .of_modBay fun _ => rfl
          exact law.of_same same) _ emptied
      exact cleared.of_same (setCampaign_same k none)
  · exact h

theorem wakeWaitEnds_laneLaw (n : LaneIx) (h : LaneLaw w.st) : LaneLaw (wakeWaitEnds n w).st := by
  unfold wakeWaitEnds
  split
  · exact h
  · split
    · exact endSession_laneLaw n _ (w := w.upd fun s => s.advanceTo _) (advance_laneLaw _ h)
    · exact h

theorem laneLimitEnds_laneLaw (n : LaneIx) (h : LaneLaw w.st) : LaneLaw (laneLimitEnds n w).st := by
  unfold laneLimitEnds
  split
  · exact h
  · split
    · exact endSession_laneLaw n _ (w := w.upd fun s => s.advanceTo _) (advance_laneLaw _ h)
    · exact h

theorem lanes_laneLaw {i : Instr} (lanes : groupOf i = .lanes) (ran : exec i s = .next t) (h : LaneLaw s) :
    LaneLaw t := by
  have handed : LaneLaw (s.setHand none .pvs) := h.of_same (.of_bays rfl rfl)
  cases i
  case campaignStart =>
    refine keeps_fromHand finish_laneLaw (fun f => ?_) ran h
    split <;> [exact startCampaign_laneLaw _ handed; exact handed]
  case campaignCancel =>
    refine keeps_fromHand finish_laneLaw (fun f => ?_) ran h
    split <;> [exact cancelCampaign_laneLaw _ handed; exact handed]
  case wakeWaitExpired n => exact carryOut_laneLaw ran (wakeWaitEnds_laneLaw n h)
  case laneTimeLimitExpired n => exact carryOut_laneLaw ran (laneLimitEnds_laneLaw n h)
  all_goals cases lanes

/-! ### Start-up -/

/-- A PVS and doors as after a reset. -/
theorem LaneLaw.fresh (queue : s.pvs.queue = []) (lane : ∀ n, s.lane n = none)
    (bays : ∀ b, (s.bay b).prov.switch = none ∧ (s.bay b).door.pendingLane = false) : LaneLaw s := by
  refine ⟨queue ▸ .nil, fun x among => ?_, fun x y first => ?_, fun b n closed => ?_, fun b waits => ?_,
    fun n x session => ?_⟩
  · rw [queue] at among
    cases among
  · rw [lane] at first
    cases first
  · rw [(bays b).1] at closed
    cases closed
  · rw [(bays b).2] at waits
    cases waits
  · rw [lane] at session
    cases session

theorem Door.found_release (ajarEnd : Nat) (closed bolt : Bool) : (Door.found ajarEnd closed bolt).release = none := by
  cases closed <;> cases bolt <;> rfl

theorem Door.found_pendingLane (ajarEnd : Nat) (closed bolt : Bool) :
    (Door.found ajarEnd closed bolt).pendingLane = false := by
  cases closed <;> cases bolt <;> rfl

theorem readStraps_laneLaw (pins : StartPins) (h : LaneLaw s) : LaneLaw (readStraps pins s) := by
  have bays : ∀ b, ((readStraps pins s).bay b).prov.switch = none ∧
      ((readStraps pins s).bay b).door.pendingLane = false ∧ ((readStraps pins s).bay b).claim = none ∧
      ((readStraps pins s).bay b).door.release = none := fun b => by
    rcases lt_or_ge b.val (countOf pins.count) with counted | beyond
    · rw [bay_readStraps_sampled pins s b counted]
      exact ⟨rfl, Door.found_pendingLane .., rfl, Door.found_release ..⟩
    · rw [bay_readStraps_unsampled pins s b beyond]
      exact ⟨rfl, rfl, rfl, rfl⟩
  refine h.of_sessions (.refl _) (fun _ y session => ⟨y, session, rfl⟩) (fun b n closed => ?_) (fun b waits => ?_)
    (fun _ x _ _ => (bays x.bay).2.2)
  · rw [(bays b).1] at closed
    cases closed
  · rw [(bays b).2.1] at waits
    cases waits

theorem restart_laneLaw {i : Instr} (alone : groupOf i = .alone) (ran : exec i s = .next t) (h : LaneLaw s) :
    LaneLaw t := by
  refine alone_keeps alone (fun _ _ law => law.of_same (.of_bays rfl rfl)) (fun _ _ _ => ?_)
    (fun _ _ law => law.of_same (.of_bays rfl rfl)) (fun s _ => ?_) (fun pins s _ law => readStraps_laneLaw pins law)
    (fun record s _ law => ?_)
    (fun e may _ _ changed law => changed.laneLaw (by rcases may with rfl | rfl | ⟨f, rfl⟩ <;> rfl) law)
    (fun s _ law => enterActive_keeps (fun law => law.of_same (.of_bays rfl rfl))
      (fun e may _ _ changed law => changed.laneLaw ?_ law) law) finish_laneLaw ran h
  · refine .fresh rfl (fun n => ?_) fun b => ?_
    · fin_cases n <;> rfl
    · rw [show (freshState _ _ _).bay b = {} by simp [freshState, State.bay, State.reset]]
      exact ⟨rfl, rfl⟩
  · refine .fresh rfl (fun n => ?_) fun b => ?_
    · fin_cases n <;> rfl
    · rw [bay_restartValues]
      exact ⟨rfl, rfl⟩
  · unfold endConfigRead
    dsimp only
    split <;> exact law.of_same (.of_bays rfl rfl)
  · rcases may with may | rfl | ⟨b, may⟩
    · cases e <;> first | rfl | exact absurd may id
    · rfl
    · exact ofSession_of_ofLane (ofLane_of_charging may)

theorem step_laneLaw (ran : step s = .next t) (h : LaneLaw s) : LaneLaw t := by
  refine step_keeps ran (fun g => g == .doors || g == .lanes) (fun _ _ _ law => law.of_same (.of_bays rfl rfl))
    (fun g other e may _ _ changed law => changed.laneLaw ?_ law) finish_laneLaw ?_ h
  · cases g
    case doors | lanes => cases other
    case alone => exact absurd may (Set.notMem_empty _)
    all_goals (cases e <;> first | rfl | exact absurd may id)
  · rintro i (alone | group) s t ran law
    · exact restart_laneLaw alone ran law
    · rcases Bool.or_eq_true_iff.1 group with doors | lanes
      · exact doors_laneLaw (eq_of_beq doors) ran law
      · exact lanes_laneLaw (eq_of_beq lanes) ran law

end

/-- Settles O58: each operation at a lane machine, the queue, a claim, a release or a door keeps the law, and the other
effects leave what it speaks of. -/
theorem stepsKeepTheLaneLaw : Obligations.StepsKeepTheLaneLaw := fun _ _ h ran => step_laneLaw ran h

end Sys2Proof.Machine
end

section
/-! The state after reset meets every law. -/

namespace Sys2Proof.Machine

theorem bay_reset (b : BayIx) : State.reset.bay b = {} := by simp [State.bay, State.reset]

theorem peer_reset (a : Addr) : State.reset.peer a = none := by
  have absent : (Vector.replicate 16 (none : Option Peer))[a] = none := by simp
  exact absent

theorem lane_reset (n : LaneIx) : State.reset.lane n = none := by
  have idle : (Vector.replicate 2 (none : Option LaneSession))[n] = none := by simp
  exact idle

theorem reset_linkLaw : LinkLaw State.reset := .of_line unsent_nil (fun _ => rfl) nofun

theorem reset_receiveLaw : ReceiveLaw State.reset := by
  refine ⟨Nat.zero_le _, fun r win its => ?_⟩
  have closed : (Vector.replicate 4 (none : Option StormWindow))[r] = none := by simp
  rw [show State.reset.lkc.storm[r] = none from closed] at its
  cases its

theorem reset_peerLaw : PeerLaw State.reset :=
  ⟨peer_reset _, fun a p its => (by rw [peer_reset] at its; cases its), fun _ => peer_reset, fun _ => ⟨rfl, rfl, rfl⟩⟩

theorem reset_chargeLaw : ChargeLaw State.reset :=
  .fresh (fun b => .inl (by rw [bay_reset])) (configResult_minimum none)

theorem reset_doorLaw : DoorLaw State.reset := fun b => by
  rw [bay_reset]
  exact .fresh

theorem reset_laneLaw : LaneLaw State.reset :=
  .fresh rfl lane_reset fun b => by
    rw [bay_reset]
    exact ⟨rfl, rfl⟩

/-- Settles O3: every queue and table is empty, every bay at its reset values, and the station in START. -/
theorem resetMeetsTheLaws : Obligations.ResetMeetsTheLaws :=
  ⟨reset_linkLaw, reset_receiveLaw, reset_peerLaw, .of_zero rfl nofun nofun, reset_chargeLaw, reset_doorLaw,
    ⟨Nat.zero_le _, .nil⟩, ⟨Nat.zero_le _, .nil, .nil⟩, reset_laneLaw⟩

end Sys2Proof.Machine
end

section
/-! The configuration record (R169, R170, R174). -/

namespace Sys2Proof.Machine

theorem toNat_word16At (bytes : List Byte) (i : Nat) :
    (word16At bytes i).toNat = 256 * (bytes.getD i 0).toNat + (bytes.getD (i + 1) 0).toNat := by
  have low : (bytes.getD (i + 1) 0).toNat < 2 ^ 8 := BitVec.isLt _
  rw [word16At, byteAt, byteAt, BitVec.toNat_append, ← Nat.shiftLeft_add_eq_or_of_lt low, Nat.shiftLeft_eq]
  omega

/-- R170: a value within a range stays, and one outside takes the nearer end. -/
theorem clampTo_within {low high n : Nat} (range : low ≤ high) :
    (n < low → clampTo low high n = low) ∧ (low ≤ n → n ≤ high → clampTo low high n = n) ∧
      (high < n → clampTo low high n = high) := by
  unfold clampTo
  omega

/-- R170: R is held within floor(B / 2). -/
theorem clampTo_zero_within {high n : Nat} :
    (n < 0 → clampTo 0 high n = 0) ∧ (0 ≤ n → n ≤ high → clampTo 0 high n = n) ∧
      (high < n → clampTo 0 high n = high) := clampTo_within (Nat.zero_le _)

theorem recordGood_iff (bytes : List Byte) :
    recordGood bytes = true ↔ bytes.length = 64 ∧ (bytes.getD 0 0).toNat = 0x5C ∧ (bytes.getD 1 0).toNat = 0x3E ∧
      256 * (bytes.getD 62 0).toNat + (bytes.getD 63 0).toNat =
        (crc16 ((bytes.take 62).flatMap fun b => (List.range 8).map fun i => b.getMsbD i)).toNat := by
  have marker : word16At bytes 0 = 0x5C3E#16 ↔ (bytes.getD 0 0).toNat = 0x5C ∧ (bytes.getD 1 0).toNat = 0x3E := by
    have low : (bytes.getD 1 0).toNat < 256 := BitVec.isLt _
    rw [← BitVec.toNat_inj, toNat_word16At, BitVec.toNat_ofNat, Nat.zero_add]
    omega
  have check : crc16 (bodyBits (bytes.take 62)) = word16At bytes 62 ↔
      256 * (bytes.getD 62 0).toNat + (bytes.getD 63 0).toNat =
        (crc16 ((bytes.take 62).flatMap fun b => (List.range 8).map fun i => b.getMsbD i)).toNat := by
    rw [← BitVec.toNat_inj, toNat_word16At]
    exact eq_comm
  simp only [recordGood, Bool.and_eq_true, beq_iff_eq, marker, check, and_assoc]

/-- R170: T_hot, a byte in two's complement. -/
theorem hot_within (hot : Int) :
    (hot < 35 → (max 35 (min 60 hot)).toNat = 35) ∧ (35 ≤ hot → hot ≤ 60 → ((max 35 (min 60 hot)).toNat : Int) = hot) ∧
      (60 < hot → (max 35 (min 60 hot)).toNat = 60) := by
  omega

theorem ratioOfCode_cases (b : Byte) :
    (b.toNat = 0 → ratioOfCode b = .two) ∧ (b.toNat = 1 → ratioOfCode b = .four) ∧
      (b.toNat = 2 → ratioOfCode b = .eight) ∧ (b.toNat = 3 → ratioOfCode b = .strict) ∧
      (3 < b.toNat → ratioOfCode b = .four) := by
  have at_code : ∀ n : Nat, n < 256 → b.toNat = n → b = BitVec.ofNat 8 n := fun n small same => by
    rw [← same, BitVec.ofNat_toNat, BitVec.setWidth_eq]
  refine ⟨fun its => ?_, fun its => ?_, fun its => ?_, fun its => ?_, fun above => ?_⟩
  · rw [at_code 0 (by decide) its]; rfl
  · rw [at_code 1 (by decide) its]; rfl
  · rw [at_code 2 (by decide) its]; rfl
  · rw [at_code 3 (by decide) its]; rfl
  · have other : ∀ n : Nat, n ≤ 3 → b ≠ BitVec.ofNat 8 n := fun n few same => by
      rw [same, BitVec.toNat_ofNat] at above
      omega
    exact (if_neg (other 0 (by decide))).trans
      ((if_neg (other 2 (by decide))).trans (if_neg (other 3 (by decide))))

/-- Bytes as the digits of a number, lowest first. -/
def fromDigits (digit : Nat → Byte) (n : Nat) : Nat :=
  (List.range n).foldl (fun m i => m + (digit i).toNat * 256 ^ i) 0

theorem fromDigits_succ (digit : Nat → Byte) (n : Nat) :
    fromDigits digit (n + 1) = fromDigits digit n + (digit n).toNat * 256 ^ n := by
  simp [fromDigits, List.range_succ]

theorem pow256 (n : Nat) : 256 ^ n = 2 ^ (8 * n) := by
  rw [Nat.pow_mul]

theorem fromDigits_lt (digit : Nat → Byte) (n : Nat) : fromDigits digit n < 2 ^ (8 * n) := by
  induction n with
  | zero => simp [fromDigits]
  | succ n ih =>
    have small : (digit n).toNat < 256 := BitVec.isLt _
    have top : (digit n).toNat * 2 ^ (8 * n) ≤ 255 * 2 ^ (8 * n) := Nat.mul_le_mul_right _ (by omega)
    rw [fromDigits_succ, pow256, Nat.mul_succ, Nat.pow_add]
    omega

/-- Bit k of the number is bit k mod 8 of digit floor(k / 8). -/
theorem testBit_fromDigits (digit : Nat → Byte) {n k : Nat} (within : k < 8 * n) :
    (fromDigits digit n).testBit k = (digit (k / 8)).getLsbD (k % 8) := by
  induction n with
  | zero => omega
  | succ n ih =>
    rw [fromDigits_succ, pow256, Nat.add_comm, Nat.mul_comm, Nat.testBit_two_pow_mul_add _ (fromDigits_lt digit n)]
    split
    · next below => exact ih below
    · next above =>
      have high : k / 8 = n := by omega
      have low : k - 8 * n = k % 8 := by omega
      rw [high, low]
      rfl

theorem classMapOf_bit (bytes : List Byte) {k : Nat} (within : k < 64) :
    (classMapOf bytes).getLsbD k = (bytes.getD (27 + k / 8) 0).getLsbD (k % 8) := by
  have digits : classMapOf bytes = BitVec.ofNat 64 (fromDigits (fun i => byteAt bytes (27 + i)) 8) := rfl
  rw [digits, BitVec.getLsbD_ofNat, testBit_fromDigits _ (by omega)]
  simp [within, byteAt]

section
variable {s : State}

theorem endConfigRead_eq (record : Option (List Byte)) (s : State) :
    endConfigRead record s =
      let u : State := { s with
        cfl := { s.cfl with
          configRead := none, config := (configResult record).1, flag := (configResult record).2,
          digest := configDigest (configResult record).1 },
        shu := { s.shu with available := (configResult record).1.budget - (configResult record).1.reserve } }
      if u.cfl.restartHeld then u
      else { u with
        cfl := { u.cfl with phase := .listen, listenTimer := some (u.now + 2000) },
        lkc := { u.lkc with line := .waiting, recessive := 0, followed := [] } } := rfl

theorem configResult_of_good {bytes : List Byte} (length : bytes.length = 64) (good : recordGood bytes = true) :
    configResult (some bytes) = (configOfRecord bytes, .good) := by
  simp [configResult, length, good]

theorem configResult_of_bad {bytes : List Byte} (length : bytes.length = 64) (bad : recordGood bytes = false) :
    configResult (some bytes) = (defaultConfig, .bad) := by
  simp [configResult, length, bad]

theorem configResult_of_short {bytes : List Byte} (length : bytes.length ≠ 64) :
    configResult (some bytes) = (defaultConfig, .byDefault) := by
  simp [configResult, length]

theorem execConfigReadEnd_of_read {r : ConfigRead} (reads : s.cfl.configRead = some r) (record : Option (List Byte)) :
    exec (.configReadEnd record) s = .next (endConfigRead record s) := by
  simp only [exec, execConfigReadEnd, reads]

theorem execConfigReadTimeout_of_read {r : ConfigRead} (reads : s.cfl.configRead = some r) :
    exec .configReadTimeout s = .next (endConfigRead none (s.advanceTo r.limit)) := by
  simp only [exec, execConfigReadTimeout, reads]

end

/-- Settles O6: value by value for the record, ending by ending for the read. -/
theorem configReadLoadsTheConfiguration : Obligations.ConfigReadLoadsTheConfiguration := by
  refine ⟨fun bits => rfl, fun bytes => ?_, rfl, fun r s reads => ?_⟩
  · simp only [configOfRecord, toNat_word16At]
    refine ⟨recordGood_iff bytes, clampTo_within (by decide), clampTo_zero_within, clampTo_within (by decide),
      clampTo_within (by decide), clampTo_within (by decide), clampTo_within (by decide), clampTo_within (by decide),
      clampTo_within (by decide), clampTo_within (by decide), clampTo_within (by decide), clampTo_within (by decide),
      clampTo_within (by decide), clampTo_within (by decide), clampTo_within (by decide), clampTo_within (by decide),
      clampTo_within (by decide), clampTo_within (by decide), hot_within _, ?_⟩
    obtain ⟨two, four, eight, strict, other⟩ := ratioOfCode_cases (byteAt bytes 26)
    exact ⟨two, four, eight, strict, other, fun k within => classMapOf_bit bytes within⟩
  · refine ⟨fun bytes length good => ?_, fun bytes length bad => ?_, fun bytes length => ?_, ?_, ?_⟩
    · rw [execConfigReadEnd_of_read reads, endConfigRead_eq, configResult_of_good length good]
    · rw [execConfigReadEnd_of_read reads, endConfigRead_eq, configResult_of_bad length bad]
    · rw [execConfigReadEnd_of_read reads, endConfigRead_eq, configResult_of_short length]
    · exact execConfigReadEnd_of_read reads none
    · exact execConfigReadTimeout_of_read reads

end Sys2Proof.Machine
end

section
/-! The recomputation and the guard (R38 to R53). -/

namespace Sys2Proof.Machine

/-- Guard and lift timer after an evaluation (R52, R53). -/
def guardAfter (guard : Bool) (lift : Option Nat) (estimate available now : Nat) : Bool × Option Nat :=
  if guard then
    if estimate < liftThreshold available then (true, some (lift.getD (now + liftTime))) else (true, none)
  else (decide (available < estimate), lift)

section
variable {s : State}

/-- R52, R53: an evaluation of the guard changes the guard and its lift timer. -/
theorem evaluateGuard_eq (s : State) :
    evaluateGuard s =
      let after := guardAfter s.shu.guard s.shu.liftTimer s.drawEstimate s.shu.available s.now
      { s with shu := { s.shu with guard := after.1, liftTimer := after.2 } } := by
  simp only [evaluateGuard, guardAfter]
  split
  · next on =>
    split
    · split
      · next t its =>
        have same : (true, some (s.shu.liftTimer.getD (s.now + liftTime))) = (s.shu.guard, s.shu.liftTimer) := by
          rw [on, its]; rfl
        rw [same]
      · next its => simp [its, ← on]
    · simp [← on]
  · next off =>
    have off : s.shu.guard = false := by simpa using off
    split
    · next above => simp [above]
    · next below => simp [below, ← off]

theorem evaluateGuard_of_clear (clear : s.shu.guard = false) (above : s.shu.available < s.drawEstimate) :
    evaluateGuard s = { s with shu := { s.shu with guard := true } } := by
  simp [evaluateGuard, clear, above]

theorem evaluateGuard_of_low (clear : s.shu.guard = false) (below : s.drawEstimate ≤ s.shu.available) :
    evaluateGuard s = s := by
  simp [evaluateGuard, clear, below.not_gt]

theorem evaluateGuard_of_lift (active : s.shu.guard = true)
    (low : s.drawEstimate < liftThreshold s.shu.available) (none : s.shu.liftTimer = none) :
    evaluateGuard s = { s with shu := { s.shu with liftTimer := some (s.now + 2000) } } := by
  simp [evaluateGuard, active, low, none, liftTime]

theorem evaluateGuard_of_lifting (active : s.shu.guard = true)
    (low : s.drawEstimate < liftThreshold s.shu.available) (runs : s.shu.liftTimer ≠ none) : evaluateGuard s = s := by
  obtain ⟨t, its⟩ := Option.ne_none_iff_exists'.1 runs
  simp [evaluateGuard, active, low, its]

theorem evaluateGuard_of_high (active : s.shu.guard = true)
    (high : liftThreshold s.shu.available ≤ s.drawEstimate) :
    evaluateGuard s = { s with shu := { s.shu with liftTimer := none } } := by
  simp [evaluateGuard, active, high.not_gt]

theorem drawEstimate_eq (s : State) :
    s.drawEstimate = s.shu.draw + (s.shelfPeers.map fun p => if p.state = .live then p.draw else s.shu.floor).sum +
      s.shu.unheard * s.shu.floor := by
  simp [State.drawEstimate]

theorem recomputed_of_active (active : s.cfl.phase = .active) :
    recomputed s = recomputeTarget (evaluateGuard (recomputeFloor (recomputeClaim s))) := by
  simp [recomputed, State.isActive, active]

theorem peerTerm_eq (floor : Nat) (p : Peer) :
    peerTerm floor p = if p.state = .live then p.claim else if p.state = .quiet then max floor p.claim else floor := by
  unfold peerTerm
  cases p.state <;> simp

theorem settledOf_eq (claim : Nat) (h : Vector Nat 4) :
    settledOf claim h = min claim (min (min h[0] h[1]) (min h[2] h[3])) := by
  obtain ⟨⟨xs⟩, size⟩ := h
  match xs, size with
  | [a, b, c, d], _ =>
    change min (min (min (min claim a) b) c) d = min claim (min (min a b) (min c d))
    omega

theorem mem_shelfPeers {p : Peer} :
    p ∈ s.shelfPeers ↔ ∃ a : Addr, a ≠ s.cfl.address ∧ s.peer a = some p ∧ p.role = .shelf := by
  have all : ∀ a : Addr, a ∈ allAddrs := by decide
  simp only [State.shelfPeers, List.mem_filterMap, all, true_and]
  refine exists_congr fun a => ?_
  change (if a = s.cfl.address then none else match s.peer a with
    | some p => if p.role == .shelf then some p else none | none => none) = some p ↔ _
  by_cases own : a = s.cfl.address
  · simp [own]
  · cases entry : s.peer a with
    | none => simp [own]
    | some q =>
      by_cases shelf : q.role = .shelf
      · simp only [own, if_false, shelf, beq_self_eq_true, if_true, ne_eq, not_false_eq_true, true_and]
        constructor
        · rintro ⟨rfl⟩
          exact ⟨rfl, shelf⟩
        · exact fun h => h.1
      · have other : (q.role == Role.shelf) = false := beq_eq_false_iff_ne.2 shelf
        simp only [own, if_false, other, Bool.false_eq_true, reduceCtorEq, ne_eq, not_false_eq_true, true_and, false_iff]
        rintro ⟨same, its⟩
        cases same
        exact shelf its

end

/-- R44, R45: the three cases of the target. -/
theorem targetOf_cases (settled floor surplus total : Nat) :
    targetOf true settled floor surplus total = min settled floor ∧
      (settled ≤ floor → targetOf false settled floor surplus total = settled) ∧
      (floor < settled → total ≤ surplus → targetOf false settled floor surplus total = settled) ∧
      (floor < settled → surplus < total →
        targetOf false settled floor surplus total = floor + surplus * (settled - floor) / total) := by
  refine ⟨rfl, fun below => ?_, fun above enough => ?_, fun above scarce => ?_⟩
  · simp [targetOf, below]
  · simp [targetOf, above.not_ge, enough]
  · simp [targetOf, above.not_ge, scarce.not_ge]

/-- R44, R45: the target where borrowing is not suspended. -/
theorem recomputeTarget_free {s : State} (free : s.suspended = false) :
    let u := (recomputeTarget s).shu
    (u.settled ≤ u.floor → u.target = u.settled) ∧
      (u.floor < u.settled → u.totalExcess ≤ u.surplus → u.target = u.settled) ∧
      (u.floor < u.settled → u.surplus < u.totalExcess →
        u.target = u.floor + u.surplus * u.excess / u.totalExcess) := by
  simp only [recomputeTarget, free]
  exact (targetOf_cases _ _ _ _).2

/-- Settles O20. -/
theorem recomputationSetsTheTarget : Obligations.RecomputationSetsTheTarget := by
  refine ⟨fun s => ⟨drawEstimate_eq s, fun clear above => ?_, fun clear below => ?_, fun active low none => ?_,
    fun active low runs => ?_, fun active high => ?_⟩, fun s active => ?_⟩
  · exact evaluateGuard_of_clear clear (drawEstimate_eq s ▸ above)
  · exact evaluateGuard_of_low clear (drawEstimate_eq s ▸ below)
  · exact evaluateGuard_of_lift active (drawEstimate_eq s ▸ low) none
  · exact evaluateGuard_of_lifting active (drawEstimate_eq s ▸ low) runs
  · exact evaluateGuard_of_high active (drawEstimate_eq s ▸ high)
  · have its := recomputed_of_active active
    rw [evaluateGuard_eq] at its
    simp only [its]
    refine ⟨rfl, rfl, rfl, fun p => mem_shelfPeers, rfl, rfl, rfl, rfl, settledOf_eq _ _, ?_, ?_, rfl, rfl, ?_, ?_,
      fun held => ?_⟩
    · simp only [← peerTerm_eq]; rfl
    · simp only [← peerTerm_eq]; rfl
    · rw [evaluateGuard_eq]; exact ⟨rfl, rfl⟩
    · exact fun held => (congrArg (targetOf · _ _ _ _) held).trans (targetOf_cases _ _ _ _).1
    · exact recomputeTarget_free held

end Sys2Proof.Machine
end

section
/-! The timers of sharing and the aging of peers (R26, R29, R33, R53). -/

namespace Sys2Proof.Machine

/-! ### The first notice of a command -/

section
variable {P : State → Prop} {w : Work}

/-- A command with a notice ends where the notices end that stand after the first is worked. -/
theorem finish_of_first {n : Notice} {ns : List Notice} (first : w.todo = n :: ns) :
    w.finish =
      (settle 4095 { st := (handle n (startWork w.st)).st, todo := (handle n (startWork w.st)).todo ++ ns }).st := by
  have bound : noticeBound = 4095 + 1 := rfl
  rw [Work.finish, bound, settle]
  simp only [first]

/-- What the effects of notices keep, and the first notice of a command brings about, holds when all are worked. -/
theorem finish_brings (keeps : ∀ e s t, e.inner = true → Change e s t → P s → P t) {n : Notice}
    {ns : List Notice} (first : w.todo = n :: ns) (brought : P (handle n (startWork w.st)).st) : P w.finish := by
  rw [finish_of_first first]
  refine settle_keeps_all (fun m s holds => ?_) _ _ brought
  exact (handle_acts m (startWork s)).keeps (fun e may s t => keeps e s t (inner_of_effectsOf may)) holds

/-- The same for a command whose work is a recomputation. -/
theorem finish_recompute (keeps : ∀ e s t, e.inner = true → Change e s t → P s → P t) {s : State}
    (brought : P (recomputed s)) : P ((startWork s).raise .recompute).finish := by
  refine finish_brings keeps rfl ?_
  change P (recompute (startWork s)).st
  rwa [recompute, Work.raiseIf_st]

end

section
variable {s t : State} {e : Effect}

/-! ### Isolation -/

/-- R46, R50: under isolation the allowance is the lesser of settled claim and floor. -/
structure IsolatedShare (s : State) : Prop where
  isolated : s.pmn.isolated = true
  allowance : s.shu.allowance = min s.shu.settled s.shu.floor

theorem recomputed_isolatedShare (isolated : s.pmn.isolated = true) (active : s.cfl.phase = .active) :
    IsolatedShare (recomputed s) := by
  have its := recomputed_of_active active
  rw [evaluateGuard_eq] at its
  have keep : (recomputed s).pmn = s.pmn := by rw [recomputed_eq]
  refine ⟨keep ▸ isolated, ?_⟩
  have suspended : ∀ u : State, u.pmn = s.pmn → u.suspended = true := fun u same => by
    simp [State.suspended, same, isolated]
  rw [its]
  refine (congrArg (targetOf · _ _ _ _) (suspended _ ?_)).trans (targetOf_cases _ _ _ _).1
  rfl

theorem Change.isolatedShare (h : Change e s t) (inner : e.inner = true) (law : IsolatedShare s) : IsolatedShare t := by
  cases h
  case recompute =>
    by_cases active : s.cfl.phase = .active
    · exact recomputed_isolatedShare law.isolated active
    · have same : recomputed s = s := by simp [recomputed, State.isActive, active]
      rwa [same]
  case reads b rs =>
    unfold requestReads
    split <;> exact ⟨law.isolated, law.allowance⟩
  all_goals first | exact absurd inner (by decide) | exact ⟨law.isolated, law.allowance⟩

/-! ### The guard -/

/-- The guard as an evaluation with a clear guard leaves it (R52), with the F and U of a recomputation. -/
structure GuardSet (s : State) : Prop where
  floor : s.shu.floor = s.shu.available / max s.cfl.config.shelves (1 + s.shelfPeers.length)
  unheard : s.shu.unheard = max s.cfl.config.shelves (1 + s.shelfPeers.length) - 1 - s.shelfPeers.length
  lift : s.shu.liftTimer = none
  guard : s.shu.guard = true ↔ s.shu.available < s.drawEstimate

/-- R52: an evaluation from a clear guard, or from one that the estimate keeps, sets it by the estimate alone. -/
theorem guardAfter_set {guard : Bool} {estimate available now : Nat} (kept : guard = true → available < estimate) :
    guardAfter guard none estimate available now = (decide (available < estimate), none) := by
  cases guard
  · rfl
  · have above := kept rfl
    have high : ¬ estimate < liftThreshold available := by
      unfold liftThreshold
      omega
    simp [guardAfter, high, above]

theorem recomputed_guardSet (active : s.cfl.phase = .active) (lift : s.shu.liftTimer = none)
    (kept : s.shu.guard = true → s.shu.available < (recomputeFloor s).drawEstimate) : GuardSet (recomputed s) := by
  have its := recomputed_of_active active
  rw [evaluateGuard_eq] at its
  have set : guardAfter s.shu.guard s.shu.liftTimer (recomputeFloor s).drawEstimate s.shu.available s.now =
      (decide (s.shu.available < (recomputeFloor s).drawEstimate), none) := by
    rw [lift]
    exact guardAfter_set kept
  rw [its]
  refine ⟨rfl, rfl, congrArg Prod.snd set, ?_⟩
  exact (Bool.eq_iff_iff.1 (congrArg Prod.fst set)).trans decide_eq_true_iff

theorem Change.guardSet (h : Change e s t) (inner : e.inner = true) (law : GuardSet s) : GuardSet t := by
  cases h
  case recompute =>
    by_cases active : s.cfl.phase = .active
    · have same : (recomputeFloor s).drawEstimate = s.drawEstimate := by
        have floors : (recomputeFloor s).shu.floor = s.shu.floor := law.floor.symm
        have unheard : (recomputeFloor s).shu.unheard = s.shu.unheard := law.unheard.symm
        rw [drawEstimate_eq, drawEstimate_eq, floors, unheard]
        rfl
      exact recomputed_guardSet active law.lift (same ▸ law.guard.1)
    · have same : recomputed s = s := by simp [recomputed, State.isActive, active]
      rwa [same]
  case reads b rs =>
    unfold requestReads
    split <;> exact ⟨law.floor, law.unheard, law.lift, law.guard⟩
  all_goals first | exact absurd inner (by decide) | exact ⟨law.floor, law.unheard, law.lift, law.guard⟩

/-- The guard outside ACTIVE, where no recomputation evaluates it. -/
structure GuardClear (s : State) : Prop where
  waits : s.cfl.phase ≠ .active
  lift : s.shu.liftTimer = none
  guard : s.shu.guard = false

theorem Change.guardClear (h : Change e s t) (inner : e.inner = true) (law : GuardClear s) : GuardClear t := by
  cases h
  case recompute =>
    have same : recomputed s = s := by simp [recomputed, State.isActive, law.waits]
    rwa [same]
  case reads b rs =>
    unfold requestReads
    split <;> exact ⟨law.waits, law.lift, law.guard⟩
  all_goals first | exact absurd inner (by decide) | exact ⟨law.waits, law.lift, law.guard⟩

end

/-- Settles O17. -/
theorem sharingTimersExpire : Obligations.SharingTimersExpire := by
  intro d s
  refine ⟨fun timer => ?_, fun timer => ?_, fun timer => ?_⟩
  · have ran : exec .isolationTimerExpired s =
        carryOut ((s.advanceTo d).modPmn fun m => { m with isolationTimer := none, isolated := true })
          (Work.raise .recompute) := by
      simp only [exec, execIsolationTimerExpired, timer]
    refine ⟨_, ran, finish_steady _, fun active => ?_⟩
    exact (finish_recompute (P := IsolatedShare) (fun _ _ _ inner changed => changed.isolatedShare inner)
      (s := (s.advanceTo d).modPmn fun m => { m with isolationTimer := none, isolated := true })
      (recomputed_isolatedShare rfl active)).allowance
  · have ran : exec .clashHoldExpired s =
        carryOut ((s.advanceTo d).modPmn fun m => { m with clashHold := none }) (Work.raise .recompute) := by
      simp only [exec, execClashHoldExpired, timer]
    exact ⟨_, ran, finish_steady _⟩
  · have ran : exec .guardLiftTimerExpired s =
        carryOut ((s.advanceTo d).modShu fun u => { u with guard := false, liftTimer := none })
          (Work.raise .recompute) := by
      simp only [exec, execGuardLiftTimerExpired, timer]
    by_cases active : s.cfl.phase = .active
    · have set := finish_recompute (P := GuardSet) (fun _ _ _ inner changed => changed.guardSet inner)
        (s := (s.advanceTo d).modShu fun u => { u with guard := false, liftTimer := none })
        (recomputed_guardSet active rfl (fun on => absurd on Bool.false_ne_true))
      exact ⟨_, ran, finish_steady _, set.lift, fun _ => set.guard, fun waits => absurd active waits⟩
    · have clear := finish_keeps (P := GuardClear) (fun _ _ _ inner changed => changed.guardClear inner)
        (w := (startWork ((s.advanceTo d).modShu fun u => { u with guard := false, liftTimer := none })).raise .recompute)
        ⟨active, rfl, rfl⟩
      exact ⟨_, ran, finish_steady _, clear.lift, fun holds => absurd holds active, fun _ => clear.guard⟩

theorem agePeer_eq {a : Addr} {p : Peer} {w : Work} (entry : w.st.peer a = some p) (limit : Nat) (new : PeerState) :
    agePeer a limit p.state new w =
      (w.upd fun s =>
        (s.advanceTo (p.heardAt + limit)).setPeer a (some { p with state := new, mismatch := false })).raise
        .recompute := by
  simp only [agePeer, entry, if_true]

/-- Settles O19. -/
theorem peersAge : Obligations.PeersAge := by
  intro a p s entry
  refine ⟨fun live => ?_, fun quiet => ?_⟩
  · have aged := agePeer_eq (w := startWork s) entry quietAge .quiet
    rw [live] at aged
    exact ⟨_, rfl, (finish_steady _).trans (by rw [aged]; rfl)⟩
  · have aged := agePeer_eq (w := startWork s) entry lostAge .lost
    rw [quiet] at aged
    exact ⟨_, rfl, (finish_steady _).trans (by rw [aged]; rfl)⟩

end Sys2Proof.Machine
end

section
/-! Contention lost (R6, R17, R18), and the key bits of a stuffed frame (R2). -/

namespace Sys2Proof.Machine

/-! ### Stuff bits and their marks -/

theorem length_stuffMarks (last : Bool) (run : Nat) (raw : List Bool) :
    (stuffMarks last run raw).length = raw.length := by
  induction raw generalizing last run with
  | nil => rfl
  | cons b raw ih =>
    unfold stuffMarks
    split <;> simp [ih]

/-- R2: without its stuff bits a stuffed part is what was stuffed. -/
theorem unmarked_stuffFrom (last : Bool) (run : Nat) (bits rest : List Bool) (short : run < 5) :
    (((stuffFrom last run bits).zip (stuffMarks last run (stuffFrom last run bits ++ rest))).filter
      fun x => !x.2).map (fun x => x.1) = bits := by
  induction bits generalizing last run with
  | nil => rfl
  | cons b bits ih =>
    have first : run ≠ 5 := short.ne
    by_cases full : (if b = last then run + 1 else 1) = 5
    · have again := ih (!b) 1 (by decide)
      simp only [stuffFrom, full, List.cons_append, stuffMarks, first, if_false, if_true, List.zip_cons_cons]
      simpa using again
    · have again := ih b (if b = last then run + 1 else 1)
        (lt_of_le_of_ne (by split <;> omega) full)
      simp only [stuffFrom, full, List.cons_append, stuffMarks, first, if_false, List.zip_cons_cons]
      simpa using again

theorem keyBit_iff (driven : List Bool) (i : Nat) :
    keyBit driven i = true ↔
      (stuffMarks true 0 driven)[i]? = some false ∧ 1 ≤ ((stuffMarks true 0 driven).take i).count false ∧
        ((stuffMarks true 0 driven).take i).count false ≤ 20 := by
  simp [keyBit, and_assoc]

/-! ### The one frame in transmission -/

section
variable {f g : TxFrame} {q : List TxFrame} {s : State}

theorem filter_of_one {p : TxFrame → Bool} (one : (q.filter p).length ≤ 1) (among : f ∈ q) (its : p f = true) :
    q.filter p = [f] := by
  have mem : f ∈ q.filter p := List.mem_filter.2 ⟨among, its⟩
  cases all : q.filter p with
  | nil => rw [all] at mem; cases mem
  | cons k ks =>
    rw [all] at one mem
    have none : ks = [] := List.length_eq_zero_iff.1 (by simpa using one)
    subst none
    rw [List.mem_singleton.1 mem]

theorem eq_of_one {p : TxFrame → Bool} (one : (q.filter p).length ≤ 1) (among : f ∈ q) (its : p f = true)
    (among' : g ∈ q) (its' : p g = true) : g = f := by
  have mem : g ∈ q.filter p := List.mem_filter.2 ⟨among', its'⟩
  rw [filter_of_one one among its] at mem
  exact List.mem_singleton.1 mem

/-- R5: the frame in transmission on a sending line is the one whose transmission ends. -/
theorem sentFrame_of_sending (law : LinkLaw s) (line : s.lkc.line = .sending) (among : f ∈ s.lkc.queue)
    (sending : f.inTransmission = true) : sentFrame s = some f := by
  rw [sentFrame, if_pos line, sendingFrame, ← List.head?_filter, filter_of_one law.oneSending among sending]
  rfl

/-- R5, R17: where the frame in transmission is the HEARTBEAT of the queue, it alone is either. -/
theorem heartbeat_iff_sending (law : LinkLaw s) (among : f ∈ s.lkc.queue) (sending : f.inTransmission = true)
    (heartbeat : f.kind = .heartbeat) (among' : g ∈ s.lkc.queue) :
    (g.kind == .heartbeat) = g.inTransmission := by
  have kind : (f.kind == .heartbeat) = true := beq_iff_eq.2 heartbeat
  rw [Bool.eq_iff_iff]
  constructor
  · intro its
    exact eq_of_one law.oneHeartbeat among kind among' its ▸ sending
  · intro its
    exact eq_of_one law.oneSending among sending among' its ▸ kind

theorem mapSending_off (q : List TxFrame) :
    mapSending (fun g => { g with inTransmission := false }) q = q.map fun g => { g with inTransmission := false } := by
  refine List.map_congr_left fun g _ => ?_
  split
  · rfl
  · next rests =>
    have off : g.inTransmission = false := by simpa using rests
    rw [← off]

/-- R17: the pending body in the HEARTBEAT that was in transmission, after a change of that frame. -/
theorem refill_mapSending (law : LinkLaw s) (among : f ∈ s.lkc.queue) (sending : f.inTransmission = true)
    (heartbeat : f.kind = .heartbeat) (c : TxFrame → TxFrame) (kind : ∀ g, (c g).kind = g.kind)
    (body : List Byte) (word : Word16) :
    ((mapSending c s.lkc.queue).map fun g => if g.kind == .heartbeat then { g with body := body, attempts := 0 } else g).map
        (fun g => if g.kind == .heartbeat then { g with body := fillWord g.body word } else g) =
      s.lkc.queue.map fun g =>
        if g.inTransmission then { c g with attempts := 0, body := fillWord body word } else g := by
  rw [mapSending, List.map_map, List.map_map]
  refine List.map_congr_left fun g among' => ?_
  have same := heartbeat_iff_sending law among sending heartbeat among'
  cases its : g.inTransmission with
  | true =>
    have own : g.kind = .heartbeat := eq_of_beq (same.trans its)
    have changed : (c g).kind = .heartbeat := (kind g).trans own
    simp [its, changed]
  | false =>
    have other : g.kind ≠ .heartbeat := fun own => by simp [own, its] at same
    simp [its, other]

end

/-- Settles O9. -/
theorem contentionLostKeepsTheFrame : Obligations.ContentionLostKeepsTheFrame := by
  refine ⟨fun f read s law line among sending => ?_, fun bits rest => ?_⟩
  · have frame := sentFrame_of_sending law line among sending
    have lost_iff := readBack_eq_lost_iff s.lkc.driven read
    simp only [firstMismatch_eq_some_iff] at lost_iff
    refine ⟨fun none => ?_, fun i its => ?_⟩
    · have same : readBack s.lkc.driven read ≠ .lost := fun lost => by
        obtain ⟨i, ⟨alike, b, driven, read⟩, high, key⟩ := lost_iff.1 lost
        rw [driven] at high
        cases high
        exact none ⟨i, alike, driven, read, key⟩
      simp only [exec, execContentionLost, frame]
      split
      · next lost => exact absurd lost same
      · rfl
    · obtain ⟨alike, driven, read', key⟩ := its
      have lost := lost_iff.2 ⟨i, ⟨alike, true, driven, read'⟩, driven, key⟩
      have ran : exec (.contentionLost read) s = .next (s.modLkc (loseContention f read)) := by
        simp only [exec, execContentionLost, frame, lost]
      refine ⟨_, ran, rfl, fun withdrawn => ?_, fun stays plain => ?_, fun body stays heartbeat pending => ?_⟩
      · simp only [State.modLkc, loseContention, if_pos withdrawn]
        rfl
      · have kept : loseContention f read s.lkc = { s.lkc.followAsReceiver read with
            queue := mapSending (fun g => { g with inTransmission := false }) s.lkc.queue } := by
          rcases plain with other | none
          · simp only [loseContention, stays, beq_eq_false_iff_ne.2 other, Bool.false_eq_true, if_false]
            rfl
          · simp only [loseContention, stays, Lkc.replaceByPending, Lkc.followAsReceiver, none, ite_self,
              Bool.false_eq_true, if_false]
        rw [mapSending_off] at kept
        simp only [State.modLkc, kept]
        rfl
      · have filled := refill_mapSending law among sending heartbeat (fun g => { g with inTransmission := false })
          (fun _ => rfl) body s.lkc.errors
        have its : loseContention f read s.lkc = { s.lkc.followAsReceiver read with
            pendingHeartbeat := none, carried := s.lkc.errors, renewal := 0,
            queue := s.lkc.queue.map fun g => if g.inTransmission then
              { g with inTransmission := false, attempts := 0, body := fillWord body s.lkc.errors } else g } := by
          rw [← filled]
          simp only [loseContention, stays, heartbeat, Lkc.replaceByPending, Lkc.followAsReceiver, pending,
            Bool.false_eq_true, if_false, beq_self_eq_true, if_true]
          rfl
        simp only [State.modLkc, its]
        rfl
  · exact ⟨length_stuffMarks _ _ _, unmarked_stuffFrom true 0 bits rest (by decide), keyBit_iff _⟩

end Sys2Proof.Machine
end

section
/-! What the notices do where no lane machine is at work and no campaign is held: no session ends, no bay goes on a
lane, and the link, the doors, the claims and the tables are left alone. -/

namespace Sys2Proof.Machine

/-- No lane machine is at work (with `idle`: none serves a bay), and no campaign is held. -/
structure Still (idle : Prop) (s : State) : Prop where
  rests : ∀ n x, s.lane n = some x → laneWorks x.stage = false
  lanes : idle → ∀ n, s.lane n = none
  campaigns : ∀ k, s.campaign k = none

/-- A CUSTODY write requested where the tablet takes it. -/
def custodyAsked (b : BayIx) : Set Effect :=
  {e | ∃ v, e = .write b (.custody v) ∨ e = .tell (.writeEnded b (.custody v) .replaced)}

/-- The notices that a station at rest works without a frame, a door or a lane moving. -/
def Calm (idle : Prop) : Notice → Prop
  | .recompute | .split | .wishInput _ | .chargeChanged _ | .channelChanged _ _ | .laneChannel _ _ | .doorMoved _ _
  | .episodeEnded _ _ _ _ | .reevaluate _ | .reevaluateAll | .select _ | .serviceChanged _ => True
  | .reading _ r cls => r = .ident → cls = .same
  | .writeEnded _ (.chargeLimit _) _ => True
  | .writeEnded _ (.custody _) o => o ≠ .refused
  | .writeEnded _ (.provControl _) _ => idle
  | .discarded f => f.kind ≠ .offer ∧ f.kind ≠ .deny
  | .releaseAnswered _ _ o => o = .pendingLane ∨ o = .unused
  | .releaseAsked _ _ | .laneIdle _ => False

/-- The effects of the calm notices at a station at rest. -/
def calmEffectsOf : Notice → Set Effect
  | .recompute => {.recompute, .tell .split}
  | .split => splitting
  | .wishInput b => refreshing b
  | .chargeChanged b | .doorMoved b _ => {.tell (.reevaluate b)}
  | .channelChanged b st => charging b ∪ {.prov b, .freeChoice, .tell (.reevaluate b), .tell (.laneChannel b st)}
  | .laneChannel b _ => {.prov b, .tell (.reevaluate b)}
  | .reading b _ _ => chargeReads b ∪ {.tell (.reevaluate b)}
  | .writeEnded _ _ _ | .discarded _ | .releaseAsked _ _ | .laneIdle _ => ∅
  | .episodeEnded b _ _ _ => custodyAsked b ∪ {.tell (.reevaluate b)}
  | .releaseAnswered b _ _ => custodyAsked b
  | .reevaluate _ | .reevaluateAll => evaluating
  | .select _ => {.items}
  | .serviceChanged b => charging b

section
variable {idle : Prop} {s t : State} {w : Work} {b : BayIx}

theorem Still.of_quiet (h : lanesQuiet s) : Still True s :=
  ⟨fun n x its => (by rw [h.1 n] at its; cases its), fun _ => h.1, h.2⟩

theorem Still.of_ending (h : lanesEnding s) : Still False s :=
  ⟨fun n x its => by
    obtain ⟨o, stage⟩ := h.1 n x its
    rw [stage]
    rfl, fun no => no.elim, h.2⟩

theorem Still.of_same (h : Still idle s) (lanes : ∀ n, t.lane n = s.lane n) (campaigns : t.pvs.campaigns = s.pvs.campaigns) :
    Still idle t :=
  ⟨fun n x its => h.rests n x (lanes n ▸ its), fun none n => (lanes n).trans (h.lanes none n), fun k => by
    have its := h.campaigns k
    unfold State.campaign at its ⊢
    rw [campaigns, its]⟩

/-! ### What a station at rest leaves alone -/

theorem abortLane_stay (h : Still idle w.st) (o : LaneOutcome) : abortLane b o w = w := by
  unfold abortLane
  split
  · rfl
  · exact endSession_stay o fun x session => h.rests _ x session

theorem chargeAbort_stay (h : Still idle w.st) : chargeAbort b w = w := by
  unfold chargeAbort
  split
  · exact abortLane_stay h _
  iterate 3 rfl
  all_goals exact abortLane_stay h _

theorem batteryAbort_stay (h : Still idle w.st) : batteryAbort b w = w := by
  unfold batteryAbort
  split <;> [exact abortLane_stay h _; rfl]

theorem channelAbort_calm {can : Set Effect} (h : Still idle w.st) (st : ChannelState) (may : .prov b ∈ can) :
    Acts can w (channelAbort b st w) := by
  cases st
  · simp only [channelAbort, abortLane_stay h]
    exact clearAttempts_acts may
  · exact .refl
  all_goals
    simp only [channelAbort, abortLane_stay h]
    exact .refl

theorem laneWorking_still (h : Still idle s) : s.laneWorking b = false :=
  laneWorking_eq_false_iff.2 fun n x session _ => h.rests n x session

theorem profileReading_stay (h : Still idle w.st) : profileReading b w = w := by
  unfold profileReading
  split
  · rfl
  · split
    · next x p session _ =>
      have rests := h.rests _ x session
      cases stage : x.stage <;> simp only [stage, laneWorks, Bool.true_eq_false] at rests ⊢
    · rfl

theorem laneOf_idle (h : ∀ n, s.lane n = none) : s.laneOf b = none := laneOf_eq_none_iff.2 fun n x session => by
  rw [h n] at session
  cases session

theorem requestCustody_calm {can : Set Effect} (v : CustodyWrite) (h : custodyAsked b ⊆ can) :
    Acts can w (requestCustody b v w) := by
  unfold requestCustody
  dsimp only
  split
  · next takes =>
    obtain ⟨active, supported⟩ := Bool.and_eq_true_iff.1 takes
    have open_channel : (w.st.bay b).channel.state = .active := eq_of_beq active
    have written : Acts can w (w.upd fun s => s.modChannel b fun c => addPending c (.custody v)) :=
      Acts.refl.change (h ⟨v, .inl rfl⟩) (.write _ open_channel nofun)
    simp only [requestWrite, open_channel, supported, bne_self_eq_false, Bool.false_eq_true, if_false, Bool.not_true]
    split
    · next old its =>
      obtain ⟨u, -, rfl⟩ := Option.map_eq_some_iff.1 its
      exact written.tell (h ⟨u, .inr rfl⟩)
    · exact written
  · exact .refl

theorem selectFrom_calm {can : Set Effect} (h : ∀ k, w.st.campaign k = none) (may : .items ∈ can) (n : LaneIx) (k : Nat) :
    Acts can w (selectFrom n k w) := by
  induction k generalizing w with
  | zero => exact .refl
  | succ k ih =>
    unfold selectFrom
    split
    · exact .refl
    · next x streak _ =>
      have dropped : Acts can w (w.upd fun s => s.modPvs fun p => { p with queue := dropItem x.bay p.queue }) :=
        Acts.refl.change may (.items _ w.st.pvs.streak)
      have none : (w.upd fun s => s.modPvs fun p => { p with queue := dropItem x.bay p.queue }).st.campaign x.slot = none :=
        h x.slot
      simp only [none]
      exact dropped.trans (ih h)

theorem episodeEndNotice_calm {can : Set Effect} (attr : OpenAttr) (r : Option ReleaseRecord) (p : Bool)
    (h : custodyAsked b ⊆ can) : Acts can w (episodeEndNotice b attr r p w) := by
  unfold episodeEndNotice
  split
  · split <;> [exact requestCustody_calm _ h; exact .refl]
  · exact .refl

theorem channelNotice_calm (h : Still idle w.st) (st : ChannelState) :
    Acts (calmEffectsOf (.channelChanged b st)) w (channelNotice b st w) := by
  have later : Acts (calmEffectsOf (.channelChanged b st)) w
      ((chargeChannel b st (channelAbort b st w)).raise (.reevaluate b)) :=
    ((channelAbort_calm h st (.inr (.inl rfl))).trans
      (chargeChannel_acts (fun _ among => .inl among) st)).tell (.inr (.inr (.inr (.inl rfl))))
  have rests : w.st.laneWorking b = false := laneWorking_still h
  cases st
  case silent | stuck =>
    simp only [channelNotice, rests, Bool.false_and, Bool.false_eq_true, if_false]
    exact later
  all_goals exact later

/-! ### What the calm effects leave alone -/

/-- The effects on what a station at rest decides afresh: the shares, the wishes, the charge sections, the reads. -/
def Effect.calm : Effect → Bool
  | .tell _ | .need | .recompute | .applied | .freeChoice | .wish _ | .tune _ | .enter _ | .write _ _ | .answered _
  | .reads _ | .channelUp _ | .items | .prov _ | .count _ | .session _ => true
  | _ => false

theorem calm_of_writing {r : DockRegister} {e : Effect} (h : e ∈ writing r b) : e.calm = true := by
  rcases h with rfl | ⟨x, -, rfl | ⟨o, rfl⟩⟩ <;> rfl

theorem calm_of_refreshing {e : Effect} (h : e ∈ refreshing b) : e.calm = true := by
  rcases h with rfl | rfl | rfl | rfl <;> rfl

theorem calm_of_charging {e : Effect} (h : e ∈ charging b) : e.calm = true := by
  rcases h with (((rfl | rfl) | h) | h) | h
  iterate 2 rfl
  · exact calm_of_refreshing h
  · rcases h with rfl | rfl | rfl | rfl <;> rfl
  · exact calm_of_writing h

theorem calm_of_custodyAsked {e : Effect} (h : e ∈ custodyAsked b) : e.calm = true := by
  obtain ⟨v, rfl | rfl⟩ := h <;> rfl

theorem calm_of_effects {n : Notice} {e : Effect} (h : e ∈ calmEffectsOf n) : e.calm = true := by
  cases n with
  | recompute => rcases h with rfl | rfl <;> rfl
  | split =>
    rcases h with rfl | ⟨b, (h | h) | rfl | rfl⟩
    · rfl
    · exact calm_of_refreshing h
    · exact calm_of_writing h
    iterate 2 rfl
  | wishInput b => exact calm_of_refreshing h
  | chargeChanged b | doorMoved b left => cases h; rfl
  | channelChanged b st =>
    rcases h with h | rfl | rfl | rfl | rfl
    · exact calm_of_charging h
    all_goals rfl
  | laneChannel b st => rcases h with rfl | rfl <;> rfl
  | reading b r cls =>
    rcases h with (rfl | h) | rfl
    · rfl
    · exact calm_of_charging h
    · rfl
  | writeEnded b x o | discarded f | releaseAsked b r | laneIdle b => exact absurd h (Set.notMem_empty _)
  | episodeEnded b attr r p =>
    rcases h with h | rfl
    · exact calm_of_custodyAsked h
    · rfl
  | releaseAnswered b r o => exact calm_of_custodyAsked h
  | reevaluate b | reevaluateAll => rcases h with rfl | rfl | rfl <;> rfl
  | select n => cases h; rfl
  | serviceChanged b => exact calm_of_charging h

/-- The calm notices tell calm ones. -/
theorem Calm.told {n m : Notice} (calm : Calm idle n) (h : .tell m ∈ calmEffectsOf n) : Calm idle m := by
  have refreshed : ∀ b, .tell m ∈ refreshing b → Calm idle m := fun b h => by
    rcases h with h | h | h | h <;> cases h <;> trivial
  have limited : ∀ b, .tell m ∈ writing .chargeLimit b → Calm idle m := fun b h => by
    rcases h with h | ⟨x, register, h | ⟨o, h⟩⟩
    · cases h
    · cases h
    · cases h
      cases x with
      | chargeLimit g => trivial
      | custody v | provControl v => cases register
  have charged : ∀ b, .tell m ∈ charging b → Calm idle m := fun b h => by
    rcases h with ((h | h) | h) | h
    · rcases h with h | h <;> cases h <;> trivial
    · exact refreshed b h
    · rcases h with h | h | h | h <;> cases h <;> trivial
    · exact limited b h
  have asked : ∀ b, .tell m ∈ custodyAsked b → Calm idle m := fun b h => by
    obtain ⟨v, h | h⟩ := h <;> cases h
    exact nofun
  cases n with
  | recompute => rcases h with h | h <;> cases h <;> trivial
  | split =>
    rcases h with h | ⟨b, (h | h) | h | h⟩
    · cases h
    · exact refreshed b h
    · exact limited b h
    all_goals cases h <;> trivial
  | wishInput b => exact refreshed b h
  | chargeChanged b | doorMoved b left =>
    cases h
    trivial
  | channelChanged b st =>
    rcases h with h | h | h | h | h
    · exact charged b h
    all_goals cases h <;> trivial
  | laneChannel b st => rcases h with h | h <;> cases h; trivial
  | reading b r cls =>
    rcases h with (h | h) | h
    · cases h
    · exact charged b h
    · cases h; trivial
  | writeEnded b x o | discarded f | releaseAsked b r | laneIdle b => exact absurd h (Set.notMem_empty _)
  | episodeEnded b attr r p =>
    rcases h with h | h
    · exact asked b h
    · cases h; trivial
  | releaseAnswered b r o => exact asked b h
  | reevaluate b | reevaluateAll => rcases h with h | h | h <;> cases h <;> trivial
  | select n => cases h
  | serviceChanged b => exact charged b h

/-- What the calm effects leave as it is. -/
structure Calmed (s t : State) : Prop where
  lkc : t.lkc = s.lkc
  csu : t.csu = s.csu
  lane : ∀ n, t.lane n = s.lane n
  campaigns : t.pvs.campaigns = s.pvs.campaigns
  door : ∀ b, (t.bay b).door = (s.bay b).door
  claim : ∀ b, (t.bay b).claim = (s.bay b).claim

theorem Calmed.refl : Calmed s s := ⟨rfl, rfl, fun _ => rfl, rfl, fun _ => rfl, fun _ => rfl⟩

theorem Calmed.trans {r : State} (h : Calmed r s) (h' : Calmed s t) : Calmed r t :=
  ⟨h'.lkc.trans h.lkc, h'.csu.trans h.csu, fun n => (h'.lane n).trans (h.lane n), h'.campaigns.trans h.campaigns,
    fun b => (h'.door b).trans (h.door b), fun b => (h'.claim b).trans (h.claim b)⟩

theorem Calmed.of_modBay {f : Bay → Bay} (door : ∀ x, (f x).door = x.door) (claim : ∀ x, (f x).claim = x.claim) :
    Calmed s (s.modBay b f) :=
  ⟨rfl, rfl, fun _ => rfl, rfl, fun c => State.read_modBay s b c _ door, fun c => State.read_modBay s b c _ claim⟩

theorem Calmed.still (h : Calmed s t) (still : Still idle s) : Still idle t := still.of_same h.lane h.campaigns

theorem Change.calmed {e : Effect} (changed : Change e s t) (calm : e.calm = true) : Calmed s t := by
  cases changed
  case need | applied | freeChoice | items => exact ⟨rfl, rfl, fun _ => rfl, rfl, fun _ => rfl, fun _ => rfl⟩
  case recompute =>
    rw [recomputed_eq]
    exact ⟨rfl, rfl, fun _ => rfl, rfl, fun _ => rfl, fun _ => rfl⟩
  case reads b rs =>
    unfold requestReads
    split
    iterate 2 exact .of_modBay (fun _ => rfl) fun _ => rfl
    all_goals exact .refl
  case wish | tune | enter | write | answered | channelUp | prov | count | session =>
    exact .of_modBay (fun _ => rfl) fun _ => rfl
  all_goals exact absurd calm Bool.false_ne_true

/-- R145, R147, R151: at a station at rest a calm notice has its calm effects alone. -/
theorem handle_calm {n : Notice} (h : Still idle w.st) (calm : Calm idle n) :
    Acts (calmEffectsOf n) w (handle n w) := by
  cases n with
  | recompute => exact recompute_acts fun _ among => among
  | split => exact runSplit_acts fun _ among => among
  | wishInput b => exact refreshWish_acts fun _ among => among
  | chargeChanged b =>
    simp only [handle, chargeAbort_stay h]
    exact Acts.refl.tell rfl
  | channelChanged b st => exact channelNotice_calm h st
  | laneChannel b st => exact (channelAbort_calm h st (.inl rfl)).tell (.inr rfl)
  | reading b r cls =>
    have read : Acts (calmEffectsOf (.reading b r cls)) w (chargeReading b r w) :=
      chargeReading_acts (fun _ among => .inl among) r
    have again : Effect.tell (.reevaluate b) ∈ calmEffectsOf (.reading b r cls) := .inr rfl
    have same : Still idle (chargeReading b r w).st := by
      exact read.keeps (fun e may _ _ changed still => (changed.calmed (calm_of_effects may)).still still) h
    cases r
    case ident =>
      obtain rfl := calm rfl
      exact read.tell again
    case battery =>
      simp only [handle, readingNotice, batteryAbort_stay same]
      exact read.tell again
    case chargeRequest => exact read
    case profile =>
      simp only [handle, readingNotice, profileReading_stay h]
      exact Acts.refl.tell again
    all_goals exact .refl
  | writeEnded b x o =>
    cases x with
    | custody v =>
      cases o
      case refused => exact absurd rfl calm
      all_goals exact .refl
    | provControl v =>
      simp only [handle, writeNotice, provEnded, laneOf_idle (h.lanes calm)]
      exact .refl
    | chargeLimit g => exact .refl
  | discarded f =>
    obtain ⟨offer, deny⟩ := calm
    simp only [handle, discardNotice]
    cases kind : f.kind <;> first | exact absurd kind offer | exact absurd kind deny | exact .refl
  | doorMoved b left =>
    simp only [handle, abortLane_stay h, ite_self]
    exact Acts.refl.tell rfl
  | episodeEnded b attr r p => exact (episodeEndNotice_calm attr r p fun _ among => .inl among).tell (.inr rfl)
  | releaseAsked b r => exact calm.elim
  | releaseAnswered b r o =>
    rcases calm with rfl | rfl
    · exact .refl
    · simp only [handle, releaseAnswer]
      split <;> [exact requestCustody_calm _ fun _ among => among; exact .refl]
  | laneIdle b => exact calm.elim
  | reevaluate b => exact reevaluate_acts fun _ among => among
  | reevaluateAll => exact reevaluateAll_acts fun _ among => among
  | select n =>
    simp only [handle, selectLane]
    split <;> [exact selectFrom_calm h.campaigns (by trivial) n _; exact .refl]
  | serviceChanged b => exact serviceChanged_acts fun _ among => among

/-! ### Calm notices until none is left -/

/-- What the effects of the calm notices keep, holds when all are worked. -/
theorem settle_calm {P : State → Prop}
    (keeps : ∀ n e, Calm idle n → e ∈ calmEffectsOf n → ∀ s t, Change e s t → P s → P t) (k : Nat)
    (still : Still idle w.st) (start : ∀ n ∈ w.todo, Calm idle n) (holds : P w.st) : P (settle k w).st := by
  refine (settle_keeps (P := fun s => Still idle s ∧ P s) (Q := Calm idle) (fun n s calm ⟨still, holds⟩ => ?_) k w
    ⟨still, holds⟩ start).2
  have acts := handle_calm (w := startWork s) still calm
  refine ⟨⟨acts.keeps (fun e may _ _ changed still => (changed.calmed (calm_of_effects may)).still still) still,
    acts.keeps (fun e may => keeps n e calm may) holds⟩, fun m told => ?_⟩
  rcases acts.told m told with earlier | now
  · cases earlier
  · exact calm.told now

theorem settle_calmed (k : Nat) (still : Still idle w.st) (start : ∀ n ∈ w.todo, Calm idle n) :
    Calmed w.st (settle k w).st :=
  settle_calm (P := Calmed w.st) (fun _ _ _ may _ _ changed before => before.trans (changed.calmed (calm_of_effects may)))
    k still start .refl

theorem finish_calmed (still : Still idle w.st) (start : ∀ n ∈ w.todo, Calm idle n) : Calmed w.st w.finish :=
  settle_calmed _ still start

/-- The notices of work that has calm effects are calm. -/
theorem Acts.told_calm {n : Notice} {v : Work} (acts : Acts (calmEffectsOf n) w v) (calm : Calm idle n)
    (start : ∀ m ∈ w.todo, Calm idle m) : ∀ m ∈ v.todo, Calm idle m := fun m told =>
  (acts.told m told).elim (start m) calm.told

end

end Sys2Proof.Machine
end

section
/-! Frames that are not accepted, and the address clash (R9 to R12, R19, R20, R33). -/

namespace Sys2Proof.Machine

section
variable {s t : State} {w : Work}

/-- R47: in START and LISTEN the SHU lets a trigger pass. -/
theorem finish_of_waiting (waits : w.st.cfl.phase ≠ .active) (told : w.todo = [.recompute]) : w.finish = w.st := by
  have inactive : w.st.isActive = false := by simp [State.isActive, waits]
  have passes : handle .recompute (startWork w.st) = startWork w.st := by
    simp [handle, recompute, recomputed, inactive, Work.upd, Work.raiseIf, startWork]
  rw [finish_of_first told, passes]
  rfl

/-- R19: placing a frame clears no flag. -/
theorem placed_flag {i : Nat} (f : TxFrame) (set : w.st.lkc.errors.getLsbD i = true) :
    (place f w).st.lkc.errors.getLsbD i = true := by
  rw [place_eq]
  change (w.st.lkc.placed f).errors.getLsbD i = true
  unfold Lkc.placed
  split
  · exact set
  · simp [Lkc.flagged, set]

/-- R19: no effect of a notice clears a flag. -/
theorem finish_flag {i : Nat} (set : w.st.lkc.errors.getLsbD i = true) : w.finish.lkc.errors.getLsbD i = true := by
  refine finish_keeps (P := fun s => s.lkc.errors.getLsbD i = true) (fun e s t inner changed holds => ?_) set
  cases changed
  case frame f bid idle other =>
    have its := placed_flag (w := startWork s) f holds
    rwa [place_eq] at its
  case recompute => rwa [recomputed_eq]
  case reads => unfold requestReads; split <;> exact holds
  case release =>
    rw [startRelease]
    exact holds
  all_goals first | exact absurd inner Bool.false_ne_true | exact holds

/-! ### The endings of a reception -/

/-- The LKC's record after a frame that was not accepted, with the flags of the reason. -/
def Lkc.refused (follow : Lkc → Lkc) (mask : Word16) (c : Bool) (d : Nat) (l : Lkc) : Lkc :=
  follow { l.flagged mask with
    counters := { l.counters with
      corrected := l.counters.corrected + (if c then 1 else 0),
      discarded := l.counters.discarded + BitVec.ofNat 32 d } }

/-- The LKC's record when it waits for idle. -/
def Lkc.waits (l : Lkc) : Lkc := { l with line := .waiting, recessive := 0, followed := [] }

theorem waitForIdle_discarded (f : LinkFlag) (c : Bool) (s : State) :
    waitForIdle (discardReceived f (noteCorrected c s)) =
      { s with lkc := s.lkc.refused Lkc.waits (correctedMask c ||| flagBit f) c 1 } := by
  rw [noteCorrected_eq, discardReceived_eq]
  simp only [waitForIdle, State.modLkc, Lkc.noted_noted, Lkc.refused, Lkc.waits]
  simp [Lkc.noted, correctedCount]

/-- The LKC's record when it has followed a frame to the end of its end field. -/
def Lkc.freed (now : Nat) (l : Lkc) : Lkc := { l with line := .idle, idleSince := now, idleBits := 0, followed := [] }

theorem discarded_lineFree (f : LinkFlag) (c : Bool) (s : State) :
    discardReceived f (lineFree (noteCorrected c s)) =
      { s with lkc := s.lkc.refused (Lkc.freed s.now) (correctedMask c ||| flagBit f) c 1 } := by
  rw [noteCorrected_eq, discardReceived_eq]
  simp only [lineFree, State.modLkc, Lkc.refused, Lkc.noted, Lkc.freed, correctedCount, Lkc.flagged]
  simp [BitVec.or_assoc, BitVec.and_or_distrib_left]

theorem lineFree_noted (c : Bool) (s : State) :
    lineFree (noteCorrected c s) = { s with lkc := s.lkc.refused (Lkc.freed s.now) (correctedMask c) c 0 } := by
  rw [noteCorrected_eq]
  simp [lineFree, State.modLkc, Lkc.refused, Lkc.noted, Lkc.freed, correctedCount]

/-! ### The address clash -/

/-- R33: the clash hold starts again. -/
def clashStarted (s : State) : State := s.modPmn fun m => { m with clashHold := some (s.now + clashTime) }

theorem reportClash_held (held : w.st.clashHeld = true) : reportClash w = w.upd clashStarted := by
  simp only [reportClash, held, if_true]
  rfl

theorem reportClash_new (free : w.st.clashHeld = false) :
    reportClash w = (placeEvent 13 noBay 0 0 .pmn (w.upd clashStarted)).raise .recompute := by
  simp only [reportClash, free, Bool.false_eq_true, if_false]
  rfl

/-- R10 to R13: what is made of a frame that has ended, where it raises no notice. -/
theorem execFrameReceived_quiet {bits : List Bool} {c good : Bool} {h : Header} {body : List Byte}
    (receiving : s.lkc.line = .receiving) (ended : receiveBits (s.lkc.followed ++ bits) = .ended c h body good)
    {f : State → State}
    (taken : takeFrame h body good (startWork (lineFree (noteCorrected c s))) =
      (startWork (lineFree (noteCorrected c s))).upd f) :
    exec (.frameReceived bits) s = .next (f (lineFree (noteCorrected c s))) := by
  rw [execFrameReceived_ended receiving ended, carryOut, taken, finish_of_quiet (by rw [Work.upd_todo]; rfl), Work.upd_st]
  rfl

theorem lineFree_cfl (c : Bool) (s : State) : (lineFree (noteCorrected c s)).cfl = s.cfl := by rw [lineFree_noted]

/-- A frame that has ended, is good, of a known kind and of a length of its kind. -/
theorem takeFrame_known {h : Header} {body : List Byte} {kind : FrameKind} (known : kindOfCode h.kind = some kind)
    (length : kindLengthGood kind body.length = true) :
    takeFrame h body true w =
      if h.source.toFin = w.st.cfl.address then reportClash (w.upd (discardReceived .clash))
      else if addressedHere w.st.cfl.address h.dest then w.upd (acceptFrame (receivedFrame kind h body))
      else w := by
  simp only [takeFrame, known, length, Bool.not_true, Bool.false_eq_true, if_false]

end

/-- Settles O12. -/
theorem framesAreDiscarded : Obligations.FramesAreDiscarded := by
  intro bits s receiving mark waits frees after
  have discarded : ∀ (f : LinkFlag) (c : Bool), discardReceived f (lineFree (noteCorrected c s)) =
      after frees (mark c ||| flagBit f) c 1 := fun f c => discarded_lineFree f c s
  have waiting : ∀ (f : LinkFlag) (c : Bool), waitForIdle (discardReceived f (noteCorrected c s)) =
      after waits (mark c ||| flagBit f) c 1 := fun f c => waitForIdle_discarded f c s
  refine ⟨fun bad => ?_, fun c bad => ?_, fun c bad => ?_, fun c good h body ended => ⟨fun bad => ?_, fun ok unknown => ?_,
    fun kind ok known => ⟨fun length => ?_, fun length foreign notAll notOwn => ?_, fun length own => ?_⟩⟩⟩
  · simp only [exec, execReceptionAborted, receiving, bad, if_true]
    have flags : mark false ||| flagBit .hdrBad = 0x0002 := by decide
    exact congrArg Host.Outcome.next ((waiting .hdrBad false).trans (by rw [flags]))
  · simp only [exec, execReceptionAborted, receiving, bad, if_true]
    exact congrArg _ (waiting .lengthBad c)
  · simp only [exec, execReceptionAborted, receiving, bad, if_true]
    exact congrArg _ (waiting .bodyBad c)
  · subst bad
    rw [execFrameReceived_quiet receiving ended rfl, discarded]
    rfl
  · subst ok
    rw [execFrameReceived_quiet receiving ended (f := discardReceived .kindUnknown), discarded]
    · rfl
    · simp only [takeFrame, unknown]
      rfl
  · subst ok
    rw [execFrameReceived_quiet receiving ended (f := discardReceived .lengthBad), discarded]
    · rfl
    · simp only [takeFrame, known, length]
      rfl
  · subst ok
    have elsewhere : addressedHere s.cfl.address h.dest = false := by
      have notAll : h.dest ≠ 31#5 := notAll
      simp [addressedHere, toAll, notAll, notOwn]
    rw [execFrameReceived_quiet receiving ended (f := id), id, lineFree_noted]
    · rfl
    · rw [takeFrame_known known length, startWork, lineFree_cfl, if_neg foreign, elsewhere]
      rfl
  · subst ok
    intro clash
    have noted : clashStarted (discardReceived .clash (lineFree (noteCorrected c s))) = clash := by
      rw [discarded]
      rfl
    have taken : takeFrame h body true (startWork (lineFree (noteCorrected c s))) =
        reportClash ((startWork (lineFree (noteCorrected c s))).upd (discardReceived .clash)) := by
      rw [takeFrame_known known length, startWork, lineFree_cfl, if_pos own]
    have ran : exec (.frameReceived bits) s =
        .next (reportClash ((startWork (lineFree (noteCorrected c s))).upd (discardReceived .clash))).finish := by
      rw [execFrameReceived_ended receiving ended, carryOut, taken]
    generalize before : (startWork (lineFree (noteCorrected c s))).upd (discardReceived .clash) = w at ran
    have its : w.st = discardReceived .clash (lineFree (noteCorrected c s)) := before ▸ rfl
    have told : w.todo = [] := before ▸ rfl
    have flag : clash.lkc.errors.getLsbD 9 = true := by
      simp [clash, after, frees, Lkc.flagged]
    have hold : w.st.clashHeld = s.pmn.clashHold.isSome := by
      rw [its, discarded]
      rfl
    by_cases free : s.pmn.clashHold = none
    · have new := reportClash_new (w := w) (by rw [hold, free]; rfl)
      have steady : (reportClash w).finish.steady = clash.steady := by
        rw [finish_steady, new]
        exact (placeEvent_steady 13 noBay 0 0 .pmn (w.upd clashStarted)).trans (by rw [Work.upd_st, its, noted])
      have counters := steady_reads (fun x : State => x.lkc.counters.discarded) (fun _ => rfl) steady
      have corrected := steady_reads (fun x : State => x.lkc.counters.corrected) (fun _ => rfl) steady
      have same : clash.lkc.line = .idle ∧ clash.lkc.received = s.lkc.received := ⟨rfl, rfl⟩
      refine ⟨_, ran, (steady_line steady).trans same.1, ?_, counters, corrected, (steady_received steady).trans same.2,
        steady_pmn steady, (steady_cfl steady).trans rfl, (steady_hands steady).trans rfl, fun held => absurd free held,
        fun _ room quiet => ?_⟩
      · refine finish_flag ?_
        rw [new]
        exact placed_flag (w := w.upd clashStarted) _ (by rw [Work.upd_st, its, noted]; exact flag)
      · have start : (w.upd clashStarted).st = clash := by rw [Work.upd_st, its, noted]
        have open_queue : (w.upd clashStarted).st.lkc.queue.length < 8 := by rw [start]; exact room
        rw [placeEvent_of_room 13 noBay 0 0 .pmn open_queue] at new
        have placed : (reportClash w).st.lkc = { clash.lkc with
            queue := insertFrame (newFrame .event 29 toAll [255, 0, 0, 0, 0, 0, 0, 13] .pmn) s.lkc.queue } := by
          rw [new, Work.raise_st, Work.upd_st, start]
          rfl
        have only : (reportClash w).todo = [.recompute] := by
          rw [new]
          simp [Work.raise, told]
        rw [← placed]
        rcases quiet with waits | quiet
        · rw [finish_of_waiting ?_ only]
          rw [new, Work.raise_st, Work.upd_st, start]
          exact waits
        · refine (finish_calmed (idle := True) ?_ ?_).lkc
          · rw [new, Work.raise_st, Work.upd_st, start]
            exact (Still.of_quiet quiet).of_same (fun _ => rfl) rfl
          · rw [only]
            simp [Calm]
    · have same := reportClash_held (w := w) (by rw [hold]; exact Option.isSome_iff_ne_none.2 free)
      have done : (reportClash w).finish = clash := by
        rw [same, finish_of_quiet (by rw [Work.upd_todo, told]), Work.upd_st, its, noted]
      rw [done] at ran
      exact ⟨_, ran, rfl, flag, rfl, rfl, rfl, rfl, rfl, rfl, fun _ => rfl, fun none => absurd none free⟩

end Sys2Proof.Machine
end

section
/-! The heartbeat and its timer (R16, R17, R23, R24), and the notice of a frame that a full queue discards. -/

namespace Sys2Proof.Machine

/-! ### The body (R24) -/

/-- Eight flags as the sum of their weights. -/
theorem getLsbD_weighed : ∀ a b c d e f g h : Bool, ∀ i : Fin 8,
    (BitVec.ofNat 8 (a.toNat + b.toNat * 2 + c.toNat * 4 + d.toNat * 8 + e.toNat * 16 + f.toNat * 32 + g.toNat * 64 +
      h.toNat * 128)).getLsbD i = #v[a, b, c, d, e, f, g, h][i] := by
  decide

section
variable {s : State} {p : BayIx → Bool}

theorem foldl_weights (q : BayIx → Bool) (bays : List BayIx) (n : Nat) :
    bays.foldl (fun n b => if q b then n + 2 ^ b.val else n) n = n + (bays.map fun b => (q b).toNat * 2 ^ b.val).sum := by
  induction bays generalizing n with
  | nil => rfl
  | cons b bays ih =>
    rw [List.foldl_cons, ih, List.map_cons, List.sum_cons]
    cases q b <;> simp [Nat.add_assoc]

/-- R24, R174: a mask has the bit of each populated bay that the condition holds of. -/
theorem getLsbD_maskOf (s : State) (p : BayIx → Bool) (b : BayIx) :
    (maskOf s p).getLsbD b.val = (s.populated b && p b) := by
  have all : allBays = [0, 1, 2, 3, 4, 5, 6, 7] := by decide
  have fold : (s.populatedBays.foldl (fun n b => if p b then n + 2 ^ b.val else n) 0) =
      allBays.foldl (fun n b => if s.populated b && p b then n + 2 ^ b.val else n) 0 := by
    rw [State.populatedBays, List.foldl_filter]
    congr 1
    funext n b
    cases s.populated b <;> cases p b <;> rfl
  rw [maskOf, fold, foldl_weights fun b => s.populated b && p b, all]
  have bits : ∀ (q : BayIx → Bool) (b : BayIx),
      (BitVec.ofNat 8 (0 + (([0, 1, 2, 3, 4, 5, 6, 7] : List BayIx).map fun b => (q b).toNat * 2 ^ b.val).sum)).getLsbD b.val =
        q b := fun q b => by
    have its := getLsbD_weighed (q 0) (q 1) (q 2) (q 3) (q 4) (q 5) (q 6) (q 7) b
    have each : #v[q 0, q 1, q 2, q 3, q 4, q 5, q 6, q 7][b] = q b := by
      fin_cases b <;> rfl
    rw [each] at its
    rw [← its]
    simp [Nat.add_assoc]
  exact bits (fun b => s.populated b && p b) b

/-- R24: the bits of the conditions byte. -/
theorem conditions_bits : ∀ isolated byDefault bad suspended : Bool,
    let c : Byte := BitVec.ofNat 8
      ((if isolated = true then 3 else 2) + byDefault.toNat * 16 + bad.toNat * 32 + suspended.toNat * 64)
    c.toNat % 16 = (if isolated = true then 3 else 2) ∧ c.getLsbD 4 = byDefault ∧ c.getLsbD 5 = bad ∧
      c.getLsbD 6 = suspended ∧ c.getLsbD 7 = false := by
  decide

theorem mismatchHeld_iff : s.mismatchHeld = true ↔ ∃ (a : Addr) (p : Peer), s.peer a = some p ∧ p.mismatch = true := by
  have all : ∀ a : Addr, a ∈ allAddrs := by decide
  simp only [State.mismatchHeld, List.any_eq_true, all, true_and]
  refine exists_congr fun a => ?_
  change (match s.peer a with | some p => p.mismatch | none => false) = true ↔ _
  cases s.peer a <;> simp

theorem suspended_iff : s.suspended = true ↔
    (∃ (a : Addr) (p : Peer), s.peer a = some p ∧ p.mismatch = true) ∨ s.pmn.clashHold ≠ none ∨
      s.shu.guard = true ∨ s.pmn.isolated = true := by
  simp only [State.suspended, Bool.or_eq_true, mismatchHeld_iff, State.clashHeld, Option.isSome_iff_ne_none, or_assoc]

theorem laneOf_isSome_iff {b : BayIx} : (s.laneOf b).isSome = true ↔ ∃ n x, s.lane n = some x ∧ x.bay = b := by
  rw [Option.isSome_iff_ne_none, ne_eq, laneOf_eq_none_iff]
  simp only [ne_eq, not_forall, not_not, exists_prop]

end

/-! ### A heartbeat at the head of the queue (R16, R17) -/

section
variable {f g : TxFrame} {q rest : List TxFrame} {s : State} {w : Work}

/-- R3: no frame but a HEARTBEAT has a key as high as it. -/
theorem rank_pos (other : f.kind ≠ .heartbeat) : 0 < f.rank := by
  unfold TxFrame.rank
  cases kind : f.kind <;> simp only [kindClass] <;> first | omega | exact absurd kind other

theorem insertFrame_heartbeat (body : List Byte) (none : NoHeartbeat q) :
    insertFrame (newFrame .heartbeat 0 toAll body .shu) q = newFrame .heartbeat 0 toAll body .shu :: q := by
  cases q with
  | nil => rfl
  | cons g q =>
    have top : (newFrame .heartbeat 0 toAll body .shu).rank = 0 := by simp [newFrame, TxFrame.rank, kindClass]
    have above : (newFrame .heartbeat 0 toAll body .shu).rank < g.rank := by
      rw [top]
      exact rank_pos (none g List.mem_cons_self)
    rw [insertFrame, if_pos above]

/-- R19: in a queue of one heartbeat, at its head, that one takes the error word. -/
theorem refill_head (none : NoHeartbeat q) (body : List Byte) (word : Word16) :
    ((newFrame .heartbeat 0 toAll body .shu :: q).map fun f =>
        if f.kind == .heartbeat then { f with body := fillWord f.body word } else f) =
      { newFrame .heartbeat 0 toAll body .shu with body := fillWord body word } :: q := by
  have own : ((newFrame .heartbeat 0 toAll body .shu).kind == FrameKind.heartbeat) = true := beq_iff_eq.2 rfl
  rw [List.map_cons, if_pos own]
  refine congrArg₂ List.cons rfl ?_
  refine (List.map_congr_left fun f among => ?_).trans (List.map_id q)
  have other : (f.kind == FrameKind.heartbeat) = false := beq_eq_false_iff_ne.2 (none f among)
  rw [other]
  rfl

theorem queuedHeartbeat_none (none : NoHeartbeat q) : queuedHeartbeat q = Option.none := by
  refine List.find?_eq_none.2 fun f among => ?_
  simpa using none f among

theorem queuedHeartbeat_some (one : (q.filter fun f => f.kind == .heartbeat).length ≤ 1) (among : f ∈ q)
    (heartbeat : f.kind = .heartbeat) : queuedHeartbeat q = some f := by
  rw [queuedHeartbeat, ← List.head?_filter, filter_of_one one among (beq_iff_eq.2 heartbeat)]
  rfl

theorem takeLastIdle_eq_none_iff : takeLastIdle q = none ↔ ∀ g ∈ q, g.inTransmission = true := by
  induction q with
  | nil => simp [takeLastIdle]
  | cons x xs ih =>
    unfold takeLastIdle
    split
    · next victim others later => simp [← ih, later]
    · next none =>
      have sending := ih.1 none
      cases its : x.inTransmission <;> simp [its]
      exact sending

/-- R16: the frame that gives way is the last that is not in transmission. -/
theorem takeLastIdle_split (its : takeLastIdle q = some (f, rest)) :
    ∃ front back, q = front ++ f :: back ∧ rest = front ++ back ∧ f.inTransmission = false ∧
      ∀ g ∈ back, g.inTransmission = true := by
  induction q generalizing rest with
  | nil => cases its
  | cons x xs ih =>
    unfold takeLastIdle at its
    split at its
    · next victim others later =>
      cases its
      obtain ⟨front, back, rfl, rfl, idle, sending⟩ := ih later
      exact ⟨x :: front, back, rfl, rfl, idle, sending⟩
    · next none =>
      split at its
      · cases its
      · next idle =>
        cases its
        exact ⟨[], xs, rfl, rfl, by simpa using idle, takeLastIdle_eq_none_iff.1 none⟩

/-! ### A discarded frame (R130) -/

/-- What a discard notice leaves as it is. -/
structure Unanswering (s t : State) : Prop where
  lkc : t.lkc = s.lkc
  lane : ∀ n, t.lane n = s.lane n
  campaigns : t.pvs.campaigns = s.pvs.campaigns
  door : ∀ b, (t.bay b).door = (s.bay b).door

theorem handle_discarded (f : TxFrame) (s : State) : Unanswering s (handle (.discarded f) (startWork s)).st := by
  refine (handle_acts (.discarded f) (startWork s)).keeps (P := Unanswering s) (fun e may u t changed before => ?_)
    ⟨rfl, fun _ => rfl, rfl, fun _ => rfl⟩
  obtain ⟨lkc, lane, campaigns, door⟩ := before
  rcases may with rfl | ⟨b, rfl | rfl⟩
  · cases changed
    exact ⟨lkc, lane, campaigns, door⟩
  · cases changed
    exact ⟨lkc, lane, campaigns, fun c =>
      (State.read_modBay u b c (·.door) (f := fun x => { x with claim := none }) fun _ => rfl).trans (door c)⟩
  · cases changed

theorem told_of_discarded {idle : Prop} (f : TxFrame) (s : State) :
    ∀ n ∈ (handle (.discarded f) (startWork s)).todo, Calm idle n := fun n told => by
  rcases (handle_acts (.discarded f) (startWork s)).told n told with earlier | now
  · cases earlier
  · rcases now with now | ⟨b, now | now⟩ <;> cases now
    trivial

/-- R130: what a station at rest makes of a discard notice. -/
theorem finish_discarded {idle : Prop} (still : Still idle w.st) (told : w.todo = [.discarded f]) :
    Calmed (handle (.discarded f) (startWork w.st)).st w.finish := by
  have same := handle_discarded f w.st
  rw [finish_of_first told, List.append_nil]
  refine settle_calmed (idle := idle) _ (still.of_same same.lane same.campaigns) fun n among => ?_
  exact told_of_discarded f w.st n among

end

/-! ### The heartbeat offered -/

/-- The LKC's record with a heartbeat placed at the head of its queue (R16, R17, R19). -/
def Lkc.led (body : List Byte) (rest : List TxFrame) (word : Word16) (dropped : Word32) (l : Lkc) : Lkc :=
  { l with
    errors := word, carried := word, renewal := 0,
    counters := { l.counters with dropped := dropped },
    queue := { newFrame .heartbeat 0 toAll body .shu with body := fillWord body word } :: rest }

section
variable {q : List TxFrame} {l : Lkc}

/-- R16, R17: a heartbeat finds room. -/
theorem placed_heartbeat (body : List Byte) (none : NoHeartbeat l.queue) (room : l.queue.length < 8) :
    placeInQueue (newFrame .heartbeat 0 toAll body .shu) l.queue = (newFrame .heartbeat 0 toAll body .shu :: l.queue, Option.none) ∧
      (l.placed (newFrame .heartbeat 0 toAll body .shu)).refillHeartbeat = l.led body l.queue l.errors l.counters.dropped := by
  have placed := placeInQueue_of_room (newFrame .heartbeat 0 toAll body .shu) room
  rw [insertFrame_heartbeat body none] at placed
  refine ⟨placed, ?_⟩
  simp only [Lkc.placed, placed, Lkc.refillHeartbeat, refill_head none, Lkc.takeCopy]
  rfl

/-- R16, R17: a heartbeat finds the queue full. -/
theorem placed_heartbeat_full (body : List Byte) (none : NoHeartbeat l.queue) (full : l.queue.length = 8)
    (one : (l.queue.filter fun f => f.inTransmission).length ≤ 1) :
    ∃ front back victim, l.queue = front ++ victim :: back ∧ victim.inTransmission = false ∧
      (∀ g ∈ back, g.inTransmission = true) ∧
      (placeInQueue (newFrame .heartbeat 0 toAll body .shu) l.queue).2 = some victim ∧
      (l.placed (newFrame .heartbeat 0 toAll body .shu)).refillHeartbeat =
        l.led body (front ++ back) (l.errors ||| 0x0040) (l.counters.dropped + 1) := by
  cases its : takeLastIdle l.queue with
  | none =>
    have all : l.queue.filter (fun f => f.inTransmission) = l.queue :=
      List.filter_eq_self.2 (takeLastIdle_eq_none_iff.1 its)
    rw [all] at one
    omega
  | some pair =>
    obtain ⟨victim, rest⟩ := pair
    obtain ⟨front, back, split, rfl, idle, sending⟩ := takeLastIdle_split its
    have others : NoHeartbeat (front ++ back) := none.sublist (by
      rw [split]
      exact (List.Sublist.refl front).append (List.sublist_cons_self victim back))
    have above : (newFrame .heartbeat 0 toAll body .shu).rank < victim.rank := by
      have top : (newFrame .heartbeat 0 toAll body .shu).rank = 0 := by simp [newFrame, TxFrame.rank, kindClass]
      rw [top]
      exact rank_pos (none victim (by rw [split]; simp))
    have placed : placeInQueue (newFrame .heartbeat 0 toAll body .shu) l.queue =
        (newFrame .heartbeat 0 toAll body .shu :: (front ++ back), some victim) := by
      rw [placeInQueue, if_neg (by rw [full]; decide), its]
      simp only [above, if_true, insertFrame_heartbeat body others]
    refine ⟨front, back, victim, split, idle, sending, by rw [placed], ?_⟩
    simp only [Lkc.placed, placed, Lkc.refillHeartbeat, refill_head others, Lkc.takeCopy]
    rfl

/-- R17: a body takes the place of the queued heartbeat's. -/
theorem replaceHeartbeat_eq (body : List Byte) (l : Lkc) :
    l.replaceHeartbeat body = { l with
      carried := l.errors, renewal := 0,
      queue := l.queue.map fun g =>
        if g.kind = .heartbeat then { g with body := fillWord body l.errors, attempts := 0 } else g } := by
  have same : ∀ g : TxFrame,
      (fun f : TxFrame => if f.kind == .heartbeat then { f with body := fillWord f.body l.errors } else f)
        ((fun f : TxFrame => if f.kind == .heartbeat then { f with body := body, attempts := 0 } else f) g) =
      if g.kind = .heartbeat then { g with body := fillWord body l.errors, attempts := 0 } else g := fun g => by
    by_cases own : g.kind = .heartbeat <;> simp [own]
  simp only [Lkc.replaceHeartbeat, Lkc.refillHeartbeat, Lkc.takeCopy, List.map_map]
  rw [← List.map_congr_left fun g _ => same g]
  rfl

end

section
variable {w : Work} {s : State} {f : TxFrame} {body : List Byte}

theorem offerHeartbeat_new (none : NoHeartbeat w.st.lkc.queue) :
    offerHeartbeat body w =
      { st := w.st.modLkc fun l => (l.placed (newFrame .heartbeat 0 toAll body .shu)).refillHeartbeat,
        todo := w.todo ++
          ((placeInQueue (newFrame .heartbeat 0 toAll body .shu) w.st.lkc.queue).2.map Notice.discarded).toList } := by
  simp only [offerHeartbeat, queuedHeartbeat_none none, placeHeartbeat, place_eq]
  rfl

theorem offerHeartbeat_queued (some : queuedHeartbeat w.st.lkc.queue = some f) :
    offerHeartbeat body w = w.upd fun s => s.modLkc fun l =>
      if f.inTransmission then { l with pendingHeartbeat := Option.some body } else l.replaceHeartbeat body := by
  simp only [offerHeartbeat, some]
  split <;> rfl

end

/-- R24: the 16 bytes of a heartbeat. -/
theorem heartbeatBody_bits (s : State) :
    ∃ conditions populated stocked charging provisioning : Byte,
      heartbeatBody s =
        [1, conditions] ++ bytes16 s.cfl.digest.toNat ++ bytes16 s.shu.claim ++
          bytes16 (min ((s.populatedBays.map fun b => (s.bay b).charge.power).sum) 65535) ++
          bytes16 s.shu.allowance ++ [populated, stocked, charging, provisioning, 0, 0] ∧
      conditions.toNat % 16 = (if s.pmn.isolated = true then 3 else 2) ∧
      (conditions.getLsbD 4 = true ↔ s.cfl.flag = .byDefault) ∧ (conditions.getLsbD 5 = true ↔ s.cfl.flag = .bad) ∧
      (conditions.getLsbD 6 = true ↔
        (∃ (a : Addr) (p : Peer), s.peer a = some p ∧ p.mismatch = true) ∨ s.pmn.clashHold ≠ none ∨ s.shu.guard = true ∨
          s.pmn.isolated = true) ∧
      conditions.getLsbD 7 = false ∧
      ∀ b : BayIx,
        (populated.getLsbD b.val = true ↔ b.val < s.cfl.populated) ∧
        (stocked.getLsbD b.val = true ↔ b.val < s.cfl.populated ∧ (s.bay b).present = true) ∧
        (charging.getLsbD b.val = true ↔ b.val < s.cfl.populated ∧ (s.bay b).charge.state = .charging) ∧
        (provisioning.getLsbD b.val = true ↔ b.val < s.cfl.populated ∧ ∃ n x, s.lane n = some x ∧ x.bay = b) := by
  obtain ⟨state, byDefault, bad, held, top⟩ :=
    conditions_bits s.pmn.isolated (s.cfl.flag == .byDefault) (s.cfl.flag == .bad) s.suspended
  refine ⟨heartbeatConditions s, maskOf s fun _ => true, maskOf s fun b => (s.bay b).present,
    maskOf s fun b => (s.bay b).charge.state == .charging, maskOf s fun b => (s.laneOf b).isSome, ?_, state, ?_, ?_, ?_, top, fun b => ⟨?_, ?_, ?_, ?_⟩⟩
  · simp only [heartbeatBody, heldAt]
    rfl
  · exact (Bool.eq_iff_iff.1 byDefault).trans beq_iff_eq
  · exact (Bool.eq_iff_iff.1 bad).trans beq_iff_eq
  · exact (Bool.eq_iff_iff.1 held).trans suspended_iff
  · rw [getLsbD_maskOf]; simp [State.populated]
  · rw [getLsbD_maskOf]; simp [State.populated]
  · rw [getLsbD_maskOf]; simp [State.populated]
  · rw [getLsbD_maskOf, ← laneOf_isSome_iff]; simp [State.populated]

/-- Settles O16. -/
theorem heartbeatIsOffered : Obligations.HeartbeatIsOffered := by
  refine ⟨heartbeatBody_bits, ?_⟩
  intro d s timer u filled
  have ran : exec .heartbeatTimerExpired s = .next (offerHeartbeat (heartbeatBody u) (startWork u)).finish := by
    simp only [exec, execHeartbeatTimerExpired, timer]
    rfl
  have steady := finish_steady (offerHeartbeat (heartbeatBody u) (startWork u))
  rw [offerHeartbeat_st] at steady
  refine ⟨_, ran, (steady_now steady).trans rfl,
    (steady_reads (fun x : State => x.shu.heartbeatTimer) (fun _ => rfl) steady).trans rfl, (steady_cfl steady).trans rfl,
    (steady_pmn steady).trans rfl, (steady_hands steady).trans rfl, fun f law among heartbeat sending => ?_,
    fun f law among heartbeat idle => ?_, fun none room => ?_, fun law none full => ?_⟩
  · have queued := queuedHeartbeat_some law.oneHeartbeat among heartbeat
    rw [offerHeartbeat_queued (w := startWork u) queued, finish_of_quiet rfl, Work.upd_st]
    simp only [sending, if_true]
    rfl
  · have queued := queuedHeartbeat_some law.oneHeartbeat among heartbeat
    rw [offerHeartbeat_queued (w := startWork u) queued, finish_of_quiet rfl, Work.upd_st]
    simp only [idle, Bool.false_eq_true, if_false, replaceHeartbeat_eq]
    rfl
  · obtain ⟨placed, its⟩ := placed_heartbeat (l := s.lkc) (heartbeatBody u) none room
    have new := offerHeartbeat_new (w := startWork u) (body := heartbeatBody u) none
    rw [new, finish_of_quiet]
    · simp only [State.modLkc]
      exact congrArg (fun l => { u with lkc := l }) its
    · exact congrArg (fun x => [] ++ (x.2.map Notice.discarded).toList) placed
  · obtain ⟨front, back, victim, split, idle, sending, discarded, its⟩ :=
      placed_heartbeat_full (l := s.lkc) (heartbeatBody u) none full law.oneSending
    have new := offerHeartbeat_new (w := startWork u) (body := heartbeatBody u) none
    refine ⟨front, back, victim, split, idle, sending, ?_⟩
    have state : (offerHeartbeat (heartbeatBody u) (startWork u)).st =
        { u with lkc := s.lkc.led (heartbeatBody u) (front ++ back) (s.lkc.errors ||| 0x0040) (s.lkc.counters.dropped + 1) } := by
      rw [new]
      exact congrArg (fun l => { u with lkc := l }) its
    have told : (offerHeartbeat (heartbeatBody u) (startWork u)).todo = [.discarded victim] := by
      rw [new]
      exact congrArg (fun x => [] ++ (x.map Notice.discarded).toList) discarded
    intro word placed
    refine ⟨?_, fun quiet => ?_⟩
    · rw [finish_steady, state]
      rfl
    · have still : Still True (offerHeartbeat (heartbeatBody u) (startWork u)).st := by
        rw [state]
        exact (Still.of_quiet quiet).of_same (fun _ => rfl) rfl
      rw [(finish_discarded still told).lkc, (handle_discarded victim _).lkc, state]
      rfl

end Sys2Proof.Machine
end

section
/-! A heartbeat heard (R28, R32). -/

namespace Sys2Proof.Machine

/-- R174: the two bytes of a two-byte value. -/
theorem bytes16_word16At (body : List Byte) (i : Nat) :
    bytes16 (word16At body i).toNat = [byteAt body i, byteAt body (i + 1)] := by
  have low := (byteAt body (i + 1)).isLt
  have high := (byteAt body i).isLt
  rw [toNat_word16At, bytes16]
  simp only [byteAt] at low high ⊢
  congr 1
  · apply BitVec.eq_of_toNat_eq
    rw [BitVec.toNat_ofNat]
    omega
  · congr 1
    apply BitVec.eq_of_toNat_eq
    rw [BitVec.toNat_ofNat]
    omega

/-- R28: the entry that a heartbeat gives its source. -/
theorem heardPeer_eq (now : Nat) (own : Word16) (body : List Byte) :
    heardPeer now own (readHeartbeat body) =
      { state := .live, role := roleOfByte (byteAt body 0), claim := (word16At body 4).toNat,
        draw := (word16At body 6).toNat, allowance := (word16At body 8).toNat, digest := word16At body 2,
        mismatch := decide (roleOfByte (byteAt body 0) = .shelf ∧ word16At body 2 ≠ own),
        errorWord := word16At body 14 &&& 0x03FF, heardAt := now } := by
  simp only [heardPeer, readHeartbeat, bne, Bool.decide_and, ne_eq, decide_not]
  rfl

section
variable {w : Work} {a : Addr} {h : HeartbeatBody}

/-- R28, R32: the work of a heartbeat heard, but the notice that follows it. -/
theorem takeHeartbeat_eq (a : Addr) (h : HeartbeatBody) (w : Work) :
    ∃ changed : Bool, takeHeartbeat a h w =
      ((if (heardPeer w.st.now w.st.cfl.digest h).mismatch && !isMismatched (w.st.peer a) then
        placeEvent 12 noBay (BitVec.ofNat 32 a.val) h.digest.toNat .pmn
          (w.upd fun s => s.setPeer a (some (heardPeer w.st.now w.st.cfl.digest h)))
      else w.upd fun s => s.setPeer a (some (heardPeer w.st.now w.st.cfl.digest h))).raiseIf changed .recompute) :=
  ⟨_, rfl⟩

/-- A calm notice that work without notices may raise. -/
theorem finish_raiseIf_calmed {idle : Prop} (still : Still idle w.st) (quiet : w.todo = []) (c : Bool) {n : Notice}
    (calm : Calm idle n) : Calmed w.st (w.raiseIf c n).finish := by
  have same : (w.raiseIf c n).st = w.st := by rw [Work.raiseIf_st]
  rw [← same] at still ⊢
  refine finish_calmed still fun m told => ?_
  cases c
  · rw [Work.raiseIf, if_neg Bool.false_ne_true, quiet] at told
    cases told
  · rw [Work.raiseIf, if_pos rfl, Work.raise, quiet] at told
    rw [List.mem_singleton.1 told]
    exact calm

theorem isMismatched_iff {p : Option Peer} : isMismatched p = true ↔ ∃ x, p = some x ∧ x.mismatch = true := by
  cases p <;> simp [isMismatched]

end

/-- Settles O18. -/
theorem heartbeatUpdatesThePeer : Obligations.HeartbeatUpdatesThePeer := by
  intro f s hand kind source role entry
  have ran : exec .heartbeat s =
      carryOut (s.setHand none .pmn) (takeHeartbeat f.source (readHeartbeat f.body)) := by
    simp only [exec, execHeartbeat]
    rw [fromHand_eq_carryOut (k := .pmn) hand (by simp [kind])]
    simp only [carryOut]
    rw [if_neg (by exact source)]
  have heard : heardPeer s.now s.cfl.digest (readHeartbeat f.body) = entry := heardPeer_eq _ _ _
  obtain ⟨changed, its⟩ := takeHeartbeat_eq f.source (readHeartbeat f.body) (startWork (s.setHand none .pmn))
  have heard' : heardPeer (startWork (s.setHand none .pmn)).st.now (startWork (s.setHand none .pmn)).st.cfl.digest
    (readHeartbeat f.body) = entry := heard
  rw [heard'] at its
  rw [carryOut] at ran
  generalize takeHeartbeat f.source (readHeartbeat f.body) (startWork (s.setHand none .pmn)) = w at its ran
  generalize noted : (startWork (s.setHand none .pmn)).upd (fun s => s.setPeer f.source (some entry)) = v at its
  have state : v.st = { s with
      hands := { s.hands with pmn := none },
      pmn := { s.pmn with peers := s.pmn.peers.set f.source (some entry) } } := noted ▸ rfl
  have quiet : v.todo = [] := noted ▸ rfl
  have marked_iff : isMismatched ((startWork (s.setHand none .pmn)).st.peer f.source) = true ↔
      ∃ p : Peer, s.peer f.source = some p ∧ p.mismatch = true := isMismatched_iff
  have still : lanesQuiet s → ∀ u : State, u.pvs = s.pvs → Still True u := fun rests u same =>
    (Still.of_quiet rests).of_same (fun n => by rw [State.lane, State.lane, same]) (by rw [same])
  refine ⟨_, ran, ?_, fun set free rests room => ?_, fun clear rests => ?_⟩
  · rw [finish_steady, its, Work.raiseIf_st]
    split
    · rw [placeEvent_steady, state]
    · rw [state]
  · have told : (entry.mismatch && !isMismatched ((startWork (s.setHand none .pmn)).st.peer f.source)) = true := by
      rw [set, Bool.true_and, Bool.not_eq_true', ← Bool.not_eq_true, marked_iff]
      exact free
    have space : v.st.lkc.queue.length < 8 := by rw [state]; exact room
    rw [told, if_pos rfl, placeEvent_of_room 12 noBay _ _ .pmn space] at its
    have digest : bytes16 (readHeartbeat f.body).digest.toNat = [byteAt f.body 2, byteAt f.body 3] :=
      bytes16_word16At f.body 2
    rw [its]
    refine (finish_raiseIf_calmed (still rests _ ?_) (by rw [Work.upd_todo, quiet]) changed (by trivial)).lkc.trans ?_
    · rw [Work.upd_st, state]
      rfl
    · rw [Work.upd_st, state, State.modLkc, eventFrame, digest]
      rfl
  · have untold : (entry.mismatch && !isMismatched ((startWork (s.setHand none .pmn)).st.peer f.source)) = false := by
      rcases clear with clear | held
      · rw [clear, Bool.false_and]
      · rw [marked_iff.2 held, Bool.not_true, Bool.and_false]
    rw [untold, if_neg Bool.false_ne_true] at its
    rw [its, (finish_raiseIf_calmed (still rests _ (by rw [state])) quiet changed (by trivial)).lkc, state]

end Sys2Proof.Machine
end

section
/-! Completed transmissions (R8, R17, R19, R25, R26, R130, R131). -/

namespace Sys2Proof.Machine

section
variable {s t : State} {w : Work} {f : TxFrame} {l : Lkc}

/-! ### The queue after the frame in transmission has left it -/

theorem length_dropSending (capacity : l.queue.length ≤ txCapacity) (among : f ∈ l.queue)
    (sending : f.inTransmission = true) : (dropSending l.queue).length < 8 :=
  (List.length_filter_lt_length_iff_exists.2 ⟨f, among, by simp [sending]⟩).trans_le capacity

/-- R17: a pending body finds room at the head of a queue without a heartbeat. -/
theorem pendingPlaced_some {body : List Byte} (pending : l.pendingHeartbeat = some body) (none : NoHeartbeat l.queue)
    (room : l.queue.length < 8) :
    l.pendingPlaced =
      Lkc.led body l.queue l.errors l.counters.dropped { l with pendingHeartbeat := Option.none } := by
  simp only [Lkc.pendingPlaced, pending]
  exact (placed_heartbeat (l := { l with pendingHeartbeat := Option.none }) body none room).2

theorem pendingPlaced_none (pending : l.pendingHeartbeat = none) : l.pendingPlaced = l := by
  simp only [Lkc.pendingPlaced, pending]

/-- R17: placing the pending body where there is room raises no notice. -/
theorem placePending_quiet (none : NoHeartbeat w.st.lkc.queue) (room : w.st.lkc.queue.length < 8) :
    (placePending w).todo = w.todo := by
  unfold placePending
  split
  · rfl
  · next body its =>
    have placed := (placed_heartbeat (l := w.st.lkc) body none room).1
    rw [placeHeartbeat, place_eq, Work.upd_todo]
    simp only [Work.upd_st, State.modLkc_lkc, placed, Work.upd_todo]
    simp

theorem eq_startWork (st : w.st = s) (todo : w.todo = []) : w = startWork s := by
  obtain ⟨_, _⟩ := w
  cases st
  cases todo
  rfl

/-! ### The LKC's part (R8) -/

/-- R8: the LKC's record when the frame in transmission has gone out. -/
def Lkc.rested (now : Nat) (l : Lkc) : Lkc :=
  { l with
    line := .idle, idleSince := now, idleBits := 0, driven := [], queue := dropSending l.queue,
    counters := { l.counters with sent := l.counters.sent + 1 } }

theorem sentOff_other (other : f.kind ≠ .heartbeat) (now : Nat) (l : Lkc) : l.sentOff f now = l.rested now := by
  simp only [Lkc.sentOff, beq_eq_false_iff_ne.2 other]
  rfl

theorem sentOff_heartbeat (heartbeat : f.kind = .heartbeat) (now : Nat) (l : Lkc) :
    l.sentOff f now = (l.rested now).heartbeatDone.pendingPlaced := by
  simp only [Lkc.sentOff, heartbeat, beq_self_eq_true, if_true]
  rfl

theorem completeTransmission_quiet (law : LinkLaw w.st) (among : f ∈ w.st.lkc.queue) (sending : f.inTransmission = true) :
    (completeTransmission f w).todo = w.todo := by
  unfold completeTransmission
  dsimp only
  split
  · next heartbeat =>
    rw [placePending_quiet]
    · rfl
    · exact noHeartbeat_dropSending law.line.queue among sending (eq_of_beq heartbeat)
    · exact length_dropSending law.capacity among sending
  · rfl

/-- R8: what a completed transmission is. -/
theorem execTransmissionComplete_of_sending (law : LinkLaw s) (line : s.lkc.line = .sending) (among : f ∈ s.lkc.queue)
    (sending : f.inTransmission = true) :
    exec .transmissionComplete s =
      .next (completionNotice f (startWork (s.modLkc (Lkc.sentOff f s.now)))).finish := by
  have work : completeTransmission f (startWork s) = startWork (s.modLkc (Lkc.sentOff f s.now)) :=
    eq_startWork (completeTransmission_st f (startWork s))
      (completeTransmission_quiet (w := startWork s) law among sending)
  simp only [exec, execTransmissionComplete, sentFrame_of_sending law line among sending, carryOut, work]

/-! ### The completion notices of OFFER and DENY (R130, R131) -/

theorem queuedClaim_iff {r : Reader} {q : Byte} {c : PendingClaim} :
    queuedClaim r q c = true ↔ c.reader = r ∧ c.sequence = q ∧ c.inWindow = false := by
  simp [queuedClaim, and_assoc]

theorem modSlot_of_held {r : Reader} {q : Byte} {x : PresentationSlot} (held : s.slot r = some x) (same : x.sequence = q)
    (g : PresentationSlot → PresentationSlot) : s.modSlot r q g = s.setSlot r (some (g x)) := by
  simp only [State.modSlot, held, same, if_true]

theorem modSlot_of_free {r : Reader} {q : Byte} (free : ¬ ∃ x, s.slot r = some x ∧ x.sequence = q)
    (g : PresentationSlot → PresentationSlot) : s.modSlot r q g = s := by
  unfold State.modSlot
  split
  · next x held =>
    split
    · next same => exact absurd ⟨x, held, same⟩ free
    · rfl
  · rfl

/-- What of a completed heartbeat stays while notices are worked: nothing goes out, and no body is pending. -/
structure Rested (s : State) : Prop where
  capacity : s.lkc.queue.length ≤ txCapacity
  unsent : Unsent s.lkc.queue
  pending : s.lkc.pendingHeartbeat = none

theorem Change.rested {e : Effect} (changed : Change e s t) (inner : e.inner = true) (law : Rested s) : Rested t := by
  obtain ⟨capacity, unsent, pending⟩ := law
  cases changed
  case frame f bid idle other =>
    refine ⟨?_, fun g among => ?_, ?_⟩
    · rw [State.modLkc_lkc, Lkc.placed_queue]
      rcases placeInQueue_cases f s.lkc.queue capacity with same | ⟨rest, -, room, placed⟩
      · rwa [same]
      · rw [placed, length_insertFrame]
        exact room
    · rw [State.modLkc_lkc, Lkc.placed_queue] at among
      rcases mem_placeInQueue capacity among with rfl | before
      · exact idle
      · exact unsent g before
    · rw [State.modLkc_lkc, Lkc.placed_eq]
      exact pending
  case recompute => rw [recomputed_eq]; exact ⟨capacity, unsent, pending⟩
  case reads => unfold requestReads; split <;> exact ⟨capacity, unsent, pending⟩
  case release => rw [startRelease]; exact ⟨capacity, unsent, pending⟩
  all_goals first | exact absurd inner Bool.false_ne_true | exact ⟨capacity, unsent, pending⟩

/-- R130, R131: an OFFER that finds no claim of its own does no more. -/
theorem offerCompleted_free
    (free : ¬ ∃ c, (w.st.bay (offerBay f.body)).claim = some c ∧ c.inWindow = false ∧
      answerReader f.body = some c.reader ∧ c.sequence = bodySequence f.body) : offerCompleted f w = w := by
  simp only [offerCompleted]
  split
  · next r c reader claim =>
    split
    · next queued =>
      obtain ⟨same, sequence, window⟩ := queuedClaim_iff.1 queued
      exact absurd ⟨c, claim, window, same ▸ reader, sequence⟩ free
    · rfl
  · rfl

theorem offerCompleted_claimed {c : PendingClaim} (claim : (w.st.bay (offerBay f.body)).claim = some c)
    (window : c.inWindow = false) (reader : answerReader f.body = some c.reader) (sequence : c.sequence = bodySequence f.body) :
    offerCompleted f w = w.upd fun s =>
      (s.modBay (offerBay f.body) fun x => { x with claim := some (openWindow s.now c) }).modSlot c.reader
        (bodySequence f.body) fun x => { x with decided := true, own := .claimed } := by
  have queued : queuedClaim c.reader (bodySequence f.body) c = true := queuedClaim_iff.2 ⟨rfl, sequence, window⟩
  simp only [offerCompleted, reader, claim, queued, if_true]

theorem modAnswered_free {g : PresentationSlot → PresentationSlot}
    (free : ¬ ∃ r x, answerReader f.body = some r ∧ s.slot r = some x ∧ x.sequence = bodySequence f.body) :
    s.modAnswered f g = s := by
  unfold State.modAnswered
  split
  · rfl
  · next r reader => exact modSlot_of_free (fun ⟨x, held, same⟩ => free ⟨r, x, reader, held, same⟩) g

theorem modAnswered_held {r : Reader} {x : PresentationSlot} (reader : answerReader f.body = some r)
    (held : s.slot r = some x) (same : x.sequence = bodySequence f.body) (g : PresentationSlot → PresentationSlot) :
    s.modAnswered f g = s.setSlot r (some (g x)) := by
  simp only [State.modAnswered, reader, modSlot_of_held held same]

end

/-- Settles O11. -/
theorem transmissionCompletes : Obligations.TransmissionCompletes := by
  intro f s law line among sending rest freed sent kept claimed held
  have ran := execTransmissionComplete_of_sending law line among sending
  have other : f.kind ≠ .heartbeat → s.modLkc (Lkc.sentOff f s.now) = sent := fun other => by
    rw [State.modLkc, sentOff_other other]
    rfl
  refine ⟨_, ran, fun notHeartbeat notOffer notDeny => ?_, fun offer free => ?_, fun c offer claim => ?_,
    fun deny free => ?_, fun r x deny own answer => ?_, fun heartbeat => ?_⟩
  · rw [other notHeartbeat]
    unfold completionNotice
    split
    · next its => exact absurd its notHeartbeat
    · next its => exact absurd its notOffer
    · next its => exact absurd its notDeny
    · exact finish_of_quiet rfl
  · rw [other (by rw [offer]; decide)]
    simp only [completionNotice, offer]
    rw [offerCompleted_free (w := startWork sent) free]
    exact finish_of_quiet rfl
  · intro opened
    rw [other (by rw [offer]; decide)]
    obtain ⟨its, window, reader, sequence⟩ := claim
    simp only [completionNotice, offer]
    rw [offerCompleted_claimed (w := startWork sent) its window reader sequence, finish_of_quiet rfl, Work.upd_st]
    refine ⟨fun x answer => ?_, fun free => ?_⟩
    · obtain ⟨-, slot, same⟩ := answer
      exact modSlot_of_held (s := opened) slot same _
    · exact modSlot_of_free (s := opened) (fun ⟨x, slot, same⟩ => free ⟨x, reader, slot, same⟩) _
  · rw [other (by rw [deny]; decide)]
    simp only [completionNotice, deny]
    have stays : denyCompleted f (startWork sent) = startWork sent := by
      unfold denyCompleted
      split
      · rfl
      · next own =>
        have unheld := free.resolve_left (by simpa using own)
        rw [Work.upd, modAnswered_free (s := (startWork sent).st) unheld]
    rw [stays]
    exact finish_of_quiet rfl
  · rw [other (by rw [deny]; decide)]
    simp only [completionNotice, deny, denyCompleted, own]
    obtain ⟨reader, slot, same⟩ := answer
    have quiet := modAnswered_held (s := sent) reader slot same fun x => { x with decided := true, own := .none }
    exact (finish_of_quiet rfl).trans quiet
  · have sentOff := sentOff_heartbeat heartbeat s.now s.lkc
    have none : NoHeartbeat (s.lkc.rested s.now).heartbeatDone.queue :=
      noHeartbeat_dropSending law.line.queue among sending heartbeat
    have room : (s.lkc.rested s.now).heartbeatDone.queue.length < 8 := length_dropSending law.capacity among sending
    have bare : s.lkc.pendingHeartbeat = Option.none →
        s.lkc.sentOff f s.now = { freed with errors := kept, carried := 0, renewal := 0 } := fun pending => by
      rw [sentOff, pendingPlaced_none (by exact pending)]
      rfl
    have filled : ∀ body : List Byte, s.lkc.pendingHeartbeat = some body → s.lkc.sentOff f s.now = { freed with
        pendingHeartbeat := Option.none, errors := kept, carried := kept, renewal := 0,
        queue := { newFrame .heartbeat 0 toAll body .shu with body := body.take 14 ++ bytes16 kept.toNat } :: rest } :=
      fun body pending => by
        rw [sentOff, pendingPlaced_some (body := body) (by exact pending) none room]
        rfl
    have rested : Rested (s.modLkc (Lkc.sentOff f s.now)) := by
      refine ⟨(law.line.sentOff among sending s.now).queue.capacity, ?_, ?_⟩ <;> rw [State.modLkc_lkc]
      · cases pending : s.lkc.pendingHeartbeat with
        | none => rw [bare pending]; exact unsent_dropSending _
        | some body =>
          rw [filled body pending]
          exact List.forall_mem_cons.2 ⟨rfl, unsent_dropSending _⟩
      · cases pending : s.lkc.pendingHeartbeat with
        | none => rw [bare pending]; exact pending
        | some body => rw [filled body pending]
    obtain ⟨lineIdle, counted⟩ : (s.lkc.sentOff f s.now).line = .idle ∧
        (s.lkc.sentOff f s.now).counters.sent = s.lkc.counters.sent + 1 := by
      cases pending : s.lkc.pendingHeartbeat with
      | none => rw [bare pending]; exact ⟨rfl, rfl⟩
      | some body => rw [filled body pending]; exact ⟨rfl, rfl⟩
    have received := (sameReceived_sentOff f s.now s.lkc).1
    simp only [completionNotice, heartbeat]
    generalize its : heartbeatCompleted f (startWork (s.modLkc (Lkc.sentOff f s.now))) = w
    have steady := finish_steady w
    have lkc : w.st.lkc = s.lkc.sentOff f s.now := its ▸ rfl
    have kept := finish_keeps (P := Rested) (fun _ _ _ inner changed law => changed.rested inner law) (w := w) (by
      rw [← its]
      exact ⟨rested.capacity, rested.unsent, rested.pending⟩)
    have quietLink : lanesQuiet s → w.finish.lkc = s.lkc.sentOff f s.now := fun quiet => by
      rw [← lkc]
      refine (finish_calmed (idle := True) ?_ ?_).lkc
      · rw [← its]
        exact (Still.of_quiet quiet).of_same (fun _ => rfl) rfl
      · rw [← its]
        intro n told
        rw [List.mem_singleton.1 told]
        trivial
    refine ⟨?_, ?_, ?_, ?_, ?_, ?_, ?_, ?_, ?_, fun b => ?_, kept.unsent, kept.pending, fun quiet pending => ?_,
      fun body quiet pending => ?_⟩
    · rw [steady_line steady, lkc, lineIdle]
    · rw [steady_reads (fun x : State => x.lkc.counters.sent) (fun _ => rfl) steady, lkc, counted]
    · rw [steady_pmn steady, ← its]
      rfl
    · rw [steady_history steady, ← its]
      rfl
    · rw [steady_reads (fun x : State => x.shu.heartbeatTimer) (fun _ => rfl) steady, ← its]
      rfl
    · rw [steady_received steady, lkc, received]
    · rw [steady_cfl steady, ← its]
      rfl
    · rw [steady_hands steady, ← its]
      rfl
    · rw [steady_rpu steady, ← its]
      rfl
    · rw [steady_view steady, ← its]
      rfl
    · rw [quietLink quiet, bare pending]
    · rw [quietLink quiet, filled body pending]

end Sys2Proof.Machine
end

section
/-! Transmit bit errors (R6, R7, R17 to R19, R130). -/

namespace Sys2Proof.Machine

section
variable {s t : State} {w : Work} {f : TxFrame} {l : Lkc} {b : BayIx} {r : Reader} {q : Byte}

/-! ### Claims removed (R130, R131) -/

/-- A claim that goes with the queued OFFER of a reader and sequence. -/
def goneWith (r : Reader) (q : Byte) (c : Option PendingClaim) : Option PendingClaim :=
  if c.any (queuedClaim r q) then none else c

theorem goneWith_idem (r : Reader) (q : Byte) (c : Option PendingClaim) :
    goneWith r q (goneWith r q c) = goneWith r q c := by
  cases c with
  | none => rfl
  | some c => cases its : queuedClaim r q c <;> simp [goneWith, its]

theorem State.modBay_stay {g : Bay → Bay} (same : g (s.bay b) = s.bay b) : s.modBay b g = s := by
  have bays : (s.modBay b g).bays = s.bays := State.bays_ext fun c => by
    by_cases own : c = b
    · rw [own, State.bay_modBay_same, same]
    · rw [State.bay_modBay_other _ own]
  calc s.modBay b g = { s with bays := (s.modBay b g).bays } := rfl
    _ = s := by rw [bays]

/-- A change of each bay of a list, one after another. -/
theorem forEach_modBay {h : BayIx → Work → Work} {g : BayIx → Bay → Bay}
    (each : ∀ b w, (h b w).st = w.st.modBay b (g b)) {bs : List BayIx} (once : bs.Nodup) (w : Work) :
    ∃ bays, (forEach bs h w).st = { w.st with bays := bays } ∧
      ∀ c, (forEach bs h w).st.bay c = if c ∈ bs then g c (w.st.bay c) else w.st.bay c := by
  induction bs generalizing w with
  | nil => exact ⟨w.st.bays, rfl, fun c => by simp [forEach]⟩
  | cons b bs ih =>
    obtain ⟨fresh, later⟩ := List.nodup_cons.1 once
    obtain ⟨bays, st, bay⟩ := ih later (h b w)
    refine ⟨bays, ?_, fun c => ?_⟩
    · rw [each] at st
      exact st
    · refine (bay c).trans ?_
      rw [each]
      by_cases own : c = b
      · subst own
        rw [if_neg fresh, if_pos List.mem_cons_self, State.bay_modBay_same]
      · rw [State.bay_modBay_other _ own]
        simp [own]

/-- The notices of a list of works are those that each may tell. -/
theorem forEach_told {α : Type} {h : α → Work → Work} {Q : Notice → Prop} (each : ∀ x w, ∀ n ∈ (h x w).todo, n ∈ w.todo ∨ Q n)
    (xs : List α) (w : Work) : ∀ n ∈ (forEach xs h w).todo, n ∈ w.todo ∨ Q n := by
  induction xs generalizing w with
  | nil => exact fun n told => .inl told
  | cons x xs ih => exact fun n told => (ih (h x w) n told).elim (each x w n) .inr

/-- R130: the claims that go with an OFFER; nothing else changes, and only re-evaluations are told. -/
theorem removeQueuedClaim_spec (r : Reader) (q : Byte) (w : Work) :
    (∃ bays, (removeQueuedClaim r q w).st = { w.st with bays := bays }) ∧
      (∀ b, (removeQueuedClaim r q w).st.bay b =
        { w.st.bay b with claim := goneWith r q (w.st.bay b).claim }) ∧
      ∀ n ∈ (removeQueuedClaim r q w).todo, n ∈ w.todo ∨ ∃ b, n = .reevaluate b := by
  have all : ∀ b : BayIx, b ∈ allBays := by decide
  obtain ⟨bays, st, bay⟩ := forEach_modBay
    (h := fun b w => if (w.st.bay b).claim.any (queuedClaim r q) then clearClaim b w else w)
    (g := fun _ x => { x with claim := goneWith r q x.claim }) (fun b w => by
      split
      · next queued => simp [clearClaim, State.modBay, goneWith, queued]
      · next free => exact (State.modBay_stay (by simp [goneWith, free])).symm)
    (by decide : allBays.Nodup) w
  refine ⟨⟨bays, st⟩, fun b => (bay b).trans (if_pos (all b)), ?_⟩
  refine forEach_told (fun b w n told => ?_) allBays w
  split at told
  · rcases List.mem_append.1 told with before | now
    · exact .inl before
    · exact .inr ⟨b, List.mem_singleton.1 now⟩
  · exact .inl told

/-! ### Own answers and claims that notices leave gone -/

theorem Change.noClaim {e : Effect} (changed : Change e s t) (inner : e.inner = true) (none : (s.bay b).claim = none) :
    (t.bay b).claim = Option.none := by
  have kept : ∀ (u : State) (c : BayIx) (g : Bay → Bay), (∀ x, (g x).claim = x.claim ∨ (g x).claim = Option.none) →
      (u.bay b).claim = Option.none → ((u.modBay c g).bay b).claim = Option.none := fun u c g may none => by
    by_cases own : b = c
    · rw [own] at none ⊢
      rw [State.bay_modBay_same]
      exact (may _).elim (fun same => same.trans none) id
    · rwa [State.bay_modBay_other _ own]
  cases changed
  case recompute => rwa [recomputed_eq]
  case reads =>
    unfold requestReads
    split
    iterate 2 exact kept s _ _ (fun _ => .inl rfl) none
    all_goals exact none
  case release =>
    exact kept _ _ _ (fun _ => .inl rfl) (kept _ _ _ (fun _ => .inl rfl) (kept _ _ _ (fun _ => .inl rfl) none))
  case wish | tune | enter | write | answered | profileNow | channelUp | pend | prov | switch | count | session =>
    exact kept s _ _ (fun _ => .inl rfl) none
  case claim => exact kept s _ _ (fun _ => .inr rfl) none
  case slot | loan | items | lane => exact none
  all_goals first | exact absurd inner Bool.false_ne_true | exact none

/-- R130: an own answer that is NONE stays so, and the rest of the slot with it. -/
theorem Change.slotNone {e : Effect} {x : PresentationSlot} (changed : Change e s t) (inner : e.inner = true)
    (held : s.slot r = some { x with own := .none }) : t.slot r = some { x with own := .none } := by
  cases changed
  case recompute => rwa [recomputed_eq]
  case reads => unfold requestReads; split <;> exact held
  case release => rw [startRelease]; exact held
  case slot p y its =>
    rw [State.slot_setSlot]
    split
    · next own =>
      subst own
      rw [held] at its
      cases its
      rfl
    · exact held
  all_goals first | exact absurd inner Bool.false_ne_true | exact held

/-! ### The LKC's record after a transmit bit error (R7) -/

/-- The LKC follows as a receiver, with TX_BIT_ERROR (R7, R19). -/
def Lkc.erred (read : List Bool) (l : Lkc) : Lkc :=
  { l.flagged 0x0020 with line := .receiving, driven := [], followed := read }

/-- The same with the frame dropped and TX_DROPPED (R7, R19). -/
def Lkc.erredOut (read : List Bool) (l : Lkc) : Lkc :=
  { l.flagged 0x0060 with
    line := .receiving, driven := [], followed := read, queue := dropSending l.queue,
    counters := { l.counters with dropped := l.counters.dropped + 1 } }

theorem dropCounted_erred (read : List Bool) (l : Lkc) :
    Lkc.dropCounted { l.erred read with queue := dropSending l.queue } = l.erredOut read := by
  have mask : (0x0020 : Word16) ||| 0x0040 = 0x0060 := by decide
  have flags := Lkc.flagged_flagged 0x0020 0x0040 l
  rw [mask] at flags
  simp only [Lkc.dropCounted, Lkc.erredOut, ← flags]
  rfl

theorem bitErred_withdrawn (read : List Bool) (l : Lkc) (withdrawn : f.withdrawal = true) :
    l.bitErred f read = { l.erred read with queue := dropSending l.queue } := by
  simp only [Lkc.bitErred, if_pos withdrawn]
  rfl

theorem bitErred_third (read : List Bool) (l : Lkc) (stays : f.withdrawal = false) (third : f.attempts = 2) :
    l.bitErred f read =
      if f.kind == .heartbeat then (l.erredOut read).heartbeatDropped.pendingPlaced else l.erredOut read := by
  simp only [Lkc.bitErred, stays, third, Bool.false_eq_true, if_false, if_true, ← dropCounted_erred]
  rfl

theorem bitErred_again (read : List Bool) (l : Lkc) (stays : f.withdrawal = false) (again : f.attempts ≠ 2) :
    l.bitErred f read =
      let kept : Lkc := { l.erred read with
        queue := mapSending (fun g => { g with attempts := g.attempts + 1, inTransmission := false }) l.queue }
      if f.kind == .heartbeat then kept.replaceByPending else kept := by
  have less : ¬ f.attempts + 1 = 3 := by omega
  simp only [Lkc.bitErred, stays, less, Bool.false_eq_true, if_false]
  rfl

theorem bitErred_follows (f : TxFrame) (read : List Bool) (l : Lkc) :
    (l.bitErred f read).line = .receiving ∧ (l.bitErred f read).followed = read := by
  have placed : ∀ m : Lkc, m.pendingPlaced.line = m.line ∧ m.pendingPlaced.followed = m.followed := fun m => by
    unfold Lkc.pendingPlaced
    split
    · exact ⟨rfl, rfl⟩
    · rw [Lkc.placed_eq]
      exact ⟨rfl, rfl⟩
  have replaced : ∀ m : Lkc, m.replaceByPending.line = m.line ∧ m.replaceByPending.followed = m.followed := fun m => by
    unfold Lkc.replaceByPending
    split <;> exact ⟨rfl, rfl⟩
  cases withdrawn : f.withdrawal with
  | true =>
    rw [bitErred_withdrawn read l withdrawn]
    exact ⟨rfl, rfl⟩
  | false =>
    by_cases third : f.attempts = 2
    · rw [bitErred_third read l withdrawn third]
      split
      · exact placed _
      · exact ⟨rfl, rfl⟩
    · rw [bitErred_again read l withdrawn third]
      dsimp only
      split
      · exact replaced _
      · exact ⟨rfl, rfl⟩

/-- R7: a dropped frame's notice, and no other, is told. -/
theorem transmitError_todo (law : LinkLaw w.st) (among : f ∈ w.st.lkc.queue) (sending : f.inTransmission = true)
    (read : List Bool) :
    (transmitError f read w).todo = if f.withdrawal = false ∧ f.attempts = 2 then
      w.todo ++ [.discarded { f with attempts := 3, inTransmission := false }] else w.todo := by
  cases withdrawn : f.withdrawal with
  | true => simp [transmitError, withdrawn]
  | false =>
    by_cases third : f.attempts = 2
    · simp only [transmitError, withdrawn, third, Bool.false_eq_true, if_false, if_true, and_self]
      split
      · next heartbeat =>
        rw [placePending_quiet]
        · rfl
        · exact noHeartbeat_dropSending law.line.queue among sending (eq_of_beq heartbeat)
        · exact length_dropSending law.capacity among sending
      · rfl
    · have less : ¬ f.attempts + 1 = 3 := by omega
      simp only [transmitError, withdrawn, third, less, Bool.false_eq_true, if_false, and_false]
      split <;> rfl

/-! ### The notice of a dropped frame -/

/-- A discard notice that raises none ends the work. -/
theorem finish_discard_quiet (told : w.todo = [.discarded f])
    (worked : handle (.discarded f) (startWork w.st) = startWork s) : w.finish = s := by
  rw [finish_of_first told, worked]
  rfl

theorem setSlot_stay {x : Option PresentationSlot} (held : s.slot r = x) : s.setSlot r x = s := by
  have at_r : s.csu.slots[r] = x := held
  simp only [State.setSlot, State.modCsu, ← at_r, Fin.getElem_fin, Vector.set_getElem_self]

/-- R130: a discarded OFFER or DENY takes the own answer of the slot that still holds it. -/
theorem modAnswered_own {own : OwnAnswer} {x : PresentationSlot} (reader : answerReader f.body = some r)
    (held : s.slot r = some x ∧ x.sequence = bodySequence f.body ∧ x.own = own) :
    (s.modAnswered f fun x => if x.own == own then { x with own := .none } else x) =
      s.setSlot r (some { x with own := .none }) := by
  obtain ⟨slot, same, answers⟩ := held
  rw [modAnswered_held reader slot same]
  simp [answers]

theorem modAnswered_unheld {own : OwnAnswer} (reader : answerReader f.body = some r)
    (free : ¬ ∃ x, s.slot r = some x ∧ x.sequence = bodySequence f.body ∧ x.own = own) :
    (s.modAnswered f fun x => if x.own == own then { x with own := .none } else x) = s := by
  by_cases held : ∃ x, s.slot r = some x ∧ x.sequence = bodySequence f.body
  · obtain ⟨x, slot, same⟩ := held
    have other : (x.own == own) = false := beq_eq_false_iff_ne.2 fun answers => free ⟨x, slot, same, answers⟩
    rw [modAnswered_held reader slot same, other, if_neg Bool.false_ne_true, setSlot_stay slot]
  · refine modAnswered_free (fun ⟨p, x, its, slot, same⟩ => held ⟨x, ?_, same⟩)
    rw [reader] at its
    cases its
    exact slot

end

section
variable {w : Work} {f : TxFrame} {r : Reader}

/-- R130: a discarded DENY of a slot. -/
theorem discarded_deny (told : w.todo = [.discarded f]) (deny : f.kind = .deny) (own : f.deadline = none) :
    w.finish = w.st.modAnswered f fun x => if x.own == .denyQueued then { x with own := .none } else x := by
  refine finish_discard_quiet told ?_
  simp only [handle, discardNotice, deny, denyDiscarded, own]
  rfl

/-- R130: a discarded OFFER takes the own answer of its slot and its claim. -/
theorem discarded_offer (told : w.todo = [.discarded f]) (offer : f.kind = .offer) (reader : answerReader f.body = some r) :
    (∀ x, w.st.slot r = some x ∧ x.sequence = bodySequence f.body ∧ x.own = .offerQueued →
      w.finish.slot r = some { x with own := .none }) ∧
    (∀ b c, (w.st.bay b).claim = some c → queuedClaim r (bodySequence f.body) c = true →
      (w.finish.bay b).claim = none) ∧
    (lanesQuiet w.st → w.finish.lkc = w.st.lkc ∧
      ((¬ ∃ x, w.st.slot r = some x ∧ x.sequence = bodySequence f.body ∧ x.own = .offerQueued) →
        w.finish.slot r = w.st.slot r) ∧
      ∀ b, (∀ c, (w.st.bay b).claim = some c → ¬ queuedClaim r (bodySequence f.body) c = true) →
        (w.finish.bay b).claim = (w.st.bay b).claim) := by
  have worked : handle (.discarded f) (startWork w.st) = removeQueuedClaim r (bodySequence f.body)
      ((startWork w.st).upd fun s => s.modAnswered f fun x => if x.own == .offerQueued then { x with own := .none } else x) := by
    simp only [handle, discardNotice, offer, offerDiscarded, reader]
  obtain ⟨⟨bays, st⟩, claims, -⟩ := removeQueuedClaim_spec r (bodySequence f.body)
    ((startWork w.st).upd fun s => s.modAnswered f fun x => if x.own == .offerQueued then { x with own := .none } else x)
  rw [← worked] at st claims
  have bay : ∀ b, ((w.st.modAnswered f fun x => if x.own == .offerQueued then { x with own := .none } else x).bay b) =
      w.st.bay b := fun b => by
    unfold State.modAnswered State.modSlot
    split
    · rfl
    · split
      · split <;> rfl
      · rfl
  have slot : (handle (.discarded f) (startWork w.st)).st.slot r =
      (w.st.modAnswered f fun x => if x.own == .offerQueued then { x with own := .none } else x).slot r := by
    rw [st]
    rfl
  have claim : ∀ b, ((handle (.discarded f) (startWork w.st)).st.bay b).claim =
      goneWith r (bodySequence f.body) (w.st.bay b).claim := fun b => by
    rw [claims b]
    exact congrArg (fun y => goneWith r (bodySequence f.body) y.claim) (bay b)
  refine ⟨fun x held => ?_, fun b c its queued => ?_, fun quiet => ?_⟩
  · refine finish_brings (P := fun s => s.slot r = some { x with own := .none })
      (fun _ _ _ inner changed held => changed.slotNone inner held) told ?_
    rw [slot, modAnswered_own reader held, State.slot_setSlot_same]
  · refine finish_brings (P := fun s => (s.bay b).claim = none)
      (fun _ _ _ inner changed held => changed.noClaim inner held) told ?_
    rw [claim b, its]
    simp [goneWith, queued]
  · have calmed := finish_discarded (Still.of_quiet quiet) told
    refine ⟨calmed.lkc.trans (handle_discarded f w.st).lkc, fun free => ?_, fun b free => ?_⟩
    · have same : w.finish.slot r = (handle (.discarded f) (startWork w.st)).st.slot r := by
        rw [State.slot, calmed.csu]
        rfl
      rw [same, slot, modAnswered_unheld reader free]
    · rw [calmed.claim b, claim b]
      cases its : (w.st.bay b).claim with
      | none => rfl
      | some c => simp [goneWith, free c its]

end

theorem mapSending_again (q : List TxFrame) :
    mapSending (fun g => { g with attempts := g.attempts + 1, inTransmission := false }) q =
      q.map fun g => if g.inTransmission then { g with inTransmission := false, attempts := g.attempts + 1 } else g := rfl

/-- Settles O10. -/
theorem transmitBitErrorCounts : Obligations.TransmitBitErrorCounts := by
  intro f read s law line among sending errorAt rest failed gone filled
  have frame := sentFrame_of_sending law line among sending
  have error_iff : readBack s.lkc.driven read = .bitError ↔ ∃ i, errorAt i := by
    rw [readBack_eq_bitError_iff]
    simp only [firstMismatch_eq_some_iff, errorAt]
    refine exists_congr fun i => ⟨fun ⟨⟨alike, b, driven, back⟩, key⟩ => ⟨alike, b, driven, back, ?_⟩,
      fun ⟨alike, b, driven, back, key⟩ => ⟨⟨alike, b, driven, back⟩, ?_⟩⟩
    · rintro ⟨rfl, its⟩
      exact key ⟨driven, its⟩
    · rintro ⟨high, its⟩
      rw [driven] at high
      exact key ⟨Option.some.inj high, its⟩
  refine ⟨fun none => ?_, fun i its => ?_⟩
  · have same : readBack s.lkc.driven read ≠ .bitError := fun error => none (error_iff.1 error)
    simp only [exec, execTransmitBitError, frame]
    split
    · next error => exact absurd error same
    · rfl
  · have ran : exec (.transmitBitError read) s = .next (transmitError f read (startWork s)).finish := by
      simp only [exec, execTransmitBitError, frame, error_iff.2 ⟨i, its⟩]
      rfl
    have st : (transmitError f read (startWork s)).st = { s with lkc := s.lkc.bitErred f read } :=
      transmitError_st f read (startWork s)
    have todo := transmitError_todo (w := startWork s) law among sending read
    generalize transmitError f read (startWork s) = w at ran st todo
    have steady := finish_steady w
    have quiet : ¬ (f.withdrawal = false ∧ f.attempts = 2) → w.finish = s.modLkc (Lkc.bitErred f read) := fun not => by
      rw [if_neg not] at todo
      rw [finish_of_quiet todo, st]
      rfl
    have dropped : f.withdrawal = false → f.attempts = 2 → ∀ t : State,
        handle (.discarded { f with attempts := 3, inTransmission := false }) (startWork w.st) = startWork t →
        w.finish = t := fun stays third t worked => by
      rw [if_pos ⟨stays, third⟩] at todo
      exact finish_discard_quiet todo worked
    have out : f.withdrawal = false → f.attempts = 2 → f.kind ≠ .heartbeat → w.st = { s with lkc := gone } :=
      fun stays third other => by
        have its := bitErred_third read s.lkc stays third
        rw [if_neg (by simpa using other)] at its
        rw [st, its]
        rfl
    refine ⟨_, ran, fun withdrawn => ?_, fun stays again plain => ?_, fun body stays again heartbeat pending => ?_,
      fun stays third => ⟨fun notHeartbeat notOffer notDeny => ?_, fun heartbeat pending => ?_,
        fun body heartbeat pending => ?_, fun deny rule => ?_, fun answer => ⟨fun nobody => ?_, fun r reader => ?_⟩⟩,
      ?_, ?_, ?_, ?_, ?_, ?_, ?_, ?_⟩
    · rw [quiet (by simp [withdrawn]), State.modLkc, bitErred_withdrawn read s.lkc withdrawn]
      rfl
    · have its : s.lkc.bitErred f read = { s.lkc.erred read with
          queue := mapSending (fun g => { g with attempts := g.attempts + 1, inTransmission := false }) s.lkc.queue } := by
        rw [bitErred_again read s.lkc stays again]
        rcases plain with other | none
        · rw [if_neg (by simpa using other)]
        · have kept : s.lkc.pendingHeartbeat = Option.none := none
          simp only [Lkc.replaceByPending, Lkc.erred, Lkc.flagged, kept, ite_self]
      rw [quiet (by simp [again]), State.modLkc, its, mapSending_again]
      rfl
    · have its : s.lkc.bitErred f read = { s.lkc.erred read with
          pendingHeartbeat := none, carried := (s.lkc.erred read).errors, renewal := 0,
          queue := s.lkc.queue.map fun g => if g.inTransmission then
            { g with inTransmission := false, attempts := 0, body := fillWord body (s.lkc.erred read).errors } else g } := by
        have refilled := refill_mapSending law among sending heartbeat
          (fun g => { g with attempts := g.attempts + 1, inTransmission := false }) (fun _ => rfl) body
          (s.lkc.erred read).errors
        rw [bitErred_again read s.lkc stays again, if_pos (by simp [heartbeat]), ← refilled]
        have kept : (s.lkc.erred read).pendingHeartbeat = some body := pending
        simp only [Lkc.replaceByPending, kept]
        rfl
      rw [quiet (by simp [again]), State.modLkc, its]
      rfl
    · have out := out stays third notHeartbeat
      refine dropped stays third _ ?_
      rw [out]
      simp only [handle, discardNotice]
    · have its := bitErred_third read s.lkc stays third
      rw [if_pos (by simp [heartbeat]), pendingPlaced_none (by exact pending)] at its
      refine dropped stays third _ ?_
      rw [st, its]
      simp only [handle, discardNotice, heartbeat]
      rfl
    · have its := bitErred_third read s.lkc stays third
      rw [if_pos (by simp [heartbeat]), pendingPlaced_some (body := body) (by exact pending)
        (noHeartbeat_dropSending law.line.queue among sending heartbeat)
        (length_dropSending law.capacity among sending)] at its
      refine dropped stays third _ ?_
      rw [st, its]
      simp only [handle, discardNotice, heartbeat]
      rfl
    · have out := out stays third (by rw [deny]; decide)
      refine dropped stays third _ ?_
      rw [out]
      simp only [handle, discardNotice, deny, denyDiscarded, Option.isSome_iff_ne_none.2 rule, if_true]
    · have out := out stays third (by rcases answer with its | ⟨its, -⟩ <;> rw [its] <;> decide)
      refine dropped stays third _ ?_
      rw [out]
      rcases answer with offer | ⟨deny, own⟩
      · simp only [handle, discardNotice, offer, offerDiscarded, nobody]
      · simp only [handle, discardNotice, deny, denyDiscarded, own, State.modAnswered, nobody]
        rfl
    · have out := out stays third (by rcases answer with its | ⟨its, -⟩ <;> rw [its] <;> decide)
      intro sequence own held queued
      rcases answer with offer | ⟨deny, rule⟩
      · have answers : own = .offerQueued := if_pos offer
        rw [if_pos ⟨stays, third⟩] at todo
        obtain ⟨slot, claims, rest⟩ := discarded_offer (r := r) todo offer reader
        rw [out] at slot claims rest
        refine ⟨?_, fun x its => ⟨slot x ⟨its.1, its.2.1, its.2.2.trans answers⟩, fun deny => ?_⟩, fun _ deny => ?_,
          fun b c claim its => claims b c claim (queuedClaim_iff.2 ⟨its.2.2.1, its.2.2.2, its.2.1⟩), fun quiet => ?_⟩
        · rw [steady, out]
        · rw [offer] at deny; cases deny
        · rw [offer] at deny; cases deny
        · obtain ⟨lkc, slots, kept⟩ := rest quiet
          refine ⟨lkc, fun free => slots fun ⟨x, slot, same, its⟩ => free ⟨x, slot, same, its.trans answers.symm⟩,
            fun b free => kept b fun c claim its => ?_⟩
          obtain ⟨same, q, window⟩ := queuedClaim_iff.1 its
          exact free c claim ⟨offer, window, same, q⟩
      · have answers : own = .denyQueued := if_neg (by rw [deny]; decide)
        have unclaimed : ∀ c, ¬ queued c := fun c its => by
          have offer := its.1
          rw [deny] at offer
          cases offer
        rw [if_pos ⟨stays, third⟩] at todo
        have done := discarded_deny todo deny rule
        rw [out] at done
        have taken : ∀ x, held x → w.finish = ({ s with lkc := gone }).setSlot r (some { x with own := .none }) :=
          fun x its => done.trans (modAnswered_own reader ⟨its.1, its.2.1, its.2.2.trans answers⟩)
        have left : (¬ ∃ x, held x) → w.finish = { s with lkc := gone } := fun free =>
          done.trans (modAnswered_unheld reader fun ⟨x, slot, same, its⟩ => free ⟨x, slot, same, its.trans answers.symm⟩)
        have either : (∃ x, w.finish = ({ s with lkc := gone }).setSlot r x) ∨ w.finish = { s with lkc := gone } :=
          (em (∃ x, held x)).imp (fun ⟨x, its⟩ => ⟨_, taken x its⟩) left
        refine ⟨?_, fun x its => ⟨?_, fun _ => taken x its⟩, fun free _ => left free, fun b c _ its => absurd its (unclaimed c),
          fun _ => ⟨?_, fun free => ?_, fun b _ => ?_⟩⟩
        · rw [steady, out]
        · rw [taken x its, State.slot_setSlot_same]
        · rcases either with ⟨x, its⟩ | its <;> rw [its] <;> rfl
        · rw [left free]
          rfl
        · rcases either with ⟨x, its⟩ | its <;> rw [its] <;> rfl
    · rw [steady_line steady, st]; exact (bitErred_follows f read s.lkc).1
    · rw [steady_reads (fun x : State => x.lkc.followed) (fun _ => rfl) steady, st]
      exact (bitErred_follows f read s.lkc).2
    · rw [steady_received steady, st]; exact (sameReceived_bitErred f read s.lkc).1
    · rw [steady_cfl steady, st]
    · rw [steady_pmn steady, st]
    · rw [steady_hands steady, st]
    · rw [steady_rpu steady, st]
    · rw [steady_history steady, st]

end Sys2Proof.Machine
end

section
/-! A minute (R116, R120, R137). -/

namespace Sys2Proof.Machine

/-! ### The loans while notices are worked -/

/-- The effects but those that only a reading has: on the loans (R136), a lane switch (R150), the sessions (R58). -/
def Effect.unread : Effect → Bool
  | .loan | .switch _ | .session _ | .tell (.reading _ _ _) => false
  | _ => true

theorem unread_of_writing {r : DockRegister} {b : BayIx} {e : Effect} (h : e ∈ writing r b) : e.unread = true := by
  rcases h with rfl | ⟨x, -, rfl | ⟨o, rfl⟩⟩ <;> rfl

theorem unread_of_refreshing {b : BayIx} {e : Effect} (h : e ∈ refreshing b) : e.unread = true := by
  rcases h with rfl | rfl | rfl | rfl <;> rfl

theorem unread_of_placing {k : FrameKind} {e : Effect} (h : e ∈ placing k) : e.unread = true := by
  rcases h with rfl | ⟨f, rfl⟩ <;> rfl

theorem unread_of_charging {b : BayIx} {e : Effect} (h : e ∈ charging b) : e.unread = true := by
  rcases h with (((rfl | rfl) | h) | h) | h
  iterate 2 rfl
  · exact unread_of_refreshing h
  · rcases h with rfl | rfl | rfl | rfl <;> rfl
  · exact unread_of_writing h

theorem unread_of_sessionEnding {b : BayIx} {e : Effect} (h : e ∈ sessionEnding b) : e.unread = true := by
  rcases h with (((rfl | rfl | rfl) | h) | h) | h
  iterate 3 rfl
  · exact unread_of_refreshing h
  · exact unread_of_placing h
  · exact unread_of_writing h

theorem unread_of_releasing {b : BayIx} {e : Effect} (h : e ∈ releasing b) : e.unread = true := by
  rcases h with rfl | rfl | rfl | ⟨r, o, rfl⟩ <;> rfl

theorem unread_of_evaluating {e : Effect} (h : e ∈ evaluating) : e.unread = true := by
  rcases h with rfl | rfl | rfl <;> rfl

/-- Only a reading has these effects, and no notice tells one. -/
theorem unread_of_effectsOf {n : Notice} {e : Effect} (other : ∀ b r c, n ≠ .reading b r c) (h : e ∈ effectsOf n) :
    e.unread = true := by
  cases n with
  | recompute => rcases h with rfl | rfl <;> rfl
  | split =>
    rcases h with rfl | ⟨b, (h | h) | rfl | rfl⟩
    · rfl
    · exact unread_of_refreshing h
    · exact unread_of_writing h
    iterate 2 rfl
  | wishInput b => exact unread_of_refreshing h
  | chargeChanged b | laneChannel b st | doorMoved b left =>
    rcases h with h | rfl
    · exact unread_of_sessionEnding h
    · rfl
  | channelChanged b st =>
    rcases h with (h | h) | rfl | rfl | rfl
    · exact unread_of_charging h
    · exact unread_of_sessionEnding h
    all_goals rfl
  | reading b r cls => exact absurd rfl (other b r cls)
  | writeEnded b x o =>
    cases x with
    | custody v => exact unread_of_placing h
    | provControl v =>
      rcases h with h | rfl | rfl | rfl | rfl
      · exact unread_of_sessionEnding h
      all_goals rfl
    | chargeLimit g => exact absurd h (Set.notMem_empty _)
  | discarded f => rcases h with rfl | ⟨b, rfl | rfl⟩ <;> rfl
  | episodeEnded b attr r p =>
    rcases h with h | rfl
    · exact unread_of_writing h
    · rfl
  | releaseAsked b r =>
    rcases h with (h | h) | rfl
    · exact unread_of_releasing h
    · exact unread_of_sessionEnding h
    · rfl
  | releaseAnswered b r o =>
    rcases h with (h | h) | h
    iterate 2 exact unread_of_placing h
    · exact unread_of_writing h
  | laneIdle b => exact unread_of_releasing h
  | reevaluate b | reevaluateAll => exact unread_of_evaluating h
  | select n =>
    rcases h with rfl | rfl | ⟨b, rfl | h | h⟩
    iterate 3 rfl
    · exact unread_of_refreshing h
    · exact unread_of_writing h
  | serviceChanged b => exact unread_of_charging h

section
variable {s t : State} {w : Work}

theorem Change.loans {e : Effect} (changed : Change e s t) (unread : e.unread = true) (inner : e.inner = true) :
    t.csu.loans = s.csu.loans := by
  cases changed
  case recompute => rw [recomputed_eq]
  case reads => unfold requestReads; split <;> rfl
  case release => rfl
  case loan => cases unread
  all_goals first | exact absurd inner Bool.false_ne_true | rfl

/-- R136: without a reading the loans stay. -/
theorem finish_loans (told : ∀ n ∈ w.todo, ∀ b r c, n ≠ .reading b r c) : w.finish.csu.loans = w.st.csu.loans := by
  refine finish_keeps_of_class (P := fun s => s.csu.loans = w.st.csu.loans) (fun n => ∀ b r c, n ≠ .reading b r c)
    (fun n m other tell b r c same => ?_) (fun n e other may s t changed before => ?_) told rfl
  · subst same
    cases unread_of_effectsOf other tell
  · exact (changed.loans (unread_of_effectsOf other may) (inner_of_effectsOf may)).trans before

/-! ### A minute -/

/-- R116, R120, R137: the state of a minute, before its frames. -/
def minuteState (s : State) : State :=
  let minute := min (s.csu.minute + 1) 65535
  { s with
    now := max s.now s.csu.minuteTimer,
    csu := { s.csu with
      minute := minute, minuteTimer := s.csu.minuteTimer + 60000,
      credentials := s.csu.credentials.filter fun e =>
        !(e.role == CredentialRole.guest && decide (min (e.enrolled + s.cfl.config.guestTime) 65535 ≤ minute)),
      loans := s.csu.loans.map fun l => if l.state = .running ∧ l.due ≤ minute then { l with state := .overdue } else l } }

theorem minutePasses_eq (s : State) :
    minutePasses (startWork s) =
      forEach (s.csu.loans.filter fun l => l.state == .running && decide (l.due ≤ min (s.csu.minute + 1) 65535))
        (fun l => place (overdueFrame l)) (startWork (minuteState s)) := by
  have loans : ∀ l : Loan, (if fallsDue (min (s.csu.minute + 1) 65535) l then { l with state := .overdue } else l) =
      if l.state = .running ∧ l.due ≤ min (s.csu.minute + 1) 65535 then { l with state := .overdue } else l := fun l => by
    simp [fallsDue]
  simp only [minutePasses, minuteState, ← loans]
  rfl

theorem forEach_place_told {α : Type} (frame : α → TxFrame) (xs : List α) (w : Work) :
    ∀ n ∈ (forEach xs (fun x => place (frame x)) w).todo, n ∈ w.todo ∨ ∃ f, n = .discarded f :=
  forEach_told (fun x w n told => by
    rw [place_eq] at told
    rcases List.mem_append.1 told with before | now
    · exact .inl before
    · refine .inr ?_
      obtain ⟨f, -, rfl⟩ := Option.map_eq_some_iff.1 (Option.mem_toList.1 now)
      exact ⟨f, rfl⟩) xs w

end

end Sys2Proof.Machine

namespace Sys2Proof

open Machine

/-- Settles O38. -/
theorem minutePasses : Obligations.MinutePasses := by
  intro s minute
  have ran : exec .minuteTick s = .next (Machine.minutePasses (startWork s)).finish := rfl
  rw [minutePasses_eq] at ran
  refine ⟨_, ran, ?_, ?_, ?_⟩
  · rw [finish_steady, forEach_keeps State.steady _ _ (fun l w => place_steady _ w)]
    rfl
  · rw [finish_loans, forEach_keeps (fun s : State => s.csu.loans) _ _ (fun l w => by rw [place_eq]; rfl)]
    · rfl
    · intro n told b r c same
      rcases forEach_place_told overdueFrame _ _ n told with before | ⟨f, discarded⟩
      · cases before
      · rw [discarded] at same
        cases same
  · intro due room
    rw [forEach_place_of_room overdueFrame _ (startWork (minuteState s)) room, finish_of_quiet rfl]
    simp only [Work.upd_st, State.modLkc, insertFrames, List.foldl_map]
    rfl

end Sys2Proof
end

section
/-! Queries and their answers (R157 to R165). -/

namespace Sys2Proof.Machine

/-! ### The parts of an answer (R158, R159) -/

theorem answerParts_eq (source : Addr) (q : QueryBody) (payload : List Byte) :
    answerParts source q payload =
      (List.range ((payload.length + pieceSize q.maximum - 1) / pieceSize q.maximum)).map fun i =>
        partFrame source q.item q.index ((payload.length + pieceSize q.maximum - 1) / pieceSize q.maximum) i
          ((payload.drop (pieceSize q.maximum * i)).take (pieceSize q.maximum)) := by
  have cut := piecesOf_eq (size := pieceSize q.maximum) (n := payload.length) (xs := payload)
    (by have := pieceSize_pos q.maximum; omega) le_rfl
  simp only [answerParts, cut, List.length_map, List.length_range]
  refine List.ext_getElem (by simp) fun i _ _ => ?_
  simp

section
variable {s : State} {w : Work}

theorem placeParts_fst (fs : List TxFrame) (w : Work) (all : Bool) :
    (placeParts fs (w, all)).1 = forEach fs (fun f => place f) w := by
  induction fs generalizing w all with
  | nil => rfl
  | cons f fs ih => exact ih _ _

/-- R157: the state after a query has been taken and counted. -/
def answering (s : State) : State :=
  { s with hands := { s.hands with rpu := none }, rpu := { s.rpu with answered := s.rpu.answered + 1 } }

/-- R157, R159: a query is answered in parts. -/
theorem answerFrom_runs {f : RxFrame} {which : QueryBody → Bool} {payload : QueryBody → State → List Byte}
    (hand : s.hands.rpu = some f) (kind : f.kind = .query) (chosen : which (readQuery f.body) = true) :
    let parts := answerParts f.source (readQuery f.body) (payload (readQuery f.body) (answering s))
    ∃ t, answerFrom s which payload = .next t ∧ t.steady = (answering s).steady ∧
      (s.lkc.queue.length + parts.length ≤ 8 →
        t = { answering s with lkc := { s.lkc with queue := parts.foldl (fun l p => insertFrame p l) s.lkc.queue } }) := by
  intro parts
  have ran : answerFrom s which payload = .next (forEach parts (fun f => place f) (startWork (answering s))).finish := by
    rw [answerFrom, fromHand_eq_carryOut (k := .rpu) hand (by simp [isQuery, kind, chosen]), carryOut, answerQuery,
      placeParts_fst]
    rfl
  refine ⟨_, ran, ?_, fun room => ?_⟩
  · rw [finish_steady, forEach_keeps State.steady _ _ fun f w => place_steady f w]
    rfl
  · have placed := forEach_place_of_room (fun f : TxFrame => f) parts (startWork (answering s)) room
    rw [placed, finish_of_quiet rfl, Work.upd_st, List.map_id']
    rfl

/-! ### The payloads (R161 to R165) -/

theorem weighed_eq (flag : Bool) (n : Nat) : weighed flag n = flag.toNat * n := by
  cases flag <;> simp [weighed]

theorem stationConditions_bits (s : State) :
    (stationConditions s).getLsbD 0 = s.isActive ∧ (stationConditions s).getLsbD 1 = s.pmn.isolated ∧
      (stationConditions s).getLsbD 2 = s.mismatchHeld ∧ (stationConditions s).getLsbD 3 = s.clashHeld ∧
      (stationConditions s).getLsbD 4 = s.shu.guard ∧ (stationConditions s).getLsbD 5 = (s.cfl.flag == .byDefault) ∧
      (stationConditions s).getLsbD 6 = (s.cfl.flag == .bad) ∧ (stationConditions s).getLsbD 7 = false := by
  have bits := getLsbD_weighed s.isActive s.pmn.isolated s.mismatchHeld s.clashHeld s.shu.guard (s.cfl.flag == .byDefault)
    (s.cfl.flag == .bad) false
  have its : stationConditions s = BitVec.ofNat 8 (s.isActive.toNat + s.pmn.isolated.toNat * 2 + s.mismatchHeld.toNat * 4 +
      s.clashHeld.toNat * 8 + s.shu.guard.toNat * 16 + (s.cfl.flag == .byDefault).toNat * 32 +
      (s.cfl.flag == .bad).toNat * 64 + false.toNat * 128) := by
    simp only [stationConditions, weighed_eq, Bool.toNat_false, Nat.mul_one, Nat.zero_mul, Nat.add_zero]
  rw [its]
  exact ⟨bits 0, bits 1, bits 2, bits 3, bits 4, bits 5, bits 6, bits 7⟩

/-- R162: the flags of a battery. -/
theorem batteryFlags_bits : ∀ full charging fault : Bool,
    let flags : Byte := BitVec.ofNat 8 (weighed full 1 + weighed charging 2 + weighed fault 4)
    flags.getLsbD 0 = full ∧ flags.getLsbD 1 = charging ∧ flags.getLsbD 2 = fault ∧ flags.toNat < 8 := by
  decide

/-- R162: the switches of a bay. -/
theorem switches_bits : ∀ (level : Fin 4) (reserved outOfService optOut : Bool),
    let switches : Byte :=
      BitVec.ofNat 8 (level.val + weighed reserved 4 + weighed outOfService 8 + weighed optOut 16)
    switches.toNat % 4 = level.val ∧ switches.getLsbD 2 = reserved ∧ switches.getLsbD 3 = outOfService ∧
      switches.getLsbD 4 = optOut ∧ switches.toNat < 32 := by
  decide

/-- R165: the first byte of a PEER payload. -/
theorem peerFirst_bits : ∀ (state role : Fin 4) (mismatch : Bool),
    let first : Byte := BitVec.ofNat 8 (state.val + 4 * role.val + weighed mismatch 16)
    first.toNat % 4 = state.val ∧ first.toNat / 4 % 4 = role.val ∧ first.getLsbD 4 = mismatch ∧ first.toNat < 32 := by
  decide

/-- R162: the BAY payload of a populated bay. -/
theorem bayAnswer_populated {b : BayIx} (populated : b.val < s.cfl.populated) : bayAnswer s b.val = bayPayload s b := by
  have its : s.populated ⟨b.val, b.isLt⟩ = true := by simpa [State.populated] using populated
  rw [bayAnswer, dif_pos b.isLt, if_pos its]

theorem countersAnswer_populated {b : BayIx} (populated : b.val < s.cfl.populated) :
    countersAnswer s b.val = bayCounterPayload (s.bay b).counters := by
  have its : s.populated ⟨b.val, b.isLt⟩ = true := by simpa [State.populated] using populated
  rw [countersAnswer, dif_pos b.isLt, if_pos its]

theorem answers_unpopulated {b : BayIx} (beyond : s.cfl.populated ≤ b.val) :
    bayAnswer s b.val = [1] ∧ countersAnswer s b.val = [1] := by
  have its : ¬ s.populated ⟨b.val, b.isLt⟩ = true := by simpa [State.populated] using beyond
  rw [bayAnswer, dif_pos b.isLt, if_neg its, countersAnswer, dif_pos b.isLt, if_neg its]
  exact ⟨rfl, rfl⟩

theorem stationPayload_bytes (s : State) : ∃ conditions : Byte,
    stationPayload s = conditions :: (bytesHeld s.shu.allowance ++ bytesHeld s.shu.settled ++ bytesHeld s.shu.floor ++
      [BitVec.ofNat 8 s.shu.nEff] ++ bytes16 s.lkc.errors.toNat ++ bytesHeld s.shu.surplus ++ bytesHeld s.shu.excess) ∧
    (conditions.getLsbD 0 = true ↔ s.cfl.phase = .active) ∧
    (conditions.getLsbD 1 = true ↔ s.pmn.isolated = true) ∧
    (conditions.getLsbD 2 = true ↔ ∃ (a : Addr) (p : Peer), s.peer a = some p ∧ p.mismatch = true) ∧
    (conditions.getLsbD 3 = true ↔ s.pmn.clashHold ≠ none) ∧
    (conditions.getLsbD 4 = true ↔ s.shu.guard = true) ∧
    (conditions.getLsbD 5 = true ↔ s.cfl.flag = .byDefault) ∧
    (conditions.getLsbD 6 = true ↔ s.cfl.flag = .bad) ∧ conditions.getLsbD 7 = false := by
  obtain ⟨active, isolated, mismatch, clash, guard, byDefault, bad, top⟩ := stationConditions_bits s
  refine ⟨stationConditions s, ?_, ?_, ?_, ?_, ?_, ?_, ?_, ?_, top⟩
  · simp only [stationPayload, List.cons_append, List.append_assoc]
  · rw [active]; simp [State.isActive]
  · rw [isolated]
  · rw [mismatch]; exact mismatchHeld_iff
  · rw [clash, State.clashHeld]; exact Option.isSome_iff_ne_none
  · rw [guard]
  · rw [byDefault]; exact beq_iff_eq
  · rw [bad]; exact beq_iff_eq

theorem bayAnswer_bytes {b : BayIx} (populated : b.val < s.cfl.populated) :
    let x := s.bay b
    ∃ battery switches position,
      bayAnswer s b.val =
        [BitVec.ofNat 8 (chargeCode x.charge.state), BitVec.ofNat 8 (doorCode x.door.state),
          BitVec.ofNat 8 (channelCode x.channel.state)] ++ battery ++
        [(x.view.identity.map fun i => i.version).getD 255] ++ bytesHeld x.charge.grant ++ bytesHeld x.charge.limit ++
        [BitVec.ofNat 8 x.charge.voltage] ++ bytesHeld x.charge.wish ++
        [BitVec.ofNat 8 x.attrs.group.val, switches, position] ++
        bytes32 ((x.view.identity.map fun i => i.asset).getD 0) ++ bytesHeld x.charge.milliVolts ++
        bytesHeld x.charge.milliAmps ++ [BitVec.ofNat 8 ((x.view.profile.map fun p => p.progress).getD 255)] ∧
      (x.view.battery = none → battery = [255, 128, 255, 0]) ∧
      (∀ z, x.view.battery = some z → ∃ flags : Byte,
        battery = [BitVec.ofNat 8 z.soc, BitVec.ofInt 8 z.temperature, BitVec.ofNat 8 z.health, flags] ∧
        flags.getLsbD 0 = z.full ∧ flags.getLsbD 1 = z.charging ∧ flags.getLsbD 2 = z.fault ∧ flags.toNat < 8) ∧
      switches.toNat % 4 = x.attrs.openLevel.val ∧ switches.getLsbD 2 = x.attrs.reserved ∧
      switches.getLsbD 3 = x.attrs.outOfService ∧ switches.getLsbD 4 = x.attrs.optOut ∧ switches.toNat < 32 ∧
      (∀ n : LaneIx, s.laneOf b = some n → position = BitVec.ofNat 8 (2 + n.val)) ∧
      (∀ i : QueueItem, s.laneOf b = none → s.pvs.queue.find? (fun i => i.bay == b) = some i →
        position = BitVec.ofNat 8 (1 + 16 * i.slot.val)) ∧
      (s.laneOf b = none → (∀ i ∈ s.pvs.queue, i.bay ≠ b) → position = 0) := by
  intro x
  obtain ⟨level, reserved, out, opt, small⟩ :=
    switches_bits x.attrs.openLevel x.attrs.reserved x.attrs.outOfService x.attrs.optOut
  refine ⟨batteryBytes x.view.battery, _, positionByte s b, ?_, fun none => ?_, fun z some => ?_, level, reserved, out,
    opt, small, fun n its => ?_, fun i free its => ?_, fun free none => ?_⟩
  · rw [bayAnswer_populated populated]
    simp only [bayPayload, attrBytes, List.append_assoc, List.cons_append, List.nil_append]
    rfl
  · rw [none]; rfl
  · rw [some]
    exact ⟨_, rfl, batteryFlags_bits z.full z.charging z.fault⟩
  · simp only [positionByte, its]
  · simp only [positionByte, free, its]
  · have empty : s.pvs.queue.find? (fun i => i.bay == b) = Option.none :=
      List.find?_eq_none.2 fun i among => by simpa using none i among
    simp only [positionByte, free, empty]

theorem peerAnswer_absent {a : Addr} (absent : a = s.cfl.address ∨ s.peer a = none) :
    peerAnswer s a.val = List.replicate 12 0 := by
  rw [peerAnswer, dif_pos a.isLt]
  rcases absent with own | none
  · rw [if_pos own]
    rfl
  · have its : s.pmn.peers[a.val] = Option.none := none
    rw [its, ite_self]
    rfl

theorem peerAnswer_bytes {a : Addr} {p : Peer} (other : a ≠ s.cfl.address) (its : s.peer a = some p) :
    ∃ first : Byte,
      peerAnswer s a.val = first :: (bytesHeld p.claim ++ bytesHeld p.draw ++ bytesHeld p.allowance ++
        bytes16 p.digest.toNat ++ bytes16 p.errorWord.toNat ++
        [BitVec.ofNat 8 (min (min (s.now - p.heardAt) 65535 / 100) 255)]) ∧
      first.toNat % 4 = (if p.state = .live then 1 else if p.state = .quiet then 2 else 3) ∧
      first.toNat / 4 % 4 = roleCode p.role ∧ first.getLsbD 4 = p.mismatch ∧ first.toNat < 32 := by
  have role : roleCode p.role < 4 := by cases p.role <;> decide
  have code : peerStateCode p.state = if p.state = .live then 1 else if p.state = .quiet then 2 else 3 := by
    cases p.state <;> rfl
  have state : peerStateCode p.state < 4 := by cases p.state <;> decide
  obtain ⟨low, middle, mark, small⟩ := peerFirst_bits ⟨_, state⟩ ⟨_, role⟩ p.mismatch
  refine ⟨BitVec.ofNat 8 (peerStateCode p.state + 4 * roleCode p.role + weighed p.mismatch 16), ?_, low.trans code, middle, mark,
    small⟩
  have entry : s.pmn.peers[a.val] = some p := its
  rw [peerAnswer, dif_pos a.isLt, if_neg other, entry]
  simp only [peerPayload, List.append_assoc, List.cons_append, List.nil_append]
  rfl

/-- R164: the LOAN payload. -/
theorem loanAnswer_bytes {i : Nat} {l : Loan} (its : s.csu.loans[i]? = some l) : loanAnswer s i =
    bytes32 l.asset ++ bytes32 l.credential ++ [BitVec.ofNat 8 l.bay.val] ++ bytesHeld l.released ++ bytesHeld l.due ++
      [if l.state = .overdue then 2 else 1] := by
  have code : BitVec.ofNat 8 (loanStateCode l.state) = if l.state = .overdue then 2 else 1 := by cases l.state <;> rfl
  simp only [loanAnswer, its, loanPayload, code]
  rfl

end

/-- Settles O50. -/
theorem queriesAreAnswered : Obligations.QueriesAreAnswered := by
  refine ⟨?_, ?_, ?_⟩
  · intro asker q payload size count
    rw [answerParts_eq]
    refine List.map_congr_left fun i _ => ?_
    simp only [partFrame, Nat.mul_comm i 16]
    rfl
  · intro s held link
    refine ⟨?_, fun b => ?_, fun i beyond => ?_, rfl, fun i beyond => ?_, fun i l its => ?_, fun i beyond => ?_,
      fun a absent => ?_, fun a p other its => ?_, fun i beyond => ?_, fun k none => ?_, fun k c its => ?_,
      fun i beyond => ?_⟩
    · exact stationPayload_bytes s
    · exact ⟨answers_unpopulated, fun populated => ⟨bayAnswer_bytes populated, countersAnswer_populated populated⟩⟩
    · rw [bayAnswer, dif_neg (by omega)]; rfl
    · rw [countersAnswer, dif_neg (by omega), if_neg (by omega)]; rfl
    · exact loanAnswer_bytes its
    · rw [loanAnswer, List.getElem?_eq_none beyond]; rfl
    · exact peerAnswer_absent absent
    · exact peerAnswer_bytes other its
    · rw [peerAnswer, dif_neg (by omega)]; rfl
    · rw [campaignAnswer, dif_pos k.isLt]
      exact congrArg campaignPayload none
    · rw [campaignAnswer, dif_pos k.isLt]
      exact congrArg campaignPayload its
    · rw [campaignAnswer, dif_neg (by omega)]; rfl
  · intro f s hand kind q u answers
    refine ⟨fun item => ?_, fun item => ?_, fun item clear => ?_, fun item => ?_, fun item => ?_, fun item => ?_,
      fun item => ?_⟩
    · exact answerFrom_runs (which := fun q => q.item == 0) (payload := fun _ => stationPayload) hand kind (by simp [q, item])
    · exact answerFrom_runs (which := fun q => q.item == 1) (payload := fun q s => bayAnswer s q.index) hand kind
        (by simp [q, item])
    · exact answerFrom_runs (which := fun q => q.item == 2 && !q.clear) (payload := fun q s => countersAnswer s q.index)
        hand kind (by simp [q, item, clear])
    · exact answerFrom_runs (which := fun q => q.item == 3) (payload := fun q s => loanAnswer s q.index) hand kind
        (by simp [q, item])
    · exact answerFrom_runs (which := fun q => q.item == 4) (payload := fun q s => peerAnswer s q.index) hand kind
        (by simp [q, item])
    · exact answerFrom_runs (which := fun q => q.item == 5) (payload := fun q s => campaignAnswer s q.index) hand kind
        (by simp [q, item])
    · exact answerFrom_runs (which := fun q => decide (5 < q.item)) (payload := fun _ _ => noEntry) hand kind
        (by simp [q, item])

end Sys2Proof.Machine
end

section
/-! Clearing counters (R166), and the transmit queue that refuses or displaces frames (R16, R159). -/

namespace Sys2Proof.Machine

/-! ### What a full queue does (R16) -/

section
variable {p g victim : TxFrame} {queue front back : List TxFrame}

theorem takeLastIdle_eq_some (idle : victim.inTransmission = false) (sending : ∀ g ∈ back, g.inTransmission = true) :
    takeLastIdle (front ++ victim :: back) = some (victim, front ++ back) := by
  induction front with
  | nil => simp [takeLastIdle, takeLastIdle_eq_none_iff.2 sending, idle]
  | cons x front ih => simp [takeLastIdle, ih]

theorem placeInQueue_victim (its : (placeInQueue p queue).2 = some g) : g = p ∨ g ∈ queue ∧ p.rank < g.rank := by
  unfold placeInQueue at its
  split at its
  · cases its
  · split at its
    · cases its
      exact .inl rfl
    · next victim rest taken =>
      obtain ⟨front, back, rfl, _⟩ := takeLastIdle_split taken
      split at its
      · next above =>
        cases its
        exact .inr ⟨by simp, above⟩
      · cases its
        exact .inl rfl

theorem mem_of_mem_placeInQueue (among : g ∈ (placeInQueue p queue).1) : g = p ∨ g ∈ queue := by
  unfold placeInQueue at among
  split at among
  · exact mem_insertFrame.1 among
  · split at among
    · exact .inr among
    · next victim rest taken =>
      obtain ⟨front, back, rfl, rfl, _⟩ := takeLastIdle_split taken
      split at among
      · refine (mem_insertFrame.1 among).imp_right fun its => ?_
        simp only [List.mem_append, List.mem_cons] at its ⊢
        exact its.imp_right .inr
      · exact .inr among

end

/-! ### The parts of an answer in a full queue (R159) -/

/-- What R159 keeps count of while the parts are placed: the LKC's record, and whether every part found a place. -/
def placedPart (x : Lkc × Bool) (p : TxFrame) : Lkc × Bool :=
  (x.1.placed p, x.2 && findsPlace p x.1.queue)

theorem placeParts_st (parts : List TxFrame) (s : State) (todo : List Notice) (l : Lkc) (all : Bool) :
    (placeParts parts ({ st := { s with lkc := l }, todo := todo }, all)).1.st =
        { s with lkc := (parts.foldl placedPart (l, all)).1 } ∧
      (placeParts parts ({ st := { s with lkc := l }, todo := todo }, all)).2 = (parts.foldl placedPart (l, all)).2 := by
  induction parts generalizing l all todo with
  | nil => exact ⟨rfl, rfl⟩
  | cons p parts ih =>
    rw [placeParts, place_eq]
    exact ih _ _ _

/-- A notice on which no block acts. -/
def Mute (n : Notice) : Prop := ∃ f : TxFrame, n = .discarded f ∧ f.kind ≠ .offer ∧ f.kind ≠ .deny

theorem handle_mute {n : Notice} (mute : Mute n) (w : Work) : handle n w = w := by
  obtain ⟨f, rfl, notOffer, notDeny⟩ := mute
  rw [handle, discardNotice]
  split
  · next offer => exact absurd offer notOffer
  · next deny => exact absurd deny notDeny
  · rfl

theorem settle_mute (n : Nat) {w : Work} (mute : ∀ x ∈ w.todo, Mute x) : (settle n w).st = w.st := by
  induction n generalizing w with
  | zero => rfl
  | succ n ih =>
    rw [settle]
    split
    · rfl
    · next x xs its =>
      rw [its] at mute
      rw [handle_mute (mute x List.mem_cons_self)]
      exact ih fun y among => mute y (List.mem_cons_of_mem _ among)

/-- Every answer to a PRESENT in the queue goes before any STATUS. -/
def AnswersFirst (queue : List TxFrame) : Prop :=
  ∀ g ∈ queue, g.kind = .offer ∨ g.kind = .deny → g.rank < 4096 * kindClass .status

theorem LinkLaw.answersFirst {s : State} (law : LinkLaw s) : AnswersFirst s.lkc.queue := by
  intro g among kind
  have bid := law.bids g among
  rcases kind with kind | kind <;> simp only [TxFrame.rank, kind, kindClass] <;> omega

theorem place_mute {p : TxFrame} {w : Work} (status : p.kind = .status) (first : AnswersFirst w.st.lkc.queue)
    (mute : ∀ x ∈ w.todo, Mute x) :
    AnswersFirst (place p w).st.lkc.queue ∧ ∀ x ∈ (place p w).todo, Mute x := by
  rw [place_eq]
  constructor
  · intro g among kind
    have queue : (w.st.lkc.placed p).queue = (placeInQueue p w.st.lkc.queue).1 := by
      unfold Lkc.placed; split <;> rfl
    rw [State.modLkc_lkc, queue] at among
    rcases mem_of_mem_placeInQueue among with rfl | among
    · rw [status] at kind
      simp at kind
    · exact first g among kind
  · intro x among
    rcases List.mem_append.1 among with among | among
    · exact mute x among
    · obtain ⟨g, its, rfl⟩ := Option.map_eq_some_iff.1 (Option.mem_toList.1 among)
      refine ⟨g, rfl, ?_⟩
      rcases placeInQueue_victim its with rfl | ⟨among, above⟩
      · rw [status]
        exact ⟨nofun, nofun⟩
      · have behind : 4096 * kindClass .status ≤ g.rank := by
          simp only [TxFrame.rank, status] at above ⊢
          omega
        exact ⟨fun kind => absurd (first g among (.inl kind)) (by omega),
          fun kind => absurd (first g among (.inr kind)) (by omega)⟩

theorem placeParts_mute {parts : List TxFrame} {w : Work} (all : Bool) (status : ∀ p ∈ parts, p.kind = .status)
    (first : AnswersFirst w.st.lkc.queue) (mute : ∀ x ∈ w.todo, Mute x) :
    ∀ x ∈ (placeParts parts (w, all)).1.todo, Mute x := by
  induction parts generalizing w all with
  | nil => exact mute
  | cons p parts ih =>
    obtain ⟨first, mute⟩ := place_mute (status p List.mem_cons_self) first mute
    exact ih _ (fun q among => status q (List.mem_cons_of_mem _ among)) first mute

theorem answerParts_status {source : Addr} {q : QueryBody} {payload : List Byte} :
    ∀ p ∈ answerParts source q payload, p.kind = .status := by
  intro p among
  rw [answerParts_eq] at among
  obtain ⟨_, _, rfl⟩ := List.mem_map.1 among
  rfl

/-- The state after the parts of a COUNTERS answer have been placed, and whether each found a place. -/
def countersSent (f : RxFrame) (s : State) : Lkc × Bool :=
  (answerParts f.source (readQuery f.body) (countersAnswer (answering s) (readQuery f.body).index)).foldl placedPart
    (s.lkc, true)

/-- R166: a COUNTERS query with the clear flag, as one equation. -/
theorem queryCountersClear_runs {f : RxFrame} {s : State} (law : LinkLaw s) (hand : s.hands.rpu = some f)
    (kind : f.kind = .query) (item : (readQuery f.body).item = 2) (clear : (readQuery f.body).clear = true) :
    exec .queryCountersClear s =
      .next (if (namesSet s (readQuery f.body).index && isTechnician s (readQuery f.body).authoriser &&
          (countersSent f s).2) = true
        then clearSet (readQuery f.body).index { answering s with lkc := (countersSent f s).1 }
        else { answering s with lkc := (countersSent f s).1 }) := by
  let parts := answerParts f.source (readQuery f.body) (countersAnswer (answering s) (readQuery f.body).index)
  have ran : exec .queryCountersClear s = carryOut (s.setHand none .rpu) (answerAndClear f) :=
    fromHand_eq_carryOut (k := .rpu) hand (by simp [isQuery, kind, item, clear]) answerAndClear
  have answer : answerQuery f.source (readQuery f.body) (fun s => countersAnswer s (readQuery f.body).index)
      (startWork (s.setHand none .rpu)) = placeParts parts (startWork (answering s), true) := rfl
  obtain ⟨state, all⟩ := placeParts_st parts (answering s) [] s.lkc true
  have mute := placeParts_mute (parts := parts) (w := startWork (answering s)) true answerParts_status law.answersFirst
    (by simp [startWork])
  change (placeParts parts (startWork (answering s), true)).1.st = _ at state
  change (placeParts parts (startWork (answering s), true)).2 = _ at all
  rw [ran, carryOut, answerAndClear, answer]
  generalize placeParts parts (startWork (answering s), true) = r at state all mute
  have same : clears r.1.st (readQuery f.body) r.2 =
      (namesSet s (readQuery f.body).index && isTechnician s (readQuery f.body).authoriser && (countersSent f s).2) := by
    rw [clears, clear, all, state]
    rfl
  simp only [same]
  split
  · rw [Work.finish, settle_mute _ (by exact mute), Work.upd_st, state]
    rfl
  · rw [Work.finish, settle_mute _ mute, state]
    rfl

theorem namesSet_iff {s : State} {index : Nat} :
    namesSet s index = true ↔ index = 8 ∨ index < 8 ∧ index < s.cfl.populated := by
  simp [namesSet]

/-- Settles O51: a discarded part is a STATUS or gives way to none of the answers of the CSU, so its notice does
nothing, and the command ends in the state in which the parts were placed. -/
theorem clearingNeedsATechnician : Obligations.ClearingNeedsATechnician := by
  refine ⟨fun p queue => ⟨fun room => ?_, fun full sending => ?_, ?_⟩, ?_⟩
  · rw [placeInQueue, if_pos (by exact room)]
  · rw [placeInQueue, if_neg (by simpa [txCapacity] using full), takeLastIdle_eq_none_iff.2 sending]
  · rintro front back victim full rfl idle sending
    have its : ∀ q, placeInQueue p (front ++ victim :: back) = q ↔
        (if p.rank < victim.rank then (insertFrame p (front ++ back), some victim)
          else (front ++ victim :: back, some p)) = q := by
      intro q
      rw [placeInQueue, if_neg (by simpa [txCapacity] using full), takeLastIdle_eq_some idle sending]
    exact ⟨fun above => (its _).2 (if_pos above), fun below => (its _).2 (if_neg (by omega))⟩
  · intro f s law hand kind q u placed parts all sent permitted item clear
    have technician : isTechnician s q.authoriser = true ↔ permitted := isTechnician_iff
    have step : placed = placedPart := by
      funext x p
      simp only [placed, placedPart, Lkc.placed, findsPlace]
      cases (placeInQueue p x.1.queue).2 with
      | none => simp
      | some g =>
        have other : decide (g ≠ p) = (some g != some p) := by simp [bne, beq_eq_decide]
        simp only [other, flagBit]
    have sentAll : all = countersSent f s := by
      simp only [all, step]
      rfl
    have ran := queryCountersClear_runs law hand kind item clear
    rw [← sentAll] at ran
    refine ⟨fun b allowed room index populated => ?_, fun allowed room index => ?_, fun short => ?_⟩
    · have named : namesSet s q.index = true := namesSet_iff.2 (.inr ⟨by omega, by omega⟩)
      have its : clearSet q.index sent = sent.modBay b fun x => { x with counters := {} } := by
        rw [index, clearSet, dif_pos b.isLt]
        rfl
      rw [ran, if_pos (by rw [named, technician.2 allowed, room]; rfl)]
      exact congrArg Host.Outcome.next its
    · have named : namesSet s q.index = true := namesSet_iff.2 (.inl index)
      have its : clearSet q.index sent =
          { sent with lkc := { sent.lkc with counters := {} }, rpu := { sent.rpu with answered := 0 } } := by
        rw [index, clearSet, dif_neg (by decide), if_pos rfl]
        rfl
      rw [ran, if_pos (by rw [named, technician.2 allowed, room]; rfl)]
      exact congrArg Host.Outcome.next its
    · rw [ran, if_neg]
      · rfl
      rintro cleared
      obtain ⟨⟨named, allowed⟩, room⟩ := by simpa only [Bool.and_eq_true] using cleared
      have named : q.index = 8 ∨ q.index < 8 ∧ q.index < s.cfl.populated := namesSet_iff.1 named
      rcases short with denied | lost | beyond | unpopulated
      · exact denied (technician.1 allowed)
      · rw [lost] at room
        cases room
      · omega
      · omega

end Sys2Proof.Machine
end

section
/-! The sideband: the pending-exchange list, the bytes of an attempt, the levels of the wire, and what starts on a
channel (R80, R82 to R84, R86 to R89, R91, R93). -/

namespace Sys2Proof.Machine

/-! ### The bytes of an attempt (R82 to R84) -/

theorem callByte_toNat (body : ExchangeBody) (number : BitVec 2) :
    (callByte body number).toNat =
      (bodyIsWrite body).toNat * 128 + number.toNat * 32 + registerNumber (bodyRegister body) := by
  have direction : (bodyIsWrite body).toNat ≤ 1 := Bool.toNat_le _
  have register : registerNumber (bodyRegister body) ≤ 6 := by cases bodyRegister body <;> decide
  have small := number.isLt
  rw [callByte, BitVec.toNat_ofNat, Nat.mod_eq_of_lt (by omega)]

theorem sum_checkByte (bytes : List Byte) : (bytes ++ [checkByte bytes]).foldl (· + ·) 0 = 0 := by
  rw [List.foldl_append, List.foldl_cons, List.foldl_nil, checkByte, BitVec.add_neg_eq_sub, BitVec.sub_self]
  rfl

/-! ### The list (R91) -/

section
variable {c : Channel}

theorem nextEntry_custody {v : CustodyWrite} (active : c.state = .active) (its : c.custody = some v) :
    nextEntry c = some (.write (.custody v)) := by
  simp [nextEntry, active, pendingWrites, its]

theorem nextEntry_provControl {v : ProvWrite} (active : c.state = .active) (none : c.custody = none)
    (its : c.provControl = some v) : nextEntry c = some (.write (.provControl v)) := by
  simp [nextEntry, active, pendingWrites, none, its]

theorem nextEntry_chargeLimit {g : Nat} (active : c.state = .active) (noCustody : c.custody = none)
    (noProv : c.provControl = none) (its : c.chargeLimit = some g) : nextEntry c = some (.write (.chargeLimit g)) := by
  simp [nextEntry, active, pendingWrites, noCustody, noProv, its]

theorem nextEntry_read (active : c.state = .active) (noCustody : c.custody = none) (noProv : c.provControl = none)
    (noLimit : c.chargeLimit = none) : nextEntry c =
      if c.dueIdent then some (.read .ident) else if c.dueBattery then some (.read .battery)
      else if c.dueRequest then some (.read .chargeRequest) else if c.dueProfile then some (.read .profile)
      else none := by
  simp only [nextEntry, active, pendingWrites, noCustody, noProv, noLimit, Option.map_none, Option.toList_none,
    List.append_nil]

/-! ### What starts (R80, R86, R87) -/

theorem startExchange_stay (none : c.exchange ≠ none ∨ nextEntry c = none) : startExchange c = c := by
  unfold startExchange
  split
  · next body free its =>
    rcases none with held | empty
    · exact absurd free held
    · rw [its] at empty
      cases empty
  · rfl

theorem startExchange_early {body : ExchangeBody} (free : c.exchange = none) (its : nextEntry c = some body)
    (early : c.highRun < 20) : startExchange c = c := by
  simp only [startExchange, free, its, gapPassed, decide_eq_false (Nat.not_le.2 early), Bool.false_eq_true, if_false]

theorem register_ident (body : ExchangeBody) : (bodyRegister body == .ident) = decide (body = .read .ident) := by
  cases body with
  | read r => cases r <;> rfl
  | write v => cases v <;> rfl

theorem startExchange_passed {body : ExchangeBody} (free : c.exchange = none) (its : nextEntry c = some body)
    (passed : 20 ≤ c.highRun) : startExchange c = { removeEntry body c with
      counter := c.counter + 1, highRun := 0, lowRun := 0, wakeIdle := 0,
      exchange := some
        { body := body, number := c.counter + 1, retry := false,
          stage := if body = .read .ident then .waking else .called,
          sent := if decide (body = .read .ident) then [] else attemptBytes body (c.counter + 1) } } := by
  simp only [startExchange, free, its, gapPassed, decide_eq_true passed, if_true, attempt, register_ident,
    decide_eq_true_eq, pullWire]

theorem callAfterWake_stay (other : ∀ x : Exchange, c.exchange = some x → x.stage ≠ .waking) : callAfterWake c = c := by
  unfold callAfterWake
  split
  · next x its => simp [other x its]
  · rfl

theorem callAfterWake_early {x : Exchange} (its : c.exchange = some x) (early : c.highRun < 20 ∨ c.wakeIdle < 384) :
    callAfterWake c = c := by
  have waits : wakePassed c = false := by
    simp only [wakePassed, gapPassed, Bool.and_eq_false_iff, decide_eq_false_iff_not]
    omega
  simp only [callAfterWake, its, waits, Bool.and_false, Bool.false_eq_true, if_false]

theorem callAfterWake_passed {x : Exchange} (its : c.exchange = some x) (waking : x.stage = .waking)
    (passed : 20 ≤ c.highRun) (idle : 384 ≤ c.wakeIdle) : callAfterWake c = { c with
      highRun := 0, lowRun := 0, wakeIdle := 0,
      exchange := some { x with stage := .called, sent := attemptBytes x.body x.number } } := by
  have done : wakePassed c = true := by simp [wakePassed, gapPassed, passed, idle]
  simp [callAfterWake, its, waking, done, attempt, pullWire]

theorem startRetry_stay (other : ∀ (x : Exchange) (silent : Bool), c.exchange = some x → x.stage ≠ .retryWait silent) :
    startRetry c = c := by
  unfold startRetry
  split
  · next x its =>
    split
    · next silent waits => exact absurd waits (other x silent its)
    all_goals rfl
  · rfl

theorem startRetry_early {x : Exchange} {silent : Bool} (its : c.exchange = some x) (waits : x.stage = .retryWait silent)
    (early : c.highRun < 20) : startRetry c = c := by
  simp only [startRetry, its, waits, gapPassed, decide_eq_false (Nat.not_le.2 early), Bool.false_eq_true, if_false]

theorem startRetry_passed {x : Exchange} {silent : Bool} (its : c.exchange = some x) (waits : x.stage = .retryWait silent)
    (passed : 20 ≤ c.highRun) : startRetry c = { c with
      highRun := 0, lowRun := 0, wakeIdle := 0,
      exchange := some
        { x with
          retry := true, stage := if silent || decide (x.body = .read .ident) then .waking else .called,
          sent := if silent || decide (x.body = .read .ident) then [] else attemptBytes x.body x.number } } := by
  simp only [startRetry, its, waits, gapPassed, decide_eq_true passed, if_true, attempt, register_ident, pullWire]

end

/-! ### The levels of the wire (R80, R87, R89) -/

section
variable {s : State} {b : BayIx}

theorem wireReached_stay {w : Work}
    (below : (w.st.bay b).channel.state = .active ∨ (w.st.bay b).channel.state = .silent →
      (w.st.bay b).channel.lowRun < 480)
    (low : (w.st.bay b).channel.state = .stuck → (w.st.bay b).channel.highRun < 1920) : wireReached b w = w := by
  cases state : (w.st.bay b).channel.state with
  | active => simp only [wireReached, state, if_neg (Nat.not_le.2 (below (.inl state)))]
  | silent => simp only [wireReached, state, if_neg (Nat.not_le.2 (below (.inr state)))]
  | stuck => simp only [wireReached, state, if_neg (Nat.not_le.2 (low state))]
  | off => simp only [wireReached, state]

theorem watchStretch_counts (r : WireRun)
    (below : (watchRun r (s.bay b).channel).state = .active ∨ (watchRun r (s.bay b).channel).state = .silent →
      (watchRun r (s.bay b).channel).lowRun < 480)
    (low : (watchRun r (s.bay b).channel).state = .stuck → (watchRun r (s.bay b).channel).highRun < 1920) :
    watchStretch b s r = s.modChannel b (watchRun r) := by
  have seen : ((s.modChannel b (watchRun r)).bay b).channel = watchRun r (s.bay b).channel := by
    rw [State.modChannel, State.bay_modBay_same]
  rw [watchStretch, wireReached_stay (by rw [startWork, seen]; exact below) (by rw [startWork, seen]; exact low)]
  exact finish_of_quiet rfl

theorem modChannel_stay {f : Channel → Channel} (same : f (s.bay b).channel = (s.bay b).channel) :
    s.modChannel b f = s :=
  State.modBay_stay (by simp only [same])

theorem modChannel_eq (s : State) (b : BayIx) (f : Channel → Channel) :
    s.modChannel b f = s.modBay b fun x => { x with channel := f (s.bay b).channel } := rfl

theorem pollTimerExpired_runs {r : PollRegister} {d : Nat} (active : (s.bay b).channel.state = .active)
    (its : pollTimer r (s.bay b).channel = some d) :
    exec (.pollTimerExpired b r) s = .next ((s.advanceTo d).modChannel b (pollDue r)) := by
  change execPollTimerExpired b r s = _
  simp only [execPollTimerExpired, its, active, if_true]

theorem identPollTimerExpired_runs {d : Nat} (silent : (s.bay b).channel.state = .silent)
    (its : (s.bay b).channel.identTimer = some d) : exec (.identPollTimerExpired b) s =
      .next ((s.advanceTo d).modChannel b fun c => { c with identTimer := none, dueIdent := true }) := by
  change execIdentPollTimerExpired b s = _
  simp only [execIdentPollTimerExpired, its, silent, if_true]

end

/-- Settles O28. -/
theorem sidebandStarts : Obligations.SidebandStarts := by
  refine ⟨fun c => ⟨?_, ?_, ?_, rfl, rfl, rfl, rfl, fun _ => rfl, fun _ => rfl, fun _ => rfl⟩, ?_, ?_, ?_, ?_⟩
  · rintro (off | stuck)
    · simp only [nextEntry, off]
    · simp only [nextEntry, stuck]
  · intro silent
    simp only [nextEntry, silent]
  · exact fun active => ⟨fun _ => nextEntry_custody active, fun _ => nextEntry_provControl active,
      fun _ => nextEntry_chargeLimit active, nextEntry_read active⟩
  · intro number call sends
    have read (r : DockRegister) : (call (.read r)).toNat = 32 * number.toNat + registerNumber r := by
      rw [show call (.read r) = callByte (.read r) number from rfl, callByte_toNat]
      simp only [bodyIsWrite, Bool.toNat_false, bodyRegister]
      omega
    have write (x : DockWrite) :
        (call (.write x)).toNat = 128 + 32 * number.toNat + registerNumber (bodyRegister (.write x)) := by
      rw [show call (.write x) = callByte (.write x) number from rfl, callByte_toNat]
      simp only [bodyIsWrite, Bool.toNat_true]
      omega
    have sent (x : DockWrite) : sends x (writeBytes x) := ⟨_, rfl, sum_checkByte _⟩
    exact ⟨read .ident, read .battery, read .chargeRequest, read .profile, fun _ => rfl,
      fun g => ⟨write (.chargeLimit g), sent (.chargeLimit g)⟩, fun v => ⟨write (.provControl v), sent (.provControl v)⟩,
      fun v => ⟨write (.custody v), sent (.custody v)⟩⟩
  · refine fun c r => ⟨fun unwatched => if_pos unwatched, fun on long high => ?_, fun on long low => ?_⟩
    · rw [watchRun, if_neg (by rintro (off | none); exacts [on off, by omega]), high]
      rfl
    · rw [watchRun, if_neg (by rintro (off | none); exacts [on off, by omega]), low]
      rfl
  · intro b r wire s seen
    exact ⟨rfl, rfl, fun below low => watchStretch_counts r below low⟩
  · intro b wire s u c put sent
    have starts (f : Channel → Channel) : u.modChannel b f = put (f c) := rfl
    have same {f : Channel → Channel} (its : f c = c) : u.modChannel b f = u := modChannel_stay its
    refine ⟨fun body free its => ⟨fun early => ?_, fun passed => ?_⟩, fun none => ?_, fun x its waking => ⟨fun early => ?_,
      fun passed idle => ?_⟩, fun other => ?_, fun x silent its waits => ⟨fun early => ?_, fun passed => ?_⟩, fun other => ?_,
      ?_⟩
    · exact congrArg Host.Outcome.next (same (startExchange_early free its early))
    · exact congrArg Host.Outcome.next ((starts _).trans (congrArg put (startExchange_passed free its passed)))
    · exact congrArg Host.Outcome.next (same (startExchange_stay none))
    · exact congrArg Host.Outcome.next (same (callAfterWake_early its early))
    · exact congrArg Host.Outcome.next ((starts _).trans (congrArg put (callAfterWake_passed its waking passed idle)))
    · exact congrArg Host.Outcome.next (same (callAfterWake_stay other))
    · exact congrArg Host.Outcome.next (same (startRetry_early its waits early))
    · exact congrArg Host.Outcome.next ((starts _).trans (congrArg put (startRetry_passed its waits passed)))
    · exact congrArg Host.Outcome.next (same (startRetry_stay other))
    · intro was due
      exact ⟨fun d active => ⟨pollTimerExpired_runs (r := .battery) active, pollTimerExpired_runs (r := .chargeRequest) active,
        pollTimerExpired_runs (r := .profile) active⟩, fun d => identPollTimerExpired_runs⟩

end Sys2Proof.Machine
end

section
/-! How far the charge section and the channel of a bay can go while the notices of a command are worked, once its own
notices have entered it into a state: a split and a wish computed afresh tune the charge section, and an ACTIVE channel
takes writes and the PROFILE mark of a lane. -/

namespace Sys2Proof.Machine

/-! ### Drifting -/

/-- A channel that has taken writes and lane marks, its state and the other due marks as they were. -/
structure Channel.Fed (c d : Channel) : Prop where
  state : d.state = c.state
  dueIdent : d.dueIdent = c.dueIdent
  dueBattery : d.dueBattery = c.dueBattery
  dueRequest : d.dueRequest = c.dueRequest
  dueProfile : c.dueProfile = true → d.dueProfile = true
  drops : d.drops = c.drops ∨ d.drops = 0

/-- One change of a bay's charge section or channel while notices are worked. -/
inductive Drift (b : BayIx) : State → State → Prop where
  | other {s t : State} : (t.bay b).charge = (s.bay b).charge → (t.bay b).channel = (s.bay b).channel →
      (t.bay b).view = (s.bay b).view → (t.bay b).counters.sessions = (s.bay b).counters.sessions → t.cfl = s.cfl →
      Drift b s t
  | wish {s : State} : Drift b s (s.modCharge b fun c => { c with wish := s.wishOf b, cls := s.classOf b })
  | tune {s : State} (c : Charge) : Tuned s b c → Drift b s (s.modCharge b fun _ => c)
  | answered {s : State} : Drift b s (s.modChannel b fun c => { c with drops := 0 })
  | channel {s : State} (c : Channel) : (s.bay b).channel.state = .active →
      (s.bay b).channel.Fed c →
      c.chargeLimit = (s.bay b).channel.chargeLimit ∨ c.chargeLimit = some (s.bay b).charge.grant →
      Drift b s (s.modChannel b fun _ => c)

/-- Any number of such changes. -/
def Drifts (b : BayIx) : State → State → Prop := Relation.ReflTransGen (Drift b)

/-- The notices that enter no bay into a charge state and take no reading. -/
def Notice.drifts : Notice → Bool
  | .channelChanged _ st => st == .off || st == .active
  | .reading _ _ _ | .serviceChanged _ => false
  | _ => true

/-- The effects of these notices. -/
def Effect.drifts : Effect → Bool
  | .tell n => n.drifts
  | .enter _ | .reads _ | .channelUp _ | .switch _ | .session _ => false
  | e => e.inner

section
variable {s t : State} {b c : BayIx} {w : Work} {e : Effect}

theorem Drift.of_modBay {f : Bay → Bay} (charge : ∀ x, (f x).charge = x.charge) (channel : ∀ x, (f x).channel = x.channel)
    (view : ∀ x, (f x).view = x.view) (sessions : ∀ x, (f x).counters.sessions = x.counters.sessions) :
    Drift b s (s.modBay c f) :=
  .other (s.read_modBay c b (·.charge) charge) (s.read_modBay c b (·.channel) channel) (s.read_modBay c b (·.view) view)
    (s.read_modBay c b (·.counters.sessions) sessions) rfl

theorem Drift.of_apart {f : Bay → Bay} (apart : b ≠ c) : Drift b s (s.modBay c f) := by
  have same : (s.modBay c f).bay b = s.bay b := State.bay_modBay_other _ apart f
  exact .other (by rw [same]) (by rw [same]) (by rw [same]) (by rw [same]) rfl

theorem Drift.of_bays (bays : t.bays = s.bays) (cfl : t.cfl = s.cfl) : Drift b s t :=
  have same : t.bay b = s.bay b := State.bay_congr bays b
  .other (by rw [same]) (by rw [same]) (by rw [same]) (by rw [same]) cfl

theorem Channel.fed_addPending (c : Channel) (x : DockWrite) : c.Fed (addPending c x) := by
  cases x <;> exact ⟨rfl, rfl, rfl, rfl, id, .inl rfl⟩

theorem Change.drift (changed : Change e s t) (drifts : e.drifts = true) : Drift b s t := by
  cases changed
  case recompute =>
    rw [recomputed_eq]
    exact .of_bays rfl rfl
  case need | applied | freeChoice | frame | slot | loan | items | lane => exact .of_bays rfl rfl
  case wish c =>
    by_cases own : b = c
    · exact own ▸ .wish
    · exact .of_apart own
  case tune c x tuned =>
    by_cases own : b = c
    · subst own
      exact .tune x tuned
    · exact .of_apart own
  case write c x active limit =>
    by_cases own : b = c
    · subst own
      refine .channel _ active (Channel.fed_addPending _ x) ?_
      cases x with
      | chargeLimit g => exact .inr (congrArg some (limit g rfl))
      | custody v | provControl v => exact .inl rfl
    · exact .of_apart own
  case answered c =>
    by_cases own : b = c
    · exact own ▸ .answered
    · exact .of_apart own
  case profileNow c active =>
    by_cases own : b = c
    · subst own
      exact .channel _ active ⟨rfl, rfl, rfl, rfl, fun _ => rfl, .inl rfl⟩ (.inl rfl)
    · exact .of_apart (f := fun x => { x with channel := { x.channel with dueProfile := true, profileTimer := none } }) own
  case release c r ready =>
    refine .other ?_ ?_ ?_ ?_ rfl
    · simp [startRelease, openSwitch, State.modProv, State.modDoor, State.read_modBay _ _ _ (·.charge)]
    · simp [startRelease, openSwitch, State.modProv, State.modDoor, State.read_modBay _ _ _ (·.channel)]
    · simp [startRelease, openSwitch, State.modProv, State.modDoor, State.modCounters, State.read_modBay _ _ _ (·.view)]
    · simp [startRelease, openSwitch, State.modProv, State.modDoor, State.modCounters, State.read_modBay _ _ _ (·.counters.sessions)]
  case pend c r free => exact .of_modBay (fun _ => rfl) (fun _ => rfl) (fun _ => rfl) fun _ => rfl
  case claim c => exact .of_modBay (fun _ => rfl) (fun _ => rfl) (fun _ => rfl) fun _ => rfl
  case prov c p opens => exact .of_modBay (fun _ => rfl) (fun _ => rfl) (fun _ => rfl) fun _ => rfl
  case count c k sessions =>
    by_cases own : b = c
    · subst own
      refine .other (State.charge_modCounters ..) (State.channel_modCounters ..) ?_ ?_ rfl
      · exact State.read_modBay _ _ _ (·.view) fun _ => rfl
      · rw [State.modCounters, State.bay_modBay_same]
        exact sessions
    · exact .of_apart own
  all_goals cases drifts

/-! ### The notices drift -/

theorem drifts_of_writing {r : DockRegister} (h : e ∈ writing r c) : e.drifts = true := by
  rcases h with rfl | ⟨x, -, rfl | ⟨o, rfl⟩⟩ <;> rfl

theorem drifts_of_refreshing (h : e ∈ refreshing c) : e.drifts = true := by
  rcases h with rfl | rfl | rfl | rfl <;> rfl

theorem drifts_of_placing {k : FrameKind} (h : e ∈ placing k) : e.drifts = true := by
  rcases h with rfl | ⟨f, rfl⟩ <;> rfl

theorem drifts_of_sessionEnding (h : e ∈ sessionEnding c) : e.drifts = true := by
  rcases h with (((rfl | rfl | rfl) | h) | h) | h
  iterate 3 rfl
  · exact drifts_of_refreshing h
  · exact drifts_of_placing h
  · exact drifts_of_writing h

theorem drifts_of_releasing (h : e ∈ releasing c) : e.drifts = true := by
  rcases h with rfl | rfl | rfl | ⟨r, o, rfl⟩ <;> rfl

theorem drifts_of_evaluating (h : e ∈ evaluating) : e.drifts = true := by
  rcases h with rfl | rfl | rfl <;> rfl

/-- The notices of the class tell notices of the class, and have effects that drift. -/
theorem drifts_of_effectsOf {n : Notice} (drifts : n.drifts = true) (moved : ∀ c st, n ≠ .channelChanged c st)
    (h : e ∈ effectsOf n) : e.drifts = true := by
  cases n with
  | recompute => rcases h with rfl | rfl <;> rfl
  | split =>
    rcases h with rfl | ⟨b, (h | h) | rfl | rfl⟩
    · rfl
    · exact drifts_of_refreshing h
    · exact drifts_of_writing h
    iterate 2 rfl
  | wishInput b => exact drifts_of_refreshing h
  | chargeChanged b | doorMoved b st | laneChannel b st =>
    rcases h with h | rfl
    · exact drifts_of_sessionEnding h
    · rfl
  | channelChanged b st => exact absurd rfl (moved b st)
  | reading b r cls | serviceChanged b => cases drifts
  | writeEnded b x o =>
    cases x with
    | custody v => exact drifts_of_placing h
    | provControl v =>
      rcases h with h | rfl | rfl | rfl | rfl
      · exact drifts_of_sessionEnding h
      all_goals rfl
    | chargeLimit g => exact absurd h (Set.notMem_empty _)
  | discarded f => rcases h with rfl | ⟨b, rfl | rfl⟩ <;> rfl
  | episodeEnded b attr r p =>
    rcases h with h | rfl
    · exact drifts_of_writing h
    · rfl
  | releaseAsked b r =>
    rcases h with (h | h) | rfl
    · exact drifts_of_releasing h
    · exact drifts_of_sessionEnding h
    · rfl
  | releaseAnswered b r o =>
    rcases h with (h | h) | h
    · exact drifts_of_placing h
    · exact drifts_of_placing h
    · exact drifts_of_writing h
  | laneIdle b => exact drifts_of_releasing h
  | reevaluate b | reevaluateAll => exact drifts_of_evaluating h
  | select n =>
    rcases h with rfl | rfl | ⟨b, rfl | h | h⟩
    iterate 3 rfl
    · exact drifts_of_refreshing h
    · exact drifts_of_writing h

/-- Working a notice of the class drifts, and tells notices of the class. -/
theorem handle_drifts {n : Notice} (drifts : n.drifts = true) :
    ∃ can : Set Effect, (∀ e ∈ can, e.drifts = true) ∧ Acts can w (handle n w) := by
  by_cases moved : ∀ c st, n ≠ .channelChanged c st
  · exact ⟨effectsOf n, fun e => drifts_of_effectsOf drifts moved, handle_acts n w⟩
  · push Not at moved
    obtain ⟨c, st, rfl⟩ := moved
    refine ⟨sessionEnding c ∪ {.tell (.reevaluate c)}, fun e h => ?_, ?_⟩
    · rcases h with h | rfl
      · exact drifts_of_sessionEnding h
      · rfl
    · have aborted : Acts (sessionEnding c ∪ {.tell (.reevaluate c)}) w ((channelAbort c st w).raise (.reevaluate c)) :=
        (channelAbort_acts st fun _ among => .inl among).tell (.inr rfl)
      cases st
      case off | active => exact aborted
      all_goals cases drifts

theorem Acts.drifts {can : Set Effect} {v : Work} (acts : Acts can w v) (drifts : ∀ e ∈ can, e.drifts = true) :
    Drifts b w.st v.st :=
  acts.keeps (P := Drifts b w.st) (fun e may _ _ changed before => before.tail (changed.drift (drifts e may))) .refl

/-- While notices of the class are worked, the charge section and the channel of a bay drift. -/
theorem finish_drifts (start : ∀ n ∈ w.todo, n.drifts = true) : Drifts b w.st w.finish := by
  refine settle_keeps (P := Drifts b w.st) (Q := fun n => n.drifts = true) (fun n s among before => ?_) _ w .refl start
  obtain ⟨can, drifts, acts⟩ := handle_drifts (w := startWork s) among
  refine ⟨before.trans (acts.drifts drifts), fun m told => ?_⟩
  rcases acts.told m told with earlier | now
  · cases earlier
  · exact drifts _ now

/-! ### What drifting keeps -/

theorem Drifts.keeps {P : State → Prop} (h : Drifts b s t) (each : ∀ s t, Drift b s t → P s → P t) (holds : P s) :
    P t := by
  induction h with
  | refl => exact holds
  | tail _ drift ih => exact each _ _ drift ih

theorem Channel.Fed.refl (c : Channel) : c.Fed c := ⟨rfl, rfl, rfl, rfl, id, .inl rfl⟩

theorem Channel.Fed.trans {x y z : Channel} (h : x.Fed y) (h' : y.Fed z) : x.Fed z where
  state := h'.state.trans h.state
  dueIdent := h'.dueIdent.trans h.dueIdent
  dueBattery := h'.dueBattery.trans h.dueBattery
  dueRequest := h'.dueRequest.trans h.dueRequest
  dueProfile due := h'.dueProfile (h.dueProfile due)
  drops := h'.drops.elim (fun same => same ▸ h.drops) .inr

theorem Drift.channel_eq (drift : Drift b s t) : (t.bay b).channel = (s.bay b).channel ∨
    (t.bay b).channel = { (s.bay b).channel with drops := 0 } ∨
    (s.bay b).channel.state = .active ∧ (s.bay b).channel.Fed (t.bay b).channel ∧
      ((t.bay b).channel.chargeLimit = (s.bay b).channel.chargeLimit ∨
        (t.bay b).channel.chargeLimit = some (s.bay b).charge.grant) := by
  cases drift with
  | other charge channel view sessions cfl => exact .inl channel
  | wish => exact .inl (State.channel_modCharge ..)
  | tune c tuned => exact .inl (State.channel_modCharge ..)
  | answered => exact .inr (.inl (by simp))
  | channel c active fed limit =>
    have its : ((s.modChannel b fun _ => c).bay b).channel = c := by simp
    rw [its]
    exact .inr (.inr ⟨active, fed, limit⟩)

theorem Drift.charge_eq (drift : Drift b s t) : (t.bay b).charge = (s.bay b).charge ∨
    (t.bay b).charge = { (s.bay b).charge with wish := s.wishOf b, cls := s.classOf b } ∨ Tuned s b (t.bay b).charge := by
  cases drift with
  | other charge channel view sessions cfl => exact .inl charge
  | wish => exact .inr (.inl (by simp))
  | tune c tuned =>
    have its : ((s.modCharge b fun _ => c).bay b).charge = c := by simp
    rw [its]
    exact .inr (.inr tuned)
  | answered => exact .inl (State.charge_modChannel ..)
  | channel c active fed limit => exact .inl (State.charge_modChannel ..)

theorem Drift.cfl_eq (drift : Drift b s t) : t.cfl = s.cfl := by
  cases drift with
  | other charge channel view sessions cfl => exact cfl
  | _ => rfl

theorem Drifts.cfl (h : Drifts b s t) : t.cfl = s.cfl :=
  h.keeps (P := fun u => u.cfl = s.cfl) (fun _ _ drift before => drift.cfl_eq.trans before) rfl

/-- The state and the due marks of a channel stay, but for the PROFILE mark that a lane sets. -/
theorem Drifts.fed (h : Drifts b s t) : (s.bay b).channel.Fed (t.bay b).channel := by
  refine h.keeps (P := fun u => (s.bay b).channel.Fed (u.bay b).channel) (fun u v drift before => before.trans ?_) (.refl _)
  rcases drift.channel_eq with same | zero | ⟨-, fed, -⟩
  · rw [same]
    exact .refl _
  · rw [zero]
    exact ⟨rfl, rfl, rfl, rfl, id, .inr rfl⟩
  · exact fed

/-- A channel that is not ACTIVE takes nothing but the end of its drop count. -/
theorem Drifts.channel (h : Drifts b s t) (shut : (s.bay b).channel.state ≠ .active) :
    (t.bay b).channel = (s.bay b).channel ∨ (t.bay b).channel = { (s.bay b).channel with drops := 0 } := by
  refine h.keeps (P := fun u => (u.bay b).channel = (s.bay b).channel ∨
    (u.bay b).channel = { (s.bay b).channel with drops := 0 }) (fun u v drift before => ?_) (.inl rfl)
  have closed : (u.bay b).channel.state ≠ .active := by
    rcases before with same | zero <;> [rw [same]; rw [zero]] <;> exact shut
  rcases drift.channel_eq with same | zero | ⟨active, -⟩
  · rw [same]
    exact before
  · rw [zero]
    rcases before with same | zero' <;> [rw [same]; rw [zero']] <;> exact .inr rfl
  · exact absurd active closed

/-- A charge section at rest, as the notices leave it: without a grant and a wish, its watches stopped at most. -/
structure Charge.Rested (c d : Charge) : Prop where
  state : d.state = c.state
  voltage : d.voltage = c.voltage
  grant : d.grant = 0
  limit : d.limit = 0
  wish : d.wish = 0
  identTimer : d.identTimer = c.identTimer
  unmanagedTimer : d.unmanagedTimer = c.unmanagedTimer
  stage : d.stage = c.stage
  overdraw : d.overdraw = c.overdraw ∨ d.overdraw = 0
  shortHold : d.shortHold = c.shortHold ∨ d.shortHold = none

theorem managed_of_takesPart (apart : takesPart (s.bay b).charge.state = false) :
    managed (s.bay b).charge.state = false := by
  rw [← Bool.not_eq_true]
  intro manages
  rw [managed_takesPart manages] at apart
  cases apart

/-- A bay without grant and wish, in a state that takes no part in the split, stays there. -/
theorem Drifts.rested (h : Drifts b s t) (apart : takesPart (s.bay b).charge.state = false)
    (grant : (s.bay b).charge.grant = 0) (limit : (s.bay b).charge.limit = 0) (wish : (s.bay b).charge.wish = 0) :
    (s.bay b).charge.Rested (t.bay b).charge := by
  refine h.keeps (P := fun u => (s.bay b).charge.Rested (u.bay b).charge) (fun u v drift before => ?_)
    ⟨rfl, rfl, grant, limit, wish, rfl, rfl, rfl, .inl rfl, .inl rfl⟩
  have apart' : takesPart (u.bay b).charge.state = false := before.state ▸ apart
  rcases drift.charge_eq with same | fresh | tuned
  · rw [same]
    exact before
  · rw [fresh]
    exact { before with wish := wishOf_resting apart' }
  · have unmanaged := managed_of_takesPart apart'
    obtain ⟨identTimer, unmanagedTimer, stage⟩ := tuned.timers
    have granted : (v.bay b).charge.grant = 0 ∧ (v.bay b).charge.limit = 0 := by
      rcases tuned.granted with ⟨grant, limit⟩ | takes | none
      · exact ⟨grant.trans before.grant, limit.trans before.limit⟩
      · rw [apart'] at takes
        cases takes
      · exact none
    refine ⟨?_, ?_, granted.1, granted.2, ?_, identTimer.trans before.identTimer,
      unmanagedTimer.trans before.unmanagedTimer, stage.trans before.stage, ?_, ?_⟩
    · rcases tuned.state with same | ⟨moves, -⟩
      · exact same.trans before.state
      · rw [unmanaged] at moves
        cases moves
    · rcases tuned.voltage with same | moves
      · exact same.trans before.voltage
      · rw [unmanaged] at moves
        cases moves
    · rcases tuned.wished with same | fresh
      · exact same.trans before.wish
      · exact fresh.trans (wishOf_resting apart')
    · rcases tuned.watches.1 with same | zero
      · rw [same]
        exact before.overdraw
      · exact .inr zero
    · rcases tuned.watches.2 with same | none
      · rw [same]
        exact before.shortHold
      · exact .inr none

/-- A pending CHARGE_LIMIT write of 0 of such a bay stays pending. -/
theorem Drifts.limitZero (h : Drifts b s t) (apart : takesPart (s.bay b).charge.state = false)
    (grant : (s.bay b).charge.grant = 0) (limit : (s.bay b).charge.limit = 0) (wish : (s.bay b).charge.wish = 0)
    (pending : (s.bay b).channel.chargeLimit = some 0) : (t.bay b).channel.chargeLimit = some 0 := by
  refine (h.keeps (P := fun u => Drifts b s u ∧ (u.bay b).channel.chargeLimit = some 0) (fun u v drift before => ?_)
    ⟨.refl, pending⟩).2
  obtain ⟨before, pending⟩ := before
  refine ⟨before.tail drift, ?_⟩
  rcases drift.channel_eq with same | zero | ⟨-, -, same | fresh⟩
  · rw [same, pending]
  · rw [zero, pending]
  · rw [same, pending]
  · rw [fresh, (before.rested apart grant limit wish).grant]

/-- R61: an UNMANAGED bay stays UNMANAGED at its voltage, with the wish P_unmanaged. -/
theorem Drifts.unmanaged (h : Drifts b s t) (state : (s.bay b).charge.state = .unmanaged)
    (wish : (s.bay b).charge.wish = s.cfl.config.unmanaged) :
    (t.bay b).charge.state = .unmanaged ∧ (t.bay b).charge.voltage = (s.bay b).charge.voltage ∧
      (t.bay b).charge.wish = s.cfl.config.unmanaged ∧ (t.bay b).charge.identTimer = (s.bay b).charge.identTimer ∧
      (t.bay b).charge.unmanagedTimer = (s.bay b).charge.unmanagedTimer := by
  refine (h.keeps (P := fun u => u.cfl = s.cfl ∧ (u.bay b).charge.state = .unmanaged ∧
    (u.bay b).charge.voltage = (s.bay b).charge.voltage ∧ (u.bay b).charge.wish = s.cfl.config.unmanaged ∧
    (u.bay b).charge.identTimer = (s.bay b).charge.identTimer ∧
    (u.bay b).charge.unmanagedTimer = (s.bay b).charge.unmanagedTimer) (fun u v drift before => ?_)
    ⟨rfl, state, rfl, wish, rfl, rfl⟩).2
  obtain ⟨cfl, state, voltage, wish, identTimer, unmanagedTimer⟩ := before
  have own : u.wishOf b = s.cfl.config.unmanaged := by
    simp only [State.wishOf, state, cfl]
  refine ⟨drift.cfl_eq.trans cfl, ?_⟩
  rcases drift.charge_eq with same | fresh | tuned
  · rw [same]
    exact ⟨state, voltage, wish, identTimer, unmanagedTimer⟩
  · rw [fresh]
    exact ⟨state, voltage, own, identTimer, unmanagedTimer⟩
  · have unmanaged : managed (u.bay b).charge.state = false := by rw [state]; rfl
    refine ⟨?_, ?_, ?_, tuned.timers.1.trans identTimer, tuned.timers.2.1.trans unmanagedTimer⟩
    · rcases tuned.state with same | ⟨moves, -⟩
      · exact same.trans state
      · rw [unmanaged] at moves
        cases moves
    · rcases tuned.voltage with same | moves
      · exact same.trans voltage
      · rw [unmanaged] at moves
        cases moves
    · rcases tuned.wished with same | fresh
      · exact same.trans wish
      · exact fresh.trans own

end

end Sys2Proof.Machine
end

section
/-! The entries into the charge states (R57 to R62), and the presence gain (R57). -/

namespace Sys2Proof.Machine

section
variable {w : Work} {b : BayIx} {n : Notice}

/-! ### The channel -/

@[simp] theorem moveCharge_channel (st : ChargeState) : ((moveCharge b st w).st.bay b).channel = (w.st.bay b).channel := by
  simp only [moveCharge]
  split
  · rfl
  · simp

@[simp] theorem refreshWish_channel : ((refreshWish b w).st.bay b).channel = (w.st.bay b).channel := by
  simp only [refreshWish, Work.raiseIf_st]
  split <;> simp

theorem requestWrite_fed (x : DockWrite) : (w.st.bay b).channel.Fed ((requestWrite b x w).st.bay b).channel := by
  simp only [requestWrite]
  split
  · exact .refl _
  · split
    · rw [Work.raise_st, Work.upd_st, State.channel_modChannel, if_pos rfl]
      exact ⟨rfl, rfl, rfl, rfl, id, .inr rfl⟩
    · split
      all_goals
        simp only [Work.raise_st, Work.upd_st, State.channel_modChannel, if_true]
        exact Channel.fed_addPending _ _

theorem setGrant_fed (g : Nat) : (w.st.bay b).channel.Fed ((setGrant b g w).st.bay b).channel := by
  have granted : ((w.upd fun s => s.modCharge b (withGrant g)).st.bay b).channel = (w.st.bay b).channel :=
    State.channel_modCharge ..
  unfold setGrant
  split
  · rw [granted]
    exact .refl _
  · unfold requestLimit
    dsimp only
    split
    · exact granted ▸ requestWrite_fed _
    · rw [granted]
      exact .refl _

/-! ### What an entry leaves -/

/-- The notices that an entry into a charge state tells enter no bay into another. -/
theorem drifts_of_charging (h : .tell n ∈ charging b) : n.drifts = true := by
  rcases h with ((h | h) | h) | h
  · rcases h with h | h <;> cases h; rfl
  · exact drifts_of_refreshing (e := .tell n) h
  · rcases h with h | h | h | h <;> cases h; rfl
  · exact drifts_of_writing (e := .tell n) h

/-- The charge section after an entry, whose timers see a state that differs from the one before in `b` alone. -/
theorem entered_charge (st : ChargeState) (f : State → Charge → Charge) :
    ∃ u v : State, u.steady = w.st.steady ∧ (u.bay b).channel.state = (w.st.bay b).channel.state ∧
      v.cfl = w.st.cfl ∧ (v.bay b).charge = f u (withGrant 0 ((w.st.bay b).charge.moved st)) ∧
      ((entered b st f w).st.bay b).charge =
        { f u (withGrant 0 ((w.st.bay b).charge.moved st)) with wish := v.wishOf b, cls := v.classOf b } := by
  have steady : (setGrant b 0 (moveCharge b st w)).st.steady = w.st.steady := by
    rw [setGrant_steady, moveCharge_steady]
  have channel := (setGrant_fed (w := moveCharge b st w) (b := b) 0).state
  rw [moveCharge_channel] at channel
  refine ⟨_, ((setGrant b 0 (moveCharge b st w)).upd fun s => s.modCharge b (f s)).st, steady, channel, ?_,
    entering_charge st f, ?_⟩
  · exact entering_cfl st f
  · rw [entered, refreshWish_charge, if_pos rfl, entering_charge]

/-- R58: an entry to IDENTIFYING. -/
theorem entered_identifying (identRead : Bool) :
    let c := ((entered b .identifying (identifyingCharge identRead) w).st.bay b).charge
    c.state = .identifying ∧ c.identTimer = some (w.st.now + 3000) ∧ c.unmanagedTimer = none ∧ c.grant = 0 ∧ c.limit = 0 ∧
      c.wish = 0 ∧ c.stage = (if identRead then .awaitBattery else .awaitIdent) := by
  obtain ⟨u, v, steady, -, -, charge, its⟩ := entered_charge (b := b) (w := w) .identifying (identifyingCharge identRead)
  have wish : v.wishOf b = 0 := wishOf_resting (by rw [charge]; simp [identifyingCharge, withGrant, takesPart])
  rw [its]
  simp [identifyingCharge, withGrant, wish, portLimit_zero, steady_now steady, identificationTime]

/-- R57: an entry to VACANT. -/
theorem entered_vacant :
    let c := ((entered b .vacant vacantCharge w).st.bay b).charge
    c.state = .vacant ∧ c.voltage = 5 ∧ c.identTimer = none ∧ c.unmanagedTimer = none ∧ c.grant = 0 ∧ c.limit = 0 ∧
      c.wish = 0 ∧ c.overdraw = 0 ∧ c.shortHold = none := by
  obtain ⟨u, v, steady, -, -, charge, its⟩ := entered_charge (b := b) (w := w) .vacant vacantCharge
  have wish : v.wishOf b = 0 := wishOf_resting (by rw [charge]; simp [vacantCharge, withGrant, takesPart])
  rw [its]
  simp [vacantCharge, withGrant, wish, portLimit_zero]

/-- R61: an entry to UNMANAGED. -/
theorem entered_unmanaged :
    let c := ((entered b .unmanaged (unmanagedCharge b) w).st.bay b).charge
    c.state = .unmanaged ∧ c.voltage = 5 ∧ c.identTimer = none ∧ c.wish = w.st.cfl.config.unmanaged ∧
      c.unmanagedTimer = if (w.st.bay b).channel.state = .active then some (w.st.now + 10000) else none := by
  obtain ⟨u, v, steady, channel, cfl, charge, its⟩ := entered_charge (b := b) (w := w) .unmanaged (unmanagedCharge b)
  have wish : v.wishOf b = w.st.cfl.config.unmanaged := by
    simp [State.wishOf, charge, cfl, unmanagedCharge, withGrant]
  rw [its]
  simp [unmanagedCharge, withGrant, wish, channel, steady_now steady, unmanagedPeriod]

theorem entered_fed (st : ChargeState) (f : State → Charge → Charge) :
    (w.st.bay b).channel.Fed ((entered b st f w).st.bay b).channel := by
  have moved := setGrant_fed (w := moveCharge b st w) (b := b) 0
  rw [moveCharge_channel] at moved
  rw [entered, refreshWish_channel, Work.upd_st, State.channel_modCharge]
  exact moved

/-- R81, R95: an OFF channel that is asked to identify. -/
theorem requestIdentification_off (off : (w.st.bay b).channel.state = .off) :
    ((requestIdentification b w).st.bay b).channel = { (w.st.bay b).channel with
      state := .active, drops := 0, dueIdent := true, dueBattery := true, dueRequest := true, dueProfile := true } := by
  simp [requestIdentification, setChannelState, requestReads, followingReads, markDue, off]

/-! ### Identification begins -/

/-- What R58 says of a bay that begins its identification at the time `now`, its channel having been `x`. -/
structure Bay.Identifying (x : Channel) (now : Nat) (y : Bay) : Prop where
  state : y.charge.state = .identifying
  timer : y.charge.identTimer = some (now + 3000)
  grant : y.charge.grant = 0
  limit : y.charge.limit = 0
  wish : y.charge.wish = 0
  channel : x.state = .off → y.channel.state = .active ∧ y.channel.drops = 0 ∧ y.channel.dueIdent = true ∧
    y.channel.dueBattery = true ∧ y.channel.dueRequest = true ∧ y.channel.dueProfile = true

theorem enterIdentifying_identifying :
    ((enterIdentifying b false w).st.bay b).Identifying (w.st.bay b).channel w.st.now := by
  obtain ⟨state, timer, -, grant, limit, wish, -⟩ := entered_identifying (w := w) (b := b) false
  rw [enterIdentifying_eq, if_neg Bool.false_ne_true]
  have charge := requestIdentification_charge b b (entered b .identifying (identifyingCharge false) w)
  have fed := entered_fed (w := w) (b := b) .identifying (identifyingCharge false)
  generalize entered b .identifying (identifyingCharge false) w = u at *
  refine ⟨?_, ?_, ?_, ?_, ?_, fun off => ?_⟩
  iterate 5 rw [charge]; assumption
  rw [requestIdentification_off (fed.state.trans off)]
  exact ⟨rfl, rfl, rfl, rfl, rfl, rfl⟩

/-- A bay that begins its identification does so while notices are worked. -/
theorem Drifts.identifying {s t : State} {x : Channel} {now : Nat} (h : Drifts b s t)
    (begins : (s.bay b).Identifying x now) : (t.bay b).Identifying x now := by
  have apart : takesPart (s.bay b).charge.state = false := by rw [begins.state]; rfl
  have rested := h.rested apart begins.grant begins.limit begins.wish
  have fed := h.fed
  refine ⟨rested.state.trans begins.state, rested.identTimer.trans begins.timer, rested.grant, rested.limit,
    rested.wish, fun off => ?_⟩
  obtain ⟨state, drops, ident, battery, request, profile⟩ := begins.channel off
  exact ⟨fed.state.trans state, fed.drops.elim (·.trans drops) id, fed.dueIdent.trans ident, fed.dueBattery.trans battery,
    fed.dueRequest.trans request, fed.dueProfile profile⟩

/-- An entry into a charge state tells no notice that enters a bay into another. -/
theorem Acts.told_drifts {v : Work} (acts : Acts (charging b) w v) (start : ∀ n ∈ w.todo, n.drifts = true) :
    ∀ n ∈ v.todo, n.drifts = true := fun n told =>
  (acts.told n told).elim (start n) drifts_of_charging

end

/-- Settles O22: the notices of the entry to IDENTIFYING leave it with grant and wish 0, its channel and its due marks. -/
theorem presenceGainIdentifies : Obligations.PresenceGainIdentifies := by
  intro b s populated absent
  have ran : exec (.presenceGain b) s = carryOut (s.modBay b fun x => { x with present := true }) fun w =>
      if w.st.isActive && (w.st.bay b).charge.state == .vacant then enterIdentifying b false w else w := by
    simp [exec, execPresenceGain, populated, absent]
  have state : ((s.modBay b fun x => { x with present := true }).bay b).charge.state = (s.bay b).charge.state :=
    s.read_modBay b b (·.charge.state) fun _ => rfl
  have channel : ((s.modBay b fun x => { x with present := true }).bay b).channel = (s.bay b).channel :=
    s.read_modBay b b (·.channel) fun _ => rfl
  have cfl : (s.modBay b fun x => { x with present := true }).cfl = s.cfl := rfl
  have now : (s.modBay b fun x => { x with present := true }).now = s.now := rfl
  generalize s.modBay b (fun x => { x with present := true }) = u at ran state channel cfl now ⊢
  have asked : ((startWork u).st.isActive && ((startWork u).st.bay b).charge.state == .vacant) = true ↔
      s.cfl.phase = .active ∧ (s.bay b).charge.state = .vacant := by
    simp [startWork, State.isActive, cfl, state]
  by_cases begins : s.cfl.phase = .active ∧ (s.bay b).charge.state = .vacant
  · have drifts : Drifts b (enterIdentifying b false (startWork u)).st (enterIdentifying b false (startWork u)).finish :=
      finish_drifts ((enterIdentifying_acts subset_rfl false).told_drifts fun n told => by cases told)
    have its := drifts.identifying (enterIdentifying_identifying (w := startWork u) (b := b))
    refine ⟨(enterIdentifying b false (startWork u)).finish, ?_, ?_, ?_, fun _ _ => ?_⟩
    · rw [ran, carryOut, if_pos (asked.mpr begins)]
    · rw [finish_steady, enterIdentifying_steady, startWork]
    · exact fun other => absurd begins (not_and_or.mpr other)
    · rw [← now, ← channel]
      exact ⟨its.state, its.timer, its.grant, its.limit, its.wish, its.channel⟩
  · refine ⟨u, ?_, rfl, fun _ => rfl, fun active vacant => absurd ⟨active, vacant⟩ begins⟩
    rw [ran, carryOut, if_neg (asked.not.mpr begins)]
    exact congrArg _ (finish_of_quiet rfl)

end Sys2Proof.Machine
end

section
/-! The entry to ACTIVE (R54, R77, R167). -/

namespace Sys2Proof.Machine

section
variable {s t : State} {b c : BayIx} {w : Work} {e : Effect}

/-! ### The bays that identify -/

/-- The entry of another bay into a charge state drifts. -/
theorem Change.drift_of_charging (changed : Change e s t) (may : e ∈ charging c) (apart : b ≠ c) : Drift b s t := by
  rcases may with ((may | may) | may) | may
  · rcases may with rfl | rfl <;> cases changed
    exact .of_apart apart
  · exact changed.drift (drifts_of_refreshing may)
  · rcases may with rfl | rfl | rfl | rfl
    · cases changed
      unfold requestReads
      split
      iterate 2 exact .of_apart apart
      all_goals exact .other rfl rfl rfl rfl rfl
    · exact changed.drift rfl
    · cases changed
      exact .of_apart apart
    · cases changed
  · exact changed.drift (drifts_of_writing may)

/-- A bay that no split reaches keeps its state. -/
theorem Drifts.state (h : Drifts b s t) (apart : takesPart (s.bay b).charge.state = false) :
    (t.bay b).charge.state = (s.bay b).charge.state := by
  refine h.keeps (P := fun u => (u.bay b).charge.state = (s.bay b).charge.state) (fun u v drift before => ?_) rfl
  rcases drift.charge_eq with same | fresh | tuned
  · rw [same, before]
  · rw [fresh, before]
  · rcases tuned.state with same | ⟨moves, -⟩
    · exact same.trans before
    · rw [managed_of_takesPart (before ▸ apart)] at moves
      cases moves

theorem identifyPresent_acts_charging : Acts (charging c) w (identifyPresent c w) := by
  unfold identifyPresent
  split
  · exact enterIdentifying_acts subset_rfl false
  · exact .refl

theorem identifyPresent_apart (apart : b ≠ c) : Drifts b w.st (identifyPresent c w).st :=
  identifyPresent_acts_charging.keeps (P := Drifts b w.st)
    (fun _ may _ _ changed before => before.tail (changed.drift_of_charging may apart)) .refl

theorem identifyAll_apart (bays : List BayIx) (apart : b ∉ bays) :
    Drifts b w.st (forEach bays identifyPresent w).st := by
  induction bays generalizing w with
  | nil => exact .refl
  | cons c cs ih =>
    exact (identifyPresent_apart (List.ne_of_not_mem_cons apart)).trans (ih (List.not_mem_of_not_mem_cons apart))

/-- R77: a VACANT bay with a tablet begins its identification among the populated bays. -/
theorem identifyAll_identifying (bays : List BayIx) (once : bays.Nodup) (among : b ∈ bays)
    (present : (w.st.bay b).present = true) (vacant : (w.st.bay b).charge.state = .vacant) :
    ∃ x : Channel, x.state = (w.st.bay b).channel.state ∧
      ((forEach bays identifyPresent w).st.bay b).Identifying x w.st.now := by
  induction bays generalizing w with
  | nil => cases among
  | cons c cs ih =>
    obtain ⟨new, once⟩ := List.nodup_cons.1 once
    rcases List.mem_cons.1 among with rfl | later
    · refine ⟨(w.st.bay b).channel, rfl, (identifyAll_apart (w := identifyPresent b w) cs new).identifying ?_⟩
      rw [identifyPresent, if_pos (by simp [present, vacant])]
      exact enterIdentifying_identifying
    · have apart : b ≠ c := fun same => new (same ▸ later)
      have drifts := identifyPresent_apart (w := w) apart
      have steady : (identifyPresent c w).st.steady = w.st.steady := by
        unfold identifyPresent
        split <;> [exact enterIdentifying_steady ..; rfl]
      obtain ⟨x, state, its⟩ := ih (w := identifyPresent c w) once later ((steady_present steady b).trans present)
        ((drifts.state (by rw [vacant]; rfl)).trans vacant)
      exact ⟨x, state.trans drifts.fed.state, steady_now steady ▸ its⟩

/-- R77: a bay that is not VACANT with a tablet stays as it is. -/
theorem identifyAll_stay (bays : List BayIx)
    (stays : (w.st.bay b).present = false ∨ (w.st.bay b).charge.state ≠ .vacant)
    (apart : takesPart (w.st.bay b).charge.state = false) :
    ((forEach bays identifyPresent w).st.bay b).charge.state = (w.st.bay b).charge.state := by
  induction bays generalizing w with
  | nil => rfl
  | cons c cs ih =>
    by_cases own : b = c
    · subst own
      have same : identifyPresent b w = w := by
        unfold identifyPresent
        rw [if_neg]
        rcases stays with absent | other
        · simp [absent]
        · simp [other]
      exact (congrArg (fun u => ((forEach cs identifyPresent u).st.bay b).charge.state) same).trans (ih stays apart)
    · have drifts := identifyPresent_apart (w := w) own
      have steady : (identifyPresent c w).st.steady = w.st.steady := by
        unfold identifyPresent
        split <;> [exact enterIdentifying_steady ..; rfl]
      have state := drifts.state apart
      refine (ih (w := identifyPresent c w) ?_ (state ▸ apart)).trans state
      rw [steady_present steady b, state]
      exact stays

/-! ### The share at the entry -/

/-- R54: with a zero history settled claim and allowance are 0. -/
structure ZeroShare (s : State) : Prop where
  history : s.shu.history = #v[0, 0, 0, 0]
  settled : s.shu.settled = 0
  allowance : s.shu.allowance = 0

theorem recomputed_zeroShare (history : s.shu.history = #v[0, 0, 0, 0]) (active : s.cfl.phase = .active) :
    ZeroShare (recomputed s) := by
  have kept : (recomputed s).shu.history = s.shu.history := steady_history (recomputed_steady s)
  have its := recomputed_of_active active
  rw [evaluateGuard_eq] at its
  have settled : (recomputed s).shu.settled = 0 := by
    rw [its]
    simp [recomputeTarget, recomputeFloor, recomputeClaim, settledOf_eq, history]
  have bounds := (recomputed_bounds (s := s) (by simp [State.isActive, active])).belowSettled
  exact ⟨kept.trans history, settled, Nat.le_zero.1 (settled ▸ bounds)⟩

theorem Change.zeroShare (h : Change e s t) (inner : e.inner = true) (law : ZeroShare s) : ZeroShare t := by
  cases h
  case recompute =>
    by_cases active : s.cfl.phase = .active
    · exact recomputed_zeroShare law.history active
    · have same : recomputed s = s := by simp [recomputed, State.isActive, active]
      rwa [same]
  case reads b rs =>
    unfold requestReads
    split <;> exact ⟨law.history, law.settled, law.allowance⟩
  all_goals first | exact absurd inner (by decide) | exact ⟨law.history, law.settled, law.allowance⟩

/-- R54: the state at the entry to ACTIVE before its recomputation. -/
def unshared (s : State) : State := (begun s).modShu fun u =>
  { u with history := Vector.replicate 4 0, guard := false, liftTimer := none }

theorem firstShare_eq : firstShare s = { st := recomputed (unshared s), todo := [.split] } := by
  rw [firstShare, recompute]
  rfl

theorem timersRunning_st : (timersRunning s).st =
    { recomputed (unshared s) with
      shu := { (recomputed (unshared s)).shu with heartbeatTimer := some (s.now + 500) },
      pmn := { s.pmn with isolationTimer := some (s.now + 1500) } } := by
  rw [timersRunning, firstShare_eq, recomputed_eq]
  rfl

theorem firstHeartbeat_st : (firstHeartbeat s).st =
    (timersRunning s).st.modLkc (Lkc.offered (heartbeatBody (timersRunning s).st)) := by
  rw [firstHeartbeat, offerHeartbeat_st]

theorem identifyAll_steady (bays : List BayIx) : (forEach bays identifyPresent w).st.steady = w.st.steady := by
  refine forEach_keeps (fun s => s.steady) bays _ (fun c w => ?_) w
  unfold identifyPresent
  split <;> [exact enterIdentifying_steady ..; rfl]

end

theorem identifyAll_acts (bays : List BayIx) (w : Work) :
    Acts {e | ∃ c, e ∈ charging c} w (forEach bays identifyPresent w) :=
  .forEach (f := identifyPresent) (fun c _ => Acts.mono identifyPresent_acts_charging fun _ may => Exists.intro c may) bays w

/-- R54, R26: the state at the entry to ACTIVE once its first heartbeat is offered. -/
theorem firstHeartbeat_form (s : State) : (firstHeartbeat s).st =
    { unshared s with
      lkc := s.lkc.offered (heartbeatBody (recomputed (unshared s))),
      shu := { (recomputed (unshared s)).shu with heartbeatTimer := some (s.now + 500) },
      pmn := { s.pmn with isolationTimer := some (s.now + 1500) } } := by
  have body : heartbeatBody (timersRunning s).st = heartbeatBody (recomputed (unshared s)) := by
    rw [timersRunning_st, recomputed_eq]
    rfl
  rw [firstHeartbeat_st, body, timersRunning_st]
  generalize heartbeatBody (recomputed (unshared s)) = first
  rw [recomputed_eq]
  rfl

theorem firstHeartbeat_told (s : State) : ∀ n ∈ (firstHeartbeat s).todo, n = .split ∨ ∃ f, n = .discarded f := by
  have timed : (timersRunning s).todo = [.split] := by
    rw [timersRunning, firstShare_eq]
    rfl
  intro n told
  rw [firstHeartbeat] at told
  unfold offerHeartbeat at told
  split at told
  · rw [placeHeartbeat, place_eq] at told
    rcases List.mem_append.1 told with earlier | now
    · rw [timed] at earlier
      exact .inl (List.mem_singleton.1 earlier)
    · simp only [Option.mem_toList, Option.map_eq_some_iff] at now
      obtain ⟨f, -, rfl⟩ := now
      exact .inr ⟨f, rfl⟩
  · split at told
    all_goals
      rw [Work.upd_todo, timed] at told
      exact .inl (List.mem_singleton.1 told)

theorem firstHeartbeat_split {s : State} (first : NoHeartbeat s.lkc.queue) (room : s.lkc.queue.length < 8) :
    (firstHeartbeat s).todo = [.split] := by
  have lkc : (timersRunning s).st.lkc = s.lkc := by
    rw [timersRunning_st, recomputed_eq]
    rfl
  have placed := (placed_heartbeat (l := s.lkc) (heartbeatBody (timersRunning s).st) first room).1
  rw [firstHeartbeat, offerHeartbeat_new (by rwa [lkc]), lkc, placed, timersRunning, firstShare_eq]
  rfl

/-- Settles O7: the share by the law of a zero history, the bays by what their notices leave, the queue by the calm
of a station that serves no lane. -/
theorem listenTimerEntersActive : Obligations.ListenTimerEntersActive := by
  intro d s listening timer
  have ran : exec .listenTimerExpired s = .next (enterActive (startWork (s.advanceTo d))).finish := by
    simp [exec, execListenTimerExpired, timer, listening, carryOut]
  have form := firstHeartbeat_form (s.advanceTo d)
  have share : ZeroShare (firstHeartbeat (s.advanceTo d)).st := by
    have zero := recomputed_zeroShare (s := unshared (s.advanceTo d)) rfl rfl
    rw [form]
    exact ⟨zero.history, zero.settled, zero.allowance⟩
  have told := firstHeartbeat_told (s.advanceTo d)
  have split := firstHeartbeat_split (s := s.advanceTo d)
  have entry := enterActive_eq (s := s.advanceTo d)
  rw [ran, entry]
  generalize firstHeartbeat (s.advanceTo d) = w at form share told split ⊢
  have steady : (forEach w.st.populatedBays identifyPresent w).finish.steady = w.st.steady := by
    rw [finish_steady, identifyAll_steady]
  have toldAll : ∀ n ∈ (forEach w.st.populatedBays identifyPresent w).todo, n.drifts = true := fun n among => by
    rcases (identifyAll_acts _ w).told n among with earlier | ⟨c, may⟩
    · rcases told n earlier with rfl | ⟨f, rfl⟩ <;> rfl
    · exact drifts_of_charging may
  have drifts (b : BayIx) := finish_drifts (b := b) toldAll
  have bay (b : BayIx) : w.st.bay b = s.bay b := by
    rw [form]
    rfl
  have zero : ZeroShare (forEach w.st.populatedBays identifyPresent w).finish :=
    finish_keeps (fun _ _ _ inner changed law => changed.zeroShare inner law)
      ((identifyAll_acts _ w).keeps (fun _ ⟨_, may⟩ _ _ changed law => changed.zeroShare (inner_of_charging may) law) share)
  refine ⟨_, rfl, (steady_now steady).trans ?_, (steady_cfl steady).trans ?_, zero.history, zero.allowance, zero.settled,
    (steady_reads (fun x : State => x.shu.heartbeatTimer) (fun _ => rfl) steady).trans ?_, (steady_pmn steady).trans ?_,
    (steady_line steady).trans ?_, (steady_received steady).trans ?_, (steady_hands steady).trans ?_,
    (steady_credentials steady).trans ?_, (steady_minute steady).trans ?_, (steady_campaigns steady).trans ?_,
    (steady_rpu steady).trans ?_, (steady_pending steady).trans ?_,
    fun b => ⟨(steady_present steady b).trans ?_, (steady_view steady b).trans ?_, (steady_attrs steady b).trans ?_⟩, ?_, ?_⟩
  iterate 4 rw [form]; rfl
  · rw [form]
    exact (Lkc.offered_keeps _ _).1
  · rw [form]
    exact (Lkc.offered_keeps _ _).2.1
  iterate 6 rw [form]; rfl
  iterate 3 rw [bay]
  · intro b
    have all : w.st.populated b = s.populated b := by
      rw [form]
      rfl
    have now : w.st.now = max s.now d := by
      rw [form]
      rfl
    refine ⟨fun populated present vacant => ?_, fun absent vacant => ?_, fun out => ?_⟩
    · obtain ⟨x, state, its⟩ := identifyAll_identifying (w := w) (b := b) w.st.populatedBays
        ((List.nodup_finRange 8).filter _) (List.mem_filter.2 ⟨List.mem_finRange b, all.trans populated⟩)
        (bay b ▸ present) (bay b ▸ vacant)
      have its := (drifts b).identifying its
      exact ⟨its.state, now ▸ its.timer, its.grant, its.limit, its.wish,
        fun off => its.channel (state.trans (bay b ▸ off))⟩
    · have apart : takesPart (w.st.bay b).charge.state = false := by
        rw [bay, vacant]
        rfl
      have stays := identifyAll_stay (w := w) w.st.populatedBays (.inl (bay b ▸ absent)) apart
      rw [(drifts b).state (stays ▸ apart), stays, bay, vacant]
    · have apart : takesPart (w.st.bay b).charge.state = false := by
        rw [bay, out]
        rfl
      have stays := identifyAll_stay (w := w) w.st.populatedBays (.inr (by rw [bay, out]; nofun)) apart
      rw [(drifts b).state (stays ▸ apart), stays, bay, out]
  · intro entered body quiet first room
    have still : Still True w.st := (Still.of_quiet quiet).of_same (by rw [form]; exact fun _ => rfl) (by rw [form]; rfl)
    have acts := identifyAll_acts w.st.populatedBays w
    have calmed : Calmed w.st (forEach w.st.populatedBays identifyPresent w).st :=
      acts.keeps (P := Calmed w.st)
        (fun _ ⟨_, may⟩ _ _ changed before => before.trans (changed.calmed (calm_of_charging may))) .refl
    have calm : ∀ n ∈ (forEach w.st.populatedBays identifyPresent w).todo, Calm True n := fun n among => by
      rcases acts.told n among with earlier | ⟨c, may⟩
      · rw [split first room, List.mem_singleton] at earlier
        exact earlier ▸ trivial
      · exact Calm.told (n := .serviceChanged c) trivial may
    rw [(finish_calmed (calmed.still still) calm).lkc, calmed.lkc, form]
    obtain ⟨-, its⟩ := placed_heartbeat (l := s.lkc) body first room
    refine Eq.trans ?_ its
    change Lkc.offered body s.lkc = _
    simp only [Lkc.offered, queuedHeartbeat_none first]

end Sys2Proof.Machine
end

section
/-! The presence loss (R57, R90, R112, R134). -/

namespace Sys2Proof.Machine

section
variable {w : Work} {b : BayIx} {n : Notice}

/-! ### The channel -/

/-- R90: a channel whose tablet is gone. -/
def lostChannel (c : Channel) : Channel :=
  { c with
    state := .off, exchange := none, custody := none, provControl := none, chargeLimit := none,
    dueIdent := false, dueBattery := false, dueRequest := false, dueProfile := false,
    identTimer := none, batteryTimer := none, requestTimer := none, profileTimer := none,
    drops := 0, lowRun := 0, highRun := 0, wakeIdle := 0 }

theorem forEach_raise_st {α : Type} (g : α → Notice) (xs : List α) (w : Work) :
    (forEach xs (fun x => Work.raise (g x)) w).st = w.st :=
  forEach_keeps (fun s => s) xs (fun x => Work.raise (g x)) (fun _ _ => rfl) w

theorem forEach_raise_told {α : Type} (g : α → Notice) (xs : List α) (w : Work)
    (told : n ∈ (forEach xs (fun x => Work.raise (g x)) w).todo) : n ∈ w.todo ∨ ∃ x ∈ xs, n = g x := by
  induction xs generalizing w with
  | nil => exact .inl told
  | cons x xs ih =>
    rcases ih (w.raise (g x)) told with earlier | ⟨y, among, rfl⟩
    · rcases List.mem_append.1 earlier with before | now
      · exact .inl before
      · exact .inr ⟨x, List.mem_cons_self, List.mem_singleton.1 now⟩
    · exact .inr ⟨y, List.mem_cons_of_mem _ among, rfl⟩

theorem setChannelState_st (st : ChannelState) :
    (setChannelState b st w).st = w.st.modChannel b fun c => { c with state := st } := by
  unfold setChannelState
  split
  · next same =>
    have same : (w.st.bay b).channel.state = st := by simpa using same
    exact (State.modBay_stay (by simp [← same])).symm
  · rfl

theorem channelLost_st : (channelLost b w).st =
    w.st.modBay b fun x => { x with channel := lostChannel x.channel, view := {} } := by
  simp only [channelLost, setChannelState_st, Work.upd_st, cancelWrites, forEach_raise_st, State.modChannel, State.modView,
    State.modBay_modBay]
  rfl

theorem setChannelState_told (st : ChannelState) (told : n ∈ (setChannelState b st w).todo) :
    n ∈ w.todo ∨ n = .channelChanged b st := by
  unfold setChannelState at told
  split at told
  · exact .inl told
  · exact (List.mem_append.1 told).imp_right List.mem_singleton.1

theorem cancelWrites_told (told : n ∈ (cancelWrites b w).todo) : n ∈ w.todo ∨ ∃ x, n = .writeEnded b x .cancelled := by
  unfold cancelWrites at told
  rcases forEach_raise_told (fun x => .writeEnded b x .cancelled) _ _ told with earlier | ⟨x, -, rfl⟩
  · exact .inl earlier
  · exact .inr ⟨x, rfl⟩

/-- What a lost channel tells: the writes it cancels and its state. -/
theorem channelLost_told (told : n ∈ (channelLost b w).todo) :
    n ∈ w.todo ∨ (∃ x, n = .writeEnded b x .cancelled) ∨ n = .channelChanged b .off := by
  unfold channelLost at told
  dsimp only at told
  rcases setChannelState_told _ told with told | rfl
  · rw [Work.upd_todo] at told
    rcases cancelWrites_told told with told | cancelled
    · rcases forEach_raise_told (fun x => .writeEnded b x .cancelled) _ _ told with told | ⟨x, -, rfl⟩
      · exact .inl told
      · exact .inr (.inl ⟨x, rfl⟩)
    · exact .inr (.inl cancelled)
  · exact .inr (.inr rfl)

/-- R70: a channel that is not ACTIVE takes no CHARGE_LIMIT write with an entry into a charge state. -/
theorem entered_channel_shut (shut : (w.st.bay b).channel.state ≠ .active) (st : ChargeState)
    (f : State → Charge → Charge) : ((entered b st f w).st.bay b).channel = (w.st.bay b).channel := by
  rw [entered, refreshWish_channel, Work.upd_st, State.channel_modCharge]
  have granted : (((moveCharge b st w).upd fun s => s.modCharge b (withGrant 0)).st.bay b).channel = (w.st.bay b).channel := by
    rw [Work.upd_st, State.channel_modCharge, moveCharge_channel]
  unfold setGrant
  split
  · exact granted
  · unfold requestLimit
    dsimp only
    rw [if_neg, granted]
    rw [granted]
    simp [shut]

/-- The steady part of a state after two changes of one bay that agree in the steady part of the bay. -/
theorem steady_modBay_congr {s : State} {f g : Bay → Bay} (same : (f (s.bay b)).steady = (g (s.bay b)).steady) :
    (s.modBay b f).steady = (s.modBay b g).steady := by
  have bays : (s.modBay b f).bays.map Bay.steady = (s.modBay b g).bays.map Bay.steady := by
    apply Vector.ext
    intro i hi
    simp only [Vector.getElem_map, State.modBay, State.setBay, Vector.getElem_set]
    split
    · exact same
    · rfl
  simp only [State.steady, bays]
  rfl

/-! ### The removal -/

/-- R134: a removal that is a loan. -/
def Lends (d : Door) (table : List CredentialEntry) (r : ReleaseRecord) (asset : Word32) : Prop :=
  (∃ e, d.episode = some e ∧ e.attr = .authorized ∧ e.asset = some asset) ∧ asset ≠ 0 ∧ d.release = some r ∧
    (r.reason = .checkout ∨ r.reason = .opening) ∧
    ¬ ∃ c, lookupCredential table r.credential = some c ∧ c.role = .technician

theorem takeRemoval_lends {r : ReleaseRecord} {asset : Word32}
    (lends : Lends (w.st.bay b).door w.st.csu.credentials r asset) : takeRemoval b w = recordLoan b asset r w := by
  obtain ⟨⟨e, episode, attr, its⟩, nonzero, release, reason, role⟩ := lends
  have shut : doorRemoval b w = w := by
    simp [doorRemoval, episode, attr]
  have known : ((lookupCredential w.st.csu.credentials r.credential).any fun e => e.role == .technician) = false := by
    rw [← Bool.not_eq_true, Option.any_eq_true]
    rintro ⟨c, found, technician⟩
    exact role ⟨c, found, by simpa using technician⟩
  simp only [takeRemoval, shut, episode, removalNotice, its, release, attr]
  have asked : (r.reason == .checkout || r.reason == .opening) = true := by
    rcases reason with reason | reason <;> rw [reason] <;> rfl
  rw [if_pos]
  simpa [known, asked] using nonzero

theorem takeRemoval_forced {e : Episode} (episode : (w.st.bay b).door.episode = some e) (forced : e.attr = .forced) :
    takeRemoval b w = placeEvent 5 (bayByte b) (e.asset.getD 0) 0 .ldc w := by
  simp only [takeRemoval, episode, doorRemoval, forced, beq_self_eq_true, if_true, removalNotice]
  split <;> rfl

theorem takeRemoval_stay (tame : ∀ e, (w.st.bay b).door.episode = some e → e.attr ≠ .forced)
    (other : ¬ ∃ r asset, Lends (w.st.bay b).door w.st.csu.credentials r asset) : takeRemoval b w = w := by
  cases episode : (w.st.bay b).door.episode with
  | none => simp [takeRemoval, doorRemoval, episode]
  | some e =>
    have shut : doorRemoval b w = w := by
      simp [doorRemoval, episode, tame e episode]
    simp only [takeRemoval, shut, episode, removalNotice]
    split
    · next asset r its release =>
      rw [if_neg]
      intro lends
      simp only [Bool.and_eq_true, Bool.or_eq_true, beq_iff_eq, bne_iff_ne, Bool.not_eq_true', ne_eq] at lends
      obtain ⟨⟨⟨attr, reason⟩, some⟩, role⟩ := lends
      refine other ⟨r, asset, ⟨e, episode, attr, its⟩, some, release, reason, fun ⟨c, found, technician⟩ => ?_⟩
      simp [found, technician] at role
    · rfl

/-- R112, R134: a removal places a frame, changes the loans, or does nothing. -/
theorem takeRemoval_cases : (∃ loans, takeRemoval b w = w.upd fun s => s.modCsu fun c => { c with loans := loans }) ∨
    ∃ f, takeRemoval b w = place f w := by
  by_cases lends : ∃ r asset, Lends (w.st.bay b).door w.st.csu.credentials r asset
  · obtain ⟨r, asset, lends⟩ := lends
    rw [takeRemoval_lends lends, recordLoan]
    split
    · exact .inl ⟨_, rfl⟩
    · exact .inr ⟨_, rfl⟩
  · by_cases tame : ∀ e, (w.st.bay b).door.episode = some e → e.attr ≠ .forced
    · exact .inl ⟨w.st.csu.loans, takeRemoval_stay tame lends⟩
    · push Not at tame
      obtain ⟨e, episode, forced⟩ := tame
      exact .inr ⟨_, takeRemoval_forced episode forced⟩

theorem takeRemoval_bays : (takeRemoval b w).st.bays = w.st.bays := by
  rcases takeRemoval_cases (b := b) (w := w) with ⟨loans, its⟩ | ⟨f, its⟩ <;> rw [its]
  · rfl
  · rw [place_eq]
    rfl

theorem takeRemoval_steady : (takeRemoval b w).st.steady = w.st.steady := by
  rcases takeRemoval_cases (b := b) (w := w) with ⟨loans, its⟩ | ⟨f, its⟩ <;> rw [its]
  · rfl
  · rw [place_steady]

theorem takeRemoval_still {idle : Prop} (still : Still idle w.st) : Still idle (takeRemoval b w).st := by
  rcases takeRemoval_cases (b := b) (w := w) with ⟨loans, its⟩ | ⟨f, its⟩ <;> rw [its]
  · exact still.of_same (fun _ => rfl) rfl
  · rw [place_eq]
    exact still.of_same (fun _ => rfl) rfl

theorem takeRemoval_told (told : n ∈ (takeRemoval b w).todo) : n ∈ w.todo ∨ ∃ f, n = .discarded f := by
  rcases takeRemoval_cases (b := b) (w := w) with ⟨loans, its⟩ | ⟨f, its⟩ <;> rw [its] at told
  · exact .inl told
  · rw [place_eq] at told
    rcases List.mem_append.1 told with earlier | now
    · exact .inl earlier
    · simp only [Option.mem_toList, Option.map_eq_some_iff] at now
      obtain ⟨g, -, rfl⟩ := now
      exact .inr ⟨g, rfl⟩

/-! ### The bay that becomes VACANT -/

/-- R57, R90: the work of a presence loss before its removal. -/
def vacate (b : BayIx) (w : Work) : Work :=
  if ((channelLost b w).st.bay b).charge.state == .outOfService then channelLost b w else enterVacant b (channelLost b w)

theorem losePresence_eq : losePresence b w = takeRemoval b (vacate b w) := rfl

theorem vacate_acts : Acts (charging b) (channelLost b w) (vacate b w) := by
  unfold vacate
  split <;> [exact .refl; exact enterVacant_acts subset_rfl]

theorem vacate_steady : (vacate b w).st.steady =
    (w.st.modBay b fun x => { x with channel := lostChannel x.channel, view := {} }).steady := by
  unfold vacate
  split
  · rw [channelLost_st]
  · rw [enterVacant_steady, channelLost_st]

theorem vacate_channel : ((vacate b w).st.bay b).channel = lostChannel (w.st.bay b).channel := by
  have lost : ((channelLost b w).st.bay b).channel = lostChannel (w.st.bay b).channel := by
    rw [channelLost_st, State.bay_modBay_same]
  unfold vacate
  split
  · exact lost
  · rw [enterVacant_eq, Work.raise_st, entered_channel_shut, lost]
    rw [lost]
    nofun

theorem vacate_retired (out : (w.st.bay b).charge.state = .outOfService) :
    ((vacate b w).st.bay b).charge = (w.st.bay b).charge := by
  have charge := channelLost_charge (b := b) (w := w)
  rw [vacate, if_pos (by rw [charge, out]; rfl), charge]

theorem vacate_vacant (serves : (w.st.bay b).charge.state ≠ .outOfService) :
    let c := ((vacate b w).st.bay b).charge
    c.state = .vacant ∧ c.voltage = 5 ∧ c.identTimer = none ∧ c.unmanagedTimer = none ∧ c.grant = 0 ∧ c.limit = 0 ∧
      c.wish = 0 ∧ c.overdraw = 0 ∧ c.shortHold = none := by
  have charge := channelLost_charge (b := b) (w := w)
  rw [vacate, if_neg (by rw [charge]; simpa using serves), enterVacant_eq, Work.raise_st]
  exact entered_vacant

theorem vacate_calmed : Calmed w.st (vacate b w).st := by
  have lost : Calmed w.st (channelLost b w).st := by
    rw [channelLost_st]
    exact .of_modBay (fun _ => rfl) fun _ => rfl
  exact vacate_acts.keeps (P := Calmed w.st) (fun _ may _ _ changed before => before.trans (changed.calmed (calm_of_charging may))) lost

theorem vacate_told (told : n ∈ (vacate b w).todo) : n ∈ w.todo ∨ n.drifts = true ∧ Calm True n := by
  rcases vacate_acts.told n told with earlier | may
  · rcases channelLost_told earlier with before | ⟨x, rfl⟩ | rfl
    · exact .inl before
    · refine .inr ⟨rfl, ?_⟩
      cases x
      · nofun
      all_goals trivial
    · exact .inr ⟨rfl, trivial⟩
  · exact .inr ⟨drifts_of_charging may, Calm.told (n := .serviceChanged b) trivial may⟩

end

/-- Settles O23: the channel is OFF and the bay at rest, which the notices leave; the removal is told before them. -/
theorem presenceLossVacates : Obligations.PresenceLossVacates := by
  intro b s populated present d lends
  have ran : exec (.presenceLoss b) s =
      .next (takeRemoval b (vacate b (startWork (s.modBay b fun x => { x with present := false })))).finish := by
    simp [exec, execPresenceLoss, populated, present, carryOut, losePresence_eq]
  have channel := vacate_channel (b := b) (w := startWork (s.modBay b fun x => { x with present := false }))
  have steady := vacate_steady (b := b) (w := startWork (s.modBay b fun x => { x with present := false }))
  have retired := vacate_retired (b := b) (w := startWork (s.modBay b fun x => { x with present := false }))
  have vacant := vacate_vacant (b := b) (w := startWork (s.modBay b fun x => { x with present := false }))
  have calmed := vacate_calmed (b := b) (w := startWork (s.modBay b fun x => { x with present := false }))
  have told : ∀ n ∈ (vacate b (startWork (s.modBay b fun x => { x with present := false }))).todo,
      n.drifts = true ∧ Calm True n := fun n among => (vacate_told among).resolve_left fun none => by cases none
  generalize vacate b (startWork (s.modBay b fun x => { x with present := false })) = v at *
  simp only [startWork, State.bay_modBay_same, State.modBay_modBay] at channel steady retired vacant
  replace calmed : Calmed s v.st := (Calmed.of_modBay (f := fun x => { x with present := false }) (fun _ => rfl) fun _ => rfl).trans calmed
  have cfl : v.st.cfl = s.cfl := (steady_cfl steady).trans rfl
  have drifts : Drifts b (takeRemoval b v).st (takeRemoval b v).finish := finish_drifts fun n among => by
    rcases takeRemoval_told among with earlier | ⟨f, rfl⟩
    · exact (told n earlier).1
    · rfl
  have bay : (takeRemoval b v).st.bay b = v.st.bay b := State.bay_congr (takeRemoval_bays (b := b) (w := v)) b
  have quietly : lanesQuiet s → (takeRemoval b v).todo = v.todo →
      (takeRemoval b v).finish.lkc = (takeRemoval b v).st.lkc := fun quiet same =>
    (finish_calmed (takeRemoval_still (calmed.still (.of_quiet quiet))) fun n among => (told n (same ▸ among)).2).lkc
  have loans : (takeRemoval b v).finish.csu.loans = (takeRemoval b v).st.csu.loans :=
    finish_loans fun n among c r cls reading => by
      subst reading
      rcases takeRemoval_told among with earlier | ⟨f, its⟩
      · cases (told _ earlier).1
      · cases its
  have door : (v.st.bay b).door = d := calmed.door b
  have stays : (∀ e : Episode, d.episode = some e → e.attr ≠ .forced) → (¬ ∃ r asset, lends r asset) → takeRemoval b v = v :=
    fun tame other => takeRemoval_stay (door ▸ tame) (by rw [door, calmed.csu]; exact other)
  have records : ∀ r asset, lends r asset → takeRemoval b v = recordLoan b asset r v := fun r asset lent =>
    takeRemoval_lends (by rw [door, calmed.csu]; exact lent)
  refine ⟨_, ran, ?_, ?_⟩
  · rw [finish_steady, takeRemoval_steady, steady]
    exact steady_modBay_congr rfl
  generalize (takeRemoval b v).finish = t at drifts quietly loans ⊢
  have shut : ((takeRemoval b v).st.bay b).channel.state ≠ .active := by
    rw [bay, channel]
    nofun
  have its := drifts.channel shut
  rw [bay, channel] at its
  have rests : (s.bay b).charge.state = .outOfService → (t.bay b).charge.state = .outOfService := fun out => by
    have state : ((takeRemoval b v).st.bay b).charge.state = .outOfService := by rw [bay, retired out, out]
    rw [drifts.state (by rw [state]; rfl), state]
  have empties : (s.bay b).charge.state ≠ .outOfService →
        (t.bay b).charge.state = .vacant ∧ (t.bay b).charge.voltage = 5 ∧ (t.bay b).charge.grant = 0 ∧
        (t.bay b).charge.limit = 0 ∧ (t.bay b).charge.wish = 0 ∧ (t.bay b).charge.identTimer = none ∧
        (t.bay b).charge.unmanagedTimer = none ∧ (t.bay b).charge.overdraw = 0 := fun serves => by
    obtain ⟨state, voltage, ident, unmanaged, grant, limit, wish, overdraw, -⟩ := vacant serves
    have rested := drifts.rested (by rw [bay, state]; rfl) (bay ▸ grant) (bay ▸ limit) (bay ▸ wish)
    rw [bay] at rested
    exact ⟨rested.state.trans state, rested.voltage.trans voltage, rested.grant, rested.limit, rested.wish,
      rested.identTimer.trans ident, rested.unmanagedTimer.trans unmanaged, rested.overdraw.elim (·.trans overdraw) id⟩
  refine ⟨?_, ?_, ?_, ?_, ?_, ?_, ?_, ?_, rests, empties, ?_, ?_, ?_, ?_⟩
  iterate 8 rcases its with its | its <;> rw [its] <;> rfl
  · intro e episode forced quiet room
    have placed := takeRemoval_forced (w := v) (b := b) (door ▸ episode) forced
    rw [placeEvent_of_room _ _ _ _ _ (by rw [calmed.lkc]; exact room)] at placed
    rw [quietly quiet (by rw [placed]; rfl), placed, Work.upd_st, State.modLkc_lkc, calmed.lkc]
    rfl
  · intro r asset lent others
    have recorded := records r asset lent
    have closed : closeLoan asset v.st.csu.loans = others := congrArg (closeLoan asset) (congrArg Csu.loans calmed.csu)
    refine ⟨fun room => ?_, fun full => ⟨?_, fun quiet space => ?_⟩, fun room quiet => ?_⟩
    · rw [recordLoan, closed, if_pos (show others.length < loanCapacity from room)] at recorded
      rw [loans, recorded]
      simp only [Work.upd_st, State.modCsu, loanOf, cfl]
      rfl
    · rw [recordLoan, closed, if_neg (show ¬ others.length < loanCapacity from Nat.not_lt.2 full)] at recorded
      rw [loans, recorded, place_eq]
      exact congrArg Csu.loans calmed.csu
    · rw [recordLoan, closed, if_neg (show ¬ others.length < loanCapacity from Nat.not_lt.2 full), place_of_room _ (by rw [calmed.lkc]; exact space)] at recorded
      rw [quietly quiet (by rw [recorded]; rfl), recorded, Work.upd_st, State.modLkc_lkc, calmed.lkc]
    · rw [recordLoan, closed, if_pos (show others.length < loanCapacity from room)] at recorded
      rw [quietly quiet (by rw [recorded]; rfl), recorded]
      exact calmed.lkc
  · intro tame other quiet
    have same := stays tame other
    rw [quietly quiet (by rw [same]), same, calmed.lkc]
  · intro other
    rw [loans]
    by_cases tame : ∀ e : Episode, d.episode = some e → e.attr ≠ .forced
    · rw [stays tame other, calmed.csu]
    · push Not at tame
      obtain ⟨e, episode, forced⟩ := tame
      rw [takeRemoval_forced (door ▸ episode) forced, placeEvent, place_eq]
      exact congrArg Csu.loans calmed.csu

end Sys2Proof.Machine
end

section
/-! The doors and the lane switches while notices are worked: which notices reach them. -/

namespace Sys2Proof.Machine

/-- The notices that ask for no release and take no reading. -/
def Notice.settles : Notice → Bool
  | .releaseAsked _ _ | .reading _ _ _ => false
  | _ => true

section
variable {s t : State} {w : Work} {b c : BayIx} {n m : Notice} {e : Effect}

/-! ### What notices tell -/

theorem settles_of_writing {r : DockRegister} (h : .tell m ∈ writing r c) : m.settles = true := by
  rcases h with h | ⟨x, -, h | ⟨o, h⟩⟩ <;> cases h
  rfl

theorem settles_of_refreshing (h : .tell m ∈ refreshing c) : m.settles = true := by
  rcases h with h | h | h | h <;> cases h <;> rfl

theorem settles_of_placing {k : FrameKind} (h : .tell m ∈ placing k) : m.settles = true := by
  rcases h with h | ⟨f, h⟩ <;> cases h
  rfl

theorem settles_of_charging (h : .tell m ∈ charging c) : m.settles = true := by
  rcases h with ((h | h) | h) | h
  · rcases h with h | h <;> cases h
    rfl
  · exact settles_of_refreshing h
  · rcases h with h | h | h | h <;> cases h
    rfl
  · exact settles_of_writing h

theorem settles_of_sessionEnding (h : .tell m ∈ sessionEnding c) : m.settles = true := by
  rcases h with ((h | h) | h) | h
  · rcases h with h | h | h <;> cases h
  · exact settles_of_refreshing h
  · exact settles_of_placing h
  · exact settles_of_writing h

theorem settles_of_releasing (h : .tell m ∈ releasing c) : m.settles = true := by
  rcases h with h | h | h | ⟨r, o, h⟩ <;> cases h <;> rfl

theorem settles_of_evaluating (h : .tell m ∈ evaluating) : m.settles = true := by
  rcases h with h | h | h <;> cases h <;> rfl

/-- No notice tells a request for a release or a reading. -/
theorem settles_of_effectsOf (h : .tell m ∈ effectsOf n) : m.settles = true := by
  cases n with
  | recompute => rcases h with h | h <;> cases h; rfl
  | split =>
    rcases h with h | ⟨b, (h | h) | h | h⟩
    · cases h
    · exact settles_of_refreshing h
    · exact settles_of_writing h
    all_goals cases h <;> rfl
  | wishInput b => exact settles_of_refreshing h
  | chargeChanged b | laneChannel b st | doorMoved b left =>
    rcases h with h | h
    · exact settles_of_sessionEnding h
    · cases h; rfl
  | channelChanged b st =>
    rcases h with (h | h) | h | h | h
    · exact settles_of_charging h
    · exact settles_of_sessionEnding h
    all_goals cases h <;> rfl
  | reading b r cls =>
    rcases h with (((h | h) | (h | h) | h) | h) | h | h
    · cases h
    · exact settles_of_charging h
    · exact settles_of_placing h
    · cases h
    · exact settles_of_writing h
    · exact settles_of_sessionEnding h
    all_goals cases h <;> rfl
  | writeEnded b x o =>
    cases x with
    | custody v => exact settles_of_placing h
    | provControl v =>
      rcases h with h | h | h | h | h
      · exact settles_of_sessionEnding h
      all_goals cases h; rfl
    | chargeLimit g => exact absurd h (Set.notMem_empty _)
  | discarded f => rcases h with h | ⟨b, h | h⟩ <;> cases h; rfl
  | episodeEnded b attr r p =>
    rcases h with h | h
    · exact settles_of_writing h
    · cases h; rfl
  | releaseAsked b r =>
    rcases h with (h | h) | h
    · exact settles_of_releasing h
    · exact settles_of_sessionEnding h
    · cases h; rfl
  | releaseAnswered b r o =>
    rcases h with (h | h) | h
    iterate 2 exact settles_of_placing h
    · exact settles_of_writing h
  | laneIdle b => exact settles_of_releasing h
  | reevaluate b | reevaluateAll => exact settles_of_evaluating h
  | select n =>
    rcases h with h | h | ⟨b, h | h | h⟩
    iterate 3 cases h
    · exact settles_of_refreshing h
    · exact settles_of_writing h
  | serviceChanged b => exact settles_of_charging h

/-! ### The doors -/

theorem ofDoor_of_writing {r : DockRegister} (h : e ∈ writing r c) : e.ofDoor = false := by
  rcases h with rfl | ⟨x, -, rfl | ⟨o, rfl⟩⟩ <;> rfl

theorem ofDoor_of_refreshing (h : e ∈ refreshing c) : e.ofDoor = false := by
  rcases h with rfl | rfl | rfl | rfl <;> rfl

theorem ofDoor_of_placing {k : FrameKind} (h : e ∈ placing k) : e.ofDoor = false := by
  rcases h with rfl | ⟨f, rfl⟩ <;> rfl

theorem ofDoor_of_charging (h : e ∈ charging c) : e.ofDoor = false := by
  rcases h with (((rfl | rfl) | h) | h) | h
  iterate 2 rfl
  · exact ofDoor_of_refreshing h
  · rcases h with rfl | rfl | rfl | rfl <;> rfl
  · exact ofDoor_of_writing h

theorem ofDoor_of_sessionEnding (h : e ∈ sessionEnding c) : e.ofDoor = false := by
  rcases h with (((rfl | rfl | rfl) | h) | h) | h
  iterate 3 rfl
  · exact ofDoor_of_refreshing h
  · exact ofDoor_of_placing h
  · exact ofDoor_of_writing h

/-- Only a release that is asked for and a lane that becomes IDLE reach a door. -/
theorem ofDoor_of_effectsOf (asked : ∀ c r, n ≠ .releaseAsked c r) (idle : ∀ c, n ≠ .laneIdle c) (h : e ∈ effectsOf n) :
    e.ofDoor = false := by
  cases n with
  | recompute => rcases h with rfl | rfl <;> rfl
  | split =>
    rcases h with rfl | ⟨b, (h | h) | rfl | rfl⟩
    · rfl
    · exact ofDoor_of_refreshing h
    · exact ofDoor_of_writing h
    iterate 2 rfl
  | wishInput b => exact ofDoor_of_refreshing h
  | chargeChanged b | laneChannel b st | doorMoved b left =>
    rcases h with h | rfl
    · exact ofDoor_of_sessionEnding h
    · rfl
  | channelChanged b st =>
    rcases h with (h | h) | rfl | rfl | rfl
    · exact ofDoor_of_charging h
    · exact ofDoor_of_sessionEnding h
    all_goals rfl
  | reading b r cls =>
    rcases h with (((rfl | h) | (h | rfl) | h) | h) | rfl | rfl
    · rfl
    · exact ofDoor_of_charging h
    · exact ofDoor_of_placing h
    · rfl
    · exact ofDoor_of_writing h
    · exact ofDoor_of_sessionEnding h
    all_goals rfl
  | writeEnded b x o =>
    cases x with
    | custody v => exact ofDoor_of_placing h
    | provControl v =>
      rcases h with h | rfl | rfl | rfl | rfl
      · exact ofDoor_of_sessionEnding h
      all_goals rfl
    | chargeLimit g => exact absurd h (Set.notMem_empty _)
  | discarded f => rcases h with rfl | ⟨b, rfl | rfl⟩ <;> rfl
  | episodeEnded b attr r p =>
    rcases h with h | rfl
    · exact ofDoor_of_writing h
    · rfl
  | releaseAsked b r => exact absurd rfl (asked b r)
  | releaseAnswered b r o =>
    rcases h with (h | h) | h
    iterate 2 exact ofDoor_of_placing h
    · exact ofDoor_of_writing h
  | laneIdle b => exact absurd rfl (idle b)
  | reevaluate b | reevaluateAll => rcases h with rfl | rfl | rfl <;> rfl
  | select n =>
    rcases h with rfl | rfl | ⟨b, rfl | h | h⟩
    iterate 3 rfl
    · exact ofDoor_of_refreshing h
    · exact ofDoor_of_writing h
  | serviceChanged b => exact ofDoor_of_charging h

/-- R103: the door of a bay whose release waits for no lane stays, where no release is asked for. -/
theorem handle_door (asked : ∀ c r, n ≠ .releaseAsked c r) (unpended : (w.st.bay b).door.pendingLane = false) :
    ((handle n w).st.bay b).door = (w.st.bay b).door := by
  by_cases idle : ∃ c, n = .laneIdle c
  · obtain ⟨c, rfl⟩ := idle
    simp only [handle, laneReportedIdle]
    split
    · rfl
    · split
      · next pending =>
        rw [startRelease_door, if_neg]
        rintro rfl
        rw [unpended] at pending
        cases pending
      · rfl
  · have idle : ∀ c, n ≠ .laneIdle c := fun c its => idle ⟨c, its⟩
    exact (handle_acts n w).keeps (P := fun s => (s.bay b).door = (w.st.bay b).door)
      (fun e may _ _ changed before => (changed.door_same (ofDoor_of_effectsOf asked idle may) b).trans before) rfl

theorem settle_door (left : Nat) (start : ∀ n ∈ w.todo, n.settles = true)
    (unpended : (w.st.bay b).door.pendingLane = false) : ((settle left w).st.bay b).door = (w.st.bay b).door := by
  refine settle_keeps (P := fun s => (s.bay b).door = (w.st.bay b).door) (Q := fun n => n.settles = true)
    (fun n s settles before => ⟨?_, fun m told => ?_⟩) left w rfl start
  · refine (handle_door (w := startWork s) (fun c r its => ?_) (before ▸ unpended)).trans before
    rw [its] at settles
    cases settles
  · rcases (handle_acts n (startWork s)).told m told with earlier | now
    · cases earlier
    · exact settles_of_effectsOf now

theorem finish_door (start : ∀ n ∈ w.todo, n.settles = true) (unpended : (w.st.bay b).door.pendingLane = false) :
    (w.finish.bay b).door = (w.st.bay b).door := settle_door _ start unpended

/-! ### The lane switches -/

/-- R140: only the entry to CONNECTED closes a switch. -/
theorem Change.switchOpen (changed : Change e s t) (inner : e.inner = true) (other : ∀ c, e ≠ .switch c)
    (opened : (s.bay b).prov.switch = none) : (t.bay b).prov.switch = none := by
  have kept : ∀ (c : BayIx) (g : Bay → Bay), (∀ x, (g x).prov = x.prov) → ((s.modBay c g).bay b).prov.switch = none :=
    fun c g same => (congrArg Prov.switch (s.read_modBay c b (·.prov) same)).trans opened
  cases changed
  case recompute => rwa [recomputed_eq]
  case reads c rs =>
    unfold requestReads
    split
    iterate 2 exact kept _ _ fun _ => rfl
    all_goals exact opened
  case release c r ready =>
    simp only [startRelease, Work.raise_st, Work.upd_st, startWork, State.prov_modCounters, openSwitch_prov,
      State.prov_modDoor]
    split <;> [rfl; exact opened]
  case prov c p opens =>
    rw [State.prov_modProv]
    split
    · next here => exact opens.elim (fun same => same.trans (here ▸ opened)) id
    · exact opened
  case switch c p => exact absurd rfl (other c)
  case wish | tune | enter | write | answered | profileNow | channelUp | pend | claim | count | session =>
    exact kept _ _ fun _ => rfl
  all_goals first | exact absurd inner Bool.false_ne_true | exact opened

theorem finish_switch (start : ∀ n ∈ w.todo, n.settles = true) (opened : (w.st.bay b).prov.switch = none) :
    (w.finish.bay b).prov.switch = none := by
  refine finish_keeps_of_class (P := fun s => (s.bay b).prov.switch = none) (fun n => n.settles = true)
    (fun _ _ _ => settles_of_effectsOf) (fun n e settles may s t changed before => ?_) start opened
  refine changed.switchOpen (inner_of_effectsOf may) (fun c its => ?_) before
  have unread := unread_of_effectsOf (fun c r cls reading => by rw [reading] at settles; cases settles) may
  rw [its] at unread
  cases unread

end

end Sys2Proof.Machine
end

section
/-! Doors that open (R102 to R110). -/

namespace Sys2Proof.Machine

section
variable {r s t : State} {w : Work} {b c : BayIx} {n : Notice}

/-! ### What an operation at a door leaves -/

/-- An operation of the LDC at one bay: it reaches door, switch and counters of the bay, and the transmit queue. -/
structure DoorMove (b : BayIx) (s t : State) : Prop where
  rest : t = { s.setBay b (t.bay b) with lkc := t.lkc }
  lkc : t.lkc.steady = s.lkc.steady
  view : (t.bay b).view = (s.bay b).view
  present : (t.bay b).present = (s.bay b).present
  attrs : (t.bay b).attrs = (s.bay b).attrs
  channel : (t.bay b).channel = (s.bay b).channel

theorem DoorMove.refl (b : BayIx) (s : State) : DoorMove b s s where
  rest := by
    have same : s.modBay b id = s := State.modBay_stay rfl
    exact same.symm
  lkc := rfl
  view := rfl
  present := rfl
  attrs := rfl
  channel := rfl

theorem DoorMove.trans (h : DoorMove b r s) (h' : DoorMove b s t) : DoorMove b r t where
  rest := by
    have later := h'.rest
    rw [h.rest] at later
    refine later.trans ?_
    simp only [State.setBay, Vector.set_set]
  lkc := h'.lkc.trans h.lkc
  view := h'.view.trans h.view
  present := h'.present.trans h.present
  attrs := h'.attrs.trans h.attrs
  channel := h'.channel.trans h.channel

theorem DoorMove.of_modBay (g : Bay → Bay) (view : ∀ x, (g x).view = x.view) (present : ∀ x, (g x).present = x.present)
    (attrs : ∀ x, (g x).attrs = x.attrs) (channel : ∀ x, (g x).channel = x.channel) : DoorMove b s (s.modBay b g) := by
  have its : (s.modBay b g).bay b = g (s.bay b) := State.bay_modBay_same ..
  refine ⟨?_, rfl, ?_, ?_, ?_, ?_⟩
  · rw [its]
    rfl
  all_goals rw [its]
  exacts [view _, present _, attrs _, channel _]

theorem DoorMove.of_place (f : TxFrame) : DoorMove b w.st (place f w).st := by
  have steady := place_steady f w
  have bays := place_bay b f w
  refine ⟨?_, steady_reads (fun s : State => s.lkc.steady) (fun _ => rfl) steady, ?_, ?_, ?_, ?_⟩
  · rw [bays, place_eq]
    exact congrArg (fun u : State => { u with lkc := w.st.lkc.placed f }) (DoorMove.refl b w.st).rest
  all_goals rw [bays]

theorem DoorMove.of_modDoor (f : Door → Door) : DoorMove b s (s.modDoor b f) :=
  .of_modBay _ (fun _ => rfl) (fun _ => rfl) (fun _ => rfl) fun _ => rfl

theorem DoorMove.of_openSwitch : DoorMove b s (openSwitch b s) :=
  .of_modBay (fun x => { x with prov := { x.prov with switch := none } }) (fun _ => rfl) (fun _ => rfl) (fun _ => rfl) fun _ => rfl

theorem DoorMove.of_modCounters (f : BayCounters → BayCounters) : DoorMove b s (s.modCounters b f) :=
  .of_modBay _ (fun _ => rfl) (fun _ => rfl) (fun _ => rfl) fun _ => rfl

theorem DoorMove.still {idle : Prop} (h : DoorMove b s t) (still : Still idle s) : Still idle t := by
  rw [h.rest]
  exact still.of_same (fun _ => rfl) rfl

theorem DoorMove.now (h : DoorMove b s t) : t.now = s.now := (congrArg State.now h.rest).trans rfl

theorem steady_with_bays {bays : Vector Bay 8} (same : s.steady = t.steady) :
    { s with bays := bays }.steady = { t with bays := bays }.steady := by
  refine steady_reads (fun u : State => { u with bays := bays }.steady) (fun u => ?_) same
  have slots : (u.csu.slots.map (Option.map PresentationSlot.steady)).map (Option.map PresentationSlot.steady) =
      u.csu.slots.map (Option.map PresentationSlot.steady) := by
    rw [Vector.map_map]
    refine Vector.map_congr_left fun x _ => ?_
    cases x <;> rfl
  simp only [State.steady, slots]
  rfl

/-- Nothing but the bay has changed, outside of what notices change. -/
theorem DoorMove.steadyBut (h : DoorMove b s t) : SteadyBut b s t := by
  constructor
  · have bays : { t with bays := s.bays } = { s with lkc := t.lkc } := by
      rw [h.rest]
      rfl
    exact (congrArg State.steady bays).trans (by simp only [State.steady, h.lkc])
  · intro c apart
    rw [h.rest]
    exact congrArg Bay.steady (State.bay_modBay_other (s := s) (c := c) (b := b) apart fun _ => t.bay b)

/-- What the notices keep, they keep of the other bays too. -/
theorem SteadyBut.finish (h : SteadyBut b s w.st) : SteadyBut b s w.finish :=
  ⟨(steady_with_bays (finish_steady w)).trans h.1, fun c apart => (steady_bay (finish_steady w) c).trans (h.2 c apart)⟩

/-! ### The operations at a door -/

theorem placeEvent_move (code : Nat) (bay : Byte) (word : Word32) (value : Nat) (k : Block) :
    DoorMove b w.st (placeEvent code bay word value k w).st := .of_place _

theorem DoorMove.modDoor (h : DoorMove b s w.st) (f : State → Door → Door) :
    DoorMove b s (w.upd fun s => s.modDoor b (f s)).st := h.trans (.of_modDoor _)

theorem endEpisode_move : DoorMove b w.st (endEpisode b w).st := by
  unfold endEpisode
  dsimp only
  split
  · exact .refl b _
  · exact (DoorMove.refl b w.st).modDoor fun _ d => { d with episode := none, release := none, closeHold := none }

theorem settleEpisode_move : DoorMove b w.st (settleEpisode b w).st := by
  unfold settleEpisode
  split <;> [exact endEpisode_move; exact .refl b _]

theorem cancelPending_move : DoorMove b w.st (cancelPending b w).st := by
  have cleared := (DoorMove.refl b w.st).modDoor fun _ d => { d with pendingLane := false, release := none }
  unfold cancelPending
  dsimp only
  split
  · split <;> exact cleared
  · exact .refl b _

theorem enterOpen_move (attr : OpenAttr) : DoorMove b w.st (enterOpen b attr w).st :=
  ((DoorMove.refl b w.st).modDoor fun s d => { d with
    state := .opened attr, latch := .off, pullIn := none, window := none, boltWait := none,
    closeHold := none, episode := some (newEpisode s b attr) }).trans .of_openSwitch

theorem openForced_move : DoorMove b w.st (openForced b w).st := by
  unfold openForced
  extract_lets w₁ w₂ w₃ w₄
  have ended : DoorMove b w.st w₁.st := endEpisode_move.trans cancelPending_move
  have opened : DoorMove b w₁.st w₂.st := enterOpen_move _
  have counted : DoorMove b w₂.st w₃.st := .of_modCounters fun k => { k with forcedOpens := k.forcedOpens + 1 }
  have placed : DoorMove b w₃.st w₄.st := placeEvent_move ..
  exact ((ended.trans opened).trans counted).trans placed

theorem openAuthorized_move : DoorMove b w.st (openAuthorized b w).st :=
  (enterOpen_move .authorized).modDoor fun s d => { d with coolDown := some (s.now + coolDownTime) }

theorem openUnsecured_move : DoorMove b w.st (openUnsecured b w).st :=
  endEpisode_move.trans (enterOpen_move .unsecured)

theorem openAgain_move : DoorMove b w.st (openAgain b w).st :=
  (DoorMove.refl b w.st).modDoor fun _ d => { d with
    state := .opened (((w.st.bay b).door.episode.map (·.attr)).getD .unsecured), boltWait := none, closeHold := none }

theorem doorOpened_move : DoorMove b w.st (doorOpened b w).st := by
  have flagged := (DoorMove.refl b w.st).modDoor fun _ d => { d with closed := false }
  unfold doorOpened
  extract_lets state w₁
  refine DoorMove.trans (s := w₁.st) flagged ?_
  clear_value state
  cases state with
  | secure => exact openForced_move
  | releasing => exact openAuthorized_move
  | unsecured => exact openUnsecured_move
  | closing => exact openAgain_move
  | opened a => exact .refl b _

theorem enterSecure_move : DoorMove b w.st (enterSecure b w).st := by
  unfold enterSecure
  refine DoorMove.trans ?_ settleEpisode_move
  exact (DoorMove.refl b w.st).modDoor fun _ d => { d with state := .secure, latch := .off, boltWait := none }

theorem enterUnsecured_move (cause : Nat) : DoorMove b w.st (enterUnsecured b cause w).st := by
  unfold enterUnsecured
  extract_lets leaves w₁ w₂ w₃
  have cancelled : DoorMove b w.st w₁.st := cancelPending_move
  have moved : DoorMove b w₁.st w₂.st :=
    ((DoorMove.refl b w₁.st).modDoor fun _ d => { d with state := .unsecured, latch := .off, boltWait := none }).trans
      .of_openSwitch
  have placed : DoorMove b w₂.st w₃.st := placeEvent_move ..
  exact ((cancelled.trans moved).trans placed).trans (settleEpisode_move (w := w₃.raise _))

/-! ### The notices of a door and its frame -/

/-- R102: the notice of the end of an episode. -/
def episodeNotice (b : BayIx) (x : Bay) : List Notice :=
  (x.door.episode.map fun e => Notice.episodeEnded b e.attr x.door.release x.present).toList

/-- R103: the notice of a cancelled release. -/
def cancelNotice (b : BayIx) (d : Door) : List Notice :=
  if d.pendingLane then (d.release.map fun r => Notice.releaseAnswered b r .cancelled).toList else []

theorem endEpisode_todo : (endEpisode b w).todo = w.todo ++ episodeNotice b (w.st.bay b) := by
  unfold endEpisode episodeNotice
  dsimp only
  split <;> next its => simp [its]

theorem settleEpisode_todo : (settleEpisode b w).todo =
    w.todo ++ if (w.st.bay b).door.closeHold = none then episodeNotice b (w.st.bay b) else [] := by
  unfold settleEpisode
  split <;> next its => simp_all [endEpisode_todo]

theorem cancelPending_todo : (cancelPending b w).todo = w.todo ++ cancelNotice b (w.st.bay b).door := by
  unfold cancelPending cancelNotice
  dsimp only
  split
  · split <;> next its => simp [its]
  · simp

theorem endEpisode_lkc : (endEpisode b w).st.lkc = w.st.lkc := by
  unfold endEpisode
  dsimp only
  split <;> rfl

theorem settleEpisode_lkc : (settleEpisode b w).st.lkc = w.st.lkc := by
  unfold settleEpisode
  split <;> [exact endEpisode_lkc; rfl]

theorem cancelPending_lkc : (cancelPending b w).st.lkc = w.st.lkc := by
  unfold cancelPending
  dsimp only
  split
  · split <;> rfl
  · rfl

theorem mem_episodeNotice {x : Bay} (told : n ∈ episodeNotice b x) : ∃ e, n = .episodeEnded b e x.door.release x.present := by
  simp only [episodeNotice, Option.mem_toList, Option.map_eq_some_iff] at told
  obtain ⟨e, -, rfl⟩ := told
  exact ⟨_, rfl⟩

/-- R107: EVENT FORCED_OPEN of a bay with an asset. -/
def forcedEvent (b : BayIx) (asset : Option Word32) : TxFrame := eventFrame 1 (bayByte b) (asset.getD 0) 0 .ldc

/-- The asset that the view of a bay holds. -/
def Bay.asset (x : Bay) : Option Word32 := x.view.identity.map fun i => i.asset

theorem enterOpen_lkc (attr : OpenAttr) : (enterOpen b attr w).st.lkc = w.st.lkc := rfl

theorem openForced_eq : ∃ u : Work, DoorMove b w.st u.st ∧ u.st.lkc = w.st.lkc ∧
    u.todo = w.todo ++ episodeNotice b (w.st.bay b) ++ cancelNotice b (w.st.bay b).door.episodeOver ∧
    openForced b w = (place (forcedEvent b (w.st.bay b).asset) u).raise (.doorMoved b true) := by
  unfold openForced
  extract_lets w₁ w₂ w₃ w₄
  have ended : DoorMove b w.st w₁.st := endEpisode_move.trans cancelPending_move
  have opened : DoorMove b w₁.st w₂.st := enterOpen_move _
  have counted : DoorMove b w₂.st w₃.st := .of_modCounters fun k => { k with forcedOpens := k.forcedOpens + 1 }
  have moved := (ended.trans opened).trans counted
  have told : w₁.todo = w.todo ++ episodeNotice b (w.st.bay b) ++ cancelNotice b (w.st.bay b).door.episodeOver := by
    have door : ((endEpisode b w).st.bay b).door = (w.st.bay b).door.episodeOver := by
      rw [endEpisode_door, if_pos rfl]
    change (cancelPending b (endEpisode b w)).todo = _
    rw [cancelPending_todo, endEpisode_todo, door]
  have lkc : w₃.st.lkc = w₁.st.lkc :=
    (State.modCounters_lkc ..).trans (enterOpen_lkc (w := w₁) .forced)
  have lkc' : w₁.st.lkc = w.st.lkc := by
    change (cancelPending b (endEpisode b w)).st.lkc = _
    rw [cancelPending_lkc, endEpisode_lkc]
  have told' : w₃.todo = w₁.todo := by simp only [w₃, w₂, enterOpen, Work.upd_todo]
  refine ⟨w₃, moved, lkc.trans lkc', told'.trans told, ?_⟩
  have asset : (newEpisode w₃.st b .forced).asset = (w.st.bay b).asset := by
    simp only [newEpisode, moved.view, Bay.asset]
  have event : w₄ = placeEvent 1 (bayByte b) ((newEpisode w₃.st b .forced).asset.getD 0) 0 .ldc w₃ := rfl
  rw [event, asset]
  rfl

theorem settles_of_ofDoor (h : n.ofDoor = true) : n.settles = true := by
  cases n <;> first | rfl | cases h

end

/-! ### What a door keeps -/

section
variable {d : Door}

@[simp] theorem Door.episodeOver_bolt : d.episodeOver.bolt = d.bolt := by rw [Door.episodeOver_eq]
@[simp] theorem Door.episodeOver_coolDown : d.episodeOver.coolDown = d.coolDown := by rw [Door.episodeOver_eq]
@[simp] theorem Door.episodeOver_boltWait : d.episodeOver.boltWait = d.boltWait := by rw [Door.episodeOver_eq]
@[simp] theorem Door.unpended_bolt : d.unpended.bolt = d.bolt := by unfold Door.unpended; split <;> rfl
@[simp] theorem Door.unpended_coolDown : d.unpended.coolDown = d.coolDown := by unfold Door.unpended; split <;> rfl
@[simp] theorem Door.unpended_boltWait : d.unpended.boltWait = d.boltWait := by unfold Door.unpended; split <;> rfl
@[simp] theorem Door.unpended_closeHold : d.unpended.closeHold = d.closeHold := by unfold Door.unpended; split <;> rfl
@[simp] theorem Door.unpended_episode : d.unpended.episode = d.episode := by unfold Door.unpended; split <;> rfl

/-- A door that opens is open, its bolt as it was, and no wait runs. -/
theorem Door.opens_open (law : BayDoorLaw d) (shut : d.closed = true) (episode : OpenAttr → Episode) (coolDown : Nat) :
    (d.opens episode coolDown).closed = false ∧ (d.opens episode coolDown).bolt = d.bolt ∧
      (d.opens episode coolDown).closeHold = none ∧ (d.opens episode coolDown).boltWait = none := by
  cases state : d.state with
  | opened a =>
    rw [law.openFlag.1 ⟨a, state⟩] at shut
    cases shut
  | secure | releasing | unsecured | closing => simp [Door.opens, state, Door.openedAs]

/-- A door in OPEN has its latch off, and no release waits there. -/
theorem BayDoorLaw.opened_rests (law : BayDoorLaw d) (wide : d.closed = false) : d.latch = .off ∧ d.pendingLane = false := by
  obtain ⟨a, state⟩ := law.openFlag.2 wide
  refine ⟨?_, law.released_none (by simp [state])⟩
  by_contra on
  have releasing := law.latch on
  simp [state] at releasing

end

section
variable {w : Work} {b : BayIx}

@[simp] theorem State.counters_modDoor (s : State) (b c : BayIx) (f : Door → Door) :
    ((s.modDoor b f).bay c).counters = (s.bay c).counters := s.read_modBay b c (·.counters) fun _ => rfl

@[simp] theorem State.counters_modProv (s : State) (b c : BayIx) (f : Prov → Prov) :
    ((s.modProv b f).bay c).counters = (s.bay c).counters := s.read_modBay b c (·.counters) fun _ => rfl

@[simp] theorem State.counters_modCounters (s : State) (b : BayIx) (f : BayCounters → BayCounters) :
    ((s.modCounters b f).bay b).counters = f (s.bay b).counters := by
  rw [State.modCounters, State.bay_modBay_same]

@[simp] theorem endEpisode_counters : ((endEpisode b w).st.bay b).counters = (w.st.bay b).counters := by
  unfold endEpisode
  dsimp only
  split <;> simp

@[simp] theorem cancelPending_counters : ((cancelPending b w).st.bay b).counters = (w.st.bay b).counters := by
  unfold cancelPending
  dsimp only
  split
  · split <;> simp
  · rfl

@[simp] theorem enterOpen_counters (attr : OpenAttr) :
    ((enterOpen b attr w).st.bay b).counters = (w.st.bay b).counters := by
  simp [enterOpen, openSwitch]

/-- R107: a FORCED opening is counted, and no other. -/
theorem doorOpened_forcedOpens : ((doorOpened b w).st.bay b).counters.forcedOpens =
    if (w.st.bay b).door.state = .secure then (w.st.bay b).counters.forcedOpens + 1 else (w.st.bay b).counters.forcedOpens := by
  simp only [doorOpened]
  split <;> next state => simp [state, openForced, openAuthorized, openUnsecured, openAgain]

/-- R107: a FORCED opening opens the lane switch. -/
theorem doorOpened_secure_switch (secure : (w.st.bay b).door.state = .secure) :
    ((doorOpened b w).st.bay b).prov.switch = none := by
  simp [doorOpened, secure, openForced]

theorem doorOpened_settles {s : State} : ∀ n ∈ (doorOpened b (startWork s)).todo, n.settles = true := fun n told =>
  ((doorOpened_acts (b := b)).told n told).elim (fun none => by cases none) settles_of_ofDoor

/-- R100: the door flag of a bay is open. -/
def wide (b : BayIx) (s : State) : State := s.modDoor b fun d => { d with closed := false }

theorem wide_bay (s : State) : (wide b s).bay b = { s.bay b with door := { (s.bay b).door with closed := false } } :=
  State.bay_modBay_same ..

theorem episodeNotice_wide (s : State) : episodeNotice b ((wide b s).bay b) = episodeNotice b (s.bay b) := by
  rw [wide_bay]
  rfl

/-- R107: what a FORCED opening places and tells. -/
theorem doorOpened_secure {s : State} (secure : (s.bay b).door.state = .secure) :
    ∃ u : Work, DoorMove b s u.st ∧ u.st.lkc = s.lkc ∧
      u.todo = episodeNotice b (s.bay b) ++ cancelNotice b (s.bay b).door.episodeOver ∧
      doorOpened b (startWork s) = (place (forcedEvent b (s.bay b).asset) u).raise (.doorMoved b true) := by
  obtain ⟨u, moved, lkc, told, its⟩ := openForced_eq (b := b) (w := startWork (wide b s))
  have cancels : cancelNotice b ((wide b s).bay b).door.episodeOver = cancelNotice b (s.bay b).door.episodeOver := by
    rw [wide_bay]
    unfold Door.episodeOver cancelNotice
    cases (s.bay b).door.episode <;> rfl
  have asset : ((wide b s).bay b).asset = (s.bay b).asset := by
    rw [wide_bay]
    rfl
  have flagged : DoorMove b s (wide b s) := .of_modDoor _
  refine ⟨u, flagged.trans moved, lkc, ?_, ?_⟩
  · rw [told, startWork, List.nil_append, episodeNotice_wide, cancels]
  · rw [← asset]
    refine Eq.trans ?_ its
    unfold doorOpened
    simp only [startWork, secure]
    rfl

/-- R108, R109: every other opening places no frame. -/
theorem doorOpened_other {s : State} (other : (s.bay b).door.state ≠ .secure) :
    (doorOpened b (startWork s)).st.lkc = s.lkc ∧
      ∀ n ∈ (doorOpened b (startWork s)).todo, (∃ e r p, n = .episodeEnded b e r p) ∨ n = .doorMoved b false := by
  unfold doorOpened
  cases state : (s.bay b).door.state with
  | secure => exact absurd state other
  | releasing | closing =>
    simp only [startWork, state]
    exact ⟨rfl, fun n told => .inr (List.mem_singleton.1 told)⟩
  | unsecured =>
    simp only [startWork, state]
    refine ⟨endEpisode_lkc (w := startWork (wide b s)), fun n told => ?_⟩
    rcases List.mem_append.1 told with ended | moved
    · have ended : n ∈ (endEpisode b (startWork (wide b s))).todo := ended
      rw [endEpisode_todo, startWork, List.nil_append, episodeNotice_wide] at ended
      obtain ⟨e, rfl⟩ := mem_episodeNotice ended
      exact .inl ⟨e, _, _, rfl⟩
    · exact .inr (List.mem_singleton.1 moved)
  | opened a =>
    simp only [startWork, state]
    exact ⟨rfl, fun n none => by cases none⟩

end

section
variable {w : Work} {b : BayIx} {s : State}

/-- The frames of a door at a station that ends its sessions: the event, and the DENY of a cancelled release. -/
theorem finish_cancelled {r : ReleaseRecord} {ns : List Notice} (still : Still False w.st)
    (told : w.todo = .releaseAnswered b r .cancelled :: ns) (calm : ∀ n ∈ ns, Calm False n)
    (room : w.st.lkc.queue.length < 8) :
    w.finish.lkc = { w.st.lkc with
      queue := insertFrame { denyFrame r.reader r.sequence .bayBusy r.credential with deadline := some (w.st.now + 250) }
        w.st.lkc.queue } := by
  have answered : handle (.releaseAnswered b r .cancelled) (startWork w.st) = ruleDeny r.credential r.reader r.sequence (startWork w.st) := rfl
  rw [finish_of_first told, answered, ruleDeny, place_of_room (w := startWork w.st) _ room]
  refine (settle_calmed (idle := False) _ ?_ ?_).lkc
  · exact still.of_same (fun _ => rfl) rfl
  · exact calm

theorem calm_of_door {n : Notice} (told : (∃ e r p, n = .episodeEnded b e r p) ∨ ∃ left, n = .doorMoved b left) : Calm False n := by
  rcases told with ⟨e, r, p, rfl⟩ | ⟨left, rfl⟩ <;> trivial

end

/-- Settles O33. -/
theorem doorOpens : Obligations.DoorOpens := by
  intro b s law populated shut asset begun
  have ran : exec (.doorOpens b) s = .next (doorOpened b (startWork s)).finish := by
    simp [exec, execDoorOpens, populated, shut, carryOut]
  have moved := doorOpened_move (b := b) (w := startWork s)
  have door := doorOpened_door b b (startWork s)
  rw [if_pos rfl] at door
  have opened := Door.opens_open (law b) shut (newEpisode s b) (s.now + coolDownTime)
  have rests := ((law b).opens shut (newEpisode s b) (s.now + coolDownTime)).opened_rests opened.1
  have final := (finish_door doorOpened_settles (congrArg Door.pendingLane door |>.trans rests.2)).trans door
  have steady := finish_steady (doorOpened b (startWork s))
  have opens := (bay_reads (fun x : Bay => x.counters.forcedOpens) (fun _ => rfl) (steady_bay steady b)).trans doorOpened_forcedOpens
  refine ⟨_, ran, moved.steadyBut.finish, ?_⟩
  rw [final, opens]
  refine ⟨opened.1, opened.2.1, rests.1, opened.2.2.1, opened.2.2.2, rests.2, (steady_view steady b).trans moved.view,
    (steady_present steady b).trans moved.present, (steady_attrs steady b).trans moved.attrs, ?_⟩
  refine ⟨fun secure => ?_, fun other ending => ?_, fun releasing => ?_, fun unsecured => ?_, fun e closing episode => ?_⟩
  · obtain ⟨u, moves, lkc, told, its⟩ := doorOpened_secure secure
    have event : forcedEvent b (s.bay b).asset =
        newFrame .event 17 toAll ([BitVec.ofNat 8 b.val] ++ bytes32 (asset.getD 0) ++ [0, 0, 1]) .ldc := rfl
    have placed (room : s.lkc.queue.length < 8) : doorOpened b (startWork s) =
        (u.upd fun v => v.modLkc fun l => { l with queue := insertFrame (forcedEvent b (s.bay b).asset) l.queue }).raise
          (.doorMoved b true) := by
      exact its.trans (congrArg (Work.raise _) (place_of_room _ (by rw [lkc]; exact room)))
    have still (ending : lanesEnding s) : Still False (doorOpened b (startWork s)).st := moved.still (.of_ending ending)
    refine ⟨?_, ?_, ?_, finish_switch doorOpened_settles (doorOpened_secure_switch secure), ⟨fun ending free room => ?_,
      fun r waits release => ⟨?_, fun ending room => ?_⟩⟩, ?_⟩
    · simp [Door.opens, secure, Door.openedAs, startWork]
    · simp [Door.opens, secure, Door.openedAs, startWork, newEpisode, begun, asset]
    · simp [startWork, secure]
    · have calm : ∀ n ∈ (doorOpened b (startWork s)).todo, Calm False n := fun n among => by
        rw [placed room, Work.raise_todo, Work.upd_todo, told, cancelNotice, Door.episodeOver_pendingLane, free] at among
        simp only [Bool.false_eq_true, if_false, List.append_nil, List.mem_append, List.mem_singleton] at among
        exact calm_of_door (among.imp (fun ended => (mem_episodeNotice ended).elim fun e is => ⟨e, _, _, is⟩) fun is => ⟨true, is⟩)
      rw [(finish_calmed (still ending) calm).lkc, placed room, Work.raise_st, Work.upd_st, State.modLkc_lkc, lkc, event]
    · simp [Door.opens, secure, Door.openedAs, Door.unpended, waits, startWork]
    · have space : s.lkc.queue.length < 8 := room.trans (by decide)
      have closed : (s.bay b).door.episode = none := ((law b).pendingLane waits).2.2
      have head : (doorOpened b (startWork s)).todo = [.releaseAnswered b r .cancelled, .doorMoved b true] := by
        rw [placed space, Work.raise_todo, Work.upd_todo, told, Door.episodeOver_of_none closed]
        simp [episodeNotice, closed, cancelNotice, waits, release]
      have first : (doorOpened b (startWork s)).st.lkc = { s.lkc with queue := insertFrame (forcedEvent b (s.bay b).asset) s.lkc.queue } := by
        rw [placed space, Work.raise_st, Work.upd_st, State.modLkc_lkc, lkc]
      have answered := finish_cancelled (still ending) head (fun n among => by rw [List.mem_singleton.1 among]; trivial)
        (by rw [first, length_insertFrame]; exact Nat.succ_lt_succ room)
      have now : (doorOpened b (startWork s)).st.now = s.now := moved.now
      rw [answered, first, now, ← event]
      rfl
    · simp [Door.opens, secure, Door.openedAs, startWork]
  · obtain ⟨lkc, told⟩ := doorOpened_other other
    have still := moved.still (Still.of_ending ending)
    rw [(finish_calmed still fun n among => calm_of_door ((told n among).imp_right fun its => ⟨false, its⟩)).lkc, lkc]
  · simp [Door.opens, releasing, Door.openedAs, newEpisode, startWork, begun, asset, coolDownTime]
  · simp [Door.opens, unsecured, Door.openedAs, newEpisode, startWork, begun, asset]
  · simp [Door.opens, closing, episode, startWork]

end Sys2Proof.Machine
end

section
/-! Doors that close, and bolts that move (R109, R110). -/

namespace Sys2Proof.Machine

/-! ### What the end of an episode leaves of a door -/

section
variable {d : Door}

@[simp] theorem Door.settled_bolt : d.settled.bolt = d.bolt := by rcases d.settled_eq_or with its | its <;> simp [its]
@[simp] theorem Door.settled_boltWait : d.settled.boltWait = d.boltWait := by
  rcases d.settled_eq_or with its | its <;> simp [its]
@[simp] theorem Door.settled_coolDown : d.settled.coolDown = d.coolDown := by
  rcases d.settled_eq_or with its | its <;> simp [its]

@[simp] theorem Door.episodeOver_episode : d.episodeOver.episode = none := by rw [Door.episodeOver_eq]

theorem Door.settled_episode : d.settled.episode = if d.closeHold = none then none else d.episode := by
  unfold Door.settled
  cases hold : d.closeHold <;> simp

theorem Door.settled_held {n : Nat} (hold : d.closeHold = some n) : d.settled = d := by simp [Door.settled, hold]

/-- R109, R110: a door that becomes UNSECURED has no release that waits. -/
theorem Door.unsecured_cancels (waits : d.pendingLane = true) : d.unsecured.release = none := by
  refine Door.settled_release (d := { d.unpended with state := .unsecured, latch := .off, boltWait := none }) ?_
  simp [Door.unpended, waits]

end

section
variable {w : Work} {b : BayIx} {s : State} {cause : Nat}

/-! ### The moves -/

/-- R109: the state of a closing door. -/
theorem doorClosed_eq {a : OpenAttr} (state : (w.st.bay b).door.state = .opened a) :
    ∃ u : Work, DoorMove b w.st u.st ∧ u.st.lkc = w.st.lkc ∧ u.todo = w.todo ++ [.doorMoved b false] ∧
      doorClosed b w = if (w.st.bay b).door.bolt then enterSecure b u else u := by
  unfold doorClosed
  extract_lets d w₁ w₂
  have flagged : DoorMove b w.st w₁.st := (DoorMove.refl b w.st).modDoor fun _ d => { d with closed := true }
  have closing : DoorMove b w₁.st w₂.st :=
    (DoorMove.refl b w₁.st).modDoor fun s d =>
      { d with state := .closing, boltWait := some (s.now + boltWaitTime), closeHold := some (s.now + closeHoldTime) }
  refine ⟨w₂, flagged.trans closing, rfl, rfl, ?_⟩
  have its : d.state = .opened a := state
  rw [its]

theorem doorClosed_move {a : OpenAttr} (state : (w.st.bay b).door.state = .opened a) :
    DoorMove b w.st (doorClosed b w).st := by
  obtain ⟨u, moved, -, -, its⟩ := doorClosed_eq state
  rw [its]
  split <;> [exact moved.trans enterSecure_move; exact moved]

theorem enterSecure_lkc : (enterSecure b w).st.lkc = w.st.lkc := settleEpisode_lkc

/-- A door that moves tells its move, and the end of an episode. -/
def Notice.ofMove (b : BayIx) (n : Notice) : Prop :=
  (∃ e r p, n = .episodeEnded b e r p) ∨ ∃ left, n = .doorMoved b left

theorem settleEpisode_told (told : ∀ n ∈ w.todo, n.ofMove b) : ∀ n ∈ (settleEpisode b w).todo, n.ofMove b := by
  intro n among
  rw [settleEpisode_todo] at among
  rcases List.mem_append.1 among with earlier | ended
  · exact told n earlier
  · split at ended
    · obtain ⟨e, its⟩ := mem_episodeNotice ended
      exact .inl ⟨e, _, _, its⟩
    · cases ended

theorem enterSecure_told (told : ∀ n ∈ w.todo, n.ofMove b) : ∀ n ∈ (enterSecure b w).todo, n.ofMove b := by
  refine settleEpisode_told fun n among => ?_
  rcases List.mem_append.1 among with earlier | now
  · exact told n earlier
  · exact .inr ⟨false, List.mem_singleton.1 now⟩

/-- Notices of a door's move keep the queue of a station that ends its sessions. -/
theorem finish_moved (still : Still False w.st) (told : ∀ n ∈ w.todo, n.ofMove b) : w.finish.lkc = w.st.lkc :=
  (finish_calmed still fun n among => calm_of_door (told n among)).lkc

theorem settles_of_ofMove {n : Notice} (h : n.ofMove b) : n.settles = true := by
  rcases h with ⟨e, r, p, rfl⟩ | ⟨left, rfl⟩ <;> rfl

/-! ### A door that becomes UNSECURED -/

/-- R109, R110: EVENT LATCH_FAULT. -/
def latchFault (b : BayIx) (cause : Nat) : TxFrame := eventFrame 3 (bayByte b) 0 cause .ldc

theorem enterUnsecured_eq (cause : Nat) : ∃ u : Work, DoorMove b w.st u.st ∧ u.st.lkc = w.st.lkc ∧
    u.todo = w.todo ++ cancelNotice b (w.st.bay b).door ∧
    enterUnsecured b cause w = settleEpisode b ((place (latchFault b cause) u).raise
      (.doorMoved b ((w.st.bay b).door.state == .secure))) := by
  unfold enterUnsecured
  extract_lets leaves w₁ w₂ w₃
  have cancelled : DoorMove b w.st w₁.st := cancelPending_move
  have moved : DoorMove b w₁.st w₂.st :=
    ((DoorMove.refl b w₁.st).modDoor fun _ d => { d with state := .unsecured, latch := .off, boltWait := none }).trans
      .of_openSwitch
  exact ⟨w₂, cancelled.trans moved, cancelPending_lkc, cancelPending_todo, rfl⟩

theorem enterUnsecured_settles : ∀ n ∈ (enterUnsecured b cause (startWork s)).todo, n.settles = true := fun n told =>
  ((enterUnsecured_acts (b := b) cause).told n told).elim (fun none => by cases none) settles_of_ofDoor

/-- The door and the lane switch of a bay that becomes UNSECURED. -/
theorem finish_unsecured : ((enterUnsecured b cause (startWork s)).finish.bay b).door = (s.bay b).door.unsecured ∧
    ((enterUnsecured b cause (startWork s)).finish.bay b).prov.switch = none := by
  have door : ((enterUnsecured b cause (startWork s)).st.bay b).door = (s.bay b).door.unsecured := by
    rw [enterUnsecured_door, if_pos rfl]
    rfl
  refine ⟨(finish_door enterUnsecured_settles ?_).trans door, finish_switch enterUnsecured_settles ?_⟩
  · rw [door]
    simp [Door.unsecured]
  · rw [enterUnsecured_prov, if_pos rfl]

/-- The queue of a station whose door becomes UNSECURED, with no release that waits. -/
theorem finish_latchFault (ending : lanesEnding s) (free : (s.bay b).door.pendingLane = false)
    (room : s.lkc.queue.length < 8) :
    (enterUnsecured b cause (startWork s)).finish.lkc =
      { s.lkc with queue := insertFrame (latchFault b cause) s.lkc.queue } := by
  have moved : DoorMove b s (enterUnsecured b cause (startWork s)).st := enterUnsecured_move (w := startWork s) cause
  obtain ⟨u, -, lkc, told, its⟩ := enterUnsecured_eq (b := b) (w := startWork s) cause
  have room' : u.st.lkc.queue.length < 8 := by rw [lkc]; exact room
  have none : u.todo = [] := by
    rw [told, cancelNotice, if_neg (by rw [startWork, free]; exact Bool.false_ne_true)]
    rfl
  rw [place_of_room _ room'] at its
  have among : ∀ n ∈ (enterUnsecured b cause (startWork s)).todo, n.ofMove b := by
    rw [its]
    refine settleEpisode_told fun n now => .inr ?_
    rw [Work.raise_todo, Work.upd_todo, none] at now
    exact ⟨_, List.mem_singleton.1 now⟩
  rw [finish_moved (moved.still (.of_ending ending)) among, its, settleEpisode_lkc, Work.raise_st, Work.upd_st,
    State.modLkc_lkc, lkc]
  rfl

/-- The queue of a station whose door becomes UNSECURED, with a release that waits for the lane. -/
theorem finish_latchFault_cancelled {r : ReleaseRecord} (ending : lanesEnding s)
    (waits : (s.bay b).door.pendingLane = true) (release : (s.bay b).door.release = some r)
    (room : s.lkc.queue.length < 7) :
    (enterUnsecured b cause (startWork s)).finish.lkc = { s.lkc with
      queue := insertFrame { denyFrame r.reader r.sequence .bayBusy r.credential with deadline := some (s.now + 250) }
        (insertFrame (latchFault b cause) s.lkc.queue) } := by
  have moved : DoorMove b s (enterUnsecured b cause (startWork s)).st := enterUnsecured_move (w := startWork s) cause
  obtain ⟨u, -, lkc, told, its⟩ := enterUnsecured_eq (b := b) (w := startWork s) cause
  have room' : u.st.lkc.queue.length < 8 := by rw [lkc]; exact room.trans (by decide)
  have cancelled : u.todo = [.releaseAnswered b r .cancelled] := by
    rw [told, cancelNotice, startWork, if_pos waits, release]
    rfl
  rw [place_of_room _ room'] at its
  generalize (((startWork s).st.bay b).door.state == .secure) = left at its
  have among : ∃ ns, (enterUnsecured b cause (startWork s)).todo = .releaseAnswered b r .cancelled :: ns ∧
      ∀ n ∈ ns, n.ofMove b := by
    rw [its, settleEpisode_todo, Work.raise_todo, Work.upd_todo, cancelled]
    refine ⟨_, rfl, fun n now => ?_⟩
    rcases List.mem_cons.1 now with its | ended
    · exact .inr ⟨left, its⟩
    · split at ended
      · obtain ⟨e, its⟩ := mem_episodeNotice ended
        exact .inl ⟨e, _, _, its⟩
      · cases ended
  obtain ⟨ns, head, others⟩ := among
  have first : (enterUnsecured b cause (startWork s)).st.lkc =
      { s.lkc with queue := insertFrame (latchFault b cause) s.lkc.queue } := by
    rw [its, settleEpisode_lkc, Work.raise_st, Work.upd_st, State.modLkc_lkc, lkc]
    rfl
  have now : (enterUnsecured b cause (startWork s)).st.now = s.now := moved.now
  rw [finish_cancelled (moved.still (.of_ending ending)) head (fun n among => calm_of_door (others n among))
    (by rw [first, length_insertFrame]; exact Nat.succ_lt_succ room), first, now]

/-! ### Doors that close, and bolts -/

theorem State.modBay_congr {f g : Bay → Bay} (same : f (s.bay b) = g (s.bay b)) : s.modBay b f = s.modBay b g :=
  congrArg (s.setBay b) same

theorem doorClosed_told {a : OpenAttr} (state : (s.bay b).door.state = .opened a) :
    (doorClosed b (startWork s)).st.lkc = s.lkc ∧ ∀ n ∈ (doorClosed b (startWork s)).todo, n.ofMove b := by
  obtain ⟨u, -, lkc, told, its⟩ := doorClosed_eq (w := startWork s) state
  have told : ∀ n ∈ u.todo, n.ofMove b := fun n among => by
    rw [told] at among
    exact .inr ⟨false, List.mem_singleton.1 among⟩
  rw [its]
  split
  · exact ⟨enterSecure_lkc.trans lkc, enterSecure_told told⟩
  · exact ⟨lkc, told⟩

/-- R109: the door section of a door that closes in OPEN. -/
theorem Door.closes_opened {d : Door} {a : OpenAttr} (state : d.state = .opened a) (wait hold : Nat) :
    d.closes wait hold = { d with
      closed := true, state := if d.bolt then .secure else .closing, latch := if d.bolt then .off else d.latch,
      boltWait := if d.bolt then none else some wait, closeHold := some hold } := by
  simp only [Door.closes, state]
  cases bolt : d.bolt
  · simp
  · simp only [if_true, Door.secured]
    exact Door.settled_held rfl

theorem boltBecomesThrown_move : DoorMove b w.st (boltBecomesThrown b w).st := by
  unfold boltBecomesThrown
  extract_lets d w₁
  have flagged : DoorMove b w.st w₁.st := (DoorMove.refl b w.st).modDoor fun _ d => { d with bolt := true }
  split
  · split
    iterate 2 exact flagged.trans enterSecure_move
    all_goals exact flagged
  · exact flagged

/-- R100: the bolt flag of a bay, set. -/
def bolted (b : BayIx) (flag : Bool) (s : State) : State := s.modDoor b fun d => { d with bolt := flag }

theorem bolted_move (flag : Bool) : DoorMove b s (bolted b flag s) := .of_modDoor _

theorem bolted_bay (flag : Bool) (s : State) : (bolted b flag s).bay b = { s.bay b with door := { (s.bay b).door with bolt := flag } } :=
  State.bay_modBay_same ..

theorem boltBecomesThrown_secures (shut : (s.bay b).door.closed = true)
    (state : (s.bay b).door.state = .closing ∨ (s.bay b).door.state = .unsecured) :
    boltBecomesThrown b (startWork s) = enterSecure b (startWork (bolted b true s)) := by
  unfold boltBecomesThrown
  rcases state with state | state <;> simp only [startWork, shut, state] <;> rfl

theorem boltBecomesThrown_stays (stays : (s.bay b).door.closed = false ∨ (s.bay b).door.state = .secure ∨
    (s.bay b).door.state = .releasing) : boltBecomesThrown b (startWork s) = startWork (bolted b true s) := by
  unfold boltBecomesThrown
  rcases stays with wide | state | state
  · simp only [startWork, wide]
    rfl
  all_goals simp only [startWork, state, ite_self]
            rfl

theorem boltBecomesClear_stays (stays : (s.bay b).door.closed = false ∨ (s.bay b).door.state ≠ .secure ∨
    (s.bay b).door.boltWait ≠ none) : boltBecomesClear b (startWork s) = startWork (bolted b false s) := by
  unfold boltBecomesClear
  refine if_neg fun faults => ?_
  simp only [startWork, Bool.and_eq_true, beq_iff_eq, Option.isNone_iff_eq_none] at faults
  obtain ⟨⟨shut, secure⟩, wait⟩ := faults
  rcases stays with its | its | its
  · rw [its] at shut
    cases shut
  · exact its secure
  · exact its wait

/-- Settles O34. -/
theorem doorClosesAndBoltMoves : Obligations.DoorClosesAndBoltMoves := by
  intro b s law populated d flag
  have flagged (bolt : Bool) : bolted b bolt s = flag d.closed bolt :=
    State.modBay_congr (f := fun x => { x with door := { x.door with bolt := bolt } }) rfl
  refine ⟨fun wide => ?_, fun clear => ⟨fun shut state => ?_, fun stays => ?_⟩,
    fun thrown => ⟨fun shut secure wait => ?_, fun stays => ?_⟩⟩
  · have ran : exec (.doorCloses b) s = .next (doorClosed b (startWork s)).finish := by
      have wide : (s.bay b).door.closed = false := wide
      simp [exec, execDoorCloses, populated, wide, carryOut]
    obtain ⟨a, state⟩ := (law b).openFlag.2 wide
    have moved := doorClosed_move (w := startWork s) state
    obtain ⟨lkc, told⟩ := doorClosed_told state
    have door : ((doorClosed b (startWork s)).st.bay b).door = (s.bay b).door.closes (s.now + 1000) (s.now + 250) := by
      rw [doorClosed_door, if_pos rfl]
      rfl
    rw [Door.closes_opened state] at door
    have unpended := (law b).released_none (by simp [state])
    have final := finish_door (fun n among => settles_of_ofMove (told n among)) (congrArg Door.pendingLane door |>.trans unpended)
    refine ⟨_, ran, moved.steadyBut.finish, ?_⟩
    rw [final, door]
    refine ⟨rfl, rfl, rfl, rfl, rfl, fun bolt => ?_, fun bolt => ?_, fun ending => ?_⟩
    · simp [show (s.bay b).door.bolt = false from bolt]
    · simp [show (s.bay b).door.bolt = true from bolt]
    · exact (finish_moved (moved.still (.of_ending ending)) told).trans lkc
  · have ran : exec (.boltThrown b) s = .next (enterSecure b (startWork (bolted b true s))).finish := by
      have clear : (s.bay b).door.bolt = false := clear
      simp [exec, execBoltThrown, populated, clear, carryOut, boltBecomesThrown_secures shut state]
    have moved := (bolted_move true).trans (enterSecure_move (b := b) (w := startWork (bolted b true s)))
    have told := enterSecure_told (b := b) (w := startWork (bolted b true s)) fun n none => by cases none
    have door : ((enterSecure b (startWork (bolted b true s))).st.bay b).door =
        { (s.bay b).door with bolt := true }.secured := by
      rw [enterSecure_door, if_pos rfl, startWork, bolted_bay]
    have unpended := (law b).released_none fun secure => by rcases state with its | its <;> exact absurd (its.symm.trans secure) (by decide)
    have final := finish_door (fun n among => settles_of_ofMove (told n among))
      (congrArg Door.pendingLane door |>.trans (by simpa [Door.secured] using unpended))
    refine ⟨_, ran, moved.steadyBut.finish, ?_⟩
    rw [final, door]
    refine ⟨by simp [Door.secured], by simp [Door.secured], by simp [Door.secured], ?_, fun ending => ?_⟩
    · simp [Door.secured, Door.settled_episode, d]
    · exact (finish_moved (moved.still (.of_ending ending)) told).trans enterSecure_lkc
  · have clear : (s.bay b).door.bolt = false := clear
    have its := boltBecomesThrown_stays stays
    rw [← flagged]
    simp only [exec, execBoltThrown, populated, clear, carryOut, its]
    rfl
  · have ran : exec (.boltClears b) s = .next (enterUnsecured b 2 (startWork (bolted b false s))).finish := by
      have thrown : (s.bay b).door.bolt = true := thrown
      have shut : (s.bay b).door.closed = true := shut
      have secure : (s.bay b).door.state = .secure := secure
      have wait : (s.bay b).door.boltWait = none := wait
      simp only [exec, execBoltClears, populated, thrown, carryOut, boltBecomesClear, startWork, shut, secure, wait]
      rfl
    have moved := (bolted_move false).trans (enterUnsecured_move (b := b) (w := startWork (bolted b false s)) 2)
    have own := bolted_bay (b := b) false s
    have unlocked := finish_unsecured (b := b) (cause := 2) (s := bolted b false s)
    refine ⟨_, ran, moved.steadyBut.finish, ?_⟩
    rw [unlocked.1, own]
    refine ⟨by simp [Door.unsecured], by simp [Door.unsecured], by simp [Door.unsecured], unlocked.2, ?_,
      fun ending free room => ?_, fun r waits release => ⟨?_, fun ending room => ?_⟩⟩
    · simp [Door.unsecured, Door.settled_episode, d]
    · exact finish_latchFault (ending) (by rw [own]; exact free) room
    · exact Door.unsecured_cancels (d := { (s.bay b).door with bolt := false }) waits
    · exact finish_latchFault_cancelled ending (by rw [own]; exact waits) (by rw [own]; exact release) room
  · have thrown : (s.bay b).door.bolt = true := thrown
    have its := boltBecomesClear_stays stays
    rw [← flagged]
    simp only [exec, execBoltClears, populated, thrown, carryOut, its]
    rfl

end

end Sys2Proof.Machine
end

section
/-! The CUSTODY write of a bay while notices are worked, and the timers of a door's episode (R102, R109 to R111, R138). -/

namespace Sys2Proof.Machine

/-! ### The bolt wait -/

section
variable {s : State} {b : BayIx}

/-- Settles O36. -/
theorem boltWaitExpires : Obligations.BoltWaitExpires := by
  intro b d s waiting x unlocked
  have unlocks (cause : Nat) (byte : Byte) (v : State) (wait : Option Nat)
      (frame : latchFault b cause = newFrame .event 19 toAll ([BitVec.ofNat 8 b.val, 0, 0, 0, 0, 0, byte, 3]) .ldc)
      (moved : DoorMove b { s with now := max s.now d } v) (lkc : v.lkc = s.lkc)
      (own : (v.bay b).door = { (s.bay b).door with boltWait := wait }) :
      unlocked byte (enterUnsecured b cause (startWork v)).finish := by
    have moves := moved.trans (enterUnsecured_move (b := b) (w := startWork v) cause)
    obtain ⟨door, switch⟩ := finish_unsecured (b := b) (cause := cause) (s := v)
    have now : v.now = max s.now d := moved.now
    have still (ending : lanesEnding s) : lanesEnding v := by
      have its := moved.rest
      rw [its]
      exact ending
    refine ⟨(steady_reads State.now (fun _ => rfl) (finish_steady _)).trans moves.now, moves.steadyBut.finish, ?_⟩
    rw [door, own]
    refine ⟨by simp [Door.unsecured], by simp [Door.unsecured], by simp [Door.unsecured], by simp [Door.unsecured], switch,
      by simp [Door.unsecured, x], by simp [Door.unsecured, x], by simp [Door.unsecured, Door.settled_episode, x],
      fun ending free room => ?_, fun r waits release => ⟨?_, fun ending room => ?_⟩⟩
    · rw [finish_latchFault (still ending) (by rw [own]; exact free) (by rw [lkc]; exact room), lkc, frame]
    · exact Door.unsecured_cancels (d := { (s.bay b).door with boltWait := wait }) waits
    · rw [finish_latchFault_cancelled (still ending) (by rw [own]; exact waits) (by rw [own]; exact release)
        (by rw [lkc]; exact room), lkc, frame, now]
      rfl
  have stopped : ((((s.advanceTo d).modDoor b fun x => { x with boltWait := none }).bay b)).door =
      { (s.bay b).door with boltWait := none } := by
    rw [State.door_modDoor, if_pos rfl]
    rfl
  refine ⟨fun closing => ?_, fun secure clear => ?_, fun secure thrown => ?_⟩
  · refine ⟨_, ?_, unlocks 1 1 (s.advanceTo d) (some d) rfl (.refl b _) rfl (by rw [← waiting]; rfl)⟩
    have closing : (s.bay b).door.state = .closing := closing
    simp [exec, execBoltWaitClosingExpired, waiting, closing, carryOut]
  · refine ⟨_, ?_, unlocks 3 3 _ none rfl (.of_modDoor (s := s.advanceTo d) fun x => { x with boltWait := none }) rfl stopped⟩
    have secure : (s.bay b).door.state = .secure := secure
    have clear : (s.bay b).door.bolt = false := clear
    simp [exec, execBoltWaitReleaseExpired, waiting, secure, clear, carryOut]
  · have secure : (s.bay b).door.state = .secure := secure
    have thrown : (s.bay b).door.bolt = true := thrown
    simp only [exec, execBoltWaitReleaseExpired, waiting, secure, thrown, if_true]
    rfl

end

/-! ### The CUSTODY write of a bay -/

/-- The effects that leave the CUSTODY write of a bay, and tell nothing that writes it. -/
def Effect.frees (b : BayIx) : Effect → Bool
  | .write c (.custody _) => c != b
  | .tell (.releaseAnswered c _ _) | .tell (.episodeEnded c _ _ _) => c != b
  | .tell (.releaseAsked _ _) | .tell (.reading _ _ _) => false
  | _ => true

/-- The notices that leave the CUSTODY write of a bay whose release waits for no lane. -/
def Notice.frees (b : BayIx) (n : Notice) : Bool := (Effect.tell n).frees b

section
variable {s t : State} {w : Work} {b c : BayIx} {n m : Notice} {e : Effect}

theorem frees_of_writing {r : DockRegister} (other : r ≠ .custody ∨ c ≠ b) (h : e ∈ writing r c) : e.frees b = true := by
  rcases h with rfl | ⟨x, its, rfl | ⟨o, rfl⟩⟩
  · rfl
  · cases x with
    | custody v =>
      refine bne_iff_ne.2 (other.resolve_left fun ne => ne ?_)
      exact its.symm
    | provControl v | chargeLimit g => rfl
  · rfl

theorem frees_of_refreshing (h : e ∈ refreshing c) : e.frees b = true := by
  rcases h with rfl | rfl | rfl | rfl <;> rfl

theorem frees_of_placing {k : FrameKind} (h : e ∈ placing k) : e.frees b = true := by
  rcases h with rfl | ⟨f, rfl⟩ <;> rfl

theorem frees_of_charging (h : e ∈ charging c) : e.frees b = true := by
  rcases h with (((rfl | rfl) | h) | h) | h
  iterate 2 rfl
  · exact frees_of_refreshing h
  · rcases h with rfl | rfl | rfl | rfl <;> rfl
  · exact frees_of_writing (.inl (by decide)) h

theorem frees_of_sessionEnding (h : e ∈ sessionEnding c) : e.frees b = true := by
  rcases h with (((rfl | rfl | rfl) | h) | h) | h
  iterate 3 rfl
  · exact frees_of_refreshing h
  · exact frees_of_placing h
  · exact frees_of_writing (.inl (by decide)) h

theorem frees_of_evaluating (h : e ∈ evaluating) : e.frees b = true := by
  rcases h with rfl | rfl | rfl <;> rfl

theorem frees_of_releasing (other : c ≠ b) (h : e ∈ releasing c) : e.frees b = true := by
  rcases h with rfl | rfl | rfl | ⟨r, o, rfl⟩
  iterate 3 rfl
  exact bne_iff_ne.2 other

/-- Only the notices of the bay's own door, its own readings and a release of it reach its CUSTODY write. -/
theorem frees_of_effectsOf (frees : n.frees b = true) (own : n ≠ .laneIdle b) (h : e ∈ effectsOf n) : e.frees b = true := by
  cases n with
  | recompute => rcases h with rfl | rfl <;> rfl
  | split =>
    rcases h with rfl | ⟨c, (h | h) | rfl | rfl⟩
    · rfl
    · exact frees_of_refreshing h
    · exact frees_of_writing (.inl (by decide)) h
    iterate 2 rfl
  | wishInput c => exact frees_of_refreshing h
  | chargeChanged c | laneChannel c st | doorMoved c left =>
    rcases h with h | rfl
    · exact frees_of_sessionEnding h
    · rfl
  | channelChanged c st =>
    rcases h with (h | h) | rfl | rfl | rfl
    · exact frees_of_charging h
    · exact frees_of_sessionEnding h
    all_goals rfl
  | reading c r cls => cases frees
  | writeEnded c x o =>
    cases x with
    | custody v => exact frees_of_placing h
    | provControl v =>
      rcases h with h | rfl | rfl | rfl | rfl
      · exact frees_of_sessionEnding h
      all_goals rfl
    | chargeLimit g => exact absurd h (Set.notMem_empty _)
  | discarded f => rcases h with rfl | ⟨c, rfl | rfl⟩ <;> rfl
  | episodeEnded c attr r p =>
    rcases h with h | rfl
    · exact frees_of_writing (.inr (bne_iff_ne.1 frees)) h
    · rfl
  | releaseAsked c r => cases frees
  | releaseAnswered c r o =>
    rcases h with (h | h) | h
    iterate 2 exact frees_of_placing h
    · exact frees_of_writing (.inr (bne_iff_ne.1 frees)) h
  | laneIdle c => exact frees_of_releasing (fun its => own (by rw [its])) h
  | reevaluate c | reevaluateAll => exact frees_of_evaluating h
  | select n =>
    rcases h with rfl | rfl | ⟨c, rfl | h | h⟩
    iterate 3 rfl
    · exact frees_of_refreshing h
    · exact frees_of_writing (.inl (by decide)) h
  | serviceChanged c => exact frees_of_charging h

theorem marked_custody (rs : List DockRegister) (c : Channel) :
    (rs.foldl (fun c r => markDue r c) c).custody = c.custody := by
  induction rs generalizing c with
  | nil => rfl
  | cons r rs ih => exact (ih _).trans (by cases r <;> rfl)

/-- An effect of a notice that is no CUSTODY write of the bay keeps it. -/
theorem Change.custody (changed : Change e s t) (inner : e.inner = true) (frees : e.frees b = true) :
    (t.bay b).channel.custody = (s.bay b).channel.custody := by
  have kept : ∀ (c : BayIx) (g : Bay → Bay), (∀ x, (g x).channel.custody = x.channel.custody) →
      ((s.modBay c g).bay b).channel.custody = (s.bay b).channel.custody :=
    fun c g same => s.read_modBay c b (·.channel.custody) same
  cases changed
  case recompute => rw [recomputed_eq]; rfl
  case reads c rs =>
    unfold requestReads
    split
    iterate 2 exact kept _ _ fun x => marked_custody rs x.channel
    iterate 2 rfl
  case release c r ready =>
    simp [startRelease, openSwitch, State.modProv, State.modDoor, State.read_modBay _ _ _ (·.channel.custody)]
  case write c x active limit =>
    cases x with
    | custody v =>
      rw [State.modChannel, State.bay_modBay_other _ (bne_iff_ne.1 frees).symm]
    | provControl v | chargeLimit g => exact kept _ _ fun _ => rfl
  case wish | tune | enter | answered | profileNow | channelUp | pend | claim | count | session | prov | switch =>
    exact kept _ _ fun _ => rfl
  all_goals first | exact absurd inner Bool.false_ne_true | rfl

/-- The CUSTODY write of a bay whose release waits for no lane stays, where no notice is its door's or its reading's. -/
theorem settle_custody (left : Nat) (start : ∀ n ∈ w.todo, n.frees b = true)
    (unpended : (w.st.bay b).door.pendingLane = false) :
    ((settle left w).st.bay b).channel.custody = (w.st.bay b).channel.custody := by
  refine (settle_keeps (P := fun s => (s.bay b).channel.custody = (w.st.bay b).channel.custody ∧
    (s.bay b).door.pendingLane = false) (Q := fun n => n.frees b = true) (fun n s frees holds => ?_) left w ⟨rfl, unpended⟩ start).1
  obtain ⟨custody, free⟩ := holds
  by_cases own : n = .laneIdle b
  · subst own
    have stays : handle (.laneIdle b) (startWork s) = startWork s := by
      simp only [handle, laneReportedIdle]
      split
      · rfl
      · exact if_neg (by rw [startWork, free]; exact Bool.false_ne_true)
    rw [stays]
    exact ⟨⟨custody, free⟩, fun m none => by cases none⟩
  · have door : ((handle n (startWork s)).st.bay b).door = (s.bay b).door :=
      handle_door (w := startWork s) (fun c r its => by rw [its] at frees; cases frees) free
    refine ⟨⟨?_, by rw [door]; exact free⟩, fun m told => ?_⟩
    · exact (handle_acts n (startWork s)).keeps (P := fun u => (u.bay b).channel.custody = (w.st.bay b).channel.custody)
        (fun e may _ _ changed before => (changed.custody (inner_of_effectsOf may) (frees_of_effectsOf frees own may)).trans before)
        custody
    · rcases (handle_acts n (startWork s)).told m told with earlier | now
      · cases earlier
      · exact frees_of_effectsOf frees own now

/-- R138: a CUSTODY write requested of an ACTIVE channel whose tablet takes it is pending, and no other. -/
theorem requestCustody_custody (v : CustodyWrite) : ((requestCustody b v w).st.bay b).channel.custody =
    if (w.st.bay b).channel.state = .active ∧ (w.st.bay b).view.identity.all takesCustody = true then some v
    else (w.st.bay b).channel.custody := by
  have takes : writeSupported (w.st.bay b).view (.custody v) = (w.st.bay b).view.identity.all takesCustody := by
    unfold writeSupported
    cases (w.st.bay b).view.identity <;> rfl
  simp only [requestCustody, takes]
  split
  · next ready =>
    simp only [Bool.and_eq_true, beq_iff_eq] at ready
    rw [if_pos ready]
    have its : ((w.st.modChannel b fun c => addPending c (.custody v)).bay b).channel.custody = some v := by
      rw [State.channel_modChannel, if_pos rfl]
      rfl
    simp only [requestWrite, takes, ready.1, ready.2]
    cases pendingSame (w.st.bay b).channel (.custody v) <;> exact its
  · next unready =>
    simp only [Bool.and_eq_true, beq_iff_eq] at unready
    rw [if_neg unready]

/-- The notices upon which the CSU writes the CUSTODY of the bay of a door. -/
def Notice.docks (b : BayIx) (n : Notice) : Prop := (∃ e r p, n = .episodeEnded b e r p) ∨ ∃ r o, n = .releaseAnswered b r o

theorem frees_of_docks (docks : n.docks c) (h : .tell m ∈ effectsOf n) : m.frees b = true := by
  rcases docks with ⟨a, r, p, rfl⟩ | ⟨r, o, rfl⟩
  · rcases h with (h | ⟨x, -, h | ⟨o, h⟩⟩) | h <;> cases h <;> rfl
  · rcases h with (h | h) | h | ⟨x, -, h | ⟨o, h⟩⟩
    iterate 2 exact frees_of_placing h
    all_goals cases h
    rfl

/-- Where the first notice is that of the bay's door, its CUSTODY write is as that notice leaves it. -/
theorem finish_custody {ns : List Notice} (first : w.todo = n :: ns) (docks : n.docks b) (others : ∀ m ∈ ns, m.frees b = true)
    (unpended : (w.st.bay b).door.pendingLane = false) :
    (w.finish.bay b).channel.custody = ((handle n (startWork w.st)).st.bay b).channel.custody := by
  have asked : ∀ c r, n ≠ .releaseAsked c r := fun c r its => by
    rcases docks with ⟨a, r, p, is⟩ | ⟨r, o, is⟩ <;> rw [is] at its <;> cases its
  rw [finish_of_first first]
  refine settle_custody 4095 (fun m among => ?_) ?_
  · rcases List.mem_append.1 among with told | later
    · rcases (handle_acts n (startWork w.st)).told m told with earlier | now
      · cases earlier
      · exact frees_of_docks docks now
    · exact others m later
  · rw [handle_door (w := startWork w.st) asked unpended]
    exact unpended

/-- R135: what the end of an episode writes. -/
theorem episodeEnded_custody (a : OpenAttr) (r : ReleaseRecord) (p : Bool) :
    ((handle (.episodeEnded b a (some r) p) w).st.bay b).channel.custody =
      if a = .authorized ∧ handsOut r.reason = true ∧ p = true ∧ (w.st.bay b).channel.state = .active ∧
          (w.st.bay b).view.identity.all takesCustody = true then some dockedCustody
      else (w.st.bay b).channel.custody := by
  simp only [handle, episodeEndNotice, Work.raise_st]
  split
  · next docks =>
    simp only [Bool.and_eq_true, beq_iff_eq] at docks
    rw [requestCustody_custody]
    simp only [docks, true_and]
  · next away =>
    simp only [Bool.and_eq_true, beq_iff_eq] at away
    rw [if_neg fun all => away ⟨⟨all.1, all.2.1⟩, all.2.2.1⟩]

theorem handsOut_iff (reason : ReleaseReason) :
    handsOut reason = true ↔ reason = .checkout ∨ reason = .opening ∨ reason = .service := by
  cases reason <;> simp [handsOut]

/-! ### The timers of an episode -/

theorem closeHoldPasses_rests (rests : (w.st.bay b).door.state = .secure ∨ (w.st.bay b).door.state = .unsecured) :
    closeHoldPasses b w = endEpisode b w := by
  unfold closeHoldPasses
  rcases rests with state | state <;> rw [state]

theorem closeHoldPasses_moves (secure : (w.st.bay b).door.state ≠ .secure) (unsecured : (w.st.bay b).door.state ≠ .unsecured) :
    closeHoldPasses b w = w := by
  unfold closeHoldPasses
  split <;> next state => first | rfl | exact absurd state ‹_›

/-- R102: an episode that ends leaves the steady part of its door, but for the episode and the close hold. -/
theorem endEpisode_stopped :
    (endEpisode b (startWork (s.modDoor b fun y => { y with closeHold := none }))).st.steady =
      (s.modBay b fun y => { y with door := { y.door with closeHold := none, episode := none } }).steady := by
  have own : (s.modDoor b fun y => { y with closeHold := none }).bay b =
      { s.bay b with door := { (s.bay b).door with closeHold := none } } := State.bay_modBay_same ..
  unfold endEpisode
  simp only [startWork, own]
  split
  · next none => exact steady_modBay_congr (by rw [← none])
  · rw [Work.raise_st, Work.upd_st, State.modDoor, State.modDoor, State.modBay_modBay]
    exact steady_modBay_congr rfl

/-- Settles O37. -/
theorem episodeTimersExpire : Obligations.EpisodeTimersExpire := by
  intro b d s x held
  refine ⟨fun hold => ?_, fun e episode ajar => ?_⟩
  · have own : ((held.modDoor b fun y => { y with closeHold := none }).bay b) =
        { s.bay b with door := { (s.bay b).door with closeHold := none } } := State.bay_modBay_same ..
    have ran : exec (.closeHoldEnd b) s =
        .next (closeHoldPasses b (startWork (held.modDoor b fun y => { y with closeHold := none }))).finish := by
      have hold : (s.bay b).door.closeHold = some d := hold
      simp only [exec, execCloseHoldEnd, hold]
      rfl
    generalize entry : held.modDoor b (fun y => { y with closeHold := none }) = v at own ran
    refine ⟨_, ran, fun secure unsecured => ?_, fun rests => ⟨?_, fun free => ?_⟩⟩
    · rw [closeHoldPasses_moves (w := startWork v) (by rw [startWork, own]; exact secure)
        (by rw [startWork, own]; exact unsecured), finish_of_quiet rfl, startWork, ← entry]
      rfl
    all_goals rw [closeHoldPasses_rests (w := startWork v) (by rw [startWork, own]; exact rests)]
    · refine (finish_steady _).trans ?_
      rw [← entry]
      exact endEpisode_stopped
    · have todo : (endEpisode b (startWork v)).todo = episodeNotice b (v.bay b) := endEpisode_todo
      have door : ((endEpisode b (startWork v)).st.bay b).door = { (s.bay b).door with closeHold := none }.episodeOver := by
        rw [endEpisode_door, if_pos rfl, startWork, own]
      have free : (s.bay b).door.pendingLane = false := free
      have unpended : ((endEpisode b (startWork v)).st.bay b).door.pendingLane = false := by
        rw [door]
        simpa using free
      have settles : ∀ n ∈ (endEpisode b (startWork v)).todo, n.settles = true := fun n among => by
        rw [todo] at among
        obtain ⟨e, rfl⟩ := mem_episodeNotice among
        rfl
      rw [finish_door settles unpended, door]
      refine ⟨by simp [x], fun open' => ?_, fun e r episode release => ?_⟩
      · have open' : (s.bay b).door.episode ≠ none := open'
        obtain ⟨e, episode⟩ := Option.ne_none_iff_exists'.1 open'
        simp [Door.episodeOver, episode]
      · have episode : (s.bay b).door.episode = some e := episode
        have release : (s.bay b).door.release = some r := release
        have first : (endEpisode b (startWork v)).todo = [.episodeEnded b e.attr (some r) (s.bay b).present] := by
          rw [todo, episodeNotice, own]
          simp [episode, release]
        have moved := endEpisode_move (b := b) (w := startWork v)
        have view : ((endEpisode b (startWork v)).st.bay b).view = (s.bay b).view := by
          rw [moved.view, startWork, own]
        have channel : ((endEpisode b (startWork v)).st.bay b).channel = (s.bay b).channel := by
          rw [moved.channel, startWork, own]
        rw [finish_custody first (.inl ⟨_, _, _, rfl⟩) (fun m none => by cases none) unpended, episodeEnded_custody,
          startWork, view, channel]
        simp only [handsOut_iff]
        rfl
  · have episode : (s.bay b).door.episode = some e := episode
    have ran : exec (.ajarTimerExpired b) s = .next (ajarPasses b e (startWork held)).finish := by
      simp only [exec, execAjarTimerExpired, episode, ajar]
      rfl
    refine ⟨_, ran, (finish_steady _).trans (placeEvent_steady ..), fun room => ?_⟩
    have placed : ajarPasses b e (startWork held) = _ := placeEvent_of_room _ _ _ _ _ room
    have event : eventFrame 2 (bayByte b) 0 (attrCode e.attr) .ldc = newFrame .event 18 toAll
        ([BitVec.ofNat 8 b.val, 0, 0, 0, 0, 0, BitVec.ofNat 8 (attrCode e.attr), 2]) .ldc := by
      cases e.attr <;> rfl
    rw [placed, event, finish_of_quiet rfl]
    rfl

end

end Sys2Proof.Machine
end

section
/-! Wishes and classes (R64, R65). -/

namespace Sys2Proof.Machine

section
variable {s : State} {b : BayIx} {w : Work}

theorem laneWorks_iff (st : LaneStage) : laneWorks st = true ↔ st = .waking ∨ st = .connected := by
  cases st <;> simp [laneWorks]

/-- A lane machine is at work for a bay. -/
theorem laneWorking_iff : s.laneWorking b = true ↔
    ∃ (n : LaneIx) (y : LaneSession), s.lane n = some y ∧ y.bay = b ∧ (y.stage = .waking ∨ y.stage = .connected) := by
  simp only [laneWorking_eq_true_iff, laneWorks_iff]

/-- R64: the wish of a managed bay. -/
theorem wishOf_managed (manages : managed (s.bay b).charge.state = true) : s.wishOf b =
    if s.laneWorking b = true then
      raiseWish (s.bay b).charge.voltage (requestedWish s.cfl.config (s.bay b) + s.cfl.config.laneExtra)
    else requestedWish s.cfl.config (s.bay b) := by
  dsimp only [State.wishOf]
  split
  iterate 3 rfl
  all_goals next state =>
    rw [state] at manages
    cases manages

theorem requestedWish_none {c : WorkingConfig} {x : Bay}
    (none : (∃ y : Battery, x.view.battery = some y ∧ y.fault = true) ∨ x.view.request = none) : requestedWish c x = 0 := by
  unfold requestedWish
  rcases none with ⟨y, battery, fault⟩ | none
  · simp [battery, fault]
  · rw [none]
    exact ite_self 0

theorem requestedWish_some {c : WorkingConfig} {x : Bay} {r : ChargeRequest}
    (sound : ¬ ∃ y : Battery, x.view.battery = some y ∧ y.fault = true) (request : x.view.request = some r) :
    requestedWish c x = raiseWish x.charge.voltage (min c.bayMax r.power) := by
  unfold requestedWish
  rw [request, if_neg]
  rintro faulty
  cases battery : x.view.battery with
  | none => simp [battery] at faulty
  | some y => exact sound ⟨y, battery, by simpa [battery] using faulty⟩

/-- R64: the effect of a wish computed afresh. -/
theorem refreshWish_st : (refreshWish b w).st =
    { w.st.modCharge b (fun c => { c with wish := w.st.wishOf b, cls := w.st.classOf b }) with
      shu := { w.st.shu with
        need := if w.st.wishOf b = (w.st.bay b).charge.wish then w.st.shu.need
          else (w.st.modCharge b fun c => { c with wish := w.st.wishOf b, cls := w.st.classOf b }).needOf } } := by
  simp only [refreshWish, Work.raiseIf_st]
  split
  · rfl
  · simp only [presentNeed, Work.raiseIf_st, Work.upd_st]
    rfl

/-- R64 to R66: a wish computed afresh starts a split where wish or class changed. -/
theorem refreshWish_split : Notice.split ∈ (refreshWish b (startWork s)).todo ↔
    s.wishOf b ≠ (s.bay b).charge.wish ∨ s.classOf b ≠ (s.bay b).charge.cls := by
  have quiet : Notice.split ∉ (if s.wishOf b = (s.bay b).charge.wish then
      (startWork s).upd fun s' => s'.modCharge b fun c => { c with wish := s.wishOf b, cls := s.classOf b }
      else presentNeed ((startWork s).upd fun s' =>
          s'.modCharge b fun c => { c with wish := s.wishOf b, cls := s.classOf b }).st.needOf
        ((startWork s).upd fun s' => s'.modCharge b fun c => { c with wish := s.wishOf b, cls := s.classOf b })).todo := by
    split
    · simp [startWork]
    · simp only [presentNeed, Work.raiseIf]
      split <;> simp [startWork]
  have told : ∀ (u : Work) (c : Bool), Notice.split ∉ u.todo → (Notice.split ∈ (u.raiseIf c .split).todo ↔ c = true) := by
    intro u c not
    cases c <;> simp [Work.raiseIf, not]
  refine (told _ _ quiet).trans ?_
  simp [startWork]

theorem classOf_working (works : s.laneWorking b = true) : s.classOf b = 0 := by
  simp only [State.classOf, works, if_true]

/-- R65: the class of a bay with no lane machine at work. -/
theorem classOf_idle (rests : s.laneWorking b = false) : s.classOf b =
    if (s.bay b).view.battery.any (fun x => decide (x.soc < s.cfl.config.socLow)) || (s.bay b).attrs.reserved then 1
    else if (s.bay b).charge.state != .unmanaged &&
        (s.bay b).view.battery.any (fun x => decide (90 ≤ x.soc) || (s.bay b).charge.state == .maintain) then 3
    else 2 := by
  simp only [State.classOf, rests, Bool.false_eq_true, if_false]

end

end Sys2Proof.Machine
end

section
/-! The fairness of a split (R67, R68): what each pass gives a bay, and how the gains of two bays compare. -/

namespace Sys2Proof.Machine

/-! ### The first pass -/

/-- R67: the offer of the first pass, by what has been given before it. -/
theorem firstPass_at (bayMin rem : Nat) (xs : List SplitBay) : ∀ (i : Nat) (u : SplitBay),
    (firstPass bayMin rem xs).2[i]? = some u →
    u.grant = if min u.wish bayMin + (((firstPass bayMin rem xs).2.map fun x => x.grant).take i).sum ≤ rem then
      min u.wish bayMin else 0 := by
  induction xs generalizing rem with
  | nil => intro i u none; simp [firstPass] at none
  | cons x xs ih =>
    intro i u at_i
    rw [firstPass_cons] at at_i ⊢
    dsimp only at at_i ⊢
    cases i with
    | zero =>
      simp only [List.getElem?_cons_zero, Option.some.injEq] at at_i
      subst at_i
      simp
    | succ i =>
      rw [List.getElem?_cons_succ] at at_i
      rw [ih _ i u at_i]
      have least : (if min x.wish bayMin ≤ rem then min x.wish bayMin else 0) ≤ rem := by split <;> omega
      simp only [List.map_cons, List.take_succ_cons, List.sum_cons]
      congr 1
      exact propext ⟨fun _ => by omega, fun _ => by omega⟩

/-- The first pass leaves the order of the classes. -/
theorem sorted_of_keys {xs ys : List SplitBay} (same : xs.map SplitBay.key = ys.map SplitBay.key)
    (sorted : ys.Pairwise fun x y => x.cls ≤ y.cls) : xs.Pairwise fun x y => x.cls ≤ y.cls := by
  have by_key : ∀ zs : List SplitBay, (zs.Pairwise fun x y => x.cls ≤ y.cls) ↔
      (zs.map SplitBay.key).Pairwise fun x y => x.2.1 ≤ y.2.1 := fun zs => (List.pairwise_map (f := SplitBay.key) (R := fun x y : BayIx × Nat × Nat => x.2.1 ≤ y.2.1)).symm
  rw [by_key, same, ← by_key]
  exact sorted

theorem splitOrder_sorted (bays : List SplitBay) : (splitOrder bays).Pairwise fun x y => x.cls ≤ y.cls := by
  rw [splitOrder, List.pairwise_flatMap]
  refine ⟨fun k _ => List.pairwise_of_forall_mem_list fun x x_in y y_in => ?_, ?_⟩
  · rw [List.mem_filter, beq_iff_eq] at x_in y_in
    omega
  · have apart : ([0, 1, 2, 3] : List Nat).Pairwise (· ≤ ·) := by decide
    refine apart.imp fun less x x_in y y_in => ?_
    rw [List.mem_filter, beq_iff_eq] at x_in y_in
    omega

/-- A list in the order of its classes is its classes one after another. -/
theorem classes_of_sorted {xs : List SplitBay} (sorted : xs.Pairwise fun x y => x.cls ≤ y.cls) (few : ∀ x ∈ xs, x.cls ≤ 3) :
    ([0, 1, 2, 3].flatMap fun k => xs.filter fun x => x.cls == k) = xs := by
  induction xs with
  | nil => rfl
  | cons x xs ih =>
    obtain ⟨least, rest⟩ := List.pairwise_cons.1 sorted
    have own := few x (List.mem_cons_self ..)
    have later := ih rest fun y among => few y (List.mem_cons_of_mem _ among)
    have none : ∀ k < x.cls, (xs.filter fun y => y.cls == k) = [] := fun k below => by
      rw [List.filter_eq_nil_iff]
      intro y among
      have := least y among
      simp only [beq_iff_eq]
      omega
    simp only [List.flatMap_cons, List.flatMap_nil, List.append_nil] at later ⊢
    obtain its | its | its | its : x.cls = 0 ∨ x.cls = 1 ∨ x.cls = 2 ∨ x.cls = 3 := by omega
    all_goals
      rw [its] at none
      simp [its, none] at later ⊢
      exact later

/-! ### The second pass -/

/-- A bay before and after the second pass. -/
abbrev Given := SplitBay × SplitBay

/-- What the second pass gives a bay. -/
def gain (p : Given) : Nat := p.2.grant - p.1.grant

/-- R68: a bay with a grant that stays below its wish. -/
def staysShort (p : Given) : Prop := 0 < p.1.grant ∧ p.2.grant < p.1.wish

/-- R68: how the gains of two bays of one class compare, the first before the second. -/
def fairIn (p q : Given) : Prop := (staysShort p → gain q ≤ gain p) ∧ (staysShort q → gain p ≤ gain q + 1)

/-- R68: how the gains of two bays compare, the first before the second. -/
def fair (p q : Given) : Prop :=
  p.1.cls ≤ q.1.cls ∧ (p.1.cls < q.1.cls → staysShort p → gain q = 0) ∧ (p.1.cls = q.1.cls → fairIn p q)

theorem openBay_of_staysShort {p : Given} (raised : p.1.Raised p.2) (short : staysShort p) : openBay p.1 = true := by
  have up := raised.up
  exact openBay_iff.2 ⟨short.1.ne', by have := short.2; omega⟩

/-- R68: the gains of a level. -/
theorem giveLevel_fair (t left : Nat) (xs : List SplitBay) :
    (∀ p ∈ xs.zip (giveLevel t left xs), gain p ≤ t + min left 1 ∧ (staysShort p → t ≤ gain p)) ∧
      (xs.zip (giveLevel t left xs)).Pairwise fairIn := by
  induction xs generalizing left with
  | nil => simp
  | cons x xs ih =>
    rw [giveLevel_cons]
    cases isOpen : openBay x
    · obtain ⟨bounds, pairs⟩ := ih left
      have idle : ¬ staysShort (x, x) := fun short => by
        have := openBay_of_staysShort (p := (x, x)) (.refl x) short
        simp [isOpen] at this
      have none : gain (x, x) = 0 := Nat.sub_self _
      simp only [Bool.false_eq_true, if_false, List.zip_cons_cons, List.pairwise_cons, List.mem_cons, forall_eq_or_imp]
      exact ⟨⟨⟨by omega, fun short => absurd short idle⟩, bounds⟩,
        fun q among => ⟨fun short => absurd short idle, fun _ => by omega⟩, pairs⟩
    · have less := (openBay_iff.1 isOpen).2
      by_cases lacks : t < x.wish - x.grant
      · obtain ⟨bounds, pairs⟩ := ih (left - 1)
        have its : gain (x, { x with grant := x.grant + t + min left 1 }) = t + min left 1 := by
          simp only [gain]
          omega
        simp only [lacks, if_true, List.zip_cons_cons, List.pairwise_cons, List.mem_cons, forall_eq_or_imp, its]
        refine ⟨⟨⟨le_rfl, fun _ => by omega⟩, fun q among => ?_⟩, fun q among => ⟨fun _ => ?_, fun short => ?_⟩, pairs⟩
        all_goals obtain ⟨most, least⟩ := bounds q among
        · exact ⟨by omega, least⟩
        · omega
        · have := least short
          omega
      · obtain ⟨bounds, pairs⟩ := ih left
        have filled : ¬ staysShort (x, { x with grant := x.wish }) := fun short => lt_irrefl _ short.2
        have its : gain (x, { x with grant := x.wish }) = x.wish - x.grant := rfl
        simp only [lacks, if_true, if_false, List.zip_cons_cons, List.pairwise_cons, List.mem_cons, forall_eq_or_imp, its]
        refine ⟨⟨⟨by omega, fun short => absurd short filled⟩, bounds⟩,
          fun q among => ⟨fun short => absurd short filled, fun short => ?_⟩, pairs⟩
        have := (bounds q among).2 short
        omega

/-- R68: a class leaves nothing while a bay stays short, and its gains are fair. -/
theorem classPass_fair (rem : Nat) (xs : List SplitBay) :
    ((∃ p ∈ xs.zip (classPass rem xs).2, staysShort p) → (classPass rem xs).1 = 0) ∧
      (xs.zip (classPass rem xs).2).Pairwise fairIn := by
  unfold classPass
  split
  · have filled : ∀ p ∈ xs.zip (xs.map fun x => if openBay x then { x with grant := x.wish } else x), ¬ staysShort p := by
      rintro ⟨x, y⟩ among short
      have its : y = if openBay x then { x with grant := x.wish } else x :=
        List.forall₂_zip (R := fun x y => y = if openBay x then { x with grant := x.wish } else x)
          (List.forall₂_map_right_iff.2 (List.forall₂_same.2 fun _ _ => rfl)) among
      obtain ⟨some, below⟩ := short
      dsimp only at some below
      rw [its] at below
      by_cases isOpen : openBay x = true
      · rw [if_pos isOpen] at below
        exact lt_irrefl _ below
      · rw [if_neg isOpen] at below
        exact isOpen (openBay_iff.2 ⟨some.ne', below⟩)
    exact ⟨fun ⟨p, among, short⟩ => absurd short (filled p among),
      List.pairwise_of_forall_mem_list fun p p_in q q_in =>
        ⟨fun short => absurd short (filled p p_in), fun short => absurd short (filled q q_in)⟩⟩
  · exact ⟨fun _ => rfl, (giveLevel_fair ..).2⟩

theorem grantsOf_raised {xs ys : List SplitBay} (raised : List.Forall₂ SplitBay.Raised xs ys) : grantsOf xs ≤ grantsOf ys := by
  induction raised with
  | nil => exact le_rfl
  | cons raise _ ih =>
    have := raise.up
    simp only [grantsOf_cons]
    omega

/-- Raises that give nothing together give nothing to any bay. -/
theorem gain_of_sum {xs ys : List SplitBay} (raised : List.Forall₂ SplitBay.Raised xs ys) (least : grantsOf ys ≤ grantsOf xs) :
    ∀ p ∈ xs.zip ys, gain p = 0 := by
  induction raised with
  | nil => simp
  | cons raise rest ih =>
    have here := raise.up
    have later := grantsOf_raised rest
    simp only [grantsOf_cons] at least
    rw [List.zip_cons_cons]
    intro p among
    rcases List.mem_cons.1 among with rfl | among
    · simp only [gain]
      omega
    · exact ih (by omega) p among

/-- The classes of a list, one after another. -/
def classesOf (ks : List Nat) (xs : List SplitBay) : List SplitBay := ks.flatMap fun k => xs.filter fun x => x.cls == k

theorem mem_classesOf {ks : List Nat} {xs : List SplitBay} {x : SplitBay} (among : x ∈ classesOf ks xs) : x.cls ∈ ks := by
  obtain ⟨k, k_in, here⟩ := List.mem_flatMap.1 among
  rw [List.mem_filter, beq_iff_eq] at here
  exact here.2 ▸ k_in

theorem secondPass_forall₂ (ks : List Nat) (rem : Nat) (xs : List SplitBay) :
    List.Forall₂ SplitBay.Raised (classesOf ks xs) (secondPass ks rem xs) := by
  induction ks generalizing rem with
  | nil => exact .nil
  | cons k ks ih => exact List.rel_append (classPass_raised ..) (ih _)

theorem mem_left_of_zip {xs ys : List SplitBay} {p : Given} (among : p ∈ xs.zip ys) : p.1 ∈ xs :=
  (List.of_mem_zip among).1

/-- R68: the second pass is fair, and gives all there is while a bay stays short. -/
theorem secondPass_fair (ks : List Nat) (order : ks.Pairwise (· < ·)) (rem : Nat) (xs : List SplitBay) :
    ((classesOf ks xs).zip (secondPass ks rem xs)).Pairwise fair ∧
      ((∃ p ∈ (classesOf ks xs).zip (secondPass ks rem xs), staysShort p) →
        grantsOf (secondPass ks rem xs) = rem + grantsOf (classesOf ks xs)) := by
  induction ks generalizing rem with
  | nil => simp [classesOf]
  | cons k ks ih =>
    obtain ⟨below, order⟩ := List.pairwise_cons.1 order
    let own := xs.filter fun x => x.cls == k
    have at_k : ∀ x ∈ own, x.cls = k := fun x among => by simpa using (List.mem_filter.1 among).2
    have raised := classPass_raised rem own
    obtain ⟨left, pairs⟩ := classPass_fair rem own
    have sum := classPass_sum rem own
    obtain ⟨later, all⟩ := ih order (classPass rem own).1
    have rest := secondPass_forall₂ ks (classPass rem own).1 xs
    have most : grantsOf (secondPass ks (classPass rem own).1 xs) ≤ (classPass rem own).1 + grantsOf (classesOf ks xs) :=
      secondPass_sum ks (classPass rem own).1 xs
    have zipped : (classesOf (k :: ks) xs).zip (secondPass (k :: ks) rem xs) =
        own.zip (classPass rem own).2 ++ (classesOf ks xs).zip (secondPass ks (classPass rem own).1 xs) :=
      List.zip_append raised.length_eq
    have split : classesOf (k :: ks) xs = own ++ classesOf ks xs := rfl
    have given : secondPass (k :: ks) rem xs = (classPass rem own).2 ++ secondPass ks (classPass rem own).1 xs := rfl
    rw [zipped, given, split, grantsOf_append, grantsOf_append]
    refine ⟨List.pairwise_append.2 ⟨?_, later, fun p p_in q q_in => ?_⟩, ?_⟩
    · refine pairs.imp_of_mem fun {p q} p_in q_in both => ?_
      have same : p.1.cls = q.1.cls := (at_k _ (mem_left_of_zip p_in)).trans (at_k _ (mem_left_of_zip q_in)).symm
      exact ⟨same.le, fun less => absurd same less.ne, fun _ => both⟩
    · have p_cls := at_k _ (mem_left_of_zip p_in)
      have less := below _ (mem_classesOf (mem_left_of_zip q_in))
      refine ⟨by omega, fun _ short => ?_, fun same => by omega⟩
      have none := left ⟨p, p_in, short⟩
      rw [none] at most rest q_in
      exact gain_of_sum rest (by simpa using most) q q_in
    · rintro ⟨p, among, short⟩
      rcases List.mem_append.1 among with here | there
      · have none := left ⟨p, here, short⟩
        rw [none] at most rest sum ⊢
        have least := grantsOf_raised rest
        omega
      · have := all ⟨p, there, short⟩
        omega

/-! ### The whole split -/

section
variable {allowance bayMin : Nat} {bays : List SplitBay}

/-- The first pass of a split. -/
def offered (allowance bayMin : Nat) (bays : List SplitBay) : List SplitBay :=
  (firstPass bayMin allowance (splitOrder bays)).2

theorem classesOf_offered (few : ∀ x ∈ bays, x.cls ≤ 3) :
    classesOf [0, 1, 2, 3] (offered allowance bayMin bays) = offered allowance bayMin bays := by
  have keys : (offered allowance bayMin bays).map SplitBay.key = (splitOrder bays).map SplitBay.key := firstPass_keys ..
  refine classes_of_sorted (sorted_of_keys keys (splitOrder_sorted bays)) fun x among => ?_
  have its := List.mem_map_of_mem (f := SplitBay.key) among
  rw [keys] at its
  obtain ⟨y, y_in, same⟩ := List.mem_map.1 its
  have cls : y.cls = x.cls := congrArg (·.2.1) same
  exact cls ▸ few y (mem_splitOrder y_in)

/-- R67, R68: a split raises what the first pass offered, and is fair. -/
theorem splitGrants_fair (few : ∀ x ∈ bays, x.cls ≤ 3) :
    List.Forall₂ SplitBay.Raised (offered allowance bayMin bays) (splitGrants allowance bayMin bays) ∧
      ((offered allowance bayMin bays).zip (splitGrants allowance bayMin bays)).Pairwise fair ∧
      ((∃ p ∈ (offered allowance bayMin bays).zip (splitGrants allowance bayMin bays), staysShort p) →
        grantsOf (splitGrants allowance bayMin bays) = allowance) := by
  have sum := firstPass_sum bayMin allowance (splitOrder bays)
  have raised := secondPass_forall₂ [0, 1, 2, 3] (firstPass bayMin allowance (splitOrder bays)).1
    (offered allowance bayMin bays)
  obtain ⟨pairs, all⟩ := secondPass_fair [0, 1, 2, 3] (by decide) (firstPass bayMin allowance (splitOrder bays)).1
    (offered allowance bayMin bays)
  rw [classesOf_offered few] at raised pairs all
  exact ⟨raised, pairs, fun short => (all short).trans sum⟩

end

end Sys2Proof.Machine
end

section
/-! A split applied to the bays (R63, R66, R69, R70). -/

namespace Sys2Proof.Machine

/-- Nothing but the need and the bays has changed. -/
def Spares (s t : State) : Prop := t = { s with shu := { s.shu with need := t.shu.need }, bays := t.bays }

/-- An operation of the BCC at one bay. -/
structure Tunes (b : BayIx) (s t : State) : Prop where
  spares : Spares s t
  others : ∀ c, c ≠ b → t.bay c = s.bay c
  own : t.bay b = { s.bay b with charge := (t.bay b).charge, channel := (t.bay b).channel }

/-- Operations of the BCC at other bays. -/
def Aside (b : BayIx) (s t : State) : Prop := Spares s t ∧ t.bay b = s.bay b

section
variable {r s t : State} {b c : BayIx} {w : Work}

theorem Spares.refl (s : State) : Spares s s := rfl

theorem Spares.trans (h : Spares r s) (h' : Spares s t) : Spares r t := by
  unfold Spares at h h' ⊢
  rw [h] at h'
  exact h'

theorem Aside.refl (b : BayIx) (s : State) : Aside b s s := ⟨.refl s, rfl⟩

theorem Aside.trans (h : Aside b r s) (h' : Aside b s t) : Aside b r t := ⟨h.1.trans h'.1, h'.2.trans h.2⟩

theorem Tunes.refl (b : BayIx) (s : State) : Tunes b s s := ⟨.refl s, fun _ _ => rfl, rfl⟩

theorem Tunes.trans (h : Tunes b r s) (h' : Tunes b s t) : Tunes b r t where
  spares := h.spares.trans h'.spares
  others c apart := (h'.others c apart).trans (h.others c apart)
  own := by
    have own := h'.own
    rw [h.own] at own
    exact own

theorem Tunes.aside (h : Tunes b s t) (apart : c ≠ b) : Aside c s t := ⟨h.spares, h.others c apart⟩

theorem Tunes.of_modCharge (f : Charge → Charge) : Tunes b s (s.modCharge b f) where
  spares := rfl
  others c apart := State.bay_modBay_other _ apart _
  own := by rw [State.modCharge, State.bay_modBay_same]

theorem Tunes.of_modChannel (f : Channel → Channel) : Tunes b s (s.modChannel b f) where
  spares := rfl
  others c apart := State.bay_modBay_other _ apart _
  own := by rw [State.modChannel, State.bay_modBay_same]

theorem Tunes.modCharge (h : Tunes b s w.st) (f : State → Charge → Charge) :
    Tunes b s (w.upd fun u => u.modCharge b (f u)).st := h.trans (.of_modCharge _)

/-! ### The operations of a split -/

theorem requestWrite_tunes (x : DockWrite) : Tunes b w.st (requestWrite b x w).st := by
  simp only [requestWrite]
  split
  · exact .refl b _
  · split
    · rw [Work.raise_st, Work.upd_st]
      exact .of_modChannel _
    · split
      · rw [Work.raise_st, Work.upd_st]
        exact .of_modChannel _
      · rw [Work.upd_st]
        exact .of_modChannel _

theorem requestLimit_tunes : Tunes b w.st (requestLimit b w).st := by
  simp only [requestLimit]
  split <;> [exact requestWrite_tunes _; exact .refl b _]

/-- R70: the CHARGE_LIMIT write of a bay. -/
theorem requestLimit_channel : ((requestLimit b w).st.bay b).channel =
    if (w.st.bay b).channel.state = .active ∧ (w.st.bay b).charge.state ≠ .unmanaged then
      { (w.st.bay b).channel with chargeLimit := some (w.st.bay b).charge.grant }
    else (w.st.bay b).channel := by
  simp only [requestLimit, Bool.and_eq_true, beq_iff_eq, bne_iff_ne]
  split
  · next ready =>
    have run : (requestWrite b (.chargeLimit (w.st.bay b).charge.grant) w).st =
        w.st.modChannel b fun c => addPending c (.chargeLimit (w.st.bay b).charge.grant) := by
      simp only [requestWrite, ready.1, bne_self_eq_false, Bool.false_eq_true, if_false, writeSupported, Bool.not_true]
      split <;> simp only [Work.raise_st, Work.upd_st]
    rw [run, State.channel_modChannel, if_pos rfl]
    rfl
  · rfl

theorem setGrant_tunes (g : Nat) : Tunes b w.st (setGrant b g w).st := by
  have given : Tunes b w.st (w.upd fun s => s.modCharge b (withGrant g)).st := .of_modCharge _
  simp only [setGrant]
  split <;> [exact given; exact given.trans requestLimit_tunes]

theorem setGrant_channel {g : Nat} (other : (w.st.bay b).charge.grant ≠ g) : ((setGrant b g w).st.bay b).channel =
    if (w.st.bay b).channel.state = .active ∧ (w.st.bay b).charge.state ≠ .unmanaged then
      { (w.st.bay b).channel with chargeLimit := some g }
    else (w.st.bay b).channel := by
  simp only [setGrant, if_neg other, requestLimit_channel]
  simp [withGrant]

theorem takeVoltage_tunes : Tunes b w.st (takeVoltage b w).st := by
  simp only [takeVoltage]
  split
  · rw [Work.raise_st, Work.upd_st]
    exact .of_modCharge _
  · exact .refl b _

theorem takeVoltage_channel : ((takeVoltage b w).st.bay b).channel = (w.st.bay b).channel := by
  simp only [takeVoltage]
  split <;> simp

theorem refreshWish_tunes : Tunes b w.st (refreshWish b w).st := by
  rw [refreshWish_st]
  exact (Tunes.of_modCharge (b := b) (s := w.st) _).trans ⟨rfl, fun _ _ => rfl, rfl⟩

theorem moveCharge_tunes (st : ChargeState) : Tunes b w.st (moveCharge b st w).st := by
  simp only [moveCharge]
  split
  · exact .refl b _
  · simp only [Work.raiseIf_st, Work.raise_st, Work.upd_st]
    exact .of_modCharge _

theorem heldMoves_tunes : Tunes b w.st (heldMoves b w).st := by
  simp only [heldMoves]
  split
  · split <;> [exact moveCharge_tunes _; exact .refl b _]
  · split <;> [exact moveCharge_tunes _; exact .refl b _]
  all_goals exact .refl b _

theorem heldMoves_channel : ((heldMoves b w).st.bay b).channel = (w.st.bay b).channel := by
  simp only [heldMoves]
  split
  · split <;> [exact moveCharge_channel _; rfl]
  · split <;> [exact moveCharge_channel _; rfl]
  all_goals rfl

theorem enterThermal_tunes : Tunes b w.st (enterThermal b w).st := by
  have moved : Tunes b w.st (moveCharge b .thermal w).st := moveCharge_tunes _
  have emptied := moved.modCharge fun _ => withGrant 0
  unfold enterThermal
  rw [Work.raise_st]
  exact (emptied.trans requestLimit_tunes).trans refreshWish_tunes

theorem managedMoves_tunes : Tunes b w.st (managedMoves b w).st := by
  simp only [managedMoves]
  split
  · exact .refl b _
  · split
    · exact enterThermal_tunes
    · refine Tunes.trans (Tunes.trans ?_ refreshWish_tunes) heldMoves_tunes
      split
      · exact .refl b _
      · split
        · split <;> [exact .refl b _; exact moveCharge_tunes _]
        · split <;> [exact moveCharge_tunes _; exact .refl b _]

theorem payLimit_tunes : Tunes b w.st (payLimit b w).st := by
  simp only [payLimit]
  split
  · have paid : Tunes b w.st (w.upd fun s => s.modCharge b fun c => { c with limitOwed := false }).st := by
      rw [Work.upd_st]
      exact .of_modCharge _
    exact paid.trans requestLimit_tunes
  · exact .refl b _

theorem lowerBay_tunes (g : Nat) : Tunes b w.st (lowerBay b g w).st := by
  simp only [lowerBay]
  split
  · split
    · exact ((setGrant_tunes g).trans takeVoltage_tunes).trans refreshWish_tunes
    · exact setGrant_tunes g
  · exact .refl b _

theorem raiseBay_tunes (g : Nat) : Tunes b w.st (raiseBay b g w).st := by
  simp only [raiseBay]
  split <;> [exact setGrant_tunes g; exact .refl b _]

/-! ### Passes over bays -/

section
variable {ι : Type} {key : ι → BayIx} {f : ι → Work → Work} {xs : List ι}

theorem pass_spares (tunes : ∀ x w, Tunes (key x) w.st (f x w).st) (xs : List ι) (w : Work) :
    Spares w.st (forEach xs f w).st := by
  induction xs generalizing w with
  | nil => exact .refl _
  | cons x xs ih => exact (tunes x w).spares.trans (ih (f x w))

/-- A pass leaves the bays that are not on its list. -/
theorem pass_apart (tunes : ∀ x w, Tunes (key x) w.st (f x w).st) (apart : ∀ x ∈ xs, key x ≠ b) (w : Work) :
    Aside b w.st (forEach xs f w).st := by
  induction xs generalizing w with
  | nil => exact .refl b _
  | cons x xs ih =>
    obtain ⟨own, rest⟩ := List.forall_mem_cons.1 apart
    exact ((tunes x w).aside own.symm).trans (ih rest (f x w))

/-- A pass that comes to a bay once. -/
theorem pass_at (tunes : ∀ x w, Tunes (key x) w.st (f x w).st) {x : ι} (among : x ∈ xs) (once : (xs.map key).Nodup)
    (w : Work) : ∃ u : Work, Aside (key x) w.st u.st ∧ Aside (key x) (f x u).st (forEach xs f w).st := by
  induction xs generalizing w with
  | nil => cases among
  | cons y ys ih =>
    obtain ⟨fresh, later⟩ := List.nodup_cons.1 once
    rcases List.mem_cons.1 among with rfl | among
    · exact ⟨w, .refl _ _, pass_apart tunes (fun z z_in (same : key z = key x) => fresh (same ▸ List.mem_map_of_mem z_in)) _⟩
    · obtain ⟨u, before, after⟩ := ih among later (f y w)
      have apart : key x ≠ key y := fun same => fresh (same ▸ List.mem_map_of_mem among)
      exact ⟨u, ((tunes y w).aside apart).trans before, after⟩

end

end

end Sys2Proof.Machine
end

section
/-! What a split makes of each bay (R59, R63 to R70). -/

namespace Sys2Proof.Machine

section
variable {s t : State} {b : BayIx} {w : Work} {g : Nat}

/-! ### Wish and class where nothing they read has changed -/

theorem laneWorking_congr (pvs : t.pvs = s.pvs) : t.laneWorking b = s.laneWorking b := by
  unfold State.laneWorking
  rw [pvs]

theorem wishOf_congr (cfl : t.cfl = s.cfl) (pvs : t.pvs = s.pvs) (view : (t.bay b).view = (s.bay b).view)
    (voltage : (t.bay b).charge.voltage = (s.bay b).charge.voltage) (manages : managed (s.bay b).charge.state = true)
    (manages' : managed (t.bay b).charge.state = true) : t.wishOf b = s.wishOf b := by
  rw [wishOf_managed manages, wishOf_managed manages', laneWorking_congr pvs, cfl, voltage]
  have same : requestedWish s.cfl.config (t.bay b) = requestedWish s.cfl.config (s.bay b) := by
    unfold requestedWish
    rw [view, voltage]
  rw [same]

theorem classOf_congr (cfl : t.cfl = s.cfl) (pvs : t.pvs = s.pvs) (view : (t.bay b).view = (s.bay b).view)
    (attrs : (t.bay b).attrs = (s.bay b).attrs) (manages : managed (s.bay b).charge.state = true)
    (manages' : managed (t.bay b).charge.state = true)
    (maintain : (t.bay b).charge.state = .maintain ↔ (s.bay b).charge.state = .maintain) : t.classOf b = s.classOf b := by
  have managed_ne {st : ChargeState} (h : managed st = true) : (st != .unmanaged) = true := by
    cases st <;> first | rfl | cases h
  have same : ((t.bay b).charge.state == .maintain) = ((s.bay b).charge.state == .maintain) := by
    rw [Bool.eq_iff_iff, beq_iff_eq, beq_iff_eq]
    exact maintain
  simp only [State.classOf, laneWorking_congr pvs, cfl, view, attrs, managed_ne manages, managed_ne manages', same]

/-! ### Lowering and raising -/

/-- R69: the charge section of a bay that does not manage its tablet, lowered. -/
theorem lowerBay_charge_unmanaged (rests : managed (w.st.bay b).charge.state = false) :
    ((lowerBay b g w).st.bay b).charge =
      if g < (w.st.bay b).charge.grant then withGrant g (w.st.bay b).charge else (w.st.bay b).charge := by
  have state : ((setGrant b g w).st.bay b).charge.state = (w.st.bay b).charge.state := by
    rw [setGrant_charge, if_pos rfl]
    rfl
  simp only [lowerBay, state, rests]
  split
  · rw [if_neg (fun all => Bool.false_ne_true all.2.1), setGrant_charge, if_pos rfl]
  · rfl

/-- R63, R69: the charge section of a managed bay, lowered, but for its wish and class. -/
theorem lowerBay_charge_managed (manages : managed (w.st.bay b).charge.state = true) : ∃ wish cls,
    ((lowerBay b g w).st.bay b).charge =
      if g < (w.st.bay b).charge.grant then
        { withGrant g (w.st.bay b).charge with
          voltage := if g = 0 then requestedVoltage (w.st.bay b).view else (w.st.bay b).charge.voltage
          wish := wish, cls := cls }
      else (w.st.bay b).charge := by
  have given : ((setGrant b g w).st.bay b).charge = withGrant g (w.st.bay b).charge := by
    rw [setGrant_charge, if_pos rfl]
  have view : ((setGrant b g w).st.bay b).view = (w.st.bay b).view := by
    rw [(setGrant_tunes (b := b) g).own]
  have state : managed (withGrant g (w.st.bay b).charge).state = true := manages
  have voltage : (withGrant g (w.st.bay b).charge).voltage = (w.st.bay b).charge.voltage := rfl
  simp only [lowerBay, given, view, state, voltage, true_and]
  split
  · split
    · next takes =>
      refine ⟨(takeVoltage b (setGrant b g w)).st.wishOf b, (takeVoltage b (setGrant b g w)).st.classOf b, ?_⟩
      rw [refreshWish_charge, if_pos rfl, takeVoltage_charge, given, view, if_pos ⟨rfl, takes.1⟩, if_pos takes.1]
    · next keeps =>
      refine ⟨(w.st.bay b).charge.wish, (w.st.bay b).charge.cls, ?_⟩
      rw [given]
      by_cases none : g = 0
      · have same : requestedVoltage (w.st.bay b).view = (w.st.bay b).charge.voltage := by
          by_contra other
          exact keeps ⟨none, other⟩
        rw [if_pos none, same]
        rfl
      · rw [if_neg none]
        rfl
  · exact ⟨0, 0, rfl⟩

/-- R70: the CHARGE_LIMIT write of a bay that is lowered. -/
theorem lowerBay_channel : ((lowerBay b g w).st.bay b).channel =
    if g < (w.st.bay b).charge.grant ∧ (w.st.bay b).channel.state = .active ∧ (w.st.bay b).charge.state ≠ .unmanaged then
      { (w.st.bay b).channel with chargeLimit := some g }
    else (w.st.bay b).channel := by
  simp only [lowerBay]
  split
  · next lower =>
    have limit := setGrant_channel (w := w) (b := b) (g := g) (by omega)
    simp only [lower, true_and]
    split
    · rw [refreshWish_channel, takeVoltage_channel, limit]
    · exact limit
  · next high => rw [if_neg fun all => high all.1]

theorem raiseBay_channel : ((raiseBay b g w).st.bay b).channel =
    if (w.st.bay b).charge.grant < g ∧ (w.st.bay b).channel.state = .active ∧ (w.st.bay b).charge.state ≠ .unmanaged then
      { (w.st.bay b).channel with chargeLimit := some g }
    else (w.st.bay b).channel := by
  simp only [raiseBay]
  split
  · next low =>
    simp only [low, true_and]
    exact setGrant_channel (by omega)
  · next high => rw [if_neg fun all => high all.1]

/-! ### The moves and the write that is owed -/

theorem managedMoves_unmanaged (rests : managed (w.st.bay b).charge.state = false) : managedMoves b w = w := by
  simp [managedMoves, rests]

/-- R59: a managed state by wish and grant. -/
def heldState (st : ChargeState) (wish grant : Nat) : ChargeState :=
  if st = .maintain then .maintain else if wish ≠ 0 ∧ grant = 0 then .held else .charging

theorem managed_heldState (st : ChargeState) (wish grant : Nat) : managed (heldState st wish grant) = true := by
  unfold heldState
  split
  · rfl
  · split <;> rfl

theorem heldState_maintain (st : ChargeState) (wish grant : Nat) : heldState st wish grant = .maintain ↔ st = .maintain := by
  unfold heldState
  split
  · next its => simp [its]
  · next other => split <;> simp [other]

theorem Charge.moved_takesPart {st : ChargeState} (takes : takesPart st = true) (c : Charge) : c.moved st = { c with state := st } := by
  unfold Charge.moved
  rw [if_pos takes]
  split
  · next same => rw [← same]
  · rfl

/-- R59: the moves between CHARGING and HELD. -/
theorem heldMoves_charge (manages : managed (w.st.bay b).charge.state = true) : ((heldMoves b w).st.bay b).charge =
    { (w.st.bay b).charge with
      state := heldState (w.st.bay b).charge.state (w.st.bay b).charge.wish (w.st.bay b).charge.grant } := by
  have moved (st : ChargeState) (takes : takesPart st = true) :
      ((moveCharge b st w).st.bay b).charge = { (w.st.bay b).charge with state := st } := by
    rw [moveCharge_charge, if_pos rfl, Charge.moved_takesPart takes]
  have stays (same : (w.st.bay b).charge.state =
      heldState (w.st.bay b).charge.state (w.st.bay b).charge.wish (w.st.bay b).charge.grant) :
      (w.st.bay b).charge = { (w.st.bay b).charge with
        state := heldState (w.st.bay b).charge.state (w.st.bay b).charge.wish (w.st.bay b).charge.grant } := by
    rw [← same]
  unfold heldMoves
  dsimp only
  split
  · next state =>
    split
    · next held => rw [moved _ rfl, state, heldState, if_neg (by decide), if_pos held]
    · next free => exact stays (by rw [state, heldState, if_neg (by decide), if_neg free])
  · next state =>
    split
    · next free =>
      have free : ¬ ((w.st.bay b).charge.wish ≠ 0 ∧ (w.st.bay b).charge.grant = 0) := by omega
      rw [moved _ rfl, state, heldState, if_neg (by decide), if_neg free]
    · next held =>
      have held : (w.st.bay b).charge.wish ≠ 0 ∧ (w.st.bay b).charge.grant = 0 := by omega
      exact stays (by rw [state, heldState, if_neg (by decide), if_pos held])
  rotate_left 2
  · next state => exact stays (by rw [state]; rfl)
  all_goals
    next state =>
      rw [state] at manages
      cases manages

/-- R59: the moves of a managed bay whose battery is not hot, and full exactly in MAINTAIN. -/
theorem managedMoves_charge (manages : managed (w.st.bay b).charge.state = true)
    (settled : ∀ z : Battery, (w.st.bay b).view.battery = some z → z.temperature < w.st.cfl.config.tempHot ∧
      (z.full = true ∧ 95 ≤ z.soc ↔ (w.st.bay b).charge.state = .maintain)) :
    ((managedMoves b w).st.bay b).charge = { (w.st.bay b).charge with
        wish := w.st.wishOf b, cls := w.st.classOf b,
        state := heldState (w.st.bay b).charge.state (w.st.wishOf b) (w.st.bay b).charge.grant } ∧
      ((managedMoves b w).st.bay b).channel = (w.st.bay b).channel := by
  have its : managedMoves b w = heldMoves b (refreshWish b w) := by
    cases battery : (w.st.bay b).view.battery with
    | none => simp [managedMoves, manages, battery]
    | some z =>
      obtain ⟨cool, full⟩ := settled z battery
      have cold : batteryHot w.st.cfl.config z = false := by simpa [batteryHot] using cool
      by_cases maintains : (w.st.bay b).charge.state = .maintain
      · have full : batteryFull z = true := by simpa [batteryFull] using full.2 maintains
        have manages : managed .maintain = true := rfl
        simp [managedMoves, battery, cold, full, maintains, manages]
      · have part : batteryFull z = false := by
          rw [← Bool.not_eq_true, batteryFull, Bool.and_eq_true, decide_eq_true_eq]
          exact fun is => maintains (full.1 is)
        simp [managedMoves, manages, battery, cold, part, maintains]
  have fresh : ((refreshWish b w).st.bay b).charge =
      { (w.st.bay b).charge with wish := w.st.wishOf b, cls := w.st.classOf b } := by
    rw [refreshWish_charge, if_pos rfl]
  rw [its]
  refine ⟨?_, heldMoves_channel.trans refreshWish_channel⟩
  rw [heldMoves_charge (by rw [fresh]; exact manages), fresh]

/-- R70: the first write that is owed. -/
theorem payLimit_charge : ((payLimit b w).st.bay b).charge = { (w.st.bay b).charge with limitOwed := false } := by
  simp only [payLimit]
  split
  · simp
  · next paid =>
    have paid : (w.st.bay b).charge.limitOwed = false := by simpa using paid
    rw [← paid]

theorem payLimit_channel : ((payLimit b w).st.bay b).channel =
    if (w.st.bay b).charge.limitOwed = true ∧ (w.st.bay b).channel.state = .active ∧ (w.st.bay b).charge.state ≠ .unmanaged then
      { (w.st.bay b).channel with chargeLimit := some (w.st.bay b).charge.grant }
    else (w.st.bay b).channel := by
  simp only [payLimit]
  split
  · next owed =>
    rw [requestLimit_channel]
    simp [owed]
  · next paid => rw [if_neg fun all => paid all.1]

end

end Sys2Proof.Machine
end

section
/-! A split, from its passes (R64 to R70). -/

namespace Sys2Proof.Machine

section
variable {s t : State} {b : BayIx} {w : Work} {g : Nat}

/-- What the BCC reads of a state for a bay has stayed. -/
structure Kept (b : BayIx) (s t : State) : Prop where
  bay : t.bay b = s.bay b
  cfl : t.cfl = s.cfl
  pvs : t.pvs = s.pvs

theorem Spares.cfl (h : Spares s t) : t.cfl = s.cfl := (congrArg State.cfl h).trans rfl
theorem Spares.pvs (h : Spares s t) : t.pvs = s.pvs := (congrArg State.pvs h).trans rfl
theorem Aside.kept (h : Aside b s t) : Kept b s t := ⟨h.2, h.1.cfl, h.1.pvs⟩

theorem populatedBays_congr (cfl : t.cfl = s.cfl) : t.populatedBays = s.populatedBays := by
  unfold State.populatedBays
  exact congrArg (List.filter · allBays) (funext (populated_of_cfl cfl))

theorem mem_populatedBays (h : s.populated b = true) : b ∈ s.populatedBays := List.mem_filter.2 ⟨mem_allBays b, h⟩

theorem populatedBays_nodup (s : State) : s.populatedBays.Nodup := List.Nodup.filter _ (by decide)

/-! ### The passes of a split -/

/-- R59, R70: the moves of the managed bays and the writes that are owed. -/
def afterGrants (w : Work) : Work :=
  forEach (forEach w.st.populatedBays managedMoves w).st.populatedBays payLimit (forEach w.st.populatedBays managedMoves w)

theorem afterGrants_spares : Spares w.st (afterGrants w).st :=
  (pass_spares (key := id) (fun _ _ => managedMoves_tunes) _ w).trans (pass_spares (key := id) (fun _ _ => payLimit_tunes) _ _)

theorem afterGrants_unpopulated (absent : w.st.populated b = false) : (afterGrants w).st.bay b = w.st.bay b := by
  have apart {u : State} (cfl : u.cfl = w.st.cfl) : ∀ c ∈ u.populatedBays, id c ≠ b := by
    intro c among own
    have own : c = b := own
    have there : u.populated c = true := (List.mem_filter.1 among).2
    rw [populated_of_cfl cfl, own, absent] at there
    cases there
  have moved := pass_apart (key := id) (f := managedMoves) (fun _ _ => managedMoves_tunes) (apart rfl) w
  have paid := pass_apart (key := id) (f := payLimit) (fun _ _ => payLimit_tunes) (apart moved.1.cfl)
    (forEach w.st.populatedBays managedMoves w)
  exact (moved.trans paid).2

theorem afterGrants_at (there : w.st.populated b = true) : ∃ u v : Work, Kept b w.st u.st ∧
    Kept b (managedMoves b u).st v.st ∧ Kept b (payLimit b v).st (afterGrants w).st := by
  obtain ⟨u, before, after⟩ := pass_at (key := id) (f := managedMoves) (fun _ _ => managedMoves_tunes)
    (mem_populatedBays there) (by rw [List.map_id]; exact populatedBays_nodup _) w
  have cfl := (pass_spares (key := id) (f := managedMoves) (fun _ _ => managedMoves_tunes) w.st.populatedBays w).cfl
  obtain ⟨v, before', after'⟩ := pass_at (key := id) (f := payLimit) (x := b) (fun _ _ => payLimit_tunes)
    (mem_populatedBays ((populated_of_cfl cfl b).trans there)) (by rw [List.map_id]; exact populatedBays_nodup _)
    (forEach w.st.populatedBays managedMoves w)
  exact ⟨u, v, before.kept, (after.trans before').kept, after'.kept⟩

/-- R69: the lowerings of a split. -/
def lowering (xs : List (BayIx × Nat)) (w : Work) : Work := forEach xs (fun x => lowerBay x.1 x.2) w

/-- R69: the raises of a split. -/
def raising (xs : List (BayIx × Nat)) (w : Work) : Work := forEach xs (fun x => raiseBay x.1 x.2) w

/-- R66: the applied allowance. -/
def applying (w : Work) : Work := w.upd fun s => { s with bcc := { s.bcc with applied := s.shu.allowance } }

section
variable {xs : List (BayIx × Nat)}

theorem lowering_spares : Spares w.st (lowering xs w).st :=
  pass_spares (key := Prod.fst) (fun x _ => lowerBay_tunes x.2) xs w

theorem raising_spares : Spares w.st (raising xs w).st :=
  pass_spares (key := Prod.fst) (fun x _ => raiseBay_tunes x.2) xs w

theorem lowering_apart (apart : ∀ x ∈ xs, x.1 ≠ b) : (lowering xs w).st.bay b = w.st.bay b :=
  (pass_apart (key := Prod.fst) (f := fun x => lowerBay x.1 x.2) (fun x _ => lowerBay_tunes x.2) apart w).2

theorem raising_apart (apart : ∀ x ∈ xs, x.1 ≠ b) : (raising xs w).st.bay b = w.st.bay b :=
  (pass_apart (key := Prod.fst) (f := fun x => raiseBay x.1 x.2) (fun x _ => raiseBay_tunes x.2) apart w).2

theorem lowering_at (among : (b, g) ∈ xs) (once : (xs.map Prod.fst).Nodup) : ∃ u : Work, u.st.bay b = w.st.bay b ∧
    (lowering xs w).st.bay b = (lowerBay b g u).st.bay b := by
  obtain ⟨u, before, after⟩ := pass_at (key := Prod.fst) (f := fun x => lowerBay x.1 x.2)
    (fun x _ => lowerBay_tunes x.2) among once w
  exact ⟨u, before.2, after.2⟩

theorem raising_at (among : (b, g) ∈ xs) (once : (xs.map Prod.fst).Nodup) : ∃ u : Work, u.st.bay b = w.st.bay b ∧
    (raising xs w).st.bay b = (raiseBay b g u).st.bay b := by
  obtain ⟨u, before, after⟩ := pass_at (key := Prod.fst) (f := fun x => raiseBay x.1 x.2)
    (fun x _ => raiseBay_tunes x.2) among once w
  exact ⟨u, before.2, after.2⟩

end

/-- R66, R69: the grants of a split, given. -/
def grantsGiven (xs : List (BayIx × Nat)) (w : Work) : Work := raising xs (applying (lowering xs w))

theorem runSplit_eq : runSplit w = afterGrants (grantsGiven w.st.newGrants w) := rfl

section
variable {xs : List (BayIx × Nat)}

theorem grantsGiven_rest : (grantsGiven xs w).st = { w.st with
    bcc := { w.st.bcc with applied := w.st.shu.allowance }
    shu := { w.st.shu with need := (grantsGiven xs w).st.shu.need }, bays := (grantsGiven xs w).st.bays } := by
  have lowered := lowering_spares (xs := xs) (w := w)
  have raised := raising_spares (xs := xs) (w := applying (lowering xs w))
  unfold Spares at lowered raised
  rw [applying, Work.upd_st, lowered] at raised
  exact raised

theorem grantsGiven_apart (apart : ∀ x ∈ xs, x.1 ≠ b) : (grantsGiven xs w).st.bay b = w.st.bay b :=
  (raising_apart (w := applying (lowering xs w)) apart).trans (lowering_apart (w := w) apart)

theorem grantsGiven_at (among : (b, g) ∈ xs) (once : (xs.map Prod.fst).Nodup) : ∃ u v : Work, u.st.bay b = w.st.bay b ∧
    v.st.bay b = (lowerBay b g u).st.bay b ∧ (grantsGiven xs w).st.bay b = (raiseBay b g v).st.bay b := by
  obtain ⟨u, before, after⟩ := lowering_at (w := w) among once
  obtain ⟨v, before', after'⟩ := raising_at (w := applying (lowering xs w)) among once
  exact ⟨u, v, before, before'.trans after, after'⟩

end

/-! ### A bay after a split -/

/-- R70: a channel with the CHARGE_LIMIT write of a grant, where it is asked for. -/
def limited (x : Bay) (g : Nat) (asked : Bool) : Channel :=
  if x.channel.state = .active ∧ asked = true then { x.channel with chargeLimit := some g } else x.channel

theorem afterGrants_resting (there : w.st.populated b = true) (rests : managed (w.st.bay b).charge.state = false) :
    (afterGrants w).st.bay b = { w.st.bay b with
      charge := { (w.st.bay b).charge with limitOwed := false }
      channel := if (w.st.bay b).charge.state = .unmanaged then (w.st.bay b).channel
        else limited (w.st.bay b) (w.st.bay b).charge.grant (w.st.bay b).charge.limitOwed } := by
  obtain ⟨u, v, before, between, after⟩ := afterGrants_at there
  have moved : v.st.bay b = w.st.bay b := by
    rw [between.bay, managedMoves_unmanaged (by rw [before.bay]; exact rests), before.bay]
  rw [after.bay, payLimit_tunes.own, payLimit_charge, payLimit_channel, moved]
  unfold limited
  by_cases un : (w.st.bay b).charge.state = .unmanaged <;> simp [un, and_comm]

/-- The state of a managed bay before the moves of a split. -/
theorem afterGrants_managed (there : w.st.populated b = true) (manages : managed (w.st.bay b).charge.state = true)
    (settled : ∀ z : Battery, (w.st.bay b).view.battery = some z → z.temperature < w.st.cfl.config.tempHot ∧
      (z.full = true ∧ 95 ≤ z.soc ↔ (w.st.bay b).charge.state = .maintain)) :
    (afterGrants w).st.bay b = { w.st.bay b with
      charge := { (w.st.bay b).charge with
        limitOwed := false, wish := (afterGrants w).st.wishOf b, cls := (afterGrants w).st.classOf b
        state := heldState (w.st.bay b).charge.state ((afterGrants w).st.wishOf b) (w.st.bay b).charge.grant }
      channel := limited (w.st.bay b) (w.st.bay b).charge.grant (w.st.bay b).charge.limitOwed } := by
  obtain ⟨u, v, before, between, after⟩ := afterGrants_at there
  obtain ⟨charge, channel⟩ := managedMoves_charge (w := u) (b := b) (by rw [before.bay]; exact manages)
    (by rw [before.bay, before.cfl]; exact settled)
  have moved := managedMoves_tunes (b := b) (w := u)
  have held := managed_heldState (w.st.bay b).charge.state (u.st.wishOf b) (w.st.bay b).charge.grant
  have vb : v.st.bay b = { w.st.bay b with charge := { (w.st.bay b).charge with
      wish := u.st.wishOf b, cls := u.st.classOf b
      state := heldState (w.st.bay b).charge.state (u.st.wishOf b) (w.st.bay b).charge.grant } } := by
    rw [between.bay, moved.own, charge, channel, before.bay]
  have last : (afterGrants w).st.bay b = { w.st.bay b with
      charge := { (w.st.bay b).charge with
        limitOwed := false, wish := u.st.wishOf b, cls := u.st.classOf b
        state := heldState (w.st.bay b).charge.state (u.st.wishOf b) (w.st.bay b).charge.grant }
      channel := limited (w.st.bay b) (w.st.bay b).charge.grant (w.st.bay b).charge.limitOwed } := by
    rw [after.bay, payLimit_tunes.own, payLimit_charge, payLimit_channel, vb]
    have other : heldState (w.st.bay b).charge.state (u.st.wishOf b) (w.st.bay b).charge.grant ≠ .unmanaged := fun its => by
      rw [its] at held
      cases held
    simp [limited, other, and_comm]
  have cfl : (afterGrants w).st.cfl = u.st.cfl := afterGrants_spares.cfl.trans before.cfl.symm
  have pvs : (afterGrants w).st.pvs = u.st.pvs := afterGrants_spares.pvs.trans before.pvs.symm
  have view : ((afterGrants w).st.bay b).view = (u.st.bay b).view := by rw [last, before.bay]
  have attrs : ((afterGrants w).st.bay b).attrs = (u.st.bay b).attrs := by rw [last, before.bay]
  have voltage : ((afterGrants w).st.bay b).charge.voltage = (u.st.bay b).charge.voltage := by rw [last, before.bay]
  have state : ((afterGrants w).st.bay b).charge.state =
      heldState (w.st.bay b).charge.state (u.st.wishOf b) (w.st.bay b).charge.grant := by rw [last]
  have manages_u : managed (u.st.bay b).charge.state = true := before.bay ▸ manages
  have manages_t : managed ((afterGrants w).st.bay b).charge.state = true := state ▸ held
  have wish := wishOf_congr cfl pvs view voltage manages_u manages_t
  have cls := classOf_congr cfl pvs view attrs manages_u manages_t
    (by rw [state, heldState_maintain, before.bay])
  rw [wish, cls]
  exact last

end

end Sys2Proof.Machine
end

section
/-! The wishes, the grants of a split, and the split applied (R63 to R70). -/

namespace Sys2Proof.Machine

section
variable {s : State} {b : BayIx} {w : Work} {g : Nat} {xs : List (BayIx × Nat)}

/-! ### What a split leaves of every bay -/

/-- No bay has changed but in its charge section and its channel. -/
def Forms (s t : State) : Prop :=
  ∀ c, t.bay c = { s.bay c with charge := (t.bay c).charge, channel := (t.bay c).channel }

theorem Forms.trans {r s t : State} (h : Forms r s) (h' : Forms s t) : Forms r t := fun c => by
  have own := h' c
  rw [h c] at own
  exact own

theorem Tunes.forms {t : State} (h : Tunes b s t) : Forms s t := fun c => by
  by_cases own : c = b
  · exact own ▸ h.own
  · rw [h.others c own]

theorem pass_forms {ι : Type} {key : ι → BayIx} {f : ι → Work → Work} (tunes : ∀ x w, Tunes (key x) w.st (f x w).st)
    (ys : List ι) (w : Work) : Forms w.st (forEach ys f w).st := by
  induction ys generalizing w with
  | nil => exact fun _ => rfl
  | cons y ys ih => exact (tunes y w).forms.trans (ih (f y w))

theorem afterGrants_forms : Forms w.st (afterGrants w).st :=
  (pass_forms (key := id) (fun _ _ => managedMoves_tunes) _ w).trans (pass_forms (key := id) (fun _ _ => payLimit_tunes) _ _)

theorem grantsGiven_forms : Forms w.st (grantsGiven xs w).st := by
  have lowered : Forms w.st (lowering xs w).st := pass_forms (key := Prod.fst) (fun x _ => lowerBay_tunes x.2) xs w
  have raised : Forms (applying (lowering xs w)).st (grantsGiven xs w).st :=
    pass_forms (key := Prod.fst) (fun x _ => raiseBay_tunes x.2) xs (applying (lowering xs w))
  exact lowered.trans raised

/-! ### The new grants -/

/-- R69: the charge section of a bay with a new grant, but for what R63 and R64 then make of it. -/
def granted (g : Nat) (x : Bay) : Charge :=
  if g = x.charge.grant then x.charge
  else { withGrant g x.charge with
    voltage := if g = 0 ∧ g < x.charge.grant then requestedVoltage x.view else x.charge.voltage }

/-- R69, R70: a managed bay that a split has given its grant. -/
theorem grantsGiven_managed (among : (b, g) ∈ xs) (once : (xs.map Prod.fst).Nodup)
    (manages : managed (w.st.bay b).charge.state = true) : ∃ wish cls, (grantsGiven xs w).st.bay b = { w.st.bay b with
      charge := { granted g (w.st.bay b) with wish := wish, cls := cls }
      channel := limited (w.st.bay b) g (g != (w.st.bay b).charge.grant) } := by
  obtain ⟨u, v, before, between, after⟩ := grantsGiven_at (w := w) among once
  obtain ⟨wish, cls, charge⟩ := lowerBay_charge_managed (w := u) (g := g) (b := b) (by rw [before]; exact manages)
  have channel := lowerBay_channel (w := u) (g := g) (b := b)
  have lowered := (lowerBay_tunes (b := b) (w := u) g).own
  rw [charge, channel, before, ← between] at lowered
  have other : (w.st.bay b).charge.state ≠ .unmanaged := fun its => by
    rw [its] at manages
    cases manages
  have last := (raiseBay_tunes (b := b) (w := v) g).own
  rw [raiseBay_charge, raiseBay_channel, lowered, ← after] at last
  rw [last]
  rcases lt_trichotomy g (w.st.bay b).charge.grant with lower | same | higher
  · refine ⟨wish, cls, ?_⟩
    simp [granted, limited, withGrant, lower, lower.ne, other]
  · refine ⟨(w.st.bay b).charge.wish, (w.st.bay b).charge.cls, ?_⟩
    simp [granted, limited, same]
  · refine ⟨(w.st.bay b).charge.wish, (w.st.bay b).charge.cls, ?_⟩
    have high : ¬ g < (w.st.bay b).charge.grant := by omega
    simp [granted, limited, withGrant, high, higher, higher.ne', other]

/-- R69, R70: an UNMANAGED bay that a split has given its grant. -/
theorem grantsGiven_unmanaged (among : (b, g) ∈ xs) (once : (xs.map Prod.fst).Nodup)
    (state : (w.st.bay b).charge.state = .unmanaged) : (grantsGiven xs w).st.bay b = { w.st.bay b with
      charge := if g = (w.st.bay b).charge.grant then (w.st.bay b).charge else withGrant g (w.st.bay b).charge } := by
  obtain ⟨u, v, before, between, after⟩ := grantsGiven_at (w := w) among once
  have charge := lowerBay_charge_unmanaged (w := u) (g := g) (b := b) (by rw [before, state]; rfl)
  have channel := lowerBay_channel (w := u) (g := g) (b := b)
  have lowered := (lowerBay_tunes (b := b) (w := u) g).own
  rw [charge, channel, before, ← between] at lowered
  have last := (raiseBay_tunes (b := b) (w := v) g).own
  rw [raiseBay_charge, raiseBay_channel, lowered, ← after] at last
  rw [last]
  rcases lt_trichotomy g (w.st.bay b).charge.grant with lower | same | higher
  · simp [withGrant, lower, lower.ne, state]
  · simp [same]
  · have high : ¬ g < (w.st.bay b).charge.grant := by omega
    simp [withGrant, high, higher, higher.ne', state]

/-- R70: a write asked for twice is asked for once. -/
theorem limited_limited {x y : Bay} {p q : Bool} (channel : y.channel = limited x g p) :
    limited y g q = limited x g (q || p) := by
  unfold limited at channel ⊢
  by_cases active : x.channel.state = .active
  · cases p <;> cases q <;> simp [channel, active]
  · simp [channel, active]

/-- R67: the bays that take part in a split, by their states. -/
theorem splitBays_eq (s : State) : s.splitBays =
    (allBays.filter fun b =>
      s.populated b && decide ((s.bay b).charge.state ∈ [ChargeState.charging, .held, .maintain, .unmanaged])).map fun b =>
        { bay := b, cls := (s.bay b).charge.cls, wish := (s.bay b).charge.wish, grant := 0 } := by
  have takes (st : ChargeState) : takesPart st = decide (st ∈ [ChargeState.charging, .held, .maintain, .unmanaged]) := by
    cases st <;> rfl
  rw [State.splitBays, State.populatedBays, List.filter_filter]
  simp only [takes, Bool.and_comm]

/-- Settles O27. -/
theorem splitStaysWithinTheAllowance : Obligations.SplitStaysWithinTheAllowance := by
  refine ⟨fun s b => ?_, fun allowance bayMin bays all => ?_, fun s => ?_⟩
  · intro x c working raised faulty wishes
    have runs : s.laneWorking b = true ↔ working := laneWorking_iff
    have asked (v : Nat) (manages : managed c.state = true) (its : requestedWish s.cfl.config x = v) : wishes v := by
      have wish := wishOf_managed (s := s) (b := b) manages
      rw [its] at wish
      exact ⟨fun rests => wish.trans (if_neg (runs.not.2 rests)), fun works => wish.trans (if_pos (runs.2 works))⟩
    have manages (among : c.state ∈ [ChargeState.charging, .held, .maintain]) : managed c.state = true := by
      revert among
      cases c.state <;> decide
    refine ⟨fun resting => wishOf_resting ?_, fun unmanaged => ?_, fun among => ⟨fun none => ?_, fun r sound request => ?_⟩,
      ?_, ?_, refreshWish_split⟩
    · change takesPart c.state = false
      revert resting
      cases c.state <;> decide
    · have unmanaged : (s.bay b).charge.state = .unmanaged := unmanaged
      simp only [State.wishOf, unmanaged]
    · exact asked 0 (manages among) (requestedWish_none none)
    · exact asked _ (manages among) (requestedWish_some sound request)
    · have low_iff : ((s.bay b).view.battery.any (fun x => decide (x.soc < s.cfl.config.socLow)) ||
          (s.bay b).attrs.reserved) = true ↔
          (∃ y : Battery, x.view.battery = some y ∧ y.soc < s.cfl.config.socLow) ∨ x.attrs.reserved = true := by
        rw [Bool.or_eq_true, Option.any_eq_true]
        simp only [decide_eq_true_eq]
        rfl
      have high_iff : ((s.bay b).charge.state != .unmanaged &&
          (s.bay b).view.battery.any (fun x => decide (90 ≤ x.soc) || (s.bay b).charge.state == .maintain)) = true ↔
          c.state ≠ .unmanaged ∧ ∃ y : Battery, x.view.battery = some y ∧ (90 ≤ y.soc ∨ c.state = .maintain) := by
        rw [Bool.and_eq_true, Option.any_eq_true]
        simp only [bne_iff_ne, Bool.or_eq_true, decide_eq_true_eq, beq_iff_eq]
        rfl
      intro low high
      refine ⟨fun works => classOf_working (runs.2 works), fun rests => ?_, fun rests => ?_, fun rests => ?_⟩ <;>
        rw [classOf_idle (Bool.not_eq_true _ ▸ runs.not.2 rests)]
      · exact fun is => if_pos (low_iff.2 is)
      · exact fun not is => (if_neg (low_iff.not.2 not)).trans (if_pos (high_iff.2 is))
      · exact fun not none => (if_neg (low_iff.not.2 not)).trans (if_neg (high_iff.not.2 none))
    · rw [refreshWish_st]
      rfl
  · intro out
    obtain ⟨raised, pairs, whole⟩ := splitGrants_fair (allowance := allowance) (bayMin := bayMin) fun x among => (all x among).1
    have at_i (i : Nat) (g : Nat) (x : SplitBay)
        (first : ((offered allowance bayMin bays).map fun x => x.grant)[i]? = some g) (given : out[i]? = some x) :
        ∃ u, (offered allowance bayMin bays)[i]? = some u ∧ u.grant = g ∧ u.Raised x ∧
          ((offered allowance bayMin bays).zip out)[i]? = some (u, x) := by
      rw [List.getElem?_map, Option.map_eq_some_iff] at first
      obtain ⟨u, at_u, grant⟩ := first
      have zipped : ((offered allowance bayMin bays).zip out)[i]? = some (u, x) :=
        List.getElem?_zip_eq_some.2 ⟨at_u, given⟩
      exact ⟨u, at_u, grant, List.forall₂_zip raised (List.mem_of_getElem? zipped), zipped⟩
    refine ⟨?_, splitGrants_sum .., fun x among => splitGrants_least among, fun x among short some => ?_,
      (offered allowance bayMin bays).map fun x => x.grant, ?_, fun i g x first given => ?_,
      fun i j g h x y first_i given_i first_j given_j some short => ?_⟩
    · have keys := splitGrants_keys allowance bayMin bays
      rw [splitOrder, List.map_flatMap] at keys
      exact keys
    · obtain ⟨i, at_x⟩ := List.mem_iff_getElem?.1 among
      have long : i < (offered allowance bayMin bays).length := by
        rw [raised.length_eq]
        exact (List.getElem?_eq_some_iff.1 at_x).1
      obtain ⟨u, -, -, raise, zipped⟩ := at_i i _ x (by rw [List.getElem?_map, List.getElem?_eq_getElem long]; rfl) at_x
      have wish : x.wish = u.wish := congrArg (·.2.2) raise.key
      have up := raise.up
      refine whole ⟨(u, x), List.mem_of_getElem? zipped, ?_, wish ▸ short⟩
      by_contra none
      dsimp only at none
      have closed := raise.closed (by simp [openBay]; omega)
      omega
    · rw [List.length_map]
      exact raised.length_eq
    · obtain ⟨u, at_u, rfl, raise, -⟩ := at_i i g x first given
      have wish : x.wish = u.wish := congrArg (·.2.2) raise.key
      rw [wish]
      exact ⟨firstPass_at _ _ _ i u at_u, raise.up, fun none => raise.closed (by simp [openBay]; omega)⟩
    · obtain ⟨u, at_u, rfl, raise, zip_i⟩ := at_i i g x first_i given_i
      obtain ⟨v, at_v, rfl, raise', zip_j⟩ := at_i j h y first_j given_j
      have cls : x.cls = u.cls := congrArg (·.2.1) raise.key
      have cls' : y.cls = v.cls := congrArg (·.2.1) raise'.key
      have wish : x.wish = u.wish := congrArg (·.2.2) raise.key
      rw [cls, cls']
      have stays : staysShort (u, x) := ⟨some, wish ▸ short⟩
      have up := raise'.up
      obtain ⟨small_i, get_i⟩ := List.getElem?_eq_some_iff.1 zip_i
      obtain ⟨small_j, get_j⟩ := List.getElem?_eq_some_iff.1 zip_j
      rcases lt_trichotomy i j with before | same | behind
      · have both := List.pairwise_iff_getElem.1 pairs i j small_i small_j before
        rw [get_i, get_j] at both
        obtain ⟨order, later, alike⟩ := both
        refine ⟨fun less => ?_, fun same => ?_, fun same _ => (alike same).1 stays⟩
        · have none : y.grant - v.grant = 0 := later less stays
          omega
        · exact ((alike same).1 stays).trans (Nat.le_succ _)
      · subst same
        rw [zip_i] at zip_j
        cases zip_j
        exact ⟨fun less => absurd less (lt_irrefl _), fun _ => Nat.le_succ _, fun _ less => absurd less (lt_irrefl _)⟩
      · have both := List.pairwise_iff_getElem.1 pairs j i small_j small_i behind
        rw [get_i, get_j] at both
        obtain ⟨order, -, alike⟩ := both
        have order : v.cls ≤ u.cls := order
        exact ⟨fun less => by omega, fun same => (alike same.symm).2 stays, fun _ less => by omega⟩
  · intro eligible t
    have its : t = (afterGrants (grantsGiven s.newGrants (startWork s))).st := rfl
    clear_value t
    generalize given : grantsGiven s.newGrants (startWork s) = w at its
    have rest := grantsGiven_rest (xs := s.newGrants) (w := startWork s)
    rw [given] at rest
    have cfl : w.st.cfl = s.cfl := (congrArg State.cfl rest).trans rfl
    have apart (b : BayIx) (none : ∀ x ∈ s.newGrants, x.1 ≠ b) : w.st.bay b = s.bay b := by
      rw [← given]
      exact grantsGiven_apart none
    have after := afterGrants_spares (w := w)
    rw [← its] at after
    refine ⟨?_, fun b absent => ?_, fun b there => ?_⟩
    · unfold Spares at after
      rw [rest] at after
      exact after
    · rw [its, afterGrants_unpopulated ((populated_of_cfl cfl b).trans absent)]
      refine apart b fun x among own => ?_
      have populated := (newGrants_spec among).1
      rw [own, absent] at populated
      cases populated
    · have there' : w.st.populated b = true := (populated_of_cfl cfl b).trans there
      have forms : Forms s t := by
        rw [its, ← given]
        exact (grantsGiven_forms (w := startWork s)).trans afterGrants_forms
      intro x c writes
      refine ⟨forms b, fun resting => ?_, fun y takes among own => ?_⟩
      · have takes_none : takesPart c.state = false := by
          revert resting
          cases c.state <;> decide
        have same : w.st.bay b = s.bay b := apart b fun z among own => by
          have takes := (newGrants_spec among).2.1
          rw [own] at takes
          exact Bool.false_ne_true (takes_none.symm.trans takes)
        have last := afterGrants_resting there' (by rw [same]; exact managed_of_takesPart takes_none)
        have other : (s.bay b).charge.state ≠ .unmanaged := fun un => by
          have un : c.state = .unmanaged := un
          rw [un] at takes_none
          cases takes_none
        rw [same, if_neg other, ← its] at last
        rw [last]
        exact ⟨rfl, rfl⟩
      · have grants : (b, y.grant) ∈ s.newGrants := by
          rw [State.newGrants, splitBays_eq, ← own]
          exact List.mem_map_of_mem (f := fun x : SplitBay => (x.bay, x.grant)) among
        intro g given'
        refine ⟨fun un => ?_, fun manages settled => ?_⟩
        · have mid := grantsGiven_unmanaged (w := startWork s) grants (newGrants_nodup s) un
          rw [given] at mid
          have un : (s.bay b).charge.state = .unmanaged := un
          have state : (w.st.bay b).charge.state = .unmanaged := by
            rw [mid]
            dsimp only
            split <;> exact un
          have last := afterGrants_resting there' (by rw [state]; rfl)
          rw [if_pos state, mid, ← its] at last
          rw [last]
          refine ⟨?_, rfl⟩
          by_cases same : y.grant = (s.bay b).charge.grant
          · exact (congrArg (fun c : Charge => { c with limitOwed := false }) (if_pos same)).trans (if_pos same).symm
          · exact (congrArg (fun c : Charge => { c with limitOwed := false }) (if_neg same)).trans (if_neg same).symm
        · have manages : managed (s.bay b).charge.state = true := by
            have manages : (s.bay b).charge.state ∈ [ChargeState.charging, .held, .maintain] := manages
            revert manages
            cases (s.bay b).charge.state <;> decide
          obtain ⟨wish, cls, mid⟩ := grantsGiven_managed (w := startWork s) grants (newGrants_nodup s) manages
          rw [given] at mid
          have state : (w.st.bay b).charge.state = (s.bay b).charge.state := by
            rw [mid]
            dsimp only [granted]
            split <;> rfl
          have owed : (w.st.bay b).charge.limitOwed = (s.bay b).charge.limitOwed := by
            rw [mid]
            dsimp only [granted]
            split <;> rfl
          have grant : (w.st.bay b).charge.grant = y.grant := by
            rw [mid]
            dsimp only [granted]
            split
            · next same => exact same.symm
            · rfl
          have view : (w.st.bay b).view = (s.bay b).view := by rw [mid]; rfl
          have last := afterGrants_managed there' (by rw [state]; exact manages) (by rw [state, view, cfl]; exact settled)
          rw [← its] at last
          rw [last]
          refine ⟨?_, ?_⟩
          · have charge : (w.st.bay b).charge = { granted y.grant (s.bay b) with wish := wish, cls := cls } := by
              rw [mid]
              rfl
            rw [state, grant, charge]
            by_cases same : y.grant = (s.bay b).charge.grant
            · have high : ¬ (y.grant = 0 ∧ y.grant < (s.bay b).charge.grant) := by omega
              have its : given' = { c with limitOwed := false } := if_pos same
              have voltage : (if g = 0 ∧ g < c.grant then (x.view.request.map fun r => voltageOfCode r.code).getD 5
                  else c.voltage) = c.voltage := if_neg high
              rw [its, voltage, granted, if_pos same]
              rfl
            · rw [show given' = _ from if_neg same, granted, if_neg same]
              rfl
          · have channel : (w.st.bay b).channel = limited (s.bay b) y.grant (y.grant != (s.bay b).charge.grant) := by
              rw [mid]
              rfl
            have asks (asked : Bool) : writes g asked = limited (s.bay b) y.grant asked := rfl
            rw [grant, owed, asks]
            exact limited_limited channel

end

end Sys2Proof.Machine
end

section
/-! Presentations and withdrawal deadlines (R124, R130, R132). -/

namespace Sys2Proof.Machine

section
variable {s t : State} {w : Work} {b : BayIx} {r : Reader} {q : Byte} {x : PresentationSlot}

/-! ### What notices leave of slots and claims -/

theorem finish_slotNone (held : w.st.slot r = some { x with own := .none }) : w.finish.slot r = some { x with own := .none } :=
  finish_keeps (P := fun s => s.slot r = some { x with own := .none })
    (fun _ _ _ inner changed before => changed.slotNone inner before) held

theorem finish_noClaim (gone : (w.st.bay b).claim = none) : (w.finish.bay b).claim = none :=
  finish_keeps (P := fun s => (s.bay b).claim = none) (fun _ _ _ inner changed before => changed.noClaim inner before) gone

/-- R131: the notices of removed claims. -/
def Notice.ofClaim (n : Notice) : Prop := ∃ b, n = .reevaluate b

theorem finish_ofClaim (quiet : lanesQuiet w.st) (told : ∀ n ∈ w.todo, n.ofClaim) : Calmed w.st w.finish :=
  finish_calmed (Still.of_quiet quiet) fun n among => by
    obtain ⟨b, rfl⟩ := told n among
    trivial

theorem lanesQuiet_of_same (quiet : lanesQuiet s) (pvs : t.pvs = s.pvs) : lanesQuiet t := by
  unfold lanesQuiet State.lane State.campaign at quiet ⊢
  rw [pvs]
  exact quiet

theorem goneWith_queued {c : PendingClaim} (queued : queuedClaim r q c = true) : goneWith r q (some c) = none := by
  simp [goneWith, queued]

theorem goneWith_other {o : Option PendingClaim} (other : ∀ c, o = some c → ¬ queuedClaim r q c = true) :
    goneWith r q o = o := by
  cases o with
  | none => rfl
  | some c => simp [goneWith, other c rfl]

/-! ### A queued answer withdrawn (R130) -/

/-- R18: the frames that `which` picks are withdrawn. -/
def withdrawing (which : TxFrame → Bool) (s : State) : State :=
  s.modLkc fun l => { l with queue := withdrawFrames which l.queue }

theorem withdrawAnswer_stay (none : ∀ x, w.st.slot r = some x → x.own ≠ .offerQueued ∧ x.own ≠ .denyQueued) :
    withdrawAnswer r w = w := by
  unfold withdrawAnswer
  split
  · rfl
  · next x held =>
    obtain ⟨offer, deny⟩ := none x held
    split
    · next own => exact absurd own offer
    · next own => exact absurd own deny
    all_goals rfl

theorem withdrawAnswer_deny (held : w.st.slot r = some x) (own : x.own = .denyQueued) : withdrawAnswer r w =
    w.upd fun s => (withdrawing (slotAnswer .deny r x.sequence) s).setSlot r (some { x with own := .none }) := by
  unfold withdrawAnswer
  rw [held]
  simp only [own]
  rfl

theorem withdrawAnswer_offer (held : w.st.slot r = some x) (own : x.own = .offerQueued) :
    (∃ bays, (withdrawAnswer r w).st =
      { (withdrawing (slotAnswer .offer r x.sequence) w.st).setSlot r (some { x with own := .none }) with bays := bays }) ∧
      (∀ b, ((withdrawAnswer r w).st.bay b).claim = goneWith r x.sequence (w.st.bay b).claim) ∧
      ∀ n ∈ (withdrawAnswer r w).todo, n ∈ w.todo ∨ n.ofClaim := by
  have its : withdrawAnswer r w = removeQueuedClaim r x.sequence
      ((withdraw (slotAnswer .offer r x.sequence) w).upd fun s => s.setSlot r (some { x with own := .none })) := by
    unfold withdrawAnswer
    rw [held]
    simp only [own]
  obtain ⟨⟨bays, st⟩, claims, told⟩ := removeQueuedClaim_spec r x.sequence
    ((withdraw (slotAnswer .offer r x.sequence) w).upd fun s => s.setSlot r (some { x with own := .none }))
  rw [its]
  exact ⟨⟨bays, st⟩, fun b => congrArg Bay.claim (claims b), told⟩

theorem withdrawAnswer_steady : (withdrawAnswer r w).st.steady = w.st.steady := by
  unfold withdrawAnswer
  split
  · rfl
  · next x held =>
    have emptied (which : TxFrame → Bool) : ((withdraw which w).upd fun s => s.setSlot r (some { x with own := .none })).st.steady =
        w.st.steady :=
      (setSlot_steady (s := (withdraw which w).st) (y := { x with own := .none }) held rfl).trans (withdraw_steady which w)
    split
    · exact (removeQueuedClaim_steady ..).trans (emptied _)
    · exact emptied _
    all_goals rfl

theorem setSlot_setSlot (x y : Option PresentationSlot) : (s.setSlot r x).setSlot r y = s.setSlot r y := by
  simp [State.setSlot, State.modCsu]

/-- What stays of a slot that is replaced depends on the rest alone. -/
theorem setSlot_congr_steady (y : Option PresentationSlot) (same : t.steady = s.steady) :
    (t.setSlot r y).steady = (s.setSlot r y).steady := by
  refine steady_reads (fun u : State => (u.setSlot r y).steady) (fun u => ?_) same
  have twice (z : Option PresentationSlot) : (z.map PresentationSlot.steady).map PresentationSlot.steady = z.map PresentationSlot.steady := by
    cases z <;> rfl
  have slots : ((u.csu.slots.map (Option.map PresentationSlot.steady)).set r y).map (Option.map PresentationSlot.steady) =
      (u.csu.slots.set r y).map (Option.map PresentationSlot.steady) := by
    ext1 i small
    simp only [Vector.getElem_map, Vector.getElem_set]
    split
    · rfl
    · exact twice _
  have bays : (u.bays.map Bay.steady).map Bay.steady = u.bays.map Bay.steady := by
    rw [Vector.map_map]
    exact Vector.map_congr_left fun x _ => rfl
  simp only [State.steady, State.setSlot, State.modCsu, slots, bays]
  rfl

/-! ### A presentation (R124) -/

theorem takePresent_ignored {p : PresentBody} (nothing : p.kind = none ∨
    (lookupCredential w.st.csu.credentials p.credential).isSome = false ∨
      ∃ x, w.st.slot p.reader = some x ∧ x.sequence = p.sequence) : takePresent p w = w := by
  unfold takePresent
  split
  · rfl
  · next kind its =>
    split
    · rfl
    · next known =>
      split
      · rfl
      · next fresh =>
        rcases nothing with none | unknown | ⟨x, held, same⟩
        · rw [none] at its
          cases its
        · rw [← Option.not_isSome, unknown] at known
          exact absurd rfl known
        · simp [held, same] at fresh

theorem takePresent_taken {p : PresentBody} {kind : RequestKind} (asks : p.kind = some kind)
    (known : (lookupCredential w.st.csu.credentials p.credential).isSome = true)
    (fresh : ¬ ∃ x, w.st.slot p.reader = some x ∧ x.sequence = p.sequence) : takePresent p w =
      (withdrawAnswer p.reader w).upd fun s => s.setSlot p.reader (some (newSlot s.now p kind)) := by
  have other : ((w.st.slot p.reader).any fun x => x.sequence == p.sequence) = false := by
    rw [← Bool.not_eq_true, Option.any_eq_true]
    simpa using fresh
  simp only [takePresent, asks, ← Option.not_isSome, known, other, Bool.not_true, Bool.false_eq_true, if_false]

/-- Settles O43. -/
theorem presentTakesTheSlot : Obligations.PresentTakesTheSlot := by
  intro f s held its r sequence free known repeats
  have ran : exec .present s = .next (if free.isActive then takePresent (readPresent f.body) (startWork free) else startWork free).finish := by
    simp only [exec, execPresent]
    rw [fromHand_eq_carryOut (k := .csu) (f := f) held (by simp [isKind, its])]
    rfl
  have known_iff : (lookupCredential free.csu.credentials (word32At f.body 3)).isSome = true ↔ known :=
    lookupCredential_isSome_iff
  refine ⟨fun nothing => ?_, fun kind active asks knows other => ?_⟩
  · have quiet : (if free.isActive then takePresent (readPresent f.body) (startWork free) else startWork free) = startWork free := by
      split
      · next active =>
        refine takePresent_ignored ?_
        rcases nothing with phase | kind | unknown | repeated
        · exact absurd (eq_of_beq active) phase
        · exact .inl kind
        · exact .inr (.inl (Bool.not_eq_true _ ▸ known_iff.not.2 unknown))
        · exact .inr (.inr repeated)
      · rfl
    rw [ran, quiet]
    rfl
  · have active : free.isActive = true := by simp [State.isActive, free, active]
    intro slot put withdrawn
    rw [if_pos active, takePresent_taken (p := readPresent f.body) (w := startWork free) asks (known_iff.2 knows) other] at ran
    have last : (withdrawAnswer r (startWork free)).st.now = s.now :=
      (steady_reads State.now (fun _ => rfl) (withdrawAnswer_steady (r := r) (w := startWork free))).trans rfl
    have fills : newSlot (withdrawAnswer r (startWork free)).st.now (readPresent f.body) kind = slot := by
      rw [last]
      rfl
    generalize answer : withdrawAnswer (readPresent f.body).reader (startWork free) = v at ran
    have answer : withdrawAnswer r (startWork free) = v := answer
    rw [answer] at fills
    have brought : (v.upd fun s => s.setSlot r (some (newSlot s.now (readPresent f.body) kind))).st =
        v.st.setSlot r (some slot) := by rw [Work.upd_st, fills]
    have stays : v.st.steady = free.steady := by
      rw [← answer]
      exact withdrawAnswer_steady
    refine ⟨_, ran, ?_, ?_, fun none => ?_, fun x held => ⟨fun own => ?_, fun own => ⟨fun b c claim queued => ?_, fun quiet => ?_⟩⟩⟩
    · exact (finish_steady _).trans ((congrArg State.steady brought).trans (setSlot_congr_steady _ stays))
    · exact finish_slotNone (x := slot) ((congrArg (State.slot · r) brought).trans (State.slot_setSlot_same ..))
    · have same : v = startWork free := by rw [← answer, withdrawAnswer_stay none]
      rw [same]
      rfl
    · have same := withdrawAnswer_deny (w := startWork free) held own
      rw [answer] at same
      rw [finish_of_quiet (by rw [same]; rfl)]
      refine brought.trans ?_
      rw [same, Work.upd_st, setSlot_setSlot]
      rfl
    all_goals
      obtain ⟨⟨bays, st⟩, claims, told⟩ := withdrawAnswer_offer (w := startWork free) held own
      rw [answer] at st claims told
    · refine finish_noClaim ((congrArg (fun u : State => (u.bay b).claim) brought).trans ?_)
      refine (claims b).trans ((congrArg (goneWith r x.sequence) claim).trans (goneWith_queued ?_))
      obtain ⟨window, reader, same⟩ := queued
      exact queuedClaim_iff.2 ⟨reader, same, window⟩
    · have rests : lanesQuiet (v.upd fun s => s.setSlot r (some (newSlot s.now (readPresent f.body) kind))).st := by
        refine lanesQuiet_of_same quiet ?_
        rw [brought, st]
        rfl
      have calmed := finish_ofClaim rests fun n among => (told n among).elim (fun none => by cases none) id
      refine ⟨calmed.lkc.trans ?_, fun b other => (calmed.claim b).trans ?_⟩
      · rw [brought, st]
        rfl
      · refine (congrArg (fun u : State => (u.bay b).claim) brought).trans ((claims b).trans (goneWith_other fun c claim => ?_))
        rw [queuedClaim_iff]
        exact fun ⟨reader, same, window⟩ => other c claim ⟨window, reader, same⟩

/-! ### Deadlines -/

/-- R18: the withdrawn queue, frame by frame. -/
theorem withdrawFrames_flat (which : TxFrame → Bool) (queue : List TxFrame) : withdrawFrames which queue =
    queue.flatMap fun g =>
      if which g = true then if g.inTransmission then [{ g with withdrawal := true }] else [] else [g] := by
  induction queue with
  | nil => rfl
  | cons f queue ih =>
    rw [List.flatMap_cons, ← ih, withdrawFrames, withdrawFrames, List.filterMap_cons]
    cases which f <;> cases f.inTransmission <;> rfl

/-- Settles O46. -/
theorem deadlinesWithdraw : Obligations.DeadlinesWithdraw := by
  intro r d s
  refine ⟨fun x held deadline => ?_, fun q f first deadline => ?_⟩
  · intro put queued
    let y : PresentationSlot := { x with deadline := none }
    have own : y.own = x.own := rfl
    have ran : exec (.withdrawalDeadline r) s = .next (withdrawAnswer r (startWork (put x.own))).finish := by
      simp only [exec, execWithdrawalDeadline, carryOut, deadlineEnds, startWork, held, deadline]
      rfl
    have slot : (startWork (put x.own)).st.slot r = some y := State.slot_setSlot_same ..
    have twice (own : OwnAnswer) : (put x.own).setSlot r (some { y with own := own }) = put own := setSlot_setSlot ..
    refine ⟨_, ran, (finish_steady _).trans withdrawAnswer_steady, fun rests => ?_, fun deny => ?_, fun offer => ?_⟩
    · rw [withdrawAnswer_stay fun z its => ?_]
      · rfl
      · rw [slot] at its
        cases its
        rcases rests with is | is <;> rw [own, is] <;> decide
    · rw [withdrawAnswer_deny slot deny, finish_of_quiet rfl, Work.upd_st]
      exact congrArg (fun u : State => { u with lkc := { s.lkc with
        queue := withdrawFrames (slotAnswer .deny r x.sequence) s.lkc.queue } }) (twice .none)
    · obtain ⟨⟨bays, st⟩, claims, told⟩ := withdrawAnswer_offer slot offer
      refine ⟨finish_slotNone (x := y) ?_, fun b c claim gone => finish_noClaim ?_, fun quiet => ?_⟩
      · rw [st]
        exact State.slot_setSlot_same ..
      · obtain ⟨window, reader, same⟩ := gone
        exact (claims b).trans ((congrArg (goneWith r x.sequence) claim).trans
          (goneWith_queued (queuedClaim_iff.2 ⟨reader, same, window⟩)))
      · have rests : lanesQuiet (withdrawAnswer r (startWork (put x.own))).st := lanesQuiet_of_same quiet (by rw [st]; rfl)
        have calmed := finish_ofClaim rests fun n among => (told n among).elim (fun none => by cases none) id
        refine ⟨calmed.lkc.trans (by rw [st]; rfl), fun b other => (calmed.claim b).trans ((claims b).trans (goneWith_other ?_))⟩
        intro c claim
        rw [queuedClaim_iff]
        exact fun ⟨reader, same, window⟩ => other c claim ⟨window, reader, same⟩
  · have ran : denyDeadlineEnds r q (startWork s) = withdraw (fun g => ruleDenyOf r q g && g.deadline == f.deadline)
        ((startWork s).upd fun s => s.advanceTo (f.deadline.getD 0)) := by
      simp only [denyDeadlineEnds, startWork, first]
    have same : (fun g : TxFrame => ruleDenyOf r q g && g.deadline == f.deadline) =
        fun g => decide (ruleDenyOf r q g = true ∧ g.deadline = some d) := by
      funext g
      rw [Bool.decide_and, Bool.decide_eq_true, deadline, ← beq_eq_decide]
    simp only [exec, execDenyDeadline]
    rw [carryOut_of_quiet (by rw [ran]; rfl), ran, same]
    simp only [Work.upd_st, withdraw, deadline, withdrawFrames_flat, decide_eq_true_eq]
    rfl

end

end Sys2Proof.Machine
end

section
/-! Answers of other shelves (R130, R131). -/

namespace Sys2Proof.Machine

section
variable {s t : State} {v w : Work} {b : BayIx} {r : Reader} {q : Byte} {x : PresentationSlot} {which : PendingClaim → Bool}

/-! ### Claims in their objection window cancelled (R131) -/

/-- A claim that a heard answer cancels. -/
def cutBy (which : PendingClaim → Bool) (c : Option PendingClaim) : Bool := c.any fun c => c.inWindow && which c

theorem cutBy_iff {c : Option PendingClaim} : cutBy which c = true ↔ ∃ d, c = some d ∧ d.inWindow = true ∧ which d = true := by
  rw [cutBy, Option.any_eq_true]
  simp only [Bool.and_eq_true]

/-- The state with the own answer of a slot at NONE. -/
def State.emptied (s : State) (r : Reader) (q : Byte) : State := s.modSlot r q fun x => { x with own := .none }

theorem emptied_cases (s : State) (r : Reader) (q : Byte) :
    (s.emptied r q = s ∧ ¬ ∃ x, s.slot r = some x ∧ x.sequence = q) ∨
      ∃ x, s.slot r = some x ∧ x.sequence = q ∧ s.emptied r q = s.setSlot r (some { x with own := .none }) := by
  by_cases its : ∃ x, s.slot r = some x ∧ x.sequence = q
  · obtain ⟨x, held, same⟩ := its
    exact .inr ⟨x, held, same, modSlot_of_held held same _⟩
  · exact .inl ⟨modSlot_of_free its _, its⟩

theorem emptied_held (held : s.slot r = some x) (same : x.sequence = q) :
    s.emptied r q = s.setSlot r (some { x with own := .none }) := modSlot_of_held held same _

theorem emptied_bays (bays : Vector Bay 8) : ({ s with bays := bays }).emptied r q = { s.emptied r q with bays := bays } := by
  rcases emptied_cases s r q with ⟨stays, free⟩ | ⟨x, held, same, its⟩
  · rw [stays]
    exact modSlot_of_free (s := { s with bays := bays }) free _
  · rw [its]
    exact modSlot_of_held (s := { s with bays := bays }) held same _

theorem emptied_bay : (s.emptied r q).bay b = s.bay b := by
  rcases emptied_cases s r q with ⟨stays, -⟩ | ⟨x, -, -, its⟩
  · rw [stays]
  · rw [its]
    rfl

theorem emptied_twice : (s.emptied r q).emptied r q = s.emptied r q := by
  rcases emptied_cases s r q with ⟨stays, -⟩ | ⟨x, held, same, its⟩
  · rw [stays, stays]
  · have again := emptied_held (q := q) (x := { x with own := .none })
      (State.slot_setSlot_same s r (some { x with own := .none })) same
    rw [its, again, setSlot_setSlot]

theorem emptied_steady : (s.emptied r q).steady = s.steady := modSlot_steady _ _ _ fun _ => rfl

/-- The cancelling of one bay's claim. -/
def cutOne (which : PendingClaim → Bool) (b : BayIx) (w : Work) : Work :=
  if cutBy which (w.st.bay b).claim then cancelClaim b w else w

theorem cancelWindows_eq : cancelWindows which w = forEach allBays (cutOne which) w := rfl

theorem cutOne_stay (free : cutBy which (w.st.bay b).claim = false) : cutOne which b w = w := by
  rw [cutOne, free]
  rfl

/-- A claim that is picked is cleared, and the slot it came from is emptied (R131). -/
theorem cutOne_cut (its : ∀ c, which c = true → c.reader = r ∧ c.sequence = q) (cut : cutBy which (w.st.bay b).claim = true) :
    cutOne which b w = clearClaim b (w.upd fun s => s.emptied r q) := by
  obtain ⟨c, claim, window, picked⟩ := cutBy_iff.1 cut
  obtain ⟨rfl, rfl⟩ := its c picked
  unfold cutOne
  rw [if_pos cut]
  unfold cancelClaim
  rw [claim]
  simp only [window, if_true]
  rfl

theorem cancelWindows_none (free : ∀ b, cutBy which (w.st.bay b).claim = false) : cancelWindows which w = w := by
  have each (bs : List BayIx) : forEach bs (cutOne which) w = w := by
    induction bs with
    | nil => rfl
    | cons b bs ih => exact (congrArg (forEach bs (cutOne which)) (cutOne_stay (free b))).trans ih
  exact each allBays

theorem cancelWindows_told (its : ∀ c, which c = true → c.reader = r ∧ c.sequence = q) :
    ∀ n ∈ (cancelWindows which w).todo, n ∈ w.todo ∨ n.ofClaim := by
  refine forEach_told (fun b w n told => ?_) allBays w
  have told : n ∈ (cutOne which b w).todo := told
  by_cases cut : cutBy which (w.st.bay b).claim = true
  · rw [cutOne_cut its cut] at told
    exact (List.mem_append.1 told).imp_right fun now => ⟨b, List.mem_singleton.1 now⟩
  · rw [cutOne_stay (Bool.not_eq_true _ ▸ cut)] at told
    exact .inl told

/-- A bay without the claim that is picked. -/
def cutFrom (which : PendingClaim → Bool) (x : Bay) : Bay := if cutBy which x.claim then { x with claim := none } else x

theorem cutFrom_claim (x : Bay) : (cutFrom which x).claim = if cutBy which x.claim then none else x.claim := by
  unfold cutFrom
  split <;> rfl

theorem cutOne_st (its : ∀ c, which c = true → c.reader = r ∧ c.sequence = q) :
    (cutOne which b w).st = (if cutBy which (w.st.bay b).claim then w.st.emptied r q else w.st).modBay b
      (cutFrom which) := by
  by_cases cut : cutBy which (w.st.bay b).claim = true
  · rw [cutOne_cut its cut, if_pos cut]
    refine State.modBay_congr (s := w.st.emptied r q) (f := fun x => { x with claim := none }) ?_
    rw [emptied_bay, cutFrom, if_pos cut]
  · have cut := Bool.not_eq_true _ ▸ cut
    rw [cutOne_stay cut, cut]
    exact (State.modBay_stay (by rw [cutFrom, cut]; rfl)).symm

/-- R131: what the cancelled claims of a reader and sequence leave. -/
theorem forEach_cutOne (its : ∀ c, which c = true → c.reader = r ∧ c.sequence = q) {bs : List BayIx} (once : bs.Nodup) (w : Work) :
    (∃ bays, (forEach bs (cutOne which) w).st =
      { (if bs.any fun b => cutBy which (w.st.bay b).claim then w.st.emptied r q else w.st) with bays := bays }) ∧
    ∀ c, ((forEach bs (cutOne which) w).st.bay c).claim =
      if c ∈ bs ∧ cutBy which (w.st.bay c).claim = true then none else (w.st.bay c).claim := by
  induction bs generalizing w with
  | nil => exact ⟨⟨w.st.bays, rfl⟩, fun c => by simp [forEach]⟩
  | cons b bs ih =>
    obtain ⟨fresh, later⟩ := List.nodup_cons.1 once
    obtain ⟨⟨bays, st⟩, claims⟩ := ih later (cutOne which b w)
    have one := cutOne_st (b := b) (w := w) its
    have other : ∀ c, c ≠ b → (cutOne which b w).st.bay c = w.st.bay c := fun c other => by
      rw [one, State.bay_modBay_other _ other]
      split
      · exact emptied_bay
      · rfl
    have rest : (bs.any fun c => cutBy which ((cutOne which b w).st.bay c).claim) =
        bs.any fun c => cutBy which (w.st.bay c).claim := by
      rw [Bool.eq_iff_iff, List.any_eq_true, List.any_eq_true]
      refine exists_congr fun c => and_congr_right fun among => ?_
      rw [other c fun own => fresh (own ▸ among)]
    refine ⟨⟨bays, ?_⟩, fun c => (claims c).trans ?_⟩
    · refine Eq.trans st ?_
      rw [rest, List.any_cons, one]
      cases cutBy which (w.st.bay b).claim <;> cases bs.any fun c => cutBy which (w.st.bay c).claim
      · rfl
      · exact congrArg (fun u : State => { u with bays := bays }) (emptied_bays _)
      · rfl
      · refine (congrArg (fun u : State => { u with bays := bays }) (emptied_bays (s := w.st.emptied r q) _)).trans ?_
        rw [emptied_twice]
        rfl
    · by_cases own : c = b
      · subst own
        rw [if_neg fun among => fresh among.1, one, State.bay_modBay_same, cutFrom_claim]
        have same : (if cutBy which (w.st.bay c).claim = true then w.st.emptied r q else w.st).bay c = w.st.bay c := by
          split
          · exact emptied_bay
          · rfl
        simp [same]
      · rw [other c own]
        simp [own]

/-- R131: what the cancelled claims of a reader and sequence leave. -/
theorem cancelWindows_spec (its : ∀ c, which c = true → c.reader = r ∧ c.sequence = q) :
    (∃ bays, (cancelWindows which w).st =
      { (if ∃ b, cutBy which (w.st.bay b).claim = true then w.st.emptied r q else w.st) with bays := bays }) ∧
    ∀ c, ((cancelWindows which w).st.bay c).claim =
      if cutBy which (w.st.bay c).claim = true then none else (w.st.bay c).claim := by
  have all : ∀ b : BayIx, b ∈ allBays := by decide
  obtain ⟨⟨bays, st⟩, claims⟩ := forEach_cutOne its (by decide : allBays.Nodup) w
  refine ⟨⟨bays, st.trans ?_⟩, fun c => (claims c).trans (if_congr ⟨And.right, fun cut => ⟨all c, cut⟩⟩ rfl rfl)⟩
  have some : (allBays.any fun b => cutBy which (w.st.bay b).claim) = true ↔ ∃ b, cutBy which (w.st.bay b).claim = true := by
    rw [List.any_eq_true]
    exact ⟨fun ⟨b, _, cut⟩ => ⟨b, cut⟩, fun ⟨b, cut⟩ => ⟨b, all b, cut⟩⟩
  rw [if_congr some rfl rfl]

theorem cancelWindows_steady (its : ∀ c, which c = true → c.reader = r ∧ c.sequence = q) :
    (cancelWindows which w).st.steady = w.st.steady := by
  refine forEach_keeps State.steady allBays (cutOne which) (fun b w => ?_) w
  by_cases cut : cutBy which (w.st.bay b).claim = true
  · rw [cutOne_cut its cut]
    exact (clearClaim_steady ..).trans emptied_steady
  · rw [cutOne_stay (Bool.not_eq_true _ ▸ cut)]

/-! ### A heard answer at its slot (R130) -/

theorem heardAnswer_free (free : ∀ x, w.st.slot r = some x → x.sequence ≠ q) : heardAnswer r q w = w := by
  unfold heardAnswer
  split
  · rfl
  · next x held => rw [if_neg (free x held)]

theorem heardAnswer_held (held : w.st.slot r = some x) (same : x.sequence = q) :
    heardAnswer r q w = withdrawAnswer r (w.upd fun s => s.setSlot r (some { x with decided := true })) := by
  unfold heardAnswer
  rw [held]
  simp only [same, if_true]

/-- R130: the own answer that a heard answer leaves. -/
def ownLeft : OwnAnswer → OwnAnswer
  | .claimed => .claimed
  | _ => .none

/-- R130: the link record that the withdrawal of an own answer leaves. -/
def linkLeft (r : Reader) (q : Byte) (l : Lkc) : OwnAnswer → Lkc
  | .offerQueued => { l with queue := withdrawFrames (slotAnswer .offer r q) l.queue }
  | .denyQueued => { l with queue := withdrawFrames (slotAnswer .deny r q) l.queue }
  | _ => l

/-- The claim that the withdrawal of an own answer leaves (R130). -/
def claimLeft (r : Reader) (q : Byte) (own : OwnAnswer) (c : Option PendingClaim) : Option PendingClaim :=
  if own = .offerQueued then goneWith r q c else c

theorem heardAnswer_quiet (held : w.st.slot r = some x) (same : x.sequence = q) (offer : x.own ≠ .offerQueued) :
    heardAnswer r q w = w.upd fun s =>
      { s with lkc := linkLeft r q s.lkc x.own }.setSlot r (some { x with decided := true, own := ownLeft x.own }) := by
  subst same
  have slot : (w.upd fun s => s.setSlot r (some { x with decided := true })).st.slot r = some { x with decided := true } :=
    State.slot_setSlot_same ..
  rw [heardAnswer_held held rfl]
  by_cases deny : x.own = .denyQueued
  · rw [withdrawAnswer_deny slot deny, deny]
    exact congrArg (fun u => { w with st := u }) (setSlot_setSlot (s := withdrawing (slotAnswer .deny r x.sequence) w.st) ..)
  · have left : ownLeft x.own = x.own ∧ ∀ l, linkLeft r x.sequence l x.own = l := by
      revert offer deny
      cases x.own
      case none | claimed => exact fun _ _ => ⟨rfl, fun _ => rfl⟩
      case offerQueued => exact fun offer => absurd rfl offer
      case denyQueued => exact fun _ deny => absurd rfl deny
    rw [withdrawAnswer_stay fun y its => ?_, left.1]
    · simp only [left.2]
    · rw [slot] at its
      cases its
      exact ⟨offer, deny⟩

/-- R130: what an answer heard does at the slot of its reader and sequence. -/
theorem heardAnswer_spec (held : w.st.slot r = some x) (same : x.sequence = q) :
    (∃ bays, (heardAnswer r q w).st = { { w.st with lkc := linkLeft r q w.st.lkc x.own }.setSlot r
      (some { x with decided := true, own := ownLeft x.own }) with bays := bays }) ∧
    (∀ b, ((heardAnswer r q w).st.bay b).claim = claimLeft r q x.own (w.st.bay b).claim) ∧
    ∀ n ∈ (heardAnswer r q w).todo, n ∈ w.todo ∨ n.ofClaim := by
  by_cases offer : x.own = .offerQueued
  · subst same
    have slot : (w.upd fun s => s.setSlot r (some { x with decided := true })).st.slot r = some { x with decided := true } :=
      State.slot_setSlot_same ..
    rw [heardAnswer_held held rfl]
    obtain ⟨⟨bays, st⟩, claims, told⟩ := withdrawAnswer_offer slot offer
    refine ⟨⟨bays, st.trans ?_⟩, fun b => (claims b).trans (if_pos offer).symm, told⟩
    rw [offer]
    exact congrArg (fun u : State => { u with bays := bays })
      (setSlot_setSlot (s := withdrawing (slotAnswer .offer r x.sequence) w.st) ..)
  · rw [heardAnswer_quiet held same offer]
    exact ⟨⟨w.st.bays, rfl⟩, fun b => (if_neg offer).symm, fun n among => .inl among⟩

/-! ### An answer heard -/

theorem cutBy_claimLeft (own : OwnAnswer) (c : Option PendingClaim) : cutBy which (claimLeft r q own c) = cutBy which c := by
  unfold claimLeft
  split
  · cases c with
    | none => rfl
    | some c =>
      unfold goneWith
      split
      · next queued =>
        have window := (queuedClaim_iff.1 queued).2.2
        simp [cutBy, window]
      · rfl
  · rfl

/-- R130, R131: what an answer heard leaves where it finds its slot. -/
theorem answered_spec (its : ∀ c, which c = true → c.reader = r ∧ c.sequence = q) (held : w.st.slot r = some x)
    (same : x.sequence = q) :
    (∃ bays, (cancelWindows which (heardAnswer r q w)).st = { { w.st with lkc := linkLeft r q w.st.lkc x.own }.setSlot r
      (some { x with
        decided := true
        own := if ∃ b, cutBy which (w.st.bay b).claim = true then .none else ownLeft x.own }) with bays := bays }) ∧
    (∀ b, ((cancelWindows which (heardAnswer r q w)).st.bay b).claim =
      if cutBy which (w.st.bay b).claim = true then none else claimLeft r q x.own (w.st.bay b).claim) ∧
    (∀ n ∈ (cancelWindows which (heardAnswer r q w)).todo, n ∈ w.todo ∨ n.ofClaim) ∧
    (cancelWindows which (heardAnswer r q w)).st.steady = (w.st.setSlot r (some { x with decided := true })).steady := by
  obtain ⟨⟨bays, st⟩, claims, told⟩ := heardAnswer_spec held same
  obtain ⟨⟨rest, cut⟩, left⟩ := cancelWindows_spec (w := heardAnswer r q w) its
  have cuts : ∀ b, cutBy which ((heardAnswer r q w).st.bay b).claim = cutBy which (w.st.bay b).claim := fun b => by
    rw [claims, cutBy_claimLeft]
  have slot : (heardAnswer r q w).st.slot r = some { x with decided := true, own := ownLeft x.own } := by
    rw [st]
    exact State.slot_setSlot_same ..
  refine ⟨⟨rest, cut.trans ?_⟩, fun b => (left b).trans ?_, fun n among => ?_, (cancelWindows_steady its).trans ?_⟩
  · simp only [cuts]
    split
    · rw [emptied_held slot same, st]
      exact congrArg (fun u : State => { u with bays := rest }) (setSlot_setSlot (s := { w.st with
        lkc := linkLeft r q w.st.lkc x.own, bays := bays }) ..)
    · rw [st]
  · rw [cuts, claims]
  · exact (cancelWindows_told its n among).elim (told n) .inr
  · rw [heardAnswer_held held same, withdrawAnswer_steady]
    rfl

/-- Settles O45. -/
theorem heardAnswersDecide : Obligations.HeardAnswersDecide := by
  intro f s held free decides
  have settles (i : Instr) (which : PendingClaim → Bool)
      (ran : exec i s = .next (if free.isActive then
        match answerReader f.body with
        | none => startWork free
        | some r => cancelWindows (fun c => c.reader == r && c.sequence == bodySequence f.body && which c)
            (heardAnswer r (bodySequence f.body) (startWork free))
        else startWork free).finish)
      (picks : ∀ c, which c = true ↔ (f.kind = .offer → rxKey f < c.key)) : decides i := by
    refine ⟨fun nothing => ?_, fun r phase reader => ?_⟩
    · have quiet : (if free.isActive then
          match answerReader f.body with
          | none => startWork free
          | some r => cancelWindows (fun c => c.reader == r && c.sequence == bodySequence f.body && which c)
              (heardAnswer r (bodySequence f.body) (startWork free))
          else startWork free) = startWork free := by
        rcases nothing with phase | none
        · exact if_neg (by simpa [State.isActive, free] using phase)
        · rw [none]
          exact ite_self _
      rw [ran, quiet]
      rfl
    · have active : free.isActive = true := by simp [State.isActive, free, phase]
      intro queued hit anyHit
      rw [if_pos active, reader] at ran
      simp only [] at ran
      generalize order : (fun c : PendingClaim => c.reader == r && c.sequence == bodySequence f.body && which c) = cut at ran
      have its : ∀ c, cut c = true → c.reader = r ∧ c.sequence = bodySequence f.body := fun c cuts => by
        rw [← order] at cuts
        simp only [Bool.and_eq_true, beq_iff_eq] at cuts
        exact cuts.1
      have hit_iff : ∀ o : Option PendingClaim, cutBy cut o = true ↔ ∃ c, o = some c ∧ hit c := fun o => by
        rw [cutBy_iff, ← order]
        refine exists_congr fun c => and_congr_right fun _ => ?_
        simp only [Bool.and_eq_true, beq_iff_eq, picks, and_assoc, hit]
      by_cases occupied : ∃ x, s.slot r = some x ∧ x.sequence = bodySequence f.body
      · obtain ⟨y, slot, same⟩ := occupied
        obtain ⟨⟨bays, st⟩, claims, told, rests⟩ := answered_spec (w := startWork free) its slot same
        have calm : (∀ b, cutBy cut ((startWork free).st.bay b).claim = false) → y.own ≠ .offerQueued →
            cancelWindows cut (heardAnswer r (bodySequence f.body) (startWork free)) =
              startWork ({ free with lkc := linkLeft r (bodySequence f.body) s.lkc y.own }.setSlot r
                (some { y with decided := true, own := ownLeft y.own })) := fun none offer => by
          rw [heardAnswer_quiet (w := startWork free) slot same offer]
          exact cancelWindows_none none
        generalize cancelWindows cut (heardAnswer r (bodySequence f.body) (startWork free)) = v at *
        have some_iff : (∃ b, cutBy cut ((startWork free).st.bay b).claim = true) ↔ anyHit :=
          exists_congr fun b => hit_iff _
        simp only [some_iff] at st
        have uncut : ¬ anyHit → ∀ b, cutBy cut ((startWork free).st.bay b).claim = false := fun none b => by
          rw [← Bool.not_eq_true, hit_iff]
          exact fun ⟨c, claim, hits⟩ => none ⟨b, c, claim, hits⟩
        have emptied (none : anyHit ∨ ownLeft y.own = .none) :
            v.finish.slot r = some { y with decided := true, own := .none } := by
          refine finish_slotNone (x := { y with decided := true }) ?_
          rw [st]
          have own : (if anyHit then OwnAnswer.none else ownLeft y.own) = .none := by
            split
            · rfl
            · next not => exact none.resolve_left not
          rw [own]
          exact State.slot_setSlot_same ..
        have cleared : ∀ (b : BayIx) (c : PendingClaim), (s.bay b).claim = some c →
            hit c ∨ (y.own = .offerQueued ∧ queued c) → (v.finish.bay b).claim = none := fun b c claim gone => by
          refine finish_noClaim ((claims b).trans ?_)
          split
          · rfl
          · next no =>
            have gone := gone.resolve_left fun hits => no ((hit_iff _).2 ⟨c, claim, hits⟩)
            obtain ⟨offer, window, reader, same⟩ := gone
            refine (if_pos offer).trans ((congrArg (goneWith r _) claim).trans (goneWith_queued ?_))
            exact queuedClaim_iff.2 ⟨reader, same, window⟩
        refine ⟨_, ran, fun b c claim hits => cleared b c claim (.inl hits),
          fun free_slot => absurd same (free_slot y slot), fun x found same' => ?_⟩
        obtain rfl : y = x := Option.some.inj (slot.symm.trans found)
        refine ⟨(finish_steady _).trans rests, fun own none => ?_, fun own none => ?_, fun own hits => emptied (.inl hits),
          fun own => emptied (.inr ?_), cleared, fun own none => ?_, fun quiet => ?_⟩
        · rw [calm (uncut none) (by rw [own]; decide), own]
          rfl
        · rw [calm (uncut none) (by rw [own]; decide), own]
          rfl
        · rcases own with own | own <;> rw [own] <;> rfl
        · rw [calm (uncut none) (by rw [own]; decide), own]
          rfl
        · have calmed := finish_ofClaim (w := v) (lanesQuiet_of_same quiet (by rw [st]; rfl))
            fun n among => (told n among).elim (fun none => by cases none) id
          have link : v.finish.lkc = linkLeft r (bodySequence f.body) s.lkc y.own := calmed.lkc.trans (by rw [st]; rfl)
          refine ⟨fun own => ?_, fun own => ?_, fun own => ?_, fun b other => ?_⟩
          · rw [link, own]
            rfl
          · rw [link, own]
            rfl
          · rw [link]
            rcases own with own | own <;> rw [own] <;> rfl
          · refine (calmed.claim b).trans ((claims b).trans ?_)
            rw [if_neg fun cuts => ?_]
            · unfold claimLeft
              split
              · next offer =>
                exact goneWith_other fun c claim its => other c claim
                  (.inr ⟨offer, (queuedClaim_iff.1 its).2.2, (queuedClaim_iff.1 its).1, (queuedClaim_iff.1 its).2.1⟩)
              · rfl
            · obtain ⟨c, claim, hits⟩ := (hit_iff _).1 cuts
              exact other c claim (.inl hits)
      · have free_slot : ∀ x, s.slot r = some x → x.sequence ≠ bodySequence f.body := fun x slot same => occupied ⟨x, slot, same⟩
        rw [heardAnswer_free free_slot] at ran
        obtain ⟨-, claims⟩ := cancelWindows_spec (w := startWork free) its
        refine ⟨_, ran, fun b c claim hits => finish_noClaim ?_, fun _ => ⟨?_, fun none => ?_⟩,
          fun x slot same => absurd same (free_slot x slot)⟩
        · exact (claims b).trans (if_pos ((hit_iff _).2 ⟨c, claim, hits⟩))
        · exact (finish_steady _).trans (cancelWindows_steady its)
        · have stays : cancelWindows cut (startWork free) = startWork free := cancelWindows_none fun b => by
            rw [← Bool.not_eq_true, hit_iff]
            exact fun ⟨c, claim, hits⟩ => none ⟨b, c, claim, hits⟩
          rw [stays]
          rfl
  refine ⟨fun offer => settles .offerHeard (fun c => decide (rxKey f < c.key)) ?_ fun c => by simp [offer],
    fun deny => settles .denyHeard (fun _ => true) ?_ fun c => by simp [deny]⟩
  · simp only [exec, execOfferHeard]
    rw [fromHand_eq_carryOut (k := .csu) (f := f) held (by simp [isKind, offer])]
    rfl
  · simp only [exec, execDenyHeard, Bool.and_true]
    rw [fromHand_eq_carryOut (k := .csu) (f := f) held (by simp [isKind, deny])]
    rfl

end

end Sys2Proof.Machine
end

section
/-! A bay whose lane machine rests, or that no lane machine may take: what the notices leave of it. -/

namespace Sys2Proof.Machine

/-- The notices that leave a resting lane machine at its bay, the bay's door and its counters alone. -/
def Notice.aloof (b : BayIx) : Notice → Prop
  | .reading c _ _ | .releaseAsked c _ | .laneIdle c => c ≠ b
  | .writeEnded c (.provControl _) o => c ≠ b ∨ o = .replaced
  | .channelChanged c st | .laneChannel c st => c ≠ b ∨ st ≠ .off
  | _ => True

/-- The effects that leave the bay alone; those on the lane machines are said apart. -/
def Effect.aloof (b : BayIx) : Effect → Prop
  | .tell n => n.aloof b
  | .write c x => c ≠ b ∨ x.register ≠ .provControl
  | .prov c | .switch c | .count c | .session c | .release c | .pend c => c ≠ b
  | .lane => False
  | e => e.inner = true

/-- What stays of the bay and of the lane machines that serve it. -/
structure Rests (b : BayIx) (s t : State) : Prop where
  door : (t.bay b).door = (s.bay b).door
  counters : (t.bay b).counters = (s.bay b).counters
  prov : (t.bay b).prov = (s.bay b).prov
  provControl : (t.bay b).channel.provControl = (s.bay b).channel.provControl
  lane : ∀ n x, x.bay = b → (t.lane n = some x ↔ s.lane n = some x)
  campaigns : t.pvs.campaigns = s.pvs.campaigns

/-- A bay that no lane machine is at work for, and that none may take: it has one already, or a release, or no campaign
is held. -/
structure Barred (b : BayIx) (s : State) : Prop where
  rests : ∀ n x, s.laneOf b = some n → s.lane n = some x → laneWorks x.stage = false
  taken : ((∃ n x, s.lane n = some x ∧ x.bay = b) ∨ (s.bay b).door.release ≠ none) ∨ ∀ k, s.campaign k = none

/-- One effect, or a lane machine of another bay. -/
inductive Turn (b : BayIx) : Work → Work → Prop where
  | act {w v : Work} : Act {e | e.aloof b} w v → Turn b w v
  | lane {w : Work} (n : LaneIx) (x : Option LaneSession) : (∀ y, w.st.lane n = some y → y.bay ≠ b) →
      (∀ y, x = some y → y.bay ≠ b) → (x = none ∨ w.st.lane n ≠ none ∨ ∃ k, w.st.campaign k ≠ none) →
      Turn b w (w.upd fun s => s.setLane n x)

/-- Any number of them. -/
def Turns (b : BayIx) : Work → Work → Prop := Relation.ReflTransGen (Turn b)

section
variable {r s t : State} {b c : BayIx} {u v w : Work} {n : LaneIx}

/-! ### What stays -/

theorem Rests.refl : Rests b s s := ⟨rfl, rfl, rfl, rfl, fun _ _ _ => Iff.rfl, rfl⟩

theorem Rests.trans (h : Rests b r s) (h' : Rests b s t) : Rests b r t :=
  ⟨h'.door.trans h.door, h'.counters.trans h.counters, h'.prov.trans h.prov, h'.provControl.trans h.provControl,
    fun n x its => (h'.lane n x its).trans (h.lane n x its),
    h'.campaigns.trans h.campaigns⟩

theorem Rests.of_modBay {f : Bay → Bay} (same : ∀ x, (f x).door = x.door ∧ (f x).counters = x.counters ∧
    (f x).prov = x.prov ∧ (f x).channel.provControl = x.channel.provControl) : Rests b s (s.modBay c f) :=
  ⟨State.read_modBay s c b (·.door) fun x => (same x).1, State.read_modBay s c b (·.counters) fun x => (same x).2.1,
    State.read_modBay s c b (·.prov) fun x => (same x).2.2.1,
    State.read_modBay s c b (·.channel.provControl) fun x => (same x).2.2.2, fun _ _ _ => Iff.rfl, rfl⟩

theorem Rests.of_other {f : Bay → Bay} (other : c ≠ b) : Rests b s (s.modBay c f) := by
  have same : (s.modBay c f).bay b = s.bay b := State.bay_modBay_other _ other.symm _
  exact ⟨by rw [same], by rw [same], by rw [same], by rw [same], fun _ _ _ => Iff.rfl, rfl⟩

theorem Rests.laneOf (h : Rests b s t) : t.laneOf b = s.laneOf b := by
  unfold State.laneOf
  refine congrArg (List.find? · allLanes) (funext fun n => ?_)
  change (match t.lane n with | some x => x.bay == b | none => false) = match s.lane n with | some x => x.bay == b | none => false
  have same := h.lane n
  rw [Bool.eq_iff_iff]
  constructor
  · intro serves
    split at serves
    · next x its =>
      rw [(same x (eq_of_beq serves)).1 its]
      exact serves
    · cases serves
  · intro serves
    split at serves
    · next x its =>
      rw [(same x (eq_of_beq serves)).2 its]
      exact serves
    · cases serves

theorem Rests.barred (h : Rests b s t) (barred : Barred b s) : Barred b t := by
  refine ⟨fun n x serves session => ?_, barred.taken.imp (Or.imp ?_ ?_) fun none k => ?_⟩
  · obtain ⟨y, its, same⟩ := lane_of_laneOf serves
    rw [session] at its
    cases its
    exact barred.rests n x (h.laneOf ▸ serves) ((h.lane n x same).1 session)
  · exact fun ⟨n, x, session, same⟩ => ⟨n, x, (h.lane n x same).2 session, same⟩
  · rw [h.door]
    exact id
  · have none := none k
    unfold State.campaign at none ⊢
    rw [h.campaigns]
    exact none

theorem Barred.ineligible (h : Barred b s) (k : SlotIx) : eligible s b k = false := by
  rw [← Bool.not_eq_true]
  intro its
  obtain ⟨unserved, -, free⟩ := eligible_free its
  rcases h.taken with (⟨n, x, session, same⟩ | held) | none
  · exact laneOf_eq_none_iff.1 unserved n x session same
  · exact held free
  · simp only [eligible, none k, Bool.false_eq_true] at its

theorem Change.rests {e : Effect} (changed : Change e s t) (aloof : e.aloof b) : Rests b s t := by
  cases changed
  case recompute =>
    rw [recomputed_eq]
    exact ⟨rfl, rfl, rfl, rfl, fun _ _ _ => Iff.rfl, rfl⟩
  case reads c rs =>
    have marked (y : Channel) : (rs.foldl (fun c r => markDue r c) y).provControl = y.provControl :=
      congrArg (fun z : Option ProvWrite × Nat => z.1) (rfl : (_, 0) = (_, 0)) |>.trans (by
        induction rs generalizing y with
        | nil => rfl
        | cons r rs ih =>
          refine (ih (markDue r y)).trans ?_
          cases r <;> rfl)
    unfold requestReads
    split
    iterate 2 exact .of_modBay fun _ => ⟨rfl, rfl, rfl, marked _⟩
    all_goals exact .refl
  case write c x _ _ =>
    rcases aloof with other | register
    · exact .of_other other
    · refine .of_modBay fun y => ⟨rfl, rfl, rfl, ?_⟩
      cases x
      case provControl => exact absurd rfl register
      all_goals rfl
  case release c r _ =>
    have same : (startRelease c r (startWork s)).st.bay b = s.bay b :=
      (State.bay_modBay_other _ (Ne.symm aloof) _).trans
        ((State.bay_modBay_other _ (Ne.symm aloof) _).trans (State.bay_modBay_other _ (Ne.symm aloof) _))
    exact ⟨by rw [same], by rw [same], by rw [same], by rw [same], fun _ _ _ => Iff.rfl, rfl⟩
  case profileNow c _ =>
    unfold profileAtOnce
    exact .of_modBay fun _ => ⟨rfl, rfl, rfl, rfl⟩
  case wish | tune | enter | answered | channelUp | claim => exact .of_modBay fun _ => ⟨rfl, rfl, rfl, rfl⟩
  case pend | prov | switch | count | session => exact .of_other aloof
  case need | applied | freeChoice | frame | slot | loan | items => exact ⟨rfl, rfl, rfl, rfl, fun _ _ _ => Iff.rfl, rfl⟩
  case lane => exact aloof.elim
  all_goals exact absurd aloof Bool.false_ne_true

/-! ### Turns -/

theorem Turns.refl : Turns b w w := Relation.ReflTransGen.refl

theorem Turns.trans (h : Turns b u v) (h' : Turns b v w) : Turns b u w := Relation.ReflTransGen.trans h h'

theorem Turns.of_acts {can : Set Effect} (h : Acts can u v) (aloof : ∀ e ∈ can, e.aloof b) : Turns b u v :=
  Relation.ReflTransGen.mono (fun _ _ act => Turn.act act) _ _ (h.mono (also := {e | e.aloof b}) aloof)

theorem Turns.lane {x : Option LaneSession} (h : Turns b u v) (before : ∀ y, v.st.lane n = some y → y.bay ≠ b)
    (after : ∀ y, x = some y → y.bay ≠ b) (fills : x = none ∨ v.st.lane n ≠ none ∨ ∃ k, v.st.campaign k ≠ none) :
    Turns b u (v.upd fun s => s.setLane n x) :=
  Relation.ReflTransGen.tail h (.lane n x before after fills)

theorem Turns.tell {m : Notice} (h : Turns b u v) (aloof : m.aloof b) : Turns b u (v.raise m) :=
  Relation.ReflTransGen.tail h (.act (.tell aloof))

theorem Turns.tellIf {m : Notice} {p : Bool} (h : Turns b u v) (aloof : m.aloof b) : Turns b u (v.raiseIf p m) := by
  cases p
  · exact h
  · exact h.tell aloof

theorem Turns.rests (h : Turns b u v) : Rests b u.st v.st := by
  induction h with
  | refl => exact .refl
  | tail _ turn ih =>
    refine ih.trans ?_
    cases turn with
    | act act =>
      cases act with
      | tell _ => exact .refl
      | change may changed => exact changed.rests may
    | lane n x before after =>
      refine ⟨rfl, rfl, rfl, rfl, fun m y same => ?_, rfl⟩
      rw [Work.upd_st, State.lane_setLane]
      split
      · next here =>
        subst here
        exact ⟨fun its => absurd same (after y its), fun its => absurd same (before y its)⟩
      · exact Iff.rfl

theorem Turns.told (h : Turns b u v) : ∀ m ∈ v.todo, m ∈ u.todo ∨ m.aloof b := by
  induction h with
  | refl => exact fun m among => .inl among
  | tail _ turn ih =>
    cases turn with
    | act act =>
      cases act with
      | tell may =>
        intro m among
        rcases List.mem_append.1 among with earlier | now
        · exact ih m earlier
        · rw [List.mem_singleton.1 now]
          exact .inr may
      | change _ _ => exact ih
    | lane n x _ _ _ => exact ih

theorem Change.lane_aloof {e : Effect} (changed : Change e s t) (aloof : e.aloof b) : t.lane n = s.lane n := by
  cases changed
  case recompute =>
    rw [recomputed_eq]
    rfl
  case reads c rs =>
    unfold requestReads
    split <;> rfl
  case lane => exact aloof.elim
  all_goals first | rfl | exact absurd aloof Bool.false_ne_true

/-- R147: where no campaign is held, a lane machine that is IDLE stays so. -/
theorem Turns.idle (h : Turns b u v) (free : ∀ k, u.st.campaign k = none) (idle : u.st.lane n = none) : v.st.lane n = none := by
  induction h with
  | refl => exact idle
  | @tail v w before turn ih =>
    cases turn with
    | act act =>
      cases act with
      | tell _ => exact ih
      | change may changed => exact (changed.lane_aloof may).trans ih
    | lane m x _ _ fills =>
      rw [Work.upd_st, State.lane_setLane]
      split
      · next here =>
        subst here
        rcases fills with none | held | ⟨k, held⟩
        · exact none
        · exact absurd ih held
        · refine absurd (?_ : v.st.campaign k = none) held
          have same := (Turns.rests (b := b) before).campaigns
          have none := free k
          unfold State.campaign at none ⊢
          rw [same]
          exact none
      · exact ih

/-! ### Which effects leave the bay alone -/

theorem aloof_of_refreshing {e : Effect} (h : e ∈ refreshing c) : e.aloof b := by
  rcases h with rfl | rfl | rfl | rfl <;> trivial

theorem aloof_of_placing {k : FrameKind} {e : Effect} (h : e ∈ placing k) : e.aloof b := by
  rcases h with rfl | ⟨f, rfl⟩ <;> trivial

theorem aloof_of_writing {r : DockRegister} {e : Effect} (other : c ≠ b ∨ r ≠ .provControl) (h : e ∈ writing r c) :
    e.aloof b := by
  rcases h with rfl | ⟨x, rfl, rfl | ⟨o, rfl⟩⟩
  · trivial
  · exact other
  · cases x
    case provControl => exact other.imp_right fun no => absurd rfl no
    all_goals trivial

theorem aloof_of_charging {e : Effect} (h : e ∈ charging c) : e.aloof b := by
  rcases h with (((rfl | rfl) | h) | h) | h
  iterate 2 trivial
  · exact aloof_of_refreshing h
  · rcases h with rfl | rfl | rfl | rfl
    iterate 3 trivial
    exact .inr nofun
  · exact aloof_of_writing (.inr (by decide)) h

theorem aloof_of_splitting {e : Effect} (h : e ∈ splitting) : e.aloof b := by
  rcases h with rfl | ⟨c, (h | h) | rfl | rfl⟩
  · trivial
  · exact aloof_of_refreshing h
  · exact aloof_of_writing (.inr (by decide)) h
  iterate 2 trivial

theorem aloof_of_evaluating {e : Effect} (h : e ∈ evaluating) : e.aloof b := by
  rcases h with rfl | rfl | rfl <;> trivial

theorem aloof_of_unanswering {e : Effect} (h : e ∈ unanswering) : e.aloof b := by
  rcases h with rfl | ⟨c, rfl | rfl⟩ <;> trivial

/-! ### Sessions of other bays, and resting ones -/

/-- R152: the end of a session elsewhere, and of none at a lane machine that rests. -/
theorem endSession_turns (o : LaneOutcome) (rests : ∀ x, w.st.lane n = some x → x.bay = b → laneWorks x.stage = false) :
    Turns b w (endSession n o w) := by
  unfold endSession
  split
  · exact .refl
  · next x session =>
    split
    · next works =>
      have other : x.bay ≠ b := fun same => by
        rw [rests x session same] at works
        cases works
      have closed : Turns b w (w.upd fun s => s.modProv x.bay fun p => { p with switch := none }) :=
        .of_acts (can := {.prov x.bay}) (Acts.refl.change rfl (.prov _ (.inr rfl))) fun e among => by
          rw [among]
          exact other
      have ended := closed.lane (n := n) (x := some { x with stage := .releasing o, wakeWait := none, limit := none })
        (fun y its => by
          have its : w.st.lane n = some y := its
          rw [session] at its
          cases its
          exact other)
        (fun y its => by
          cases its
          exact other)
        (.inr (.inl fun none => by
          have none : w.st.lane n = .none := none
          rw [session] at none
          cases none))
      have refreshed (v : Work) : Turns b v (refreshWish x.bay v) :=
        .of_acts (refreshWish_acts subset_rfl) fun _ => aloof_of_refreshing
      have counted (v : Work) : Turns b v (v.upd fun s => s.modBay x.bay (countOutcome x.slot o)) := by
        have parts := (Acts.once (w := v) (can := {.prov x.bay, .session x.bay}) (.inl rfl)
          (.prov (countOutcome x.slot o (v.st.bay x.bay)).prov (.inl (countOutcome_kept ..).1))).change
          (f := fun s => s.modCounters x.bay fun _ => (countOutcome x.slot o (v.st.bay x.bay)).counters)
          (.inr rfl) (.session _)
        refine .of_acts (can := {.prov x.bay, .session x.bay}) ?_ fun e among => by
          rcases among with rfl | rfl <;> exact other
        exact (show v.upd (fun s => s.modBay x.bay (countOutcome x.slot o)) = _ from
          congrArg (fun s => (⟨s, v.todo⟩ : Work)) (modBay_countOutcome v.st x.slot o)) ▸ parts
      have placed (f : TxFrame) (bid : f.bid < 4096) (idle : f.inTransmission = false) (kind : f.kind ≠ .heartbeat) (v : Work) :
          Turns b v (place f v) :=
        .of_acts (place_acts f bid idle kind subset_rfl) fun _ => aloof_of_placing
      have written (y : ProvWrite) (v : Work) : Turns b v (requestWrite x.bay (.provControl y) v) :=
        .of_acts (requestWrite_acts (.provControl y) (fun _ no => nomatch no) subset_rfl) fun _ =>
          aloof_of_writing (.inl other)
      refine (((ended.trans (refreshed _)).trans (counted _)).trans (placed _ ?_ rfl (by simp [provStatusFrame, newFrame]) _)).trans (written _ _)
      simp only [provStatusFrame, newFrame]
      omega
    · exact .refl

theorem abortLane_turns (o : LaneOutcome)
    (rests : ∀ n x, w.st.laneOf b = some n → w.st.lane n = some x → laneWorks x.stage = false) :
    Turns b w (abortLane c o w) := by
  unfold abortLane
  split
  · exact .refl
  · next n serves =>
    obtain ⟨y, session, own⟩ := lane_of_laneOf serves
    refine endSession_turns o fun x its same => ?_
    rw [session] at its
    cases its
    exact rests n y (own.symm.trans same ▸ serves) session

/-- R151: an abort at a lane machine that rests does nothing. -/
theorem abortLane_resting (o : LaneOutcome)
    (rests : ∀ n x, w.st.laneOf b = some n → w.st.lane n = some x → laneWorks x.stage = false) :
    abortLane b o w = w := by
  unfold abortLane
  split
  · rfl
  · next n serves => exact endSession_stay o fun x its => rests n x serves its

/-- R149, R152: the outcome of a PROV_CONTROL write of another bay. -/
theorem provEnded_turns (v : ProvWrite) (o : WriteOutcome) (other : c ≠ b) : Turns b w (provEnded c v o w) := by
  unfold provEnded
  split
  · exact .refl
  · next n serves =>
    obtain ⟨x, session, same⟩ := lane_of_laneOf serves
    rw [session]
    dsimp only
    have apart : ∀ y, w.st.lane n = some y → y.bay ≠ b := fun y its => by
      rw [session] at its
      cases its
      rwa [same]
    split
    · refine Turns.refl.lane apart (fun y its => ?_) (.inr (.inl ?_))
      · cases its
        exact same ▸ other
      · rw [session]
        exact nofun
    · exact endSession_turns _ fun y its here => absurd here (apart y its)
    · exact .refl
    · have idle : Turns b w (w.upd fun s => s.setLane n none) := Turns.refl.lane apart nofun (.inl rfl)
      exact (((idle.tell (m := .laneIdle c) other).tell (m := .reevaluate c) trivial).tell (m := .select 0) trivial).tell
        (m := .select 1) trivial
    · exact .refl

theorem provEnded_replaced (v : ProvWrite) : provEnded b v .replaced w = w := by
  unfold provEnded
  split
  · rfl
  · split
    · rfl
    · split
      all_goals first | rfl | (next no => cases no)

theorem modProv_turns (f : State → Prov → Prov) (other : c ≠ b) : Turns b w (w.upd fun s => s.modProv c (f s)) :=
  .of_acts (can := {.switch c}) (Acts.refl.change rfl (.switch _)) fun e among => by
    rw [among]
    exact other

/-- R149, R150: a PROFILE reading of another bay. -/
theorem profileReading_turns (other : c ≠ b) : Turns b w (profileReading c w) := by
  unfold profileReading
  split
  · exact .refl
  · next n serves =>
    obtain ⟨x, session, same⟩ := lane_of_laneOf serves
    rw [session]
    have apart : ∀ y, w.st.lane n = some y → y.bay ≠ b := fun y its => by
      rw [session] at its
      cases its
      rwa [same]
    have ends (o : LaneOutcome) : Turns b w (endSession n o w) := endSession_turns o fun y its here => absurd here (apart y its)
    have connects : Turns b w (enterConnected n x w) :=
      (modProv_turns (fun s p => { p with switch := if (s.bay x.bay).door.state = .secure then some n else none })
        (same ▸ other)).lane (x := some { x with
          stage := .connected, wakeWait := none, entered := some w.st.now,
          limit := some (w.st.now + ((w.st.campaign x.slot).map fun c => c.limit).getD 0 * 60000) }) apart (fun y its => by
          cases its
          exact same ▸ other) (.inr (.inl fun none => by
            have none : w.st.lane n = .none := none
            rw [session] at none
            cases none))
    cases (w.st.bay c).view.profile with
    | none => exact .refl
    | some p =>
      dsimp only
      cases x.stage with
      | waking =>
        dsimp only
        split
        · cases p.state
          case ready => exact connects
          case error => exact ends _
          all_goals exact .refl
        · exact .refl
      | connected =>
        cases p.state
        case idle | error | done => exact ends _
        all_goals exact .refl
      | releasing o => exact .refl

theorem batteryAbort_turns (rests : ∀ n x, w.st.laneOf b = some n → w.st.lane n = some x → laneWorks x.stage = false) :
    Turns b w (batteryAbort c w) := by
  unfold batteryAbort
  split <;> [exact abortLane_turns _ rests; exact .refl]

theorem chargeAbort_turns (rests : ∀ n x, w.st.laneOf b = some n → w.st.lane n = some x → laneWorks x.stage = false) :
    Turns b w (chargeAbort c w) := by
  unfold chargeAbort
  split
  · exact abortLane_turns _ rests
  iterate 3 exact .refl
  all_goals exact abortLane_turns _ rests

theorem channelAbort_turns {st : ChannelState} (rests : ∀ n x, w.st.laneOf b = some n → w.st.lane n = some x → laneWorks x.stage = false)
    (aloof : c ≠ b ∨ st ≠ .off) : Turns b w (channelAbort c st w) := by
  cases st
  case off =>
    have other := aloof.resolve_right fun no => no rfl
    exact (abortLane_turns _ rests).trans (modProv_turns (fun _ p =>
      { p with attempts := Vector.replicate 4 0, blocked := Vector.replicate 4 false }) other)
  case active => exact .refl
  all_goals exact abortLane_turns _ rests

theorem channelNotice_turns {st : ChannelState} (rests : ∀ n x, w.st.laneOf b = some n → w.st.lane n = some x → laneWorks x.stage = false)
    (aloof : c ≠ b ∨ st ≠ .off) : Turns b w (channelNotice c st w) := by
  have charged (v : Work) : Turns b v (chargeChannel c st v) :=
    .of_acts (chargeChannel_acts subset_rfl st) fun _ => aloof_of_charging
  have later : Turns b w ((chargeChannel c st (channelAbort c st w)).raise (.reevaluate c)) :=
    ((channelAbort_turns rests aloof).trans (charged _)).tell trivial
  have first : Turns b w ((chargeChannel c st w).raise (.laneChannel c st)) := (charged w).tell aloof
  have free {v : Work} (h : Turns b w v) : Turns b w (v.upd fun s => { s with freeCount := s.freeCount + 1 }) :=
    h.trans (.of_acts (can := {.freeChoice}) (Acts.refl.change rfl .freeChoice) fun e among => by
      rw [among]
      trivial)
  unfold channelNotice
  cases st
  case silent | stuck =>
    dsimp only
    split
    · split
      · exact free first
      · exact free later
    · exact later
  all_goals exact later

/-! ### Selection (R147, R148) -/

theorem enterWaking_turns {x : QueueItem} (k : Campaign) (idle : w.st.lane n = none) (other : x.bay ≠ b)
    (held : ∃ k, w.st.campaign k ≠ none) (active : (w.st.bay x.bay).channel.state = .active) : Turns b w (enterWaking n x k w) := by
  unfold enterWaking
  extract_lets w₁ w₂
  have placed : Turns b w w₁ := Turns.refl.lane (x := some (wakingSession w.st x k))
    (fun y its => by rw [idle] at its; cases its) (fun y its => by
      cases its
      exact other) (.inr (.inr held))
  have asked : Turns b w₁ w₂ := .of_acts (requestWrite_acts (.provControl { enter := true, campaign := k.id })
    (fun _ no => nomatch no) subset_rfl) fun _ => aloof_of_writing (.inl other)
  have open_channel : (w₂.st.bay x.bay).channel.state = .active :=
    (requestWrite_state (w := w₁) (.provControl { enter := true, campaign := k.id }) x.bay x.bay).trans active
  have marked : Turns b w₂ (w₂.upd (profileAtOnce x.bay)) :=
    .of_acts (can := {.profileNow x.bay}) (Acts.refl.change rfl (.profileNow open_channel)) fun e among => by
      rw [among]
      trivial
  exact ((placed.trans asked).trans marked).trans
    (.of_acts (refreshWish_acts subset_rfl) fun _ => aloof_of_refreshing)

theorem items_turns (queue : List QueueItem) (streak : Nat) :
    Turns b w (w.upd fun s => s.modPvs fun p => { p with queue := queue, streak := streak }) :=
  .of_acts (can := {.items}) (Acts.refl.change rfl (.items queue streak)) fun e among => by
    rw [among]
    trivial

theorem selectFrom_turns (idle : w.st.lane n = none) (barred : Barred b w.st) (k : Nat) : Turns b w (selectFrom n k w) := by
  induction k generalizing w with
  | zero => exact .refl
  | succ k ih =>
    unfold selectFrom
    split
    · exact .refl
    · next x streak _ =>
      extract_lets w₁
      have taken : Turns b w w₁ := items_turns (dropItem x.bay w.st.pvs.queue) w.st.pvs.streak
      have again : Turns b w (selectFrom n k w₁) := taken.trans (ih idle (taken.rests.barred barred))
      split
      · exact again
      · next c campaign =>
        split
        · next wakes =>
          have other : x.bay ≠ b := fun same => by
            rw [same, (taken.rests.barred barred).ineligible] at wakes
            cases wakes
          exact (taken.trans (items_turns w₁.st.pvs.queue streak)).trans
            (enterWaking_turns (w := w₁.upd fun s => s.modPvs fun p => { p with queue := w₁.st.pvs.queue, streak := streak })
              _ idle other ⟨x.slot, fun none => by cases campaign.symm.trans none⟩ (channel_of_eligible wakes))
        · exact again

theorem selectLane_turns (barred : Barred b w.st) : Turns b w (selectLane n w) := by
  unfold selectLane
  split
  · next idle => exact selectFrom_turns (Option.isNone_iff_eq_none.1 idle) barred _
  · exact .refl

/-! ### Every aloof notice -/

theorem aloof_of_releasing {e : Effect} (other : c ≠ b) (h : e ∈ releasing c) : e.aloof b := by
  rcases h with rfl | rfl | rfl | ⟨r, o, rfl⟩
  iterate 2 exact other
  iterate 2 trivial

theorem readingNotice_turns (x : DockRegister) (cls : IdentClass) (other : c ≠ b) (barred : Barred b w.st) :
    Turns b w (readingNotice c x cls w) := by
  have read (x : DockRegister) : Turns b w (chargeReading c x w) :=
    .of_acts (chargeReading_acts subset_rfl x) fun e among => by
      rcases among with rfl | among
      · exact other
      · exact aloof_of_charging among
  cases x
  case ident =>
    have noted (v : Work) : Turns b v (identNotice c cls v) := .of_acts (identNotice_acts cls subset_rfl) fun e among => by
      rcases among with (among | rfl) | among
      · exact aloof_of_placing among
      · trivial
      · exact aloof_of_writing (.inl other) among
    refine Turns.tell (m := .reevaluate c) ?_ trivial
    split
    · exact ((read .ident).trans (noted _)).trans (modProv_turns (fun _ p =>
        { p with attempts := Vector.replicate 4 0, blocked := Vector.replicate 4 false }) other)
    · exact (read .ident).trans (noted _)
  case battery =>
    exact ((read .battery).trans (batteryAbort_turns ((read .battery).rests.barred barred).rests)).tell (m := .reevaluate c) trivial
  case chargeRequest => exact read _
  case profile => exact (profileReading_turns other).tell (m := .reevaluate c) trivial
  all_goals exact .refl

theorem writeNotice_turns (x : DockWrite) (o : WriteOutcome) (aloof : (Notice.writeEnded c x o).aloof b) :
    Turns b w (writeNotice c x o w) := by
  cases x with
  | custody v => exact .of_acts (custodyEnded_acts v o subset_rfl) fun _ => aloof_of_placing
  | provControl v =>
    by_cases other : c = b
    · have replaced : o = .replaced := aloof.resolve_left fun no => no other
      have same : writeNotice c (.provControl v) o w = w := by
        rw [other, replaced]
        exact provEnded_replaced v
      rw [same]
      exact .refl
    · exact provEnded_turns v o other
  | chargeLimit g => exact .refl

theorem handle_turns {m : Notice} (barred : Barred b w.st) (aloof : m.aloof b) : Turns b w (handle m w) := by
  cases m with
  | recompute =>
    exact .of_acts (handle_acts .recompute w) fun e among => by rcases among with rfl | rfl <;> trivial
  | split => exact .of_acts (handle_acts .split w) fun _ => aloof_of_splitting
  | wishInput c => exact .of_acts (handle_acts (.wishInput c) w) fun _ => aloof_of_refreshing
  | chargeChanged c => exact (chargeAbort_turns barred.rests).tell (m := .reevaluate c) trivial
  | channelChanged c st => exact channelNotice_turns barred.rests aloof
  | laneChannel c st => exact (channelAbort_turns barred.rests aloof).tell (m := .reevaluate c) trivial
  | reading c x cls => exact readingNotice_turns x cls aloof barred
  | writeEnded c x o => exact writeNotice_turns x o aloof
  | discarded f => exact .of_acts (discardNotice_acts f subset_rfl) fun _ => aloof_of_unanswering
  | doorMoved c left =>
    refine Turns.tell (m := .reevaluate c) ?_ trivial
    split <;> [exact abortLane_turns _ barred.rests; exact .refl]
  | episodeEnded c attr r p =>
    exact Turns.tell (m := .reevaluate c) (.of_acts (episodeEndNotice_acts attr r p subset_rfl) fun _ =>
      aloof_of_writing (.inr (by decide))) trivial
  | releaseAsked c r =>
    have asked : Turns b w (askRelease c r w) := .of_acts (askRelease_acts r subset_rfl) fun _ => aloof_of_releasing aloof
    simp only [handle, requestRelease]
    split
    · exact asked
    · exact (asked.trans (abortLane_turns _ (asked.rests.barred barred).rests)).tell (m := .reevaluate c) trivial
  | releaseAnswered c r o =>
    exact .of_acts (releaseAnswer_acts r o subset_rfl) fun e among => by
      rcases among with (among | among) | among
      iterate 2 exact aloof_of_placing among
      exact aloof_of_writing (.inr (by decide)) among
  | laneIdle c => exact .of_acts (laneReportedIdle_acts subset_rfl) fun _ => aloof_of_releasing aloof
  | reevaluate c => exact .of_acts (handle_acts (.reevaluate c) w) fun _ => aloof_of_evaluating
  | reevaluateAll => exact .of_acts (handle_acts .reevaluateAll w) fun _ => aloof_of_evaluating
  | select n => exact selectLane_turns barred
  | serviceChanged c => exact .of_acts (handle_acts (.serviceChanged c) w) fun _ => aloof_of_charging

/-- What the notices leave of a bay that no lane machine is at work for, and that none may take. -/
theorem settle_rests (k : Nat) (barred : Barred b w.st) (start : ∀ m ∈ w.todo, m.aloof b) : Rests b w.st (settle k w).st := by
  refine settle_keeps (P := Rests b w.st) (Q := Notice.aloof b) (fun m s aloof same => ?_) k w .refl start
  have turns := handle_turns (w := startWork s) (same.barred barred) aloof
  exact ⟨same.trans turns.rests, fun m told => (turns.told m told).elim (fun none => by cases none) id⟩

theorem finish_rests (barred : Barred b w.st) (start : ∀ m ∈ w.todo, m.aloof b) : Rests b w.st w.finish :=
  settle_rests _ barred start

/-- R147: where no campaign is held, a lane machine that is IDLE stays so under all notices that leave a bay alone. -/
theorem settle_idle (k : Nat) (barred : Barred b w.st) (start : ∀ m ∈ w.todo, m.aloof b)
    (free : ∀ k, w.st.campaign k = none) (idle : w.st.lane n = none) : (settle k w).st.lane n = none := by
  refine (settle_keeps (P := fun s => Rests b w.st s ∧ s.lane n = none) (Q := Notice.aloof b) (fun m s aloof holds => ?_) k w
    ⟨.refl, idle⟩ start).2
  obtain ⟨same, idle⟩ := holds
  have turns := handle_turns (w := startWork s) (same.barred barred) aloof
  refine ⟨⟨same.trans turns.rests, turns.idle (fun k => ?_) idle⟩, fun m told => (turns.told m told).elim
    (fun none => by cases none) id⟩
  have none := free k
  unfold State.campaign at none ⊢
  rw [startWork, same.campaigns]
  exact none

end

end Sys2Proof.Machine
end

section
/-! The end of a lane session (R152 to R154): what it leaves at its bay, and that the notices after it leave it so. -/

namespace Sys2Proof.Machine

section
variable {s t : State} {b : BayIx} {w : Work} {n : LaneIx} {x : LaneSession} {o : LaneOutcome}

/-- R152: the session of a lane machine that enters RELEASING. -/
def LaneSession.ended (x : LaneSession) (o : LaneOutcome) : LaneSession :=
  { x with stage := .releasing o, wakeWait := none, limit := none }

/-- The work of a session's end before its frame: switch, lane machine, wish and class, outcome. -/
def sessionCounted (n : LaneIx) (x : LaneSession) (o : LaneOutcome) (w : Work) : Work :=
  (refreshWish x.bay (w.upd (sessionOver n x o))).upd fun s => s.modBay x.bay (countOutcome x.slot o)

theorem endSession_eq (session : w.st.lane n = some x) (works : laneWorks x.stage = true) : endSession n o w =
    requestWrite x.bay (.provControl { enter := false, campaign := x.campaign })
      (place (provStatusFrame (sessionCounted n x o w).st x o) (sessionCounted n x o w)) := by
  unfold endSession
  rw [session]
  simp only [works, if_true]
  rfl

/-- R153: the attempts of a bay after an outcome. -/
def provAfter (k : SlotIx) (o : LaneOutcome) (p : Prov) : Prov :=
  if outcomeFails o then
    { p with
      attempts := p.attempts.set k (p.attempts[k] + 1)
      blocked := p.blocked.set k (p.blocked[k] || decide (3 ≤ p.attempts[k] + 1)) }
  else p

/-- R154: the counters of a bay after an outcome. -/
def countersAfter (o : LaneOutcome) (c : BayCounters) : BayCounters :=
  if outcomeFails o then { c with provFailures := c.provFailures + 1 }
  else if o = .success then { c with provSuccesses := c.provSuccesses + 1 }
  else c

theorem countOutcome_eq (k : SlotIx) (o : LaneOutcome) (y : Bay) :
    countOutcome k o y = { y with prov := provAfter k o y.prov, counters := countersAfter o y.counters } := by
  unfold countOutcome provAfter countersAfter
  split
  · rfl
  · split <;> rfl

/-! ### The counted session -/

theorem sessionCounted_lane (m : LaneIx) : (sessionCounted n x o w).st.lane m =
    if m = n then some (x.ended o) else w.st.lane m := by
  have refreshed : (refreshWish x.bay (w.upd (sessionOver n x o))).st.lane m = (sessionOver n x o w.st).lane m := by
    rw [refreshWish_st]
    rfl
  exact refreshed.trans (sessionOver_lane ..)

theorem sessionCounted_bay : (sessionCounted n x o w).st.bay x.bay =
    { w.st.bay x.bay with
      prov := provAfter x.slot o { (w.st.bay x.bay).prov with switch := none }
      counters := countersAfter o (w.st.bay x.bay).counters
      charge := ((refreshWish x.bay (w.upd (sessionOver n x o))).st.bay x.bay).charge } := by
  have tunes := (refreshWish_tunes (b := x.bay) (w := w.upd (sessionOver n x o))).own
  have opened : (w.upd (sessionOver n x o)).st.bay x.bay =
      { w.st.bay x.bay with prov := { (w.st.bay x.bay).prov with switch := none } } :=
    State.bay_modBay_same w.st x.bay fun y => { y with prov := { y.prov with switch := none } }
  rw [refreshWish_channel, opened] at tunes
  refine (State.bay_modBay_same _ x.bay _).trans ?_
  rw [countOutcome_eq, tunes]

theorem sessionCounted_lkc : (sessionCounted n x o w).st.lkc = w.st.lkc := by
  have refreshed : (refreshWish x.bay (w.upd (sessionOver n x o))).st.lkc = (sessionOver n x o w.st).lkc := by
    rw [refreshWish_st]
    rfl
  exact refreshed

/-! ### The end of a session -/

section
variable (session : w.st.lane n = some x) (works : laneWorks x.stage = true)
include session works

theorem endSession_lane (m : LaneIx) :
    (endSession n o w).st.lane m = if m = n then some (x.ended o) else w.st.lane m := by
  rw [endSession_eq session works]
  have pvs := (requestWrite_tunes (b := x.bay) (.provControl { enter := false, campaign := x.campaign })
    (w := place (provStatusFrame (sessionCounted n x o w).st x o) (sessionCounted n x o w))).spares.pvs
  unfold State.lane
  rw [pvs, place_eq]
  exact sessionCounted_lane m

/-- R152 to R154: what a session's end makes of its bay. -/
theorem endSession_bay : (endSession n o w).st.bay x.bay =
    { w.st.bay x.bay with
      prov := provAfter x.slot o { (w.st.bay x.bay).prov with switch := none }
      counters := countersAfter o (w.st.bay x.bay).counters
      charge := ((endSession n o w).st.bay x.bay).charge
      channel := ((endSession n o w).st.bay x.bay).channel } := by
  have own := (requestWrite_tunes (b := x.bay) (.provControl { enter := false, campaign := x.campaign })
    (w := place (provStatusFrame (sessionCounted n x o w).st x o) (sessionCounted n x o w))).own
  have placed : (place (provStatusFrame (sessionCounted n x o w).st x o) (sessionCounted n x o w)).st.bay x.bay =
      (sessionCounted n x o w).st.bay x.bay := by rw [place_eq]; rfl
  rw [← endSession_eq session works, placed, sessionCounted_bay] at own
  exact own

theorem endSession_lkc : (endSession n o w).st.lkc =
    w.st.lkc.placed (provStatusFrame (sessionCounted n x o w).st x o) := by
  rw [endSession_eq session works]
  have spares := (requestWrite_tunes (b := x.bay) (.provControl { enter := false, campaign := x.campaign })
    (w := place (provStatusFrame (sessionCounted n x o w).st x o) (sessionCounted n x o w))).spares
  refine ((congrArg State.lkc spares).trans rfl).trans ?_
  rw [place_eq]
  exact congrArg (Lkc.placed _) sessionCounted_lkc

/-- R152: the EXIT write of an ACTIVE channel whose tablet takes PROV_CONTROL is pending. -/
theorem endSession_provControl (active : (w.st.bay x.bay).channel.state = .active)
    (takes : ∀ i, (w.st.bay x.bay).view.identity = some i → takesProvControl i = true) :
    ((endSession n o w).st.bay x.bay).channel.provControl = some { enter := false, campaign := x.campaign } ∧
      ∀ m ∈ (endSession n o w).todo, m ∈ w.todo ∨ m.aloof x.bay := by
  have placed : (place (provStatusFrame (sessionCounted n x o w).st x o) (sessionCounted n x o w)).st.bay x.bay =
      (sessionCounted n x o w).st.bay x.bay := by rw [place_eq]; rfl
  have told : ∀ m ∈ (place (provStatusFrame (sessionCounted n x o w).st x o) (sessionCounted n x o w)).todo,
      m ∈ w.todo ∨ m.aloof x.bay := fun m among => by
    rw [place_eq] at among
    rcases List.mem_append.1 among with counted | dropped
    · rcases (refreshWish_acts (b := x.bay) (w := w.upd (sessionOver n x o)) subset_rfl).told m counted with before | now
      · exact .inl before
      · exact .inr (aloof_of_refreshing now)
    · obtain ⟨g, -, rfl⟩ := Option.map_eq_some_iff.1 (Option.mem_toList.1 dropped)
      exact .inr trivial
  rw [endSession_eq session works]
  generalize place (provStatusFrame (sessionCounted n x o w).st x o) (sessionCounted n x o w) = v at placed told ⊢
  rw [sessionCounted_bay] at placed
  have up : (v.st.bay x.bay).channel.state = .active := by rw [placed]; exact active
  have supported : writeSupported (v.st.bay x.bay).view (.provControl { enter := false, campaign := x.campaign }) = true := by
    rw [placed]
    unfold writeSupported
    dsimp only
    split
    · next i its => exact takes i its
    · rfl
  simp only [requestWrite, up, supported, bne_self_eq_false, Bool.false_eq_true, if_false, Bool.not_true]
  have written : (((v.upd fun s => s.modChannel x.bay fun c => addPending c (.provControl
      { enter := false, campaign := x.campaign })).st.bay x.bay).channel).provControl =
        some { enter := false, campaign := x.campaign } := by
    rw [Work.upd_st, State.channel_modChannel, if_pos rfl]
    rfl
  split
  · next old pending =>
    refine ⟨written, fun m among => ?_⟩
    rcases List.mem_append.1 among with before | now
    · exact told m before
    · obtain ⟨z, -, rfl⟩ := Option.map_eq_some_iff.1 pending
      exact .inr (List.mem_singleton.1 now ▸ .inr rfl)
  · exact ⟨written, told⟩

theorem endSession_laneOf (b : BayIx) : (endSession n o w).st.laneOf b = w.st.laneOf b := by
  unfold State.laneOf
  refine congrArg (List.find? · allLanes) (funext fun m => ?_)
  change (match (endSession n o w).st.lane m with | some y => y.bay == b | none => false) =
    match w.st.lane m with | some y => y.bay == b | none => false
  rw [endSession_lane session works]
  by_cases here : m = n
  · rw [here, if_pos rfl, session]
    rfl
  · rw [if_neg here]

/-- R152: after the end of its session a bay is barred. -/
theorem endSession_barred (serves : w.st.laneOf x.bay = some n) : Barred x.bay (endSession n o w).st := by
  have ended : (endSession n o w).st.lane n = some (x.ended o) := (endSession_lane session works n).trans (if_pos rfl)
  refine ⟨fun m y its at_m => ?_, .inl (.inl ⟨n, _, ended, rfl⟩)⟩
  rw [endSession_laneOf session works, serves] at its
  cases its
  rw [ended] at at_m
  cases at_m
  rfl

end

/-- R152 to R154: once a session has ended and its notices wait, its bay stays as the end left it. -/
theorem settle_ended {v : Work} (k : Nat) (session : w.st.lane n = some x) (works : laneWorks x.stage = true)
    (serves : w.st.laneOf x.bay = some n) (active : (w.st.bay x.bay).channel.state = .active)
    (takes : ∀ i, (w.st.bay x.bay).view.identity = some i → takesProvControl i = true)
    (rests : Rests x.bay (endSession n o w).st v.st) (start : ∀ m ∈ v.todo, m ∈ (endSession n o w).todo ∨ m.aloof x.bay)
    (before : ∀ m ∈ w.todo, m.aloof x.bay) :
    (settle k v).st.lane n = some (x.ended o) ∧
      ((settle k v).st.bay x.bay).channel.provControl = some { enter := false, campaign := x.campaign } ∧
      ((settle k v).st.bay x.bay).prov = provAfter x.slot o { (w.st.bay x.bay).prov with switch := none } ∧
      ((settle k v).st.bay x.bay).counters = countersAfter o (w.st.bay x.bay).counters ∧
      ((settle k v).st.bay x.bay).door = (w.st.bay x.bay).door := by
  obtain ⟨exits, told⟩ := endSession_provControl (o := o) session works active takes
  have bay := endSession_bay (o := o) session works
  have barred := rests.barred (endSession_barred (o := o) session works serves)
  have rests : Rests x.bay (endSession n o w).st (settle k v).st := rests.trans
    (settle_rests k barred fun m among => (start m among).elim (fun ended => (told m ended).elim (before m) id) id)
  have ended : (endSession n o w).st.lane n = some (x.ended o) := (endSession_lane session works n).trans (if_pos rfl)
  refine ⟨(rests.lane n (x.ended o) rfl).2 ended, rests.provControl.trans exits, rests.prov.trans ?_, rests.counters.trans ?_,
    rests.door.trans ?_⟩
  all_goals rw [bay]

/-- The same of the end of a session and all the notices of a command. -/
theorem finish_ended {v : Work} (session : w.st.lane n = some x) (works : laneWorks x.stage = true)
    (serves : w.st.laneOf x.bay = some n) (active : (w.st.bay x.bay).channel.state = .active)
    (takes : ∀ i, (w.st.bay x.bay).view.identity = some i → takesProvControl i = true)
    (before : ∀ m ∈ w.todo, m.aloof x.bay) (turns : Turns x.bay (endSession n o w) v) :
    v.finish.lane n = some (x.ended o) ∧
      (v.finish.bay x.bay).channel.provControl = some { enter := false, campaign := x.campaign } ∧
      (v.finish.bay x.bay).prov = provAfter x.slot o { (w.st.bay x.bay).prov with switch := none } ∧
      (v.finish.bay x.bay).counters = countersAfter o (w.st.bay x.bay).counters ∧
      (v.finish.bay x.bay).door = (w.st.bay x.bay).door :=
  settle_ended _ session works serves active takes turns.rests turns.told before

end

end Sys2Proof.Machine
end

section
/-! A release that is asked for: started, waiting for the lane, refused (R103, R104, R132, R151). -/

namespace Sys2Proof.Machine

section
variable {s t : State} {b : BayIx} {w : Work} {n : LaneIx} {r : ReleaseRecord} {rest : List Notice}

/-- R104: the record of a release, with the minute of its start. -/
def ReleaseRecord.begun (r : ReleaseRecord) (s : State) : ReleaseRecord := { r with start := s.csu.minute }

/-- R104: the state of a release that starts. -/
def releaseBegun (b : BayIx) (r : ReleaseRecord) (s : State) : State := (startRelease b r (startWork s)).st

theorem releaseBegun_door : ((releaseBegun b r s).bay b).door =
    { (s.bay b).door with
      state := .releasing, latch := .full, release := some (r.begun s), pendingLane := false,
      pullIn := some (s.now + pullInTime), window := some (s.now + s.cfl.config.releaseTime * 1000),
      boltWait := none } := by
  simp [releaseBegun, startRelease, openSwitch, ReleaseRecord.begun]

theorem releaseBegun_counters : ((releaseBegun b r s).bay b).counters =
    { (s.bay b).counters with releases := (s.bay b).counters.releases + 1 } := by
  simp [releaseBegun, startRelease, openSwitch]

theorem releaseBegun_same : (releaseBegun b r s).pvs = s.pvs ∧ (releaseBegun b r s).lkc = s.lkc ∧
    (releaseBegun b r s).csu = s.csu := ⟨rfl, rfl, rfl⟩

theorem releaseBegun_bay : (releaseBegun b r s).bay b = { s.bay b with
    door := ((releaseBegun b r s).bay b).door,
    prov := { (s.bay b).prov with switch := none },
    counters := ((releaseBegun b r s).bay b).counters } := by
  simp [releaseBegun, startRelease, openSwitch, State.modCounters, State.modProv, State.modDoor]

/-- R103: a release of a bay that no lane machine serves starts at once. -/
theorem requestRelease_unserved (free : releaseBusy s b = false) (unserved : s.laneOf b = none) :
    requestRelease b r (startWork s) =
      { st := releaseBegun b r s
        todo := [.releaseAnswered b (r.begun s) .started, .doorMoved b true, .reevaluate b] } := by
  have begun : startRelease b r (startWork s) =
      { st := releaseBegun b r s
        todo := [.releaseAnswered b (r.begun s) .started, .doorMoved b true] } := rfl
  have none : (releaseBegun b r s).laneOf b = none := unserved
  simp only [requestRelease, askRelease, startWork, free, unserved, Option.isSome_none, Bool.false_eq_true, if_false]
  rw [show (startRelease b r { st := s, todo := [] }) = _ from begun]
  simp only [abortLane, none]
  rfl

theorem releaseBegun_barred (unserved : s.laneOf b = none) : Barred b (releaseBegun b r s) := by
  refine ⟨fun n x serves _ => ?_, .inl (.inr ?_)⟩
  · have none : (releaseBegun b r s).laneOf b = none := unserved
    rw [none] at serves
    cases serves
  · rw [releaseBegun_door]
    exact nofun

/-! ### The notices of a barred bay -/

/-- The notices that a barred bay works with its queue item alone. -/
def Notice.hushed (b : BayIx) (m : Notice) : Prop :=
  (∃ v, m = .writeEnded b (.custody v) .replaced) ∨ (∃ left, m = .doorMoved b left) ∨ m = .reevaluate b

/-- The state with another provisioning queue. -/
def State.queued (s : State) (q : List QueueItem) : State := { s with pvs := { s.pvs with queue := q } }

theorem chosenCampaign_ineligible (out : ∀ k, eligible s b k = false) : chosenCampaign s b = none := by
  have nothing : allSlots.filter (eligible s b) = [] := List.filter_eq_nil_iff.2 fun k _ => by
    rw [out]
    exact Bool.false_ne_true
  simp only [chosenCampaign, nothing]
  rfl

theorem evaluateBay_queued (b : BayIx) (s : State) : ∃ q, evaluateBay b s = s.queued q := by
  unfold evaluateBay
  split
  · exact ⟨s.pvs.queue, rfl⟩
  · exact ⟨_, rfl⟩

/-- R145: a bay that no campaign takes adds no item. -/
theorem reevaluate_ineligible (out : ∀ k, eligible s b k = false) : ∃ q, reevaluate b (startWork s) = startWork (s.queued q) := by
  obtain ⟨q, its⟩ := evaluateBay_queued b s
  refine ⟨q, ?_⟩
  have adds : addsItem s b = false := by simp [addsItem, chosenCampaign_ineligible out]
  simp only [reevaluate, startWork, adds, Work.upd, its]
  rfl

theorem Barred.queued (barred : Barred b s) (q : List QueueItem) : Barred b (s.queued q) := ⟨barred.rests, barred.taken⟩

theorem settle_hushed (k : Nat) (barred : Barred b w.st) (start : ∀ m ∈ w.todo, m.hushed b) :
    ∃ q, (settle k w).st = w.st.queued q := by
  refine (settle_keeps (P := fun s => Barred b s ∧ ∃ q, s = w.st.queued q) (Q := Notice.hushed b)
    (fun m s hushed holds => ?_) k w ⟨barred, w.st.pvs.queue, rfl⟩ start).2
  obtain ⟨bars, q, own⟩ := holds
  rcases hushed with ⟨v, rfl⟩ | ⟨left, rfl⟩ | rfl
  · exact ⟨⟨bars, q, own⟩, fun m none => by cases none⟩
  · have same : handle (.doorMoved b left) (startWork s) = (startWork s).raise (.reevaluate b) := by
      simp only [handle, abortLane_resting (w := startWork s) _ bars.rests, ite_self]
    rw [same]
    exact ⟨⟨bars, q, own⟩, fun m now => .inr (.inr (List.mem_singleton.1 now))⟩
  · obtain ⟨q', its⟩ := reevaluate_ineligible bars.ineligible
    have same : handle (.reevaluate b) (startWork s) = startWork (s.queued q') := its
    rw [same]
    refine ⟨⟨bars.queued q', q', ?_⟩, fun m none => by cases none⟩
    rw [own]
    rfl

/-! ### Notice after notice -/

theorem settle_step {m : Notice} (k : Nat) (first : w.todo = m :: rest) : ∃ z : Work, z.st = (handle m (startWork w.st)).st ∧
    z.todo = (handle m (startWork w.st)).todo ++ rest ∧ settle (k + 1) w = settle k z := by
  refine ⟨{ st := (handle m (startWork w.st)).st, todo := (handle m (startWork w.st)).todo ++ rest }, rfl, rfl, ?_⟩
  rw [settle]
  simp only [first]

theorem finish_step {m : Notice} (first : w.todo = m :: rest) : ∃ z : Work, z.st = (handle m (startWork w.st)).st ∧
    z.todo = (handle m (startWork w.st)).todo ++ rest ∧ w.finish = (settle 4095 z).st := by
  obtain ⟨z, st, todo, same⟩ := settle_step 4095 first
  exact ⟨z, st, todo, congrArg Work.st same⟩

/-! ### A release that starts -/

/-- R138: the CUSTODY value of a release. -/
def releasedCustody (r : ReleaseRecord) : CustodyWrite := { released := true, credential := r.credential }

/-- R132: what the start of a release writes and places. -/
theorem releaseAnswer_started : (releaseAnswer b r .started w).st =
    (if handsOut r.reason && (w.st.bay b).present then
      requestCustody b (releasedCustody r)
        (place (releasedFrame b (((w.st.bay b).view.identity.map fun i => i.asset).getD 0) r) w)
    else place (releasedFrame b (((w.st.bay b).view.identity.map fun i => i.asset).getD 0) r) w).st := rfl

theorem startedCustody : ((releaseAnswer b r .started w).st.bay b).channel.custody =
    if handsOut r.reason = true ∧ (w.st.bay b).present = true ∧ (w.st.bay b).channel.state = .active ∧
        (w.st.bay b).view.identity.all takesCustody = true then some (releasedCustody r)
    else (w.st.bay b).channel.custody := by
  rw [releaseAnswer_started]
  split
  · next hands =>
    obtain ⟨hands, present⟩ := Bool.and_eq_true_iff.1 hands
    rw [requestCustody_custody, place_bay]
    simp only [hands, present, true_and]
  · next keeps =>
    rw [place_bay, if_neg]
    exact fun all => keeps (Bool.and_eq_true_iff.2 ⟨all.1, all.2.1⟩)

/-- R132: where the queue has room, the start of a release places its frame, and tells no more than that a CUSTODY write
was replaced. -/
theorem releaseAnswer_room (room : s.lkc.queue.length < 8) :
    (releaseAnswer b r .started (startWork s)).st.lkc = { s.lkc with
      queue := insertFrame (releasedFrame b (((s.bay b).view.identity.map fun i => i.asset).getD 0) r) s.lkc.queue } ∧
    ∀ m ∈ (releaseAnswer b r .started (startWork s)).todo, m.hushed b := by
  have placed := place_of_room (releasedFrame b (((s.bay b).view.identity.map fun i => i.asset).getD 0) r)
    (w := startWork s) room
  have asked (v : Work) : (requestCustody b (releasedCustody r) v).st.lkc = v.st.lkc ∧
      ∀ m ∈ (requestCustody b (releasedCustody r) v).todo, m ∈ v.todo ∨ m.hushed b := by
    have acts := requestCustody_calm (w := v) (b := b) (releasedCustody r) subset_rfl
    refine ⟨(acts.keeps (P := fun u => Calmed v.st u) (fun e may _ _ changed calm =>
      calm.trans (changed.calmed (calm_of_custodyAsked may))) .refl).lkc, fun m told => (acts.told m told).imp_right ?_⟩
    rintro ⟨u, its | its⟩ <;> cases its
    exact .inl ⟨u, rfl⟩
  have run : releaseAnswer b r .started (startWork s) =
      if handsOut r.reason && (s.bay b).present then requestCustody b (releasedCustody r)
        (place (releasedFrame b (((s.bay b).view.identity.map fun i => i.asset).getD 0) r) (startWork s))
      else place (releasedFrame b (((s.bay b).view.identity.map fun i => i.asset).getD 0) r) (startWork s) := rfl
  rw [run, placed]
  split
  · exact ⟨(asked _).1, fun m among => ((asked _).2 m among).resolve_left fun none => by cases none⟩
  · exact ⟨rfl, fun m none => by cases none⟩

/-- R103, R104, R138: a release of a bay that no lane machine serves: the door, the count, the CUSTODY write and the frame. -/
theorem finish_begun (first : w.todo = .releaseAsked b r :: rest) (again : ∀ m ∈ rest, m = .reevaluate b)
    (free : releaseBusy w.st b = false) (unserved : w.st.laneOf b = none) :
    (w.finish.bay b).door = ((releaseBegun b r w.st).bay b).door ∧
    (w.finish.bay b).counters = ((releaseBegun b r w.st).bay b).counters ∧
    (w.finish.bay b).channel.custody =
      (if handsOut r.reason = true ∧ (w.st.bay b).present = true ∧ (w.st.bay b).channel.state = .active ∧
        (w.st.bay b).view.identity.all takesCustody = true then some (releasedCustody r)
      else (w.st.bay b).channel.custody) ∧
    (w.st.lkc.queue.length < 8 → w.finish.lkc = { w.st.lkc with
      queue := insertFrame (releasedFrame b (((w.st.bay b).view.identity.map fun i => i.asset).getD 0) (r.begun w.st))
        w.st.lkc.queue }) := by
  have asked : handle (.releaseAsked b r) (startWork w.st) = _ := requestRelease_unserved (r := r) free unserved
  have barred := releaseBegun_barred (r := r) unserved
  have bay := releaseBegun_bay (b := b) (r := r) (s := w.st)
  obtain ⟨y, begun, ahead, first_step⟩ := finish_step first
  have begun : y.st = releaseBegun b r w.st := begun.trans (by rw [asked])
  have ahead : y.todo = .releaseAnswered b (r.begun w.st) .started :: ([.doorMoved b true, .reevaluate b] ++ rest) :=
    ahead.trans (by rw [asked]; rfl)
  obtain ⟨z, st, todo, second_step⟩ := settle_step 4094 ahead
  rw [begun] at st todo
  change z.st = (releaseAnswer b (r.begun w.st) .started (startWork (releaseBegun b r w.st))).st at st
  change z.todo = (releaseAnswer b (r.begun w.st) .started (startWork (releaseBegun b r w.st))).todo ++
    ([.doorMoved b true, .reevaluate b] ++ rest) at todo
  have answered : w.finish = (settle 4094 z).st := first_step.trans (congrArg Work.st second_step)
  have left : ∀ m ∈ [.doorMoved b true, .reevaluate b] ++ rest, m = .doorMoved b true ∨ m = .reevaluate b := by
    intro m among
    rcases List.mem_append.1 among with among | later
    · simpa using among
    · exact .inr (again m later)
  have rests : Rests b (releaseBegun b r w.st) w.finish := by
    rw [first_step, ← begun]
    refine settle_rests 4095 (begun ▸ barred) fun m among => ?_
    rw [ahead] at among
    rcases List.mem_cons.1 among with rfl | among
    · trivial
    · rcases left m among with rfl | rfl <;> trivial
  refine ⟨rests.door, rests.counters, ?_, fun room => ?_⟩
  · rw [answered]
    have docks : (Notice.releaseAnswered b (r.begun w.st) .started).docks b := .inr ⟨_, _, rfl⟩
    have door : ((releaseAnswer b (r.begun w.st) .started (startWork (releaseBegun b r w.st))).st.bay b).door.pendingLane = false := by
      have own : ((releaseBegun b r w.st).bay b).door.pendingLane = false := by rw [releaseBegun_door]
      exact (congrArg Door.pendingLane (handle_door (w := startWork (releaseBegun b r w.st))
        (n := .releaseAnswered b (r.begun w.st) .started) (fun _ _ no => by cases no) own)).trans own
    rw [← st] at door
    refine (settle_custody 4094 (fun m among => ?_) door).trans ?_
    · rw [todo] at among
      rcases List.mem_append.1 among with told | later
      · rcases (handle_acts (.releaseAnswered b (r.begun w.st) .started) (startWork (releaseBegun b r w.st))).told m told with
          earlier | now
        · cases earlier
        · exact frees_of_docks docks now
      · rcases left m later with rfl | rfl <;> rfl
    · rw [st, startedCustody, startWork, bay]
      rfl
  · rw [answered]
    obtain ⟨lkc, told⟩ := releaseAnswer_room (b := b) (r := r.begun w.st) (s := releaseBegun b r w.st) room
    have hushed : ∀ m ∈ z.todo, m.hushed b := fun m among => by
      rw [todo] at among
      rcases List.mem_append.1 among with now | later
      · exact told m now
      · rcases left m later with rfl | rfl
        · exact .inr (.inl ⟨true, rfl⟩)
        · exact .inr (.inr rfl)
    have bars : Barred b z.st := by
      rw [st]
      exact (handle_turns (w := startWork (releaseBegun b r w.st)) (m := .releaseAnswered b (r.begun w.st) .started) barred
        trivial).rests.barred barred
    obtain ⟨q, its⟩ := settle_hushed 4094 bars hushed
    rw [its, st]
    refine lkc.trans ?_
    rw [bay]
    rfl

/-! ### A release that waits for the lane -/

/-- R103: the state of a release that waits. -/
def releasePends (b : BayIx) (r : ReleaseRecord) (s : State) : State :=
  s.modDoor b fun d => { d with release := some (r.begun s), pendingLane := true }

theorem requestRelease_served (free : releaseBusy s b = false) (serves : s.laneOf b = some n) :
    requestRelease b r (startWork s) = (endSession n .abortCustody
      ((startWork (releasePends b r s)).raise (.releaseAnswered b (r.begun s) .pendingLane))).raise (.reevaluate b) := by
  have still : (releasePends b r s).laneOf b = some n := serves
  simp only [requestRelease, askRelease, startWork, free, serves, Option.isSome_some, Bool.false_eq_true, if_false, if_true]
  unfold abortLane
  rw [show (Work.raise (.releaseAnswered b { r with start := s.csu.minute } .pendingLane)
    (Work.upd (fun s_1 => s_1.modDoor b fun d => { d with release := some { r with start := s.csu.minute }, pendingLane := true })
      { st := s, todo := [] })).st.laneOf b = some n from still]
  rfl

theorem releasePends_bay : (releasePends b r s).bay b =
    { s.bay b with door := { (s.bay b).door with release := some (r.begun s), pendingLane := true } } :=
  State.bay_modBay_same ..

/-- R103: a release of a bay whose lane machine is in RELEASING waits; the lane machine goes on. -/
theorem finish_waits {x : LaneSession} (first : w.todo = .releaseAsked b r :: rest) (again : ∀ m ∈ rest, m = .reevaluate b)
    (free : releaseBusy w.st b = false) (serves : w.st.laneOf b = some n) (session : w.st.lane n = some x)
    (resting : laneWorks x.stage = false) :
    (w.finish.bay b).door = { (w.st.bay b).door with release := some (r.begun w.st), pendingLane := true } ∧
      (w.finish.bay b).counters = (w.st.bay b).counters ∧ w.finish.lane n = some x := by
  obtain ⟨y, same, own⟩ := lane_of_laneOf serves
  rw [session] at same
  cases same
  have waits : requestRelease b r (startWork w.st) =
      ((startWork (releasePends b r w.st)).raise (.releaseAnswered b (r.begun w.st) .pendingLane)).raise (.reevaluate b) := by
    rw [requestRelease_served free serves, endSession_stay]
    intro z its
    have its : w.st.lane n = some z := its
    rw [session] at its
    cases its
    exact resting
  obtain ⟨z, st, todo, step⟩ := finish_step first
  have st : z.st = releasePends b r w.st := st.trans (congrArg Work.st waits)
  have todo : z.todo = [.releaseAnswered b (r.begun w.st) .pendingLane, .reevaluate b] ++ rest :=
    todo.trans (congrArg (fun v : Work => v.todo ++ rest) waits)
  have barred : Barred b z.st := by
    rw [st]
    refine ⟨fun m y its at_m => ?_, .inl (.inl ⟨n, x, session, own⟩)⟩
    have its : w.st.laneOf b = some m := its
    have at_m : w.st.lane m = some y := at_m
    rw [serves] at its
    cases its
    rw [session] at at_m
    cases at_m
    exact resting
  have rests : Rests b z.st w.finish := by
    rw [step]
    refine settle_rests 4095 barred fun m among => ?_
    rw [todo] at among
    rcases List.mem_append.1 among with now | later
    · rcases List.mem_cons.1 now with rfl | now
      · trivial
      · rw [List.mem_singleton.1 now]
        trivial
    · rw [again m later]
      trivial
  rw [st] at rests
  exact ⟨rests.door.trans (by rw [releasePends_bay]), rests.counters.trans (by rw [releasePends_bay]),
    (rests.lane n x own).2 session⟩

/-- R151: a release of a bay whose lane machine is at work waits, and the session ends in ABORT_CUSTODY. -/
theorem finish_aborts {x : LaneSession} (first : w.todo = .releaseAsked b r :: rest) (again : ∀ m ∈ rest, m = .reevaluate b)
    (free : releaseBusy w.st b = false) (serves : w.st.laneOf b = some n) (session : w.st.lane n = some x)
    (works : laneWorks x.stage = true) (active : (w.st.bay b).channel.state = .active)
    (takes : ∀ i, (w.st.bay b).view.identity = some i → takesProvControl i = true) :
    (w.finish.bay b).door = { (w.st.bay b).door with release := some (r.begun w.st), pendingLane := true } ∧
      (w.finish.bay b).counters = (w.st.bay b).counters ∧ w.finish.lane n = some (x.ended .abortCustody) ∧
      (w.finish.bay b).prov.switch = none ∧
      (w.finish.bay b).channel.provControl = some { enter := false, campaign := x.campaign } := by
  obtain ⟨y, same, own⟩ := lane_of_laneOf serves
  rw [session] at same
  cases same
  subst own
  have waits := requestRelease_served (r := r) free serves
  obtain ⟨z, st, todo, step⟩ := finish_step first
  have bay := releasePends_bay (b := x.bay) (r := r) (s := w.st)
  obtain ⟨lane, exits, prov, counters, door⟩ := settle_ended (o := .abortCustody) (x := x) (n := n) (v := z) 4095
    (w := (startWork (releasePends x.bay r w.st)).raise (.releaseAnswered x.bay (r.begun w.st) .pendingLane))
    session works serves (by rw [Work.raise_st, startWork, bay]; exact active)
    (by rw [Work.raise_st, startWork, bay]; exact takes)
    (by rw [st, handle, waits]; exact .refl)
    (fun m among => by
      rw [todo, handle, waits] at among
      rcases List.mem_append.1 among with now | later
      · rcases List.mem_append.1 now with ended | again
        · exact .inl ended
        · exact .inr (List.mem_singleton.1 again ▸ trivial)
      · exact .inr (again m later ▸ trivial))
    (fun m among => List.mem_singleton.1 among ▸ trivial)
  rw [← step] at lane exits prov counters door
  rw [Work.raise_st, startWork, bay] at prov counters door
  exact ⟨door, counters, lane, by rw [prov]; rfl, exits⟩

/-! ### A release that is refused -/

theorem requestRelease_busy (busy : releaseBusy s b = true) :
    requestRelease b r (startWork s) = (startWork s).raise (.releaseAnswered b r .refused) := by
  simp only [requestRelease, askRelease, startWork, busy, if_true]

/-- R132: a release that is refused is answered with a DENY BAY_BUSY of 250 ms. -/
theorem finish_refused (first : w.todo = .releaseAsked b r :: rest) (busy : releaseBusy w.st b = true)
    (room : w.st.lkc.queue.length < 8) : ∃ z : Work, z.todo = rest ∧
      z.st = { w.st with lkc := { w.st.lkc with
        queue := insertFrame { denyFrame r.reader r.sequence .bayBusy r.credential with
          deadline := some (w.st.now + withdrawalTime) } w.st.lkc.queue } } ∧ w.finish = (settle 4094 z).st := by
  obtain ⟨y, st, todo, step⟩ := finish_step first
  have asked : handle (.releaseAsked b r) (startWork w.st) = _ := requestRelease_busy (r := r) busy
  have st : y.st = w.st := st.trans (by rw [asked]; rfl)
  have todo : y.todo = .releaseAnswered b r .refused :: rest := todo.trans (by rw [asked]; rfl)
  obtain ⟨z, st', todo', step'⟩ := settle_step 4094 todo
  have denied : handle (.releaseAnswered b r .refused) (startWork w.st) = (startWork w.st).upd fun s => s.modLkc fun l =>
      { l with queue := insertFrame { denyFrame r.reader r.sequence .bayBusy r.credential with
        deadline := some (w.st.now + withdrawalTime) } l.queue } := place_of_room _ (w := startWork w.st) room
  rw [st, denied] at st' todo'
  exact ⟨z, todo', st', step.trans (congrArg Work.st step')⟩

end

end Sys2Proof.Machine
end

section
/-! The end of an objection window (R131, R132). -/

namespace Sys2Proof.Machine

section
variable {s t : State} {b : BayIx} {w : Work} {c : PendingClaim}

/-! ### A re-evaluation where no campaign is held and no item waits -/

theorem ineligible_of_free (free : ∀ k, s.campaign k = none) (k : SlotIx) : eligible s b k = false := by
  simp only [eligible, free k]

theorem reevaluate_free (free : ∀ k, s.campaign k = none) (empty : s.pvs.queue = []) :
    reevaluate b (startWork s) = startWork s := by
  have adds : addsItem s b = false := by simp [addsItem, chosenCampaign_ineligible (ineligible_of_free free)]
  have stays : evaluateBay b s = s := by
    unfold evaluateBay alignQueue
    split
    · rfl
    · rw [chosenCampaign_ineligible (ineligible_of_free free), empty]
      simp only [itemOf, List.find?_nil, State.modPvs]
      rw [← empty]
  simp only [reevaluate, startWork, adds, Work.upd, stays]
  rfl

theorem settle_reevaluated (k : Nat) (todo : w.todo = [.reevaluate b]) (free : ∀ k, w.st.campaign k = none)
    (empty : w.st.pvs.queue = []) : (settle (k + 1) w).st = w.st := by
  obtain ⟨z, st, told, step⟩ := settle_step k todo
  have same : handle (.reevaluate b) (startWork w.st) = startWork w.st := reevaluate_free free empty
  rw [same] at st told
  have quiet : z.todo = [] := told
  rw [step]
  cases k with
  | zero => exact st
  | succ k =>
    rw [settle]
    simp only [quiet]
    exact st

/-! ### The end of the window -/

/-- R131: the state with the claim of a bay gone, at the end of its window. -/
def windowOver (b : BayIx) (c : PendingClaim) (s : State) : State :=
  (s.advanceTo c.endTime).modBay b fun x => { x with claim := none }

/-- The release that a claim asks for (R132). -/
def claimRelease (c : PendingClaim) : ReleaseRecord := releaseFor (reasonOfKind c.kind) c.credential c.reader c.sequence

theorem windowOver_bay : (windowOver b c s).bay b = { s.bay b with claim := none } := State.bay_modBay_same ..

theorem windowEnds_eq (claim : (s.bay b).claim = some c) (window : c.inWindow = true) : windowEnds b (startWork s) =
    (if windowCheck c.kind ((windowOver b c s).bay b).present then
      (startWork (windowOver b c s)).raise (.releaseAsked b (claimRelease c))
    else ruleDeny c.credential c.reader c.sequence (startWork (windowOver b c s))).raise (.reevaluate b) := by
  unfold windowEnds
  simp only [startWork, claim, window, if_true]
  rfl

theorem windowEnds_holds (claim : (s.bay b).claim = some c) (window : c.inWindow = true)
    (holds : windowCheck c.kind (s.bay b).present = true) : windowEnds b (startWork s) =
      { st := windowOver b c s, todo := [.releaseAsked b (claimRelease c), .reevaluate b] } := by
  rw [windowEnds_eq claim window, windowOver_bay, if_pos holds]
  rfl

theorem windowEnds_fails (claim : (s.bay b).claim = some c) (window : c.inWindow = true)
    (fails : windowCheck c.kind (s.bay b).present ≠ true) : windowEnds b (startWork s) =
      (ruleDeny c.credential c.reader c.sequence (startWork (windowOver b c s))).raise (.reevaluate b) := by
  rw [windowEnds_eq claim window, windowOver_bay, if_neg fails]

theorem windowCheck_iff (kind : RequestKind) (present : Bool) : windowCheck kind present = true ↔
    (kind = .checkout → present = true) ∧ (kind = .giveBack → present = false) := by
  cases kind <;> cases present <;> simp [windowCheck]

theorem releaseBusy_iff : releaseBusy s b = true ↔ s.cfl.phase ≠ .active ∨ (s.bay b).door.state ≠ .secure ∨
    (s.bay b).door.episode ≠ none ∨ (s.bay b).door.release ≠ none ∨ (s.bay b).door.coolDown ≠ none := by
  simp [releaseBusy, State.isActive, Option.isSome_iff_ne_none, or_assoc]

/-- Settles O47. -/
theorem objectionWindowReleases : Obligations.ObjectionWindowReleases := by
  intro b c s claim window now holds busy
  have ran : exec (.objectionWindowEnd b) s = .next (windowEnds b (startWork s)).finish := rfl
  have bay := windowOver_bay (b := b) (c := c) (s := s)
  have check : windowCheck c.kind (s.bay b).present = true ↔ holds := windowCheck_iff ..
  have busy_iff : releaseBusy (windowOver b c s) b = true ↔ busy := by
    rw [releaseBusy_iff, bay]
    rfl
  have over_claim : ((windowOver b c s).bay b).claim = none := by rw [bay]
  have over_steady : (windowOver b c s).steady = { s with now := now }.steady := steady_modBay fun _ => rfl
  refine ⟨_, ran, (finish_steady _).trans ?_, finish_noClaim ?_, fun held free => ?_, fun refused free empty room => ?_⟩
  · rw [windowEnds_eq claim window]
    split
    · exact over_steady
    · exact (ruleDeny_steady ..).trans over_steady
  · rw [windowEnds_eq claim window]
    split
    · exact over_claim
    · exact (congrArg Bay.claim (place_bay ..)).trans over_claim
  · intro record
    have free : releaseBusy (windowOver b c s) b = false := by rwa [← Bool.not_eq_true, busy_iff]
    rw [windowEnds_holds claim window (check.2 held)]
    have again : ∀ m ∈ [Notice.reevaluate b], m = .reevaluate b := fun m => List.mem_singleton.1
    refine ⟨fun unserved => ?_, fun n y serves session => ⟨fun o stage => ?_, fun works active takes => ?_⟩⟩
    · obtain ⟨door, counters, custody, lkc⟩ := finish_begun (w := { st := windowOver b c s
                                                                    todo := [.releaseAsked b (claimRelease c), .reevaluate b] })
        rfl again free unserved
      refine ⟨door.trans ?_, ?_, fun room => (lkc room).trans ?_, fun hands present active takes => custody.trans ?_⟩
      · rw [releaseBegun_door, bay]
        rfl
      · rw [counters, releaseBegun_counters, bay]
      · rw [bay]
        rfl
      · rw [bay, if_pos]
        · rfl
        · refine ⟨?_, present, active, ?_⟩
          · revert hands
            cases kind : c.kind <;> simp [claimRelease, releaseFor, reasonOfKind, kind, handsOut]
          · cases its : (s.bay b).view.identity with
            | none => rfl
            | some v => exact takes v its
    · obtain ⟨door, counters, lane⟩ := finish_waits (w := { st := windowOver b c s
                                                            todo := [.releaseAsked b (claimRelease c), .reevaluate b] })
        rfl again free serves session (by rw [stage]; rfl)
      rw [bay] at door counters
      exact ⟨⟨door, by rw [counters]⟩, lane⟩
    · obtain ⟨door, counters, lane, switch, exits⟩ := finish_aborts (w := { st := windowOver b c s
                                                                            todo := [.releaseAsked b (claimRelease c),
                                                                              .reevaluate b] })
        rfl again free serves session (by rcases works with stage | stage <;> rw [stage] <;> rfl) (by rw [bay]; exact active)
        (by rw [bay]; exact takes)
      rw [bay] at door counters
      exact ⟨⟨door, by rw [counters]⟩, lane, switch, exits⟩
  · by_cases held : holds
    · have busy := busy_iff.2 (refused.resolve_left fun no => no held)
      rw [windowEnds_holds claim window (check.2 held)]
      obtain ⟨z, todo, st, step⟩ := finish_refused (w := { st := windowOver b c s
                                                           todo := [.releaseAsked b (claimRelease c), .reevaluate b] })
        rfl busy room
      rw [step, settle_reevaluated 4093 todo (by rw [st]; exact free) (by rw [st]; exact empty), st]
      rfl
    · rw [windowEnds_fails claim window (fun its => held (check.1 its))]
      have denied : ruleDeny c.credential c.reader c.sequence (startWork (windowOver b c s)) =
          (startWork (windowOver b c s)).upd fun s => s.modLkc fun l =>
            { l with queue := insertFrame { denyFrame c.reader c.sequence .bayBusy c.credential with
              deadline := some (now + withdrawalTime) } l.queue } := place_of_room _ (w := startWork (windowOver b c s)) room
      rw [denied]
      exact settle_reevaluated 4095 rfl free empty

end

end Sys2Proof.Machine
end

section
/-! The decision for a presentation (R125 to R129). -/

namespace Sys2Proof.Machine

section
variable {s t : State} {b : BayIx} {w : Work} {e : CredentialEntry} {x : PresentationSlot}

/-! ### The best and the lowest bay of a list -/

theorem mem_bestBy {score : BayIx → Nat} {xs : List BayIx} {c : BayIx} (best : bestBy score xs = some c) : c ∈ xs := by
  induction xs with
  | nil => cases best
  | cons x xs ih =>
    unfold bestBy at best
    split at best
    · cases best
      exact List.mem_cons_self
    · next d its =>
      split at best
      · cases best
        exact List.mem_cons_of_mem _ (ih its)
      · cases best
        exact List.mem_cons_self

theorem bestBy_eq_none {score : BayIx → Nat} {xs : List BayIx} : bestBy score xs = none ↔ xs = [] := by
  cases xs with
  | nil => exact ⟨fun _ => rfl, fun _ => rfl⟩
  | cons x xs =>
    refine ⟨fun none => ?_, fun no => by cases no⟩
    unfold bestBy at none
    split at none
    · cases none
    · split at none <;> cases none

/-- Of a list in order, the first bay of the highest score. -/
theorem bestBy_eq_some {score : BayIx → Nat} {xs : List BayIx} (sorted : xs.Pairwise (· < ·)) (among : b ∈ xs)
    (best : ∀ c ∈ xs, score c < score b ∨ (score c = score b ∧ b ≤ c)) : bestBy score xs = some b := by
  induction xs with
  | nil => cases among
  | cons x xs ih =>
    obtain ⟨first, later⟩ := List.pairwise_cons.1 sorted
    unfold bestBy
    rcases List.mem_cons.1 among with rfl | among
    · split
      · rfl
      · next d its =>
        refine if_neg ?_
        rcases best d (List.mem_cons_of_mem _ (mem_bestBy its)) with less | ⟨same, _⟩ <;> omega
    · rw [ih later among fun c its => best c (List.mem_cons_of_mem _ its)]
      refine if_pos ?_
      rcases best x List.mem_cons_self with less | ⟨_, least⟩
      · exact less
      · exact absurd (first b among) (not_lt.2 least)

theorem allBays_sorted : allBays.Pairwise (· < ·) := by decide

/-- The lowest bay with a property is the first one found. -/
theorem find_lowest {p : BayIx → Bool} (holds : p b = true) (least : ∀ c < b, p c = false) : allBays.find? p = some b := by
  have found : ∀ xs : List BayIx, xs.Pairwise (· < ·) → b ∈ xs → xs.find? p = some b := fun xs sorted among => by
    induction xs with
    | nil => cases among
    | cons x xs ih =>
      obtain ⟨first, later⟩ := List.pairwise_cons.1 sorted
      rcases List.mem_cons.1 among with rfl | among
      · exact List.find?_cons_of_pos holds
      · rw [List.find?_cons_of_neg (by rw [least x (first b among)]; exact Bool.false_ne_true)]
        exact ih later among
  exact found _ allBays_sorted (mem_allBays b)

/-! ### The checks -/

theorem doorFree_iff (y : Bay) : doorFree y = true ↔ y.door.state = .secure ∧ y.door.release = none ∧
    y.door.coolDown = none ∧ y.claim = none := by
  simp [doorFree, and_assoc]

theorem loanRoom_iff : loanRoom s e = true ↔ e.role = .technician ∨ s.csu.loans.length < 32 := by
  simp [loanRoom]

/-- R127: what an eligible bay of an open CHECKOUT is. -/
theorem checkoutEligible_iff : checkoutEligible s e b = true ↔ s.populated b = true ∧
    (s.bay b).attrs.outOfService = false ∧ (s.bay b).attrs.reserved = false ∧ (s.bay b).present = true ∧
    managed (s.bay b).charge.state = true ∧ (∃ z, (s.bay b).view.battery = some z ∧ s.cfl.config.socRelease ≤ z.soc) ∧
    doorFree (s.bay b) = true ∧ s.laneWorking b = false ∧
    (e.role = .technician ∨ e.groups.getLsbD (s.bay b).attrs.group.val = true) ∧ loanRoom s e = true := by
  simp [checkoutEligible, inGroups, Option.any_eq_true, and_assoc]

theorem returnEligible_iff : returnEligible s b = true ↔ s.populated b = true ∧
    (s.bay b).attrs.outOfService = false ∧ (s.bay b).attrs.reserved = false ∧ (s.bay b).charge.state = .vacant ∧
    doorFree (s.bay b) = true ∧ s.laneWorking b = false := by
  simp [returnEligible, and_assoc]

/-- R126: the limit of a role that has one. -/
def limitOf (s : State) (role : CredentialRole) : Nat :=
  if role = .staff then s.cfl.config.limitStaff else if role = .student then s.cfl.config.limitStudent
  else s.cfl.config.limitGuest

/-- R126: the first check that fails. -/
theorem checkoutRefusal_eq : checkoutRefusal s e =
    if e.suspended = true then some .suspended
    else if ∃ l ∈ loansOf s e.number, l.state = .overdue then some .overdue
    else if e.role ≠ .technician ∧ limitOf s e.role ≤ (loansOf s e.number).length then some .loanLimit
    else none := by
  have late : ((loansOf s e.number).any fun l => l.state == .overdue) = true ↔ ∃ l ∈ loansOf s e.number, l.state = .overdue := by
    simp
  unfold checkoutRefusal
  simp only [late]
  refine if_congr Iff.rfl rfl (if_congr Iff.rfl rfl ?_)
  unfold limitOf
  cases e.role <;> simp [loanLimit]

/-! ### A CHECKOUT (R126, R127) -/

theorem openCheckout_none (none : ∀ b, checkoutEligible s e b = false) : openCheckout s e = .nothing := by
  have nothing : allBays.filter (checkoutEligible s e) = [] := List.filter_eq_nil_iff.2 fun b _ => by
    rw [none]
    exact Bool.false_ne_true
  simp only [openCheckout, nothing]
  rfl

theorem openCheckout_best {z : Battery} (can : checkoutEligible s e b = true) (battery : (s.bay b).view.battery = some z)
    (best : ∀ c y, checkoutEligible s e c = true → (s.bay c).view.battery = some y → y.soc < z.soc ∨ (y.soc = z.soc ∧ b ≤ c)) :
    openCheckout s e = .offer b (((s.bay b).view.identity.map fun i => i.asset).getD 0) false
      (8 + (100 - z.soc) * 8 + b.val) := by
  have soc : socOf (s.bay b) = z.soc := by simp [socOf, battery]
  have chosen : bestBy (fun b => socOf (s.bay b)) (allBays.filter (checkoutEligible s e)) = some b := by
    refine bestBy_eq_some (allBays_sorted.filter _) (List.mem_filter.2 ⟨mem_allBays b, can⟩) fun c among => ?_
    have eligible := (List.mem_filter.1 among).2
    obtain ⟨-, -, -, -, -, ⟨y, its, -⟩, -⟩ := checkoutEligible_iff.1 eligible
    have own : socOf (s.bay c) = y.soc := by simp [socOf, its]
    rw [soc, own]
    exact best c y eligible its
  simp only [openCheckout, chosen, soc, checkoutBid]

theorem holderOf_none {asset : Word32} (none : ¬ ∃ b, s.populated b = true ∧ (s.bay b).present = true ∧
    ∃ i, (s.bay b).view.identity = some i ∧ i.asset = asset) : holderOf s asset = .none := by
  refine List.find?_eq_none.2 fun b _ its => none ⟨b, ?_⟩
  simpa [Option.any_eq_true, and_assoc] using its

theorem holderOf_lowest {asset : Word32} (holds : s.populated b = true ∧ (s.bay b).present = true ∧
    ∃ i, (s.bay b).view.identity = some i ∧ i.asset = asset)
    (least : ∀ c < b, ¬ (s.populated c = true ∧ (s.bay c).present = true ∧
      ∃ i, (s.bay c).view.identity = some i ∧ i.asset = asset)) : holderOf s asset = some b := by
  refine find_lowest (by simpa [Option.any_eq_true, and_assoc] using holds) fun c below => ?_
  have no := least c below
  rw [← Bool.not_eq_true]
  exact fun its => no (by simpa [Option.any_eq_true, and_assoc] using its)

/-! ### A RETURN and an OPEN (R128, R129) -/

theorem decideReturn_none (none : ∀ b, returnEligible s b = false) : decideReturn s e = .nothing := by
  have nothing : allBays.filter (returnEligible s) = [] := List.filter_eq_nil_iff.2 fun b _ => by
    rw [none]
    exact Bool.false_ne_true
  simp only [decideReturn, nothing]
  rfl

theorem returnPreference_le (c : BayIx) : returnPreference s e c ≤ 1 := by
  unfold returnPreference
  split <;> omega

theorem decideReturn_best (takes : returnEligible s b = true)
    (best : ∀ c, returnEligible s c = true → returnPreference s e b < returnPreference s e c ∨
      (returnPreference s e b = returnPreference s e c ∧ b ≤ c)) :
    decideReturn s e = .offer b 0 false (8 + returnPreference s e b * 8 + b.val) := by
  have chosen : bestBy (fun b => 1 - returnPreference s e b) (allBays.filter (returnEligible s)) = some b := by
    refine bestBy_eq_some (allBays_sorted.filter _) (List.mem_filter.2 ⟨mem_allBays b, takes⟩) fun c among => ?_
    have small := returnPreference_le (s := s) (e := e) c
    rcases best c (List.mem_filter.1 among).2 with less | ⟨same, least⟩
    · left
      omega
    · exact .inr ⟨by rw [same], least⟩
  simp only [decideReturn, chosen]

theorem decideOpen_elsewhere {station index : Byte} (other : station.toNat ≠ s.cfl.address.val) :
    decideOpen s e station index = .nothing := by
  simp only [decideOpen, if_pos other]

theorem decideOpen_absent {station index : Byte} (here : station.toNat = s.cfl.address.val)
    (absent : 8 ≤ index.toNat ∨ s.cfl.populated ≤ index.toNat) : decideOpen s e station index = .deny .notPermitted := by
  simp only [decideOpen, if_neg (not_not.2 here)]
  split
  · next small =>
    have unpopulated : s.populated ⟨index.toNat, small⟩ = false := by
      simp only [State.populated, decide_eq_false_iff_not]
      omega
    simp [unpopulated]
  · rfl

/-- R129: an OPEN of a populated bay, check after check. -/
theorem decideOpen_at {station index : Byte} (here : station.toNat = s.cfl.address.val) (named : index.toNat = b.val)
    (there : b.val < s.cfl.populated) : decideOpen s e station index =
      if e.suspended = true then .deny .suspended
      else if (s.bay b).attrs.outOfService = true ∧ e.role ≠ .technician then .deny .outOfService
      else if ¬ (roleLevel e.role ≤ (s.bay b).attrs.openLevel.val ∨
        (e.role = .staff ∧ e.groups.getLsbD (s.bay b).attrs.group.val = true)) then .deny .notPermitted
      else if doorFree (s.bay b) = false then .deny .bayBusy
      else .release b (if e.role = .technician then .service else .opening) := by
  have small : index.toNat < 8 := by omega
  have bay : (⟨index.toNat, small⟩ : BayIx) = b := Fin.ext named
  have populated : s.populated b = true := decide_eq_true there
  have permitted : openPermitted e (s.bay b).attrs = true ↔ roleLevel e.role ≤ (s.bay b).attrs.openLevel.val ∨
      (e.role = .staff ∧ e.groups.getLsbD (s.bay b).attrs.group.val = true) := by
    simp [openPermitted, inGroups]
  simp only [decideOpen, if_neg (not_not.2 here), dif_pos small, bay, populated, Bool.not_true, Bool.false_eq_true, if_false,
    Bool.and_eq_true, bne_iff_ne, ← permitted, Bool.not_eq_true', Bool.not_eq_true, beq_iff_eq]

/-- R129: a release is decided for a bay whose door is free alone, and to hand out. -/
theorem decideSlot_release {reason : ReleaseReason} (its : decideSlot s x = .release b reason) :
    doorFree (s.bay b) = true ∧ handsOut reason = true := by
  unfold decideSlot at its
  split at its
  · cases its
  · split at its
    · cases its
    · next e found =>
      cases kind : x.kind with
      | checkout =>
        rw [kind] at its
        unfold decideCheckout at its
        dsimp only at its
        split at its
        · cases its
        · split at its
          · unfold openCheckout at its
            split at its <;> cases its
          · unfold assignedCheckout at its
            split at its
            · cases its
            · dsimp only at its
              split at its
              · cases its
              · split at its
                · cases its
                · split at its <;> cases its
      | giveBack =>
        rw [kind] at its
        unfold decideReturn at its
        dsimp only at its
        split at its <;> cases its
      | opening =>
        rw [kind] at its
        unfold decideOpen at its
        dsimp only at its
        split at its
        · cases its
        · split at its
          · split at its
            · cases its
            · split at its
              · cases its
              · split at its
                · cases its
                · split at its
                  · cases its
                  · split at its
                    · cases its
                    · next free =>
                      cases its
                      exact ⟨by simpa using free, by split <;> rfl⟩
          · cases its

end

end Sys2Proof.Machine
end

section
/-! The end of the answer delay (R125, R130). -/

namespace Sys2Proof.Machine

section
variable {s t : State} {b : BayIx} {w : Work} {r : Reader} {e : CredentialEntry} {x : PresentationSlot}

section
variable (undecided : x.decided = false) (known : lookupCredential s.csu.credentials x.credential = some e)
include undecided known

theorem decideSlot_checkout (kind : x.kind = .checkout) : decideSlot s x = decideCheckout s e := by
  simp only [decideSlot, undecided, known, kind, Bool.false_eq_true, if_false]

theorem decideSlot_return (kind : x.kind = .giveBack) : decideSlot s x = decideReturn s e := by
  simp only [decideSlot, undecided, known, kind, Bool.false_eq_true, if_false]

theorem decideSlot_open (kind : x.kind = .opening) : decideSlot s x = decideOpen s e x.openStation x.openBay := by
  simp only [decideSlot, undecided, known, kind, Bool.false_eq_true, if_false]

end

/-- R126: a CHECKOUT that fails no check. -/
theorem decideCheckout_passed (passes : checkoutRefusal s e = none) : decideCheckout s e =
    match e.asset with
    | none => openCheckout s e
    | some asset => assignedCheckout s e asset := by
  simp only [decideCheckout, passes] <;> rfl

/-- R127: an assigned CHECKOUT at the bay that holds the asset. -/
theorem assignedCheckout_at {asset : Word32} (holder : holderOf s asset = some b) : assignedCheckout s e asset =
    if s.laneWorking b = true then .deny .busyProvisioning
    else if (s.bay b).attrs.outOfService = true then .deny .outOfService
    else if (s.bay b).attrs.reserved = false ∧ managed (s.bay b).charge.state = true ∧ doorFree (s.bay b) = true ∧
      loanRoom s e = true then
      .offer b asset (decide (offerSoc s (s.bay b) < s.cfl.config.socRelease))
        (8 + (100 - offerSoc s (s.bay b)) * 8 + b.val)
    else .deny .bayBusy := by
  simp only [assignedCheckout, holder, Bool.and_eq_true, Bool.not_eq_true', and_assoc, checkoutBid]

/-- R127: the SoC that an assigned CHECKOUT reckons with. -/
theorem offerSoc_le (y : Bay) : (∀ z, y.view.battery = some z → offerSoc s y = z.soc) ∧
    (y.view.battery = none → offerSoc s y ≤ 100) := by
  refine ⟨fun z its => by simp [offerSoc, its], fun none => ?_⟩
  simp only [offerSoc, none]
  omega

/-! ### What an answer does -/

theorem giveAnswer_steady (held : w.st.slot r = some x) (a : Answer) : (giveAnswer r x a w).st.steady = w.st.steady := by
  cases a with
  | nothing => rfl
  | release b reason => rfl
  | deny reason => exact (place_steady ..).trans (setSlot_steady held rfl)
  | offer b asset low bid =>
    refine (place_steady ..).trans ?_
    have freed : ({ w.st with freeCount := w.st.freeCount + 1 }.setSlot r (some { x with own := .offerQueued })).steady =
        w.st.steady := setSlot_steady (s := { w.st with freeCount := w.st.freeCount + 1 }) held rfl
    exact Eq.trans (steady_modBay fun _ => rfl) freed

/-- R145: a bay that no campaign takes works its re-evaluation with its queue item alone. -/
theorem finish_ineligible (todo : w.todo = [.reevaluate b]) (out : ∀ k, eligible w.st b k = false) :
    ∃ q, w.finish = w.st.queued q := by
  obtain ⟨q, its⟩ := reevaluate_ineligible out
  obtain ⟨z, st, told, step⟩ := finish_step todo
  have same : handle (.reevaluate b) (startWork w.st) = startWork (w.st.queued q) := its
  rw [same] at st told
  have quiet : z.todo = [] := told
  refine ⟨q, step.trans ?_⟩
  rw [settle]
  simp only [quiet]
  exact st

theorem ineligible_of_claim {k : SlotIx} (claimed : (s.bay b).claim ≠ none) : eligible s b k = false := by
  rw [← Bool.not_eq_true]
  exact fun its => claimed (eligible_free its).2.1

/-- Settles O44. -/
theorem answerDelayDecides : Obligations.AnswerDelayDecides := by
  refine ⟨fun x s nothing => ?_, fun e x s undecided known => ?_, fun r x d s held delay => ?_⟩
  · unfold decideSlot
    rcases nothing with decided | unknown
    · rw [if_pos decided]
    · rw [unknown]
      exact ite_self _
  · intro cfg technician loans overdue limit atLimit passes inGroup free fit can holds takes preference
    have free_iff (b : BayIx) : doorFree (s.bay b) = true ↔ free b := doorFree_iff _
    have fit_iff (b : BayIx) : ((s.bay b).attrs.reserved = false ∧ managed (s.bay b).charge.state = true ∧
        doorFree (s.bay b) = true ∧ loanRoom s e = true) ↔ fit b := by
      rw [free_iff, loanRoom_iff]
    have can_iff (b : BayIx) : checkoutEligible s e b = true ↔ ∃ z, can b z := by
      rw [checkoutEligible_iff, loanRoom_iff, free_iff]
      constructor
      · rintro ⟨there, out, reserved, present, manages, ⟨z, battery, soc⟩, door, lane, group, loan⟩
        exact ⟨z, there, out, present, battery, soc, ⟨reserved, manages, door, loan⟩, lane, group⟩
      · rintro ⟨z, there, out, present, battery, soc, ⟨reserved, manages, door, loan⟩, lane, group⟩
        exact ⟨there, out, reserved, present, manages, ⟨z, battery, soc⟩, door, lane, group, loan⟩
    have takes_iff (b : BayIx) : returnEligible s b = true ↔ takes b := by
      rw [returnEligible_iff, free_iff]
    refine ⟨fun kind => ?_, fun kind => ?_, fun kind => ?_⟩
    · rw [decideSlot_checkout undecided known kind]
      have refusal : checkoutRefusal s e = if e.suspended = true then some .suspended else if overdue then some .overdue
          else if atLimit then some .loanLimit else none := checkoutRefusal_eq
      have passed (its : passes) : checkoutRefusal s e = none := by
        obtain ⟨sound, timely, below⟩ := its
        rw [refusal, if_neg (by rw [sound]; exact Bool.false_ne_true), if_neg timely, if_neg below]
      refine ⟨fun suspended => ?_, fun sound late => ?_, fun sound timely above => ?_, fun its asset => ⟨fun none => ?_, ?_⟩,
        fun asset its assigned => ⟨fun none => ?_, fun b holder least => ?_⟩⟩
      · simp only [decideCheckout, refusal, if_pos suspended]
      · simp only [decideCheckout, refusal, sound, Bool.false_eq_true, if_false, if_pos late]
      · simp only [decideCheckout, refusal, sound, Bool.false_eq_true, if_false, if_neg timely, if_pos above]
      · rw [decideCheckout_passed (passed its), asset]
        refine openCheckout_none fun b => ?_
        rw [← Bool.not_eq_true, can_iff]
        exact fun ⟨z, able⟩ => none ⟨b, z, able⟩
      · intro b z able best
        rw [decideCheckout_passed (passed its), asset]
        refine openCheckout_best ((can_iff b).2 ⟨z, able⟩) able.2.2.2.1 fun c y fits battery => best c y ?_
        obtain ⟨y', able'⟩ := (can_iff c).1 fits
        obtain rfl : y' = y := Option.some.inj (able'.2.2.2.1.symm.trans battery)
        exact able'
      · rw [decideCheckout_passed (passed its), assigned]
        simp only [assignedCheckout, holderOf_none none]
      · rw [decideCheckout_passed (passed its), assigned]
        dsimp only
        rw [assignedCheckout_at (holderOf_lowest holder least)]
        refine ⟨fun working => if_pos working, fun idle out => ?_, fun idle service unfit => ?_, fun idle service fits => ?_⟩
        · rw [idle, if_neg Bool.false_ne_true, if_pos out]
        · rw [idle, if_neg Bool.false_ne_true, service, if_neg Bool.false_ne_true, if_neg ((fit_iff b).not.2 unfit)]
        · refine ⟨offerSoc s (s.bay b), (offerSoc_le _).1, (offerSoc_le _).2, ?_⟩
          rw [idle, if_neg Bool.false_ne_true, service, if_neg Bool.false_ne_true, if_pos ((fit_iff b).2 fits)]
    · rw [decideSlot_return undecided known kind]
      refine ⟨fun none => decideReturn_none fun b => ?_, fun b able best => ?_⟩
      · rw [← Bool.not_eq_true, takes_iff]
        exact fun able => none ⟨b, able⟩
      · exact decideReturn_best ((takes_iff b).2 able) fun c its => best c ((takes_iff c).1 its)
    · rw [decideSlot_open undecided known kind]
      refine ⟨decideOpen_elsewhere, fun here => ⟨decideOpen_absent here, fun b named there => ?_⟩⟩
      intro out permitted
      rw [decideOpen_at here named there]
      refine ⟨fun suspended => if_pos suspended, fun sound off => ?_, fun sound on forbidden => ?_,
        fun sound on allowed taken => ?_, fun sound on allowed free => ?_⟩
      all_goals rw [sound, if_neg Bool.false_ne_true]
      · rw [if_pos off]
      · rw [if_neg on, if_pos forbidden]
      · rw [if_neg on, if_neg (not_not.2 allowed), if_pos (by rwa [← Bool.not_eq_true, free_iff])]
      · rw [if_neg on, if_neg (not_not.2 allowed), if_neg (by rwa [Bool.not_eq_false, free_iff])]
  · intro slot u
    have at_r : u.slot r = some slot := State.slot_setSlot_same ..
    have ran : exec (.answerDelayEnd r) s = .next (giveAnswer r slot (decideSlot u slot) (startWork u)).finish := by
      simp only [exec, execAnswerDelayEnd, carryOut, answerDelayEnds, startWork, held, delay]
      rfl
    refine ⟨_, ran, (finish_steady _).trans (giveAnswer_steady (w := startWork u) at_r _), fun its => ?_, fun reason its room => ?_,
      fun b asset low bid its room => ?_, fun b reason its => ?_⟩
    · rw [its]
      rfl
    · have placed : giveAnswer r slot (.deny reason) (startWork u) =
          ((startWork u).upd fun s => s.setSlot r (some { slot with own := .denyQueued })).upd fun s => s.modLkc fun l =>
            { l with queue := insertFrame (denyFrame r x.sequence reason x.credential) l.queue } :=
        place_of_room _ (w := (startWork u).upd fun s => s.setSlot r (some { slot with own := .denyQueued })) room
      rw [its, placed, finish_of_quiet rfl, Work.upd_st, Work.upd_st]
      exact congrArg (fun v : State => v.modLkc fun l =>
        { l with queue := insertFrame (denyFrame r x.sequence reason x.credential) l.queue }) (setSlot_setSlot ..)
    · let claimed : State := ({ u with freeCount := u.freeCount + 1 }.setSlot r (some { slot with own := .offerQueued })).modBay b
        fun y => { y with
          claim := some (newClaim r slot ((offerFrame r x.sequence x.kind b asset low bid).key s.cfl.address)) }
      have offered : giveAnswer r slot (.offer b asset low bid) (startWork u) =
          ((startWork claimed).raise (.reevaluate b)).upd fun s => s.modLkc fun l =>
            { l with queue := insertFrame (offerFrame r x.sequence x.kind b asset low bid) l.queue } :=
        place_of_room _ (w := (startWork claimed).raise (.reevaluate b)) room
      have claim : (claimed.bay b).claim =
          some (newClaim r slot ((offerFrame r x.sequence x.kind b asset low bid).key s.cfl.address)) := by
        rw [State.bay_modBay_same]
      rw [its, offered]
      obtain ⟨q, worked⟩ := finish_ineligible (b := b) (w := ((startWork claimed).raise (.reevaluate b)).upd fun s =>
        s.modLkc fun l => { l with queue := insertFrame (offerFrame r x.sequence x.kind b asset low bid) l.queue }) rfl
        fun k => ineligible_of_claim (by rw [Work.upd_st]; exact fun none => by cases claim.symm.trans none)
      rw [worked]
      refine ⟨rfl, State.slot_setSlot_same .., claim, fun c other => ?_⟩
      have apart : claimed.bay c = s.bay c := State.bay_modBay_other _ other _
      exact apart
    · intro record
      have asked : giveAnswer r slot (decideSlot u slot) (startWork u) =
          { st := u, todo := [.releaseAsked b (releaseFor reason x.credential r x.sequence)] } := by
        rw [its]
        rfl
      obtain ⟨secure, unrecorded, cool, -⟩ := (doorFree_iff _).1 (decideSlot_release its).1
      have busy_iff : releaseBusy u b = true ↔ s.cfl.phase ≠ .active ∨ (s.bay b).door.episode ≠ none := by
        rw [releaseBusy_iff]
        simp only [secure, unrecorded, cool, ne_eq, not_true_eq_false, false_or, or_false]
        rfl
      rw [asked]
      refine ⟨fun refused room => ?_, fun active between => ?_⟩
      · obtain ⟨z, todo, st, step⟩ := finish_refused
          (w := { st := u, todo := [.releaseAsked b (releaseFor reason x.credential r x.sequence)] }) rfl
          (busy_iff.2 refused) room
        rw [step, settle]
        simp only [todo]
        exact st
      · have free : releaseBusy u b = false := by
          rw [← Bool.not_eq_true, busy_iff]
          simp [active, between]
        refine ⟨fun unserved => ?_, fun n y serves session => ?_⟩
        · obtain ⟨door, counters, custody, lkc⟩ := finish_begun
            (w := { st := u, todo := [.releaseAsked b (releaseFor reason x.credential r x.sequence)] }) rfl nofun free unserved
          refine ⟨door.trans releaseBegun_door, ?_, lkc, fun present up takes => custody.trans (if_pos ⟨?_, present, up, ?_⟩)⟩
          · rw [counters, releaseBegun_counters]
            rfl
          · exact (decideSlot_release its).2
          · cases identity : (s.bay b).view.identity with
            | none => exact (congrArg (Option.all takesCustody) identity).trans rfl
            | some v => exact (congrArg (Option.all takesCustody) identity).trans (takes v identity)
        · intro ended pends
          refine ⟨fun o stage => ?_, fun works up takes => ?_⟩
          · obtain ⟨door, counters, lane⟩ := finish_waits
              (w := { st := u, todo := [.releaseAsked b (releaseFor reason x.credential r x.sequence)] }) rfl nofun free serves
              session (by rw [stage]; rfl)
            exact ⟨⟨door, by rw [counters]; rfl⟩, lane⟩
          · obtain ⟨door, counters, lane, switch, exits⟩ := finish_aborts
              (w := { st := u, todo := [.releaseAsked b (releaseFor reason x.credential r x.sequence)] }) rfl nofun free serves
              session (by rcases works with stage | stage <;> rw [stage] <;> rfl) up takes
            exact ⟨⟨door, by rw [counters]; rfl⟩, lane, switch, exits⟩

end

end Sys2Proof.Machine
end

section
/-! Requests of writes, and what the answer to a write ends (O31). -/

namespace Sys2Proof.Machine

section
variable {s : State} {b : BayIx} {w : Work} {n : LaneIx} {y : LaneSession}

/-- R84: the state after the answer to a write. -/
theorem endAnswered_bay : (endAnswered b s).bay b =
    { s.bay b with channel := { (s.bay b).channel with exchange := none, drops := 0 } } := State.bay_modBay_same ..

/-- R84, R92: the answer of the tablet ends the write; its notice is the one that the command raises. -/
theorem writeAnswer_ends {e : Exchange} {v : DockWrite} {answer : List SampledByte} {byte : Byte}
    (exchange : (s.bay b).channel.exchange = some e) (called : e.stage = .called) (body : e.body = .write v)
    (received : receivedBytes answer = some [byte])
    (answers : byte = callByte e.body e.number ∨ byte = ~~~callByte e.body e.number) :
    exec (.writeAckReceived b answer) s = .next ((startWork (endAnswered b s)).raise (.writeEnded b v
      (if byte = callByte e.body e.number then .accepted else .refused))).finish := by
  have run : exec (.writeAckReceived b answer) s = carryOut s (writeAnswer b byte) := by
    simp only [exec, execWriteAckReceived, received]
  have ends : writeAnswer b byte (startWork s) = (startWork (endAnswered b s)).raise (.writeEnded b v
      (if byte = callByte e.body e.number then .accepted else .refused)) := by
    unfold writeAnswer
    rw [startWork, exchange]
    simp only [called, body] at answers ⊢
    by_cases accepted : byte = callByte (.write v) e.number
    · simp only [accepted, if_true]
      rfl
    · have refused := answers.resolve_left accepted
      rw [if_neg accepted, if_pos refused, if_neg accepted]
      rfl
  rw [run, carryOut, ends]

/-- A notice that its block takes no action on. -/
theorem finish_ignored {m : Notice} (ignored : handle m (startWork s) = startWork s) :
    ((startWork s).raise m).finish = s := by
  obtain ⟨z, st, todo, step⟩ := finish_step (w := (startWork s).raise m) (m := m) (rest := []) rfl
  have st : z.st = s := st.trans (congrArg Work.st ignored)
  have todo : z.todo = [] := todo.trans (congrArg (fun v : Work => v.todo ++ []) ignored)
  rw [step, settle]
  simp only [todo, st]

/-- A notice whose block raises no other. -/
theorem finish_answered {m : Notice} {t : State} (answered : handle m (startWork s) = startWork t) :
    ((startWork s).raise m).finish = t := by
  obtain ⟨z, st, todo, step⟩ := finish_step (w := (startWork s).raise m) (m := m) (rest := []) rfl
  have st : z.st = t := st.trans (congrArg Work.st answered)
  have todo : z.todo = [] := todo.trans (congrArg (fun v : Work => v.todo ++ []) answered)
  rw [step, settle]
  simp only [todo, st]

/-! ### The lane machine at the answer to its write -/

section
variable (serves : s.laneOf b = some n) (session : s.lane n = some y)
include serves session

/-- R149, R152: the stages in which the outcome of a write changes nothing. -/
theorem provEnded_passes {v : ProvWrite} {o : WriteOutcome}
    (passes : v.enter = true ∧ y.stage ≠ .waking ∨ v.enter = false ∧ ∀ p, y.stage ≠ .releasing p) :
    provEnded b v o (startWork s) = startWork s := by
  unfold provEnded
  rw [startWork, serves]
  dsimp only
  rw [session]
  dsimp only
  split
  · next stage enter => exact absurd (passes.resolve_right fun no => by rw [no.1] at enter; cases enter).2 (fun no => no stage)
  · next stage enter => exact absurd (passes.resolve_right fun no => by rw [no.1] at enter; cases enter).2 (fun no => no stage)
  · rfl
  · next p stage enter _ =>
    exact absurd (passes.resolve_left fun no => by rw [no.1] at enter; cases enter).2 (fun no => no p stage)
  · rfl

theorem provEnded_accepted {v : ProvWrite} (enter : v.enter = true) (waking : y.stage = .waking) :
    provEnded b v .accepted (startWork s) = startWork (s.setLane n (some { y with accepted := true })) := by
  unfold provEnded
  rw [startWork, serves]
  dsimp only
  rw [session]
  simp only [enter, waking] <;> rfl

theorem provEnded_refused {v : ProvWrite} (enter : v.enter = true) (waking : y.stage = .waking) :
    provEnded b v .refused (startWork s) = endSession n .failRefused (startWork s) := by
  unfold provEnded
  rw [startWork, serves]
  dsimp only
  rw [session]
  simp only [enter, waking]

theorem provEnded_exits {v : ProvWrite} {o : WriteOutcome} {p : LaneOutcome} (exit : v.enter = false)
    (releasing : y.stage = .releasing p) (answered : o ≠ .replaced) :
    provEnded b v o (startWork s) = becomeIdle n b (startWork s) := by
  unfold provEnded
  rw [startWork, serves]
  dsimp only
  rw [session]
  simp only [exit, releasing]

end

theorem provEnded_unserved {v : ProvWrite} {o : WriteOutcome} (unserved : s.laneOf b = none) :
    provEnded b v o (startWork s) = startWork s := by
  unfold provEnded
  rw [startWork, unserved]

/-! ### A lane machine becomes IDLE -/

/-- A bay that is none of three. -/
theorem another_bay (b c d : BayIx) : ∃ a : BayIx, a ≠ b ∧ a ≠ c ∧ a ≠ d := by
  have few : ({b, c, d} : Finset BayIx).card < (Finset.univ : Finset BayIx).card :=
    (Finset.card_le_three).trans_lt (by decide)
  obtain ⟨a, -, other⟩ := Finset.exists_mem_notMem_of_card_lt_card few
  exact ⟨a, by simpa using other⟩

/-- R147: there is a bay besides one of a lane that no lane machine serves, and that none may take while no campaign is
held. -/
theorem exists_barred (b : BayIx) (free : ∀ k, s.campaign k = none) : ∃ a, a ≠ b ∧ Barred a s := by
  have served (m : LaneIx) : ∃ c : BayIx, ∀ x, s.lane m = some x → x.bay = c := by
    cases its : s.lane m with
    | none => exact ⟨0, nofun⟩
    | some x => exact ⟨x.bay, fun z same => by cases same; rfl⟩
  obtain ⟨c, first⟩ := served 0
  obtain ⟨d, second⟩ := served 1
  obtain ⟨a, other, notFirst, notSecond⟩ := another_bay b c d
  have unserved : s.laneOf a = none := laneOf_eq_none_iff.2 fun m x session same => by
    rcases Fin.exists_fin_two.1 ⟨m, rfl⟩ with rfl | rfl
    · exact notFirst (same.symm.trans (first x session))
    · exact notSecond (same.symm.trans (second x session))
  exact ⟨a, other, ⟨fun m x serves => by (rw [unserved] at serves; cases serves), .inr free⟩⟩

/-- R152: a lane machine that became IDLE while no campaign is held stays IDLE. -/
theorem finish_becomesIdle (free : ∀ k, w.st.campaign k = none) (start : ∀ m ∈ w.todo, m ∈ (becomeIdle n b (startWork s)).todo)
    (idle : w.st.lane n = none) (k : Nat) : (settle k w).st.lane n = none := by
  obtain ⟨a, other, barred⟩ := exists_barred b free
  refine settle_idle k barred (fun m among => ?_) free idle
  have among : m ∈ [.laneIdle b, .reevaluate b, .select 0, .select 1] := start m among
  simp only [List.mem_cons, List.not_mem_nil, or_false] at among
  rcases among with rfl | rfl | rfl | rfl
  · exact other.symm
  all_goals trivial

/-- R103: the report that the lane is IDLE starts a release that waited for it. -/
theorem settle_waitedFor {r : ReleaseRecord} {rest : List Notice} (k : Nat) (first : w.todo = .laneIdle b :: rest)
    (settles : ∀ m ∈ rest, m.settles = true) (pending : (w.st.bay b).door.pendingLane = true)
    (record : (w.st.bay b).door.release = some r) :
    ((settle (k + 1) w).st.bay b).door = ((releaseBegun b r w.st).bay b).door := by
  have starts : handle (.laneIdle b) (startWork w.st) = startRelease b r (startWork w.st) := by
    simp only [handle, laneReportedIdle, startWork, record, pending, if_true]
  obtain ⟨z, st, todo, step⟩ := settle_step k first
  have st : z.st = releaseBegun b r w.st := st.trans (congrArg Work.st starts)
  have todo : z.todo = [.releaseAnswered b (r.begun w.st) .started, .doorMoved b true] ++ rest :=
    todo.trans (congrArg (fun v : Work => v.todo ++ rest) starts)
  rw [step, ← st]
  refine settle_door k (fun m among => ?_) (by rw [st, releaseBegun_door])
  rw [todo] at among
  rcases List.mem_append.1 among with now | later
  · simp only [List.mem_cons, List.not_mem_nil, or_false] at now
    rcases now with rfl | rfl <;> rfl
  · exact settles m later

end

end Sys2Proof.Machine
end

section
/-! The answer to a write (O31). -/

namespace Sys2Proof.Machine

section
variable {s : State} {b : BayIx} {n : LaneIx} {y : LaneSession}

/-- R92: whether the held capability excludes a write. -/
theorem writeSupported_eq_false_iff (v : TabletView) (x : DockWrite) : writeSupported v x = false ↔
    ∃ i : Identity, v.identity = some i ∧
      ((∃ z, x = .custody z) ∧ takesCustody i = false ∨ (∃ z, x = .provControl z) ∧ takesProvControl i = false) := by
  cases x <;> simp only [writeSupported] <;> cases v.identity <;> simp

/-- R91, R92: what a write requested of a channel does at once. -/
theorem requestWrite_cases (b : BayIx) (x : DockWrite) (s : State) :
    ((s.bay b).channel.state ≠ .active → requestWrite b x (startWork s) = { st := s, todo := [.writeEnded b x .cancelled] }) ∧
    ((s.bay b).channel.state = .active → writeSupported (s.bay b).view x = false → requestWrite b x (startWork s) =
      { st := s.modBay b fun y => { y with channel := { (s.bay b).channel with drops := 0 } }
        todo := [.writeEnded b x .refused] }) ∧
    ((s.bay b).channel.state = .active → writeSupported (s.bay b).view x = true → requestWrite b x (startWork s) =
      { st := s.modBay b fun y => { y with channel := addPending (s.bay b).channel x }
        todo := ((pendingSame (s.bay b).channel x).map fun z => Notice.writeEnded b z .replaced).toList }) := by
  have writes (f : Channel → Channel) : s.modChannel b f = s.modBay b fun y => { y with channel := f (s.bay b).channel } :=
    rfl
  refine ⟨fun shut => ?_, fun active excluded => ?_, fun active takes => ?_⟩
  · simp only [requestWrite, startWork, bne_iff_ne.2 shut, if_true]
    rfl
  · simp only [requestWrite, startWork, active, excluded, bne_self_eq_false, Bool.false_eq_true, if_false, Bool.not_false,
      if_true, Work.upd, Work.raise, writes]
    rfl
  · simp only [requestWrite, startWork, active, takes, bne_self_eq_false, Bool.false_eq_true, if_false, Bool.not_true,
      Work.upd, writes]
    cases pendingSame (s.bay b).channel x <;> rfl

/-- R149, R152, R154: a refused ENTER ends the session of its lane machine in FAIL_REFUSED. -/
theorem finish_enterRefused {v : ProvWrite} (serves : s.laneOf b = some n) (session : s.lane n = some y)
    (enter : v.enter = true) (waking : y.stage = .waking) (active : (s.bay b).channel.state = .active)
    (takes : ∀ i, (s.bay b).view.identity = some i → takesProvControl i = true) (t : State)
    (finished : ((startWork s).raise (.writeEnded b (.provControl v) .refused)).finish = t) :
    t.lane n = some (y.ended .failRefused) ∧
      (t.bay b).channel.provControl = some { enter := false, campaign := y.campaign } ∧
      (t.bay b).prov.attempts[y.slot] = (s.bay b).prov.attempts[y.slot] + 1 ∧
      (t.bay b).counters.provFailures = (s.bay b).counters.provFailures + 1 := by
  obtain ⟨z, same, own⟩ := lane_of_laneOf serves
  rw [session] at same
  cases same
  subst own
  have ends : handle (.writeEnded y.bay (.provControl v) .refused) (startWork s) = endSession n .failRefused (startWork s) :=
    provEnded_refused serves session enter waking
  obtain ⟨z, st, todo, step⟩ := finish_step (w := (startWork s).raise (.writeEnded y.bay (.provControl v) .refused))
    (m := .writeEnded y.bay (.provControl v) .refused) (rest := []) rfl
  change z.st = (handle (.writeEnded y.bay (.provControl v) .refused) (startWork s)).st at st
  change z.todo = (handle (.writeEnded y.bay (.provControl v) .refused) (startWork s)).todo ++ [] at todo
  rw [ends] at st todo
  obtain ⟨lane, exits, prov, counters, -⟩ := settle_ended (o := .failRefused) (w := startWork s) (v := z) 4095 session
    (by rw [waking]; rfl) serves active takes (by rw [st]; exact .refl)
    (fun m among => by rw [todo, List.append_nil] at among; exact .inl among) (fun m none => by cases none)
  rw [← step, finished] at lane exits prov counters
  refine ⟨lane, exits, ?_, ?_⟩
  · rw [prov]
    simp [provAfter, outcomeFails, startWork]
  · rw [counters]
    simp [countersAfter, outcomeFails, startWork]

/-- R103, R152: the EXIT of a lane machine in RELEASING has ended, while no campaign is held. -/
theorem finish_exited {v : ProvWrite} {o : WriteOutcome} {p : LaneOutcome} (serves : s.laneOf b = some n)
    (session : s.lane n = some y) (exit : v.enter = false) (releasing : y.stage = .releasing p) (answered : o ≠ .replaced)
    (free : ∀ k, s.campaign k = none) (t : State)
    (finished : ((startWork s).raise (.writeEnded b (.provControl v) o)).finish = t) :
    t.lane n = none ∧ ∀ r : ReleaseRecord, (s.bay b).door.pendingLane = true → (s.bay b).door.release = some r →
      (t.bay b).door.state = .releasing ∧ (t.bay b).door.latch = .full ∧ (t.bay b).door.pendingLane = false := by
  have exits : handle (.writeEnded b (.provControl v) o) (startWork s) = becomeIdle n b (startWork s) :=
    provEnded_exits serves session exit releasing answered
  obtain ⟨z, st, todo, step⟩ := finish_step (w := (startWork s).raise (.writeEnded b (.provControl v) o))
    (m := .writeEnded b (.provControl v) o) (rest := []) rfl
  change z.st = (handle (.writeEnded b (.provControl v) o) (startWork s)).st at st
  change z.todo = (handle (.writeEnded b (.provControl v) o) (startWork s)).todo ++ [] at todo
  rw [exits] at st todo
  have st : z.st = s.setLane n none := st
  have todo : z.todo = [.laneIdle b, .reevaluate b, .select 0, .select 1] := todo
  rw [step] at finished
  subst finished
  refine ⟨finish_becomesIdle (s := s) (b := b) (n := n) (by rw [st]; exact free) (fun m among => by rw [todo] at among; exact among)
    (by rw [st, State.lane_setLane, if_pos rfl]) 4095, fun r pending record => ?_⟩
  have door := settle_waitedFor (b := b) (r := r) 4094 todo (fun m among => ?_) (by rw [st]; exact pending) (by rw [st]; exact record)
  · rw [releaseBegun_door] at door
    exact ⟨congrArg Door.state door, congrArg Door.latch door, congrArg Door.pendingLane door⟩
  · simp only [List.mem_cons, List.not_mem_nil, or_false] at among
    rcases among with rfl | rfl | rfl <;> rfl

/-- Settles O31: the answer ends the exchange with the notice of its outcome, and what that notice does is said by the
register, and for PROV_CONTROL by the stage of the bay's lane machine. -/
theorem writeAnswersEndTheExchange : Obligations.WriteAnswersEndTheExchange := by
  refine ⟨fun b x s => ?_, ?_⟩
  · obtain ⟨shut, refused, takes⟩ := requestWrite_cases b x s
    intro c put excluded entered old
    have excludes := writeSupported_eq_false_iff (s.bay b).view x
    refine ⟨shut, fun active out => refused active (excludes.2 out), fun active held => ?_⟩
    refine (takes active ((Bool.not_eq_false _).mp fun no => held (excludes.1 no))).trans ?_
    cases x <;> rfl
  · intro b x w answer byte s exchange called body received answers accepted ended
    have run := writeAnswer_ends exchange called body received answers
    have bay : ended.bay b = { s.bay b with channel := { (s.bay b).channel with exchange := none, drops := 0 } } :=
      endAnswered_bay
    have same : endAnswered b s = ended := rfl
    rw [same] at run
    refine ⟨_, run, finish_steady _, ?_, ?_, ?_, ?_⟩
    · have fed := (finish_drifts (b := b) (w := (startWork ended).raise (.writeEnded b w
        (if accepted then .accepted else .refused))) fun m among => List.mem_singleton.1 among ▸ rfl).fed
      have zero : (ended.bay b).channel.drops = 0 := by rw [bay]
      exact fed.drops.elim (·.trans zero) id
    · rintro g rfl
      exact finish_ignored rfl
    · rintro v rfl
      refine ⟨fun yes => ?_, fun no room => ?_⟩
      · rw [if_pos yes]
        exact finish_ignored rfl
      · rw [if_neg no]
        refine finish_answered ((placeEvent_of_room 14 (bayByte b) _ _ .csu (w := startWork ended) room).trans ?_)
        simp only [startWork, bay]
        cases v.released <;> rfl
    · rintro v rfl
      refine ⟨fun unserved => finish_ignored (provEnded_unserved unserved), fun n y serves session => ?_⟩
      have serves : ended.laneOf b = some n := serves
      have session : ended.lane n = some y := session
      refine ⟨fun enter waking yes => ?_, fun enter waking no active takes => ?_, fun enter other => ?_, fun exit other => ?_,
        fun o exit releasing free => ?_⟩
      · rw [if_pos yes]
        exact finish_answered (provEnded_accepted serves session enter waking)
      · rw [if_neg no]
        obtain ⟨lane, exits, attempts, failures⟩ := finish_enterRefused serves session enter waking (by rw [bay]; exact active)
          (by rw [bay]; exact takes) _ rfl
        rw [bay] at attempts failures
        exact ⟨lane, exits, attempts, failures⟩
      · exact finish_ignored (provEnded_passes serves session (.inl ⟨enter, other⟩))
      · exact finish_ignored (provEnded_passes serves session (.inr ⟨exit, other⟩))
      · obtain ⟨idle, waits⟩ := finish_exited serves session exit releasing
          (o := if accepted then .accepted else .refused) (by split <;> nofun) free _ rfl
        rw [bay] at waits
        exact ⟨idle, waits⟩

end

end Sys2Proof.Machine
end

section
/-! Eligibility, the chosen campaign and the queue (R144 to R146), as O48 says them. -/

namespace Sys2Proof.Machine

/-- The first found in an ascending list is the least. -/
theorem find?_eq_some_iff_least {n : Nat} {p : Fin n → Bool} {k : Fin n} {xs : List (Fin n)} (sorted : xs.Pairwise (· < ·)) :
    xs.find? p = some k ↔ k ∈ xs ∧ p k = true ∧ ∀ j ∈ xs, p j = true → k ≤ j := by
  induction xs with
  | nil => simp
  | cons x xs ih =>
    obtain ⟨first, later⟩ := List.pairwise_cons.1 sorted
    by_cases here : p x = true
    · rw [List.find?_cons_of_pos here]
      constructor
      · rintro ⟨⟩
        refine ⟨List.mem_cons_self .., here, fun j among _ => ?_⟩
        rcases List.mem_cons.1 among with rfl | among
        · exact le_rfl
        · exact (first j among).le
      · rintro ⟨among, -, least⟩
        rcases List.mem_cons.1 among with rfl | among
        · rfl
        · exact absurd (first k among) (not_lt.2 (least x (List.mem_cons_self ..) here))
    · rw [List.find?_cons_of_neg here, ih later]
      constructor
      · rintro ⟨among, its, least⟩
        refine ⟨List.mem_cons_of_mem _ among, its, fun j or_later holds => ?_⟩
        rcases List.mem_cons.1 or_later with rfl | after
        · exact absurd holds here
        · exact least j after holds
      · rintro ⟨among, its, least⟩
        refine ⟨(List.mem_cons.1 among).resolve_left fun same => here (same ▸ its), its, fun j after => ?_⟩
        exact least j (List.mem_cons_of_mem _ after)

section
variable {s : State} {b : BayIx} {k : SlotIx} {c : Campaign} {x : QueueItem} {q : List QueueItem}

theorem mem_allSlots (k : SlotIx) : k ∈ allSlots := by
  revert k
  decide

theorem urgentSlot_iff : s.urgentSlot k = true ↔ ∃ c, s.campaign k = some c ∧ c.urgent = true := by
  simp only [State.urgentSlot, Option.any_eq_true]

theorem urgentSlot_of_held (held : s.campaign k = some c) : s.urgentSlot k = c.urgent := by
  simp only [State.urgentSlot, held, Option.any_some]

theorem managed_iff (st : ChargeState) : managed st = true ↔ st = .charging ∨ st = .held ∨ st = .maintain := by
  cases st <;> simp [managed]

/-! ### Eligibility (R144) -/

theorem bayEligible_iff (cfg : WorkingConfig) (c : Campaign) (y : Bay) : bayEligible cfg c y = true ↔
    y.present = true ∧ y.channel.state = .active ∧ c.groups.getLsbD y.attrs.group.val = true ∧ y.attrs.optOut = false ∧
      y.door.state = .secure ∧ y.door.release = none ∧ y.claim = none ∧
      (y.charge.state = .charging ∨ y.charge.state = .held ∨ y.charge.state = .maintain) ∧
      ∃ z, y.view.battery = some z ∧ cfg.socProv ≤ z.soc := by
  simp only [bayEligible, inGroups, Bool.and_eq_true, beq_iff_eq, Bool.not_eq_true', Option.isNone_iff_eq_none, managed_iff,
    Option.any_eq_true, decide_eq_true_eq, and_assoc]

theorem tabletEligible_iff (c : Campaign) (v : TabletView) : tabletEligible c v = true ↔
    (∀ i, v.identity = some i → i.capability.getLsbD 1 = true) ∧
      (c.model = 0 ∨ ∃ i, v.identity = some i ∧ i.model = c.model) ∧
      ∃ p, v.profile = some p ∧ (p.code ≠ c.profile ∨ p.version < c.target) := by
  simp only [tabletEligible, takesProvControl, Bool.and_eq_true, Option.all_eq_true, Bool.or_eq_true, beq_iff_eq, Option.any_eq_true,
    bne_iff_ne, decide_eq_true_eq, and_assoc]

/-- R144: the list of conditions. -/
theorem eligible_iff : eligible s b k = true ↔ ∃ c : Campaign, s.campaign k = some c ∧
    s.cfl.phase = .active ∧ b.val < s.cfl.populated ∧ bayEligible s.cfl.config c (s.bay b) = true ∧
      tabletEligible c (s.bay b).view = true ∧ (s.bay b).prov.attempts[k] < 3 ∧ (s.bay b).prov.blocked[k] = false ∧
      s.laneOf b = none := by
  unfold eligible
  cases held : s.campaign k with
  | none => simp
  | some c =>
    simp only [State.isActive, State.populated, Bool.and_eq_true, beq_iff_eq, decide_eq_true_eq, Bool.not_eq_true',
      Option.isNone_iff_eq_none, and_assoc, Option.some.injEq, exists_eq_left']

/-! ### The chosen campaign (R144) -/

theorem chosenCampaign_eq_none_iff : chosenCampaign s b = none ↔ ∀ k, eligible s b k = false := by
  refine ⟨fun none k => ?_, chosenCampaign_ineligible⟩
  rw [← Bool.not_eq_true]
  intro its
  simp only [chosenCampaign, Option.or_eq_none_iff, List.head?_eq_none_iff] at none
  have among : k ∈ allSlots.filter (eligible s b) := List.mem_filter.2 ⟨mem_allSlots k, its⟩
  rw [none.2] at among
  cases among

/-- R144: URGENT before ROUTINE, then the lower slot. -/
theorem chosenCampaign_eq_some_iff : chosenCampaign s b = some k ↔ eligible s b k = true ∧
    ∀ j : SlotIx, eligible s b j = true →
      (s.urgentSlot k = true ∧ ¬ s.urgentSlot j = true) ∨ ((s.urgentSlot j = true → s.urgentSlot k = true) ∧ k ≤ j) := by
  have sorted : (allSlots.filter (eligible s b)).Pairwise (· < ·) := (by decide : allSlots.Pairwise (· < ·)).filter _
  have among (j : SlotIx) : j ∈ allSlots.filter (eligible s b) ↔ eligible s b j = true := by
    rw [List.mem_filter, and_iff_right (mem_allSlots j)]
  have first := find?_eq_some_iff_least (p := fun _ => true) (k := k) sorted
  have urgent := find?_eq_some_iff_least (p := s.urgentSlot) (k := k) sorted
  have head : (allSlots.filter (eligible s b)).head? = (allSlots.filter (eligible s b)).find? fun _ => true := by
    cases allSlots.filter (eligible s b) <;> rfl
  rw [chosenCampaign, Option.or_eq_some_iff, head, first, urgent, List.find?_eq_none]
  simp only [among]
  constructor
  · rintro (⟨its, held, least⟩ | ⟨none, its, -, least⟩)
    · refine ⟨its, fun j holds => ?_⟩
      by_cases other : s.urgentSlot j = true
      · exact .inr ⟨fun _ => held, least j holds other⟩
      · exact .inl ⟨held, other⟩
    · exact ⟨its, fun j holds => .inr ⟨fun other => absurd other (none j holds), least j holds trivial⟩⟩
  · rintro ⟨its, best⟩
    by_cases held : s.urgentSlot k = true
    · exact .inl ⟨its, held, fun j holds other => (best j holds).elim (fun no => absurd other no.2) (·.2)⟩
    · exact .inr ⟨fun j holds other => (best j holds).elim (fun no => held no.1) fun no => held (no.1 other), its, trivial,
        fun j holds _ => (best j holds).elim (fun no => absurd no.1 held) (·.2)⟩

theorem campaign_of_chosen (chosen : chosenCampaign s b = some k) : ∃ c, s.campaign k = some c := by
  obtain ⟨c, held, -⟩ := eligible_iff.1 (chosenCampaign_eq_some_iff.1 chosen).1
  exact ⟨c, held⟩

/-! ### Re-evaluation (R145) -/

theorem evaluateBay_served (serves : (s.laneOf b).isSome = true) : evaluateBay b s = s := by
  rw [evaluateBay, if_pos serves]

theorem evaluateBay_unserved (unserved : s.laneOf b = none) : evaluateBay b s = s.queued (alignQueue s b) := by
  rw [evaluateBay, unserved]
  rfl

theorem alignQueue_absent (absent : ∀ x ∈ s.pvs.queue, x.bay ≠ b) : alignQueue s b = match chosenCampaign s b with
    | none => s.pvs.queue
    | some k => insertItem { bay := b, slot := k, urgent := s.urgentSlot k, since := s.now } s.pvs.queue := by
  rw [alignQueue, itemOf_eq_none_iff.2 absent]
  cases chosenCampaign s b <;> rfl

theorem alignQueue_held (held : itemOf b s.pvs.queue = some x) : alignQueue s b = match chosenCampaign s b with
    | none => dropItem b s.pvs.queue
    | some k => insertItem { x with slot := k, urgent := s.urgentSlot k } (dropItem b s.pvs.queue) := by
  rw [alignQueue, held]
  cases chosenCampaign s b <;> rfl

@[simp] theorem length_insertItem : (insertItem x q).length = q.length + 1 := (insertItem_perm x q).length_eq

/-- R145, R147: an item was added exactly where the queue is longer. -/
theorem addsItem_iff : addsItem s b = true ↔ s.pvs.queue.length < (evaluateBay b s).pvs.queue.length := by
  unfold addsItem
  cases serves : s.laneOf b with
  | some n =>
    rw [evaluateBay_served (by rw [serves]; rfl)]
    simp
  | none =>
    rw [evaluateBay_unserved serves, State.queued]
    cases held : itemOf b s.pvs.queue with
    | none =>
      rw [alignQueue_absent (itemOf_eq_none_iff.1 held)]
      cases chosenCampaign s b <;> simp
    | some x =>
      have less : (dropItem b s.pvs.queue).length < s.pvs.queue.length :=
        List.length_filter_lt_length_iff_exists.2 ⟨x, List.mem_of_find?_eq_some held, by simp [bay_of_itemOf held]⟩
      rw [alignQueue_held held]
      cases chosenCampaign s b
      · simp only [Option.isNone_some, Bool.and_false, Bool.false_and, Bool.false_eq_true, false_iff, not_lt]
        exact less.le
      · simp only [length_insertItem, Option.isNone_some, Bool.and_false, Bool.false_and, Bool.false_eq_true, false_iff, not_lt]
        exact less

/-! ### The order of the queue (R146) -/

theorem itemBefore_iff {y : QueueItem} : itemBefore x y = true ↔ (x.urgent = true ∧ y.urgent = false) ∨
    (x.urgent = y.urgent ∧ (x.since < y.since ∨ (x.since = y.since ∧ x.bay < y.bay))) := by
  unfold itemBefore
  cases hx : x.urgent <;> cases hy : y.urgent <;> simp

/-- R146: an item stands before the first that it goes before. -/
theorem insertItem_split (x : QueueItem) (q : List QueueItem) : ∃ before after : List QueueItem,
    q = before ++ after ∧ insertItem x q = before ++ x :: after ∧
      (∀ y ∈ before, ¬ itemBefore x y = true) ∧ ∀ y, after.head? = some y → itemBefore x y = true := by
  induction q with
  | nil => exact ⟨[], [], rfl, rfl, nofun, nofun⟩
  | cons y q ih =>
    by_cases first : itemBefore x y = true
    · refine ⟨[], y :: q, rfl, if_pos first, nofun, fun z its => ?_⟩
      cases its
      exact first
    · obtain ⟨before, after, whole, inserted, less, next⟩ := ih
      refine ⟨y :: before, after, congrArg (y :: ·) whole, ?_, fun z among => ?_, next⟩
      · rw [insertItem, if_neg first, inserted]
        rfl
      · rcases List.mem_cons.1 among with rfl | among
        · exact first
        · exact less z among

end

end Sys2Proof.Machine
end

section
/-! A CAMPAIGN START (R142): the slots, the renewed limits, and the re-evaluation of every bay. -/

namespace Sys2Proof.Machine

section
variable {s t : State} {b : BayIx} {k : SlotIx} {n m : LaneIx} {w : Work} {x : LaneSession} {limit e : Nat}

/-! ### The slots -/

/-- The campaign of a slot has an id. -/
def State.holdsId (s : State) (id : Byte) (k : SlotIx) : Prop := ∃ c, s.campaign k = some c ∧ c.id = id

theorem allSlots_sorted : allSlots.Pairwise (· < ·) := by decide

theorem slotOfId_eq_some_iff {id : Byte} : slotOfId s id = some k ↔ s.holdsId id k ∧ ∀ j < k, ¬ s.holdsId id j := by
  have holds (j : SlotIx) : ((s.campaign j).any fun c => c.id == id) = true ↔ s.holdsId id j := by
    simp only [Option.any_eq_true, beq_iff_eq, State.holdsId]
  rw [slotOfId, find?_eq_some_iff_least allSlots_sorted, holds, and_iff_right (mem_allSlots k)]
  refine and_congr_right fun _ => ⟨fun least j below held => ?_, fun least j _ held => ?_⟩
  · exact absurd below (not_lt.2 (least j (mem_allSlots j) ((holds j).2 held)))
  · exact not_lt.1 fun below => least j below ((holds j).1 held)

theorem slotOfId_eq_none_iff {id : Byte} : slotOfId s id = none ↔ ∀ j, ¬ s.holdsId id j := by
  simp only [slotOfId, List.find?_eq_none, mem_allSlots, forall_const, Option.any_eq_true, beq_iff_eq, State.holdsId]

theorem freeSlot_eq_some_iff : freeSlot s = some k ↔ s.campaign k = none ∧ ∀ j < k, s.campaign j ≠ none := by
  rw [freeSlot, find?_eq_some_iff_least allSlots_sorted, Option.isNone_iff_eq_none, and_iff_right (mem_allSlots k)]
  refine and_congr_right fun _ => ⟨fun least j below free => ?_, fun least j _ free => ?_⟩
  · exact absurd below (not_lt.2 (least j (mem_allSlots j) (Option.isNone_iff_eq_none.2 free)))
  · exact not_lt.1 fun below => least j below (Option.isNone_iff_eq_none.1 free)

theorem freeSlot_eq_none_iff : freeSlot s = none ↔ ∀ j, s.campaign j ≠ none := by
  simp only [freeSlot, List.find?_eq_none, mem_allSlots, forall_const, Option.isNone_iff_eq_none]

theorem campaignValid_iff (body : CampaignBody) : campaignValid body = true ↔ body.id ≠ 0 ∧ body.profile ≤ 63 := by
  simp only [campaignValid, Bool.and_eq_true, bne_iff_ne, decide_eq_true_eq]

/-! ### Renewed limits (R142) -/

/-- A lane machine of the slot that is CONNECTED, since `e`. -/
def LaneSession.since (x : LaneSession) (k : SlotIx) (e : Nat) : Prop :=
  x.slot = k ∧ x.stage = .connected ∧ x.entered = some e

theorem setLane_self : s.setLane n (s.lane n) = s := by
  simp only [State.setLane, State.modPvs, State.lane, Fin.getElem_fin, Vector.set_getElem_self]

theorem renewLimit_other (apart : ∀ x, w.st.lane n = some x → ∀ e, ¬ x.since k e) : renewLimit k limit n w = w := by
  unfold renewLimit
  split
  · rfl
  · next x session =>
    split
    · next e stage entered =>
      rw [if_neg]
      exact fun its => apart x session e ⟨its, stage, entered⟩
    · rfl

theorem renewLimit_since (session : w.st.lane n = some x) (since : x.since k e) : renewLimit k limit n w =
    if e + limit * 60000 ≤ w.st.now then
      endSession n .failTimeout (w.upd fun s => s.setLane n (some { x with limit := some (e + limit * 60000) }))
    else w.upd fun s => s.setLane n (some { x with limit := some (e + limit * 60000) }) := by
  obtain ⟨slot, stage, entered⟩ := since
  unfold renewLimit
  rw [session]
  simp only [stage, entered, slot, if_true]
  rfl

/-- R142: the session with the new limit. -/
def LaneSession.renewed (x : LaneSession) (k : SlotIx) (limit : Nat) : LaneSession :=
  match x.entered with
  | some e => if x.slot = k ∧ x.stage = .connected then { x with limit := some (e + limit * 60000) } else x
  | none => x

theorem LaneSession.renewed_since (since : x.since k e) : x.renewed k limit = { x with limit := some (e + limit * 60000) } := by
  obtain ⟨slot, stage, entered⟩ := since
  simp only [LaneSession.renewed, entered, slot, stage, and_self, if_true]

theorem LaneSession.renewed_other (other : x.slot ≠ k ∨ x.stage ≠ .connected ∨ x.entered = none) : x.renewed k limit = x := by
  unfold LaneSession.renewed
  split
  · next e entered =>
    rw [if_neg]
    rintro ⟨slot, stage⟩
    rcases other with no | no | no
    · exact no slot
    · exact no stage
    · rw [entered] at no
      cases no
  · rfl

/-- R142: while no limit has passed, a lane machine takes its new limit and nothing else changes. -/
theorem renewLimit_running (running : ∀ x e, w.st.lane n = some x → x.since k e → w.st.now < e + limit * 60000) :
    renewLimit k limit n w = w.upd fun s => s.setLane n ((s.lane n).map fun x => x.renewed k limit) := by
  by_cases its : ∃ x e, w.st.lane n = some x ∧ x.since k e
  · obtain ⟨x, e, session, since⟩ := its
    rw [renewLimit_since session since, if_neg (not_le.2 (running x e session since))]
    simp only [Work.upd, session, Option.map_some, LaneSession.renewed_since since]
  · rw [renewLimit_other fun x session e since => its ⟨x, e, session, since⟩]
    have same : ((w.st.lane n).map fun x => x.renewed k limit) = w.st.lane n := by
      cases session : w.st.lane n with
      | none => rfl
      | some x =>
        refine congrArg some (LaneSession.renewed_other ?_)
        by_contra all
        push Not at all
        obtain ⟨slot, stage, entered⟩ := all
        obtain ⟨e, its_entry⟩ := Option.ne_none_iff_exists'.1 entered
        exact its ⟨x, e, session, slot, stage, its_entry⟩
    simp only [Work.upd, same, setLane_self]

theorem renewLimit_turns (apart : ∀ x, w.st.lane n = some x → x.bay ≠ b) : Turns b w (renewLimit k limit n w) := by
  by_cases its : ∃ x e, w.st.lane n = some x ∧ x.since k e
  · obtain ⟨x, e, session, since⟩ := its
    have set : Turns b w (w.upd fun s => s.setLane n (some { x with limit := some (e + limit * 60000) })) :=
      Turns.lane .refl apart (fun y same => by cases same; exact apart x session) (.inr (.inl (by rw [session]; nofun)))
    rw [renewLimit_since session since]
    split
    · refine set.trans (endSession_turns _ fun y at_n here => absurd here ?_)
      rw [Work.upd_st, State.lane_setLane_same] at at_n
      cases at_n
      exact apart x session
    · exact set
  · rw [renewLimit_other fun x session e since => its ⟨x, e, session, since⟩]
    exact .refl

/-- R152: the end of a session leaves the other bays, the other lane machines and the clock. -/
theorem endSession_else (o : LaneOutcome) (apart : ∀ x, w.st.lane n = some x → x.bay ≠ b) (other : m ≠ n) :
    (endSession n o w).st.bay b = w.st.bay b ∧ (endSession n o w).st.lane m = w.st.lane m ∧
      (endSession n o w).st.now = w.st.now := by
  cases session : w.st.lane n with
  | none =>
    rw [endSession_stay o fun x its => by rw [session] at its; cases its]
    exact ⟨rfl, rfl, rfl⟩
  | some x =>
    by_cases works : laneWorks x.stage = true
    · refine ⟨?_, (endSession_lane session works m).trans (if_neg other), ?_⟩
      swap
      · have same : (endSession n o w).st.steady.now = w.st.steady.now := by rw [endSession_steady]
        exact same
      have away := (apart x session).symm
      have written := (requestWrite_tunes (b := x.bay) (.provControl { enter := false, campaign := x.campaign })
        (w := place (provStatusFrame (sessionCounted n x o w).st x o) (sessionCounted n x o w))).others b away
      rw [endSession_eq session works]
      refine written.trans ?_
      have placed : (place (provStatusFrame (sessionCounted n x o w).st x o) (sessionCounted n x o w)).st.bay b =
          (sessionCounted n x o w).st.bay b := by rw [place_eq]; rfl
      refine placed.trans ((State.bay_modBay_other _ away _).trans ?_)
      have opened : (sessionOver n x o w.st).bay b = w.st.bay b :=
        State.bay_modBay_other (b := x.bay) w.st away fun y => { y with prov := { y.prov with switch := none } }
      exact ((refreshWish_tunes (b := x.bay) (w := w.upd (sessionOver n x o))).others b away).trans opened
    · rw [endSession_stay o fun y its => by rw [session] at its; cases its; simpa using works]
      exact ⟨rfl, rfl, rfl⟩

theorem renewLimit_else (apart : ∀ x, w.st.lane n = some x → x.bay ≠ b) (other : m ≠ n) :
    (renewLimit k limit n w).st.bay b = w.st.bay b ∧ (renewLimit k limit n w).st.lane m = w.st.lane m ∧
      (renewLimit k limit n w).st.now = w.st.now := by
  by_cases its : ∃ x e, w.st.lane n = some x ∧ x.since k e
  · obtain ⟨x, e, session, since⟩ := its
    rw [renewLimit_since session since]
    split
    · obtain ⟨bay, lane, now⟩ := endSession_else (b := b) (m := m) (n := n)
        (w := w.upd fun s => s.setLane n (some { x with limit := some (e + limit * 60000) })) .failTimeout (fun y at_n => by
          rw [Work.upd_st, State.lane_setLane_same] at at_n
          cases at_n
          exact apart x session) other
      exact ⟨bay, lane.trans (by rw [Work.upd_st, State.lane_setLane, if_neg other]), now⟩
    · exact ⟨rfl, by rw [Work.upd_st, State.lane_setLane, if_neg other], rfl⟩
  · rw [renewLimit_other fun x session e since => its ⟨x, e, session, since⟩]
    exact ⟨rfl, rfl, rfl⟩

theorem renewLimit_steady : (renewLimit k limit n w).st.steady = w.st.steady := by
  by_cases its : ∃ x e, w.st.lane n = some x ∧ x.since k e
  · obtain ⟨x, e, session, since⟩ := its
    rw [renewLimit_since session since]
    split
    · rw [endSession_steady, Work.upd_st, setLane_steady]
    · rw [Work.upd_st, setLane_steady]
  · rw [renewLimit_other fun x session e since => its ⟨x, e, session, since⟩]

/-! ### The re-evaluation of every bay -/

/-- R142, R145: every bay re-evaluated, lane 0 first. -/
def State.allEvaluated (s : State) : State := allBays.foldl (fun u b => evaluateBay b u) s

theorem forEach_upd {α : Type} (f : α → State → State) (xs : List α) (w : Work) :
    (forEach xs (fun x => Work.upd (f x)) w).st = xs.foldl (fun u x => f x u) w.st ∧
      (forEach xs (fun x => Work.upd (f x)) w).todo = w.todo := by
  unfold forEach
  induction xs generalizing w with
  | nil => exact ⟨rfl, rfl⟩
  | cons x xs ih => exact ih _

theorem reevaluateAll_eq (s : State) : (reevaluateAll (startWork s)).st = s.allEvaluated ∧
    ∀ m ∈ (reevaluateAll (startWork s)).todo, ∃ n, m = .select n := by
  obtain ⟨st, todo⟩ := forEach_upd evaluateBay allBays (startWork s)
  refine ⟨(selectIf_st _ _).trans st, fun m among => ?_⟩
  unfold reevaluateAll at among
  generalize forEach allBays (fun b => Work.upd (evaluateBay b)) (startWork s) = w at todo among
  unfold selectIf at among
  split at among
  · rcases List.mem_append.1 among with first | last
    · rcases List.mem_append.1 first with none | first
      · rw [todo] at none
        cases none
      · exact ⟨_, List.mem_singleton.1 first⟩
    · exact ⟨_, List.mem_singleton.1 last⟩
  · rw [todo] at among
    cases among

/-- R147: a lane machine that is at work selects nothing. -/
theorem settle_busy (left : Nat) (busy : ∀ n, w.st.lane n ≠ none) (selects : ∀ m ∈ w.todo, ∃ n, m = .select n) :
    (settle left w).st = w.st := by
  refine settle_keeps (P := fun s => s = w.st) (Q := fun m => ∃ n, m = .select n) (fun m s its same => ?_) left w rfl selects
  obtain ⟨n, rfl⟩ := its
  subst same
  have stays : handle (.select n) (startWork w.st) = startWork w.st := by
    obtain ⟨x, session⟩ := Option.ne_none_iff_exists'.1 (busy n)
    simp only [handle, selectLane, startWork, session]
    rfl
  rw [stays]
  exact ⟨rfl, fun m none => by cases none⟩

theorem evaluateBay_lane : (evaluateBay b s).lane n = s.lane n := by
  unfold evaluateBay
  split <;> rfl

theorem allEvaluated_lane : s.allEvaluated.lane n = s.lane n := by
  unfold State.allEvaluated
  generalize allBays = bays
  induction bays generalizing s with
  | nil => rfl
  | cons b bays ih =>
    exact ih.trans evaluateBay_lane

/-- R142: where every lane machine is busy, the re-evaluation of every bay is all that follows. -/
theorem finish_reevaluateAll (todo : w.todo = [.reevaluateAll]) (busy : ∀ n, w.st.lane n ≠ none) :
    w.finish = w.st.allEvaluated := by
  obtain ⟨st, selects⟩ := reevaluateAll_eq w.st
  obtain ⟨z, same, told, step⟩ := finish_step todo
  have same : z.st = w.st.allEvaluated := same.trans st
  rw [List.append_nil] at told
  rw [step, settle_busy 4095 (fun n => by rw [same, allEvaluated_lane]; exact busy n) (by rw [told]; exact selects), same]

end

end Sys2Proof.Machine
end

section
/-! A CAMPAIGN START at a held id (R142): the limits that go on, and those that have passed. -/

namespace Sys2Proof.Machine

section
variable {s t : State} {b : BayIx} {k : SlotIx} {n m : LaneIx} {w : Work} {x : LaneSession} {limit e : Nat}

/-- Where no other lane machine serves its bay, a lane machine is the one that does. -/
theorem laneOf_of_apart (session : s.lane n = some x) (apart : ∀ m y, m ≠ n → s.lane m = some y → y.bay ≠ x.bay) :
    s.laneOf x.bay = some n := by
  cases serves : s.laneOf x.bay with
  | none => exact absurd rfl (laneOf_eq_none_iff.1 serves n x session)
  | some m =>
    obtain ⟨y, at_m, same⟩ := lane_of_laneOf serves
    by_contra other
    exact apart m y (fun its => other (congrArg some its)) at_m same

/-- The work of a CAMPAIGN START at a held id, behind the new campaign. -/
def renewed (k : SlotIx) (limit : Nat) (w : Work) : Work :=
  (renewLimit k limit 1 (renewLimit k limit 0 w)).raise .reevaluateAll

theorem renewed_steady : (renewed k limit w).st.steady = w.st.steady := by
  rw [renewed, Work.raise_st, renewLimit_steady, renewLimit_steady]

/-- R142: while no limit has passed, both lane machines go on. -/
theorem renewed_running (running : ∀ n x e, w.st.lane n = some x → x.since k e → w.st.now < e + limit * 60000) :
    (renewed k limit w).todo = w.todo ++ [.reevaluateAll] ∧
      ∀ n, (renewed k limit w).st.lane n = (w.st.lane n).map fun x => x.renewed k limit := by
  have first := renewLimit_running (k := k) (limit := limit) (n := 0) (w := w) (running 0)
  have kept : (renewLimit k limit 0 w).st.lane 1 = w.st.lane 1 ∧ (renewLimit k limit 0 w).st.now = w.st.now := by
    rw [first]
    exact ⟨by rw [Work.upd_st, State.lane_setLane, if_neg (by decide)], rfl⟩
  have second := renewLimit_running (k := k) (limit := limit) (n := 1) (w := renewLimit k limit 0 w) fun x e session since => by
    rw [kept.2]
    rw [kept.1] at session
    exact running 1 x e session since
  unfold renewed
  rw [second, first]
  refine ⟨rfl, fun n => ?_⟩
  rcases Fin.exists_fin_two.1 ⟨n, rfl⟩ with rfl | rfl
  · rw [Work.raise_st, Work.upd_st, State.lane_setLane, if_neg (by decide), Work.upd_st, State.lane_setLane_same]
  · rw [Work.raise_st, Work.upd_st, State.lane_setLane_same, Work.upd_st, State.lane_setLane, if_neg (by decide)]

/-- R142, R152: a session whose limit has passed ends in FAIL_TIMEOUT, whatever the other lane machine does. -/
theorem finish_expired (fresh : w.todo = []) (session : w.st.lane n = some x) (since : x.since k e)
    (passed : e + limit * 60000 ≤ w.st.now) (apart : ∀ m y, m ≠ n → w.st.lane m = some y → y.bay ≠ x.bay)
    (active : (w.st.bay x.bay).channel.state = .active)
    (takes : ∀ i, (w.st.bay x.bay).view.identity = some i → takesProvControl i = true) :
    (renewed k limit w).finish.lane n = some (x.ended .failTimeout) ∧
      ((renewed k limit w).finish.bay x.bay).channel.provControl = some { enter := false, campaign := x.campaign } ∧
      ((renewed k limit w).finish.bay x.bay).prov =
        provAfter x.slot .failTimeout { (w.st.bay x.bay).prov with switch := none } ∧
      ((renewed k limit w).finish.bay x.bay).counters = countersAfter .failTimeout (w.st.bay x.bay).counters := by
  have works (l : Option Nat) : laneWorks ({ x with limit := l } : LaneSession).stage = true := by
    rw [since.2.1]
    rfl
  have ends (u : Work) (todo : ∀ m ∈ u.todo, m.aloof x.bay) (lanes : ∀ m, u.st.lane m = w.st.lane m ∨ m ≠ n ∧
      ∀ y, u.st.lane m = some y → y.bay ≠ x.bay) (own : u.st.lane n = w.st.lane n) (bay : u.st.bay x.bay = w.st.bay x.bay)
      (v : Work) (turns : Turns x.bay (endSession n .failTimeout
        (u.upd fun s => s.setLane n (some { x with limit := some (e + limit * 60000) }))) v) :
      v.finish.lane n = some (x.ended .failTimeout) ∧
        (v.finish.bay x.bay).channel.provControl = some { enter := false, campaign := x.campaign } ∧
        (v.finish.bay x.bay).prov = provAfter x.slot .failTimeout { (w.st.bay x.bay).prov with switch := none } ∧
        (v.finish.bay x.bay).counters = countersAfter .failTimeout (w.st.bay x.bay).counters := by
    have same : (u.upd fun s => s.setLane n (some { x with limit := some (e + limit * 60000) })).st.bay x.bay =
        w.st.bay x.bay := bay
    obtain ⟨lane, exits, prov, counters, -⟩ := finish_ended (o := .failTimeout) (n := n) (v := v)
      (x := { x with limit := some (e + limit * 60000) })
      (w := u.upd fun s => s.setLane n (some { x with limit := some (e + limit * 60000) })) (State.lane_setLane_same ..)
      (works _) (laneOf_of_apart (State.lane_setLane_same ..) fun m y other at_m => by
        rw [Work.upd_st, State.lane_setLane, if_neg other] at at_m
        rcases lanes m with keeps | ⟨-, away⟩
        · exact apart m y other (keeps ▸ at_m)
        · exact away y at_m)
      (same ▸ active) (same ▸ takes) todo turns
    rw [same] at prov counters
    exact ⟨lane, exits, prov, counters⟩
  rcases Fin.exists_fin_two.1 ⟨n, rfl⟩ with rfl | rfl
  · refine ends w (by rw [fresh]; nofun) (fun m => .inl rfl) rfl rfl _ ?_
    unfold renewed
    rw [renewLimit_since session since, if_pos passed]
    refine (renewLimit_turns fun y at_1 => ?_).tell trivial
    rw [endSession_lane (State.lane_setLane_same ..) (works _), if_neg (by decide), Work.upd_st, State.lane_setLane,
      if_neg (by decide)] at at_1
    exact apart 1 y (by decide) at_1
  · have other : ∀ y, w.st.lane 0 = some y → y.bay ≠ x.bay := fun y => apart 0 y (by decide)
    obtain ⟨bay, lane, now⟩ := renewLimit_else (k := k) (limit := limit) (m := 1) other (by decide)
    have turns := renewLimit_turns (k := k) (limit := limit) other
    refine ends (renewLimit k limit 0 w) (fun m among => (turns.told m among).elim (fun no => by rw [fresh] at no; cases no) id)
      (fun m => ?_) lane bay _ ?_
    · rcases Fin.exists_fin_two.1 ⟨m, rfl⟩ with rfl | rfl
      · refine .inr ⟨by decide, fun y at_0 same => other y ((turns.rests.lane 0 y same).1 at_0) same⟩
      · exact .inl lane
    · unfold renewed
      rw [renewLimit_since (w := renewLimit k limit 0 w) (lane.trans session) since, if_pos (by rw [now]; exact passed)]
      exact Turns.tell .refl trivial

/-! ### The command -/

section
variable {f : RxFrame} (hand : s.hands.pvs = some f) (campaign : f.kind = .campaign)
include hand campaign

theorem campaignStart_run (operation : byteAt f.body 0 = 1) :
    exec .campaignStart s = carryOut (s.setHand none .pvs) (startCampaign (readCampaign f.body)) := by
  have names : (readCampaign f.body).operation = 1 := operation
  refine (fromHand_eq_carryOut (k := .pvs) (f := f) hand (by simp [isCampaign, campaign, names]) _).trans ?_
  simp only [names, if_true]

theorem campaignCancel_run (operation : byteAt f.body 0 = 2) :
    exec .campaignCancel s = carryOut (s.setHand none .pvs) (cancelCampaign (readCampaign f.body)) := by
  have names : (readCampaign f.body).operation = 2 := operation
  refine (fromHand_eq_carryOut (k := .pvs) (f := f) hand (by simp [isCampaign, campaign, names]) _).trans ?_
  simp only [names, if_true]

theorem campaign_otherOperation (start : byteAt f.body 0 ≠ 1) (cancel : byteAt f.body 0 ≠ 2) :
    exec .campaignStart s = .next (s.setHand none .pvs) ∧ exec .campaignCancel s = .next (s.setHand none .pvs) := by
  have first : (readCampaign f.body).operation ≠ 1 := start
  have second : (readCampaign f.body).operation ≠ 2 := cancel
  constructor
  · refine (fromHand_eq_carryOut (k := .pvs) (f := f) hand (by simp only [isCampaign, Bool.and_eq_true, beq_iff_eq, bne_iff_ne]; exact ⟨campaign, second⟩) _).trans ?_
    simp only [first, if_false]
    exact carryOut_of_quiet rfl
  · refine (fromHand_eq_carryOut (k := .pvs) (f := f) hand (by simp only [isCampaign, Bool.and_eq_true, beq_iff_eq, bne_iff_ne]; exact ⟨campaign, first⟩) _).trans ?_
    simp only [second, if_false]
    exact carryOut_of_quiet rfl

end

section
variable {body : CampaignBody} (valid : campaignValid body = true)
include valid

theorem startCampaign_held (held : slotOfId s body.id = some k) : startCampaign body (startWork s) =
    renewed k (campaignOf s.cfl.config body).limit (startWork (s.setCampaign k (some (campaignOf s.cfl.config body)))) := by
  simp only [startCampaign, startWork, valid, held, if_true]
  rfl

theorem startCampaign_free (new : slotOfId s body.id = none) (free : freeSlot s = some k) : startCampaign body (startWork s) =
    (startWork (s.setCampaign k (some (campaignOf s.cfl.config body)))).raise .reevaluateAll := by
  simp only [startCampaign, startWork, valid, new, free, if_true]
  rfl

theorem startCampaign_full (new : slotOfId s body.id = none) (full : freeSlot s = none) : startCampaign body (startWork s) =
    placeEvent 10 noBay (BitVec.ofNat 32 body.id.toNat) 2 .pvs (startWork s) := by
  simp only [startCampaign, startWork, valid, new, full, if_true]

end

theorem startCampaign_invalid {body : CampaignBody} (invalid : campaignValid body = false) :
    startCampaign body w = w ∧ cancelCampaign body w = w := by
  simp only [startCampaign, cancelCampaign, invalid, Bool.false_eq_true, if_false, and_self]

end

end Sys2Proof.Machine
end

section
/-! What the notices do to the lanes, the queue and the attempt counts, deed by deed; and that a slot whose campaign was
cancelled stays without items, sessions and attempts (R143). -/

namespace Sys2Proof.Machine

/-- The effects on the queue, the lane machines and the provisioning sections. -/
def Effect.ofPvs : Effect → Bool
  | .items | .lane | .prov _ | .switch _ | .lanes => true
  | _ => false

/-- What a notice does: an effect apart from the PVS, or one deed of the PVS. -/
inductive Deed : Work → Work → Prop where
  | plain {w v : Work} : Act {e | e.inner = true ∧ e.ofPvs = false} w v → Deed w v
  | told {w : Work} (m : Notice) : Deed w (w.raise m)
  /-- R152: a session ends -/
  | ends {w : Work} (n : LaneIx) (o : LaneOutcome) : Deed w (endSession n o w)
  /-- R153: the attempt counts of a bay are cleared -/
  | clears {w : Work} (b : BayIx) : Deed w (w.upd (clearAttempts b))
  /-- R149, R150: a session goes on -/
  | goes {w : Work} (n : LaneIx) (x y : LaneSession) : w.st.lane n = some x → y.bay = x.bay → y.slot = x.slot →
      laneWorks x.stage = true → Deed w (w.upd fun s => s.setLane n (some y))
  /-- R140: the switch of a bay moves -/
  | switches {w : Work} (b : BayIx) (n : Option LaneIx) : Deed w (w.upd fun s => s.modProv b fun p => { p with switch := n })
  /-- R152: a lane machine becomes IDLE -/
  | idles {w : Work} (n : LaneIx) : Deed w (w.upd fun s => s.setLane n none)
  /-- R145: a bay is re-evaluated -/
  | evaluates {w : Work} (b : BayIx) : Deed w (w.upd (evaluateBay b))
  /-- R147: items leave the queue -/
  | takes {w : Work} (q : List QueueItem) (streak : Nat) : q ⊆ w.st.pvs.queue →
      Deed w (w.upd fun s => s.modPvs fun p => { p with queue := q, streak := streak })
  /-- R148: a lane machine enters WAKING for the campaign of an item -/
  | wakes {w : Work} (n : LaneIx) (x : QueueItem) (c : Campaign) : w.st.lane n = none → w.st.campaign x.slot = some c →
      eligible w.st x.bay x.slot = true → Deed w (w.upd fun s => s.setLane n (some (wakingSession s x c)))

/-- Any number of them. -/
def Deeds : Work → Work → Prop := Relation.ReflTransGen Deed

section
variable {s t : State} {b : BayIx} {u v w : Work} {n : LaneIx} {k : SlotIx}

theorem Deeds.refl : Deeds w w := Relation.ReflTransGen.refl

theorem Deeds.trans (h : Deeds u v) (h' : Deeds v w) : Deeds u w := Relation.ReflTransGen.trans h h'

theorem Deed.deeds (h : Deed u v) : Deeds u v := Relation.ReflTransGen.single h

theorem Deeds.tell (h : Deeds u v) (m : Notice) : Deeds u (v.raise m) := Relation.ReflTransGen.tail h (.told m)

theorem Deeds.of_acts {can : Set Effect} (acts : Acts can u v) (plain : ∀ e ∈ can, e.inner = true ∧ e.ofPvs = false) :
    Deeds u v :=
  Relation.ReflTransGen.mono (fun _ _ act => Deed.plain act) _ _
    (acts.mono (also := {e | e.inner = true ∧ e.ofPvs = false}) plain)

/-! ### Which effects are apart from the PVS -/

theorem plain_of_writing {r : DockRegister} {e : Effect} (h : e ∈ writing r b) : e.inner = true ∧ e.ofPvs = false := by
  rcases h with rfl | ⟨x, -, rfl | ⟨o, rfl⟩⟩ <;> exact ⟨rfl, rfl⟩

theorem plain_of_refreshing {e : Effect} (h : e ∈ refreshing b) : e.inner = true ∧ e.ofPvs = false := by
  rcases h with rfl | rfl | rfl | rfl <;> exact ⟨rfl, rfl⟩

theorem plain_of_placing {k : FrameKind} {e : Effect} (h : e ∈ placing k) : e.inner = true ∧ e.ofPvs = false := by
  rcases h with rfl | ⟨f, rfl⟩ <;> exact ⟨rfl, rfl⟩

theorem plain_of_charging {e : Effect} (h : e ∈ charging b) : e.inner = true ∧ e.ofPvs = false := by
  rcases h with (((rfl | rfl) | h) | h) | h
  iterate 2 exact ⟨rfl, rfl⟩
  · exact plain_of_refreshing h
  · rcases h with rfl | rfl | rfl | rfl <;> exact ⟨rfl, rfl⟩
  · exact plain_of_writing h

theorem plain_of_splitting {e : Effect} (h : e ∈ splitting) : e.inner = true ∧ e.ofPvs = false := by
  rcases h with rfl | ⟨c, (h | h) | rfl | rfl⟩
  · exact ⟨rfl, rfl⟩
  · exact plain_of_refreshing h
  · exact plain_of_writing h
  iterate 2 exact ⟨rfl, rfl⟩

theorem plain_of_releasing {e : Effect} (h : e ∈ releasing b) : e.inner = true ∧ e.ofPvs = false := by
  rcases h with rfl | rfl | rfl | ⟨r, o, rfl⟩ <;> exact ⟨rfl, rfl⟩

theorem plain_of_unanswering {e : Effect} (h : e ∈ unanswering) : e.inner = true ∧ e.ofPvs = false := by
  rcases h with rfl | ⟨c, rfl | rfl⟩ <;> exact ⟨rfl, rfl⟩

/-! ### The deeds of a notice -/

theorem abortLane_deeds (o : LaneOutcome) : Deeds w (abortLane b o w) := by
  unfold abortLane
  split <;> [exact .refl; exact (Deed.ends _ o).deeds]

theorem chargeChannel_deeds (st : ChannelState) : Deeds w (chargeChannel b st w) :=
  .of_acts (chargeChannel_acts subset_rfl st) fun _ => plain_of_charging

theorem channelAbort_deeds (st : ChannelState) : Deeds w (channelAbort b st w) := by
  cases st
  · exact (abortLane_deeds _).trans (Deed.clears b).deeds
  · exact .refl
  all_goals exact abortLane_deeds _

theorem chargeAbort_deeds : Deeds w (chargeAbort b w) := by
  unfold chargeAbort
  split
  · exact abortLane_deeds _
  iterate 3 exact .refl
  all_goals exact abortLane_deeds _

theorem channelNotice_deeds (st : ChannelState) : Deeds w (channelNotice b st w) := by
  have later := ((channelAbort_deeds (w := w) (b := b) st).trans (chargeChannel_deeds (b := b) st)).tell (.reevaluate b)
  have first := (chargeChannel_deeds (w := w) (b := b) st).tell (.laneChannel b st)
  have counted {u : Work} : Deeds u (u.upd fun s => { s with freeCount := s.freeCount + 1 }) :=
    .of_acts (can := {.freeChoice}) (Acts.once rfl .freeChoice) fun e among => among ▸ ⟨rfl, rfl⟩
  have silenced : Deeds w (if (w.st.laneWorking b && managed (w.st.bay b).charge.state) = true then
        if Config.bccTakesFirst w.st.freeCount = true then
          ((chargeChannel b st w).raise (.laneChannel b st)).upd fun s => { s with freeCount := s.freeCount + 1 }
        else ((chargeChannel b st (channelAbort b st w)).raise (.reevaluate b)).upd fun s =>
          { s with freeCount := s.freeCount + 1 }
      else (chargeChannel b st (channelAbort b st w)).raise (.reevaluate b)) := by
    split
    · split
      · exact first.trans counted
      · exact later.trans counted
    · exact later
  cases st
  case silent | stuck => exact silenced
  all_goals exact later

theorem provEnded_deeds (x : ProvWrite) (o : WriteOutcome) : Deeds w (provEnded b x o w) := by
  unfold provEnded
  split
  · exact .refl
  · next n serves =>
    split
    · exact .refl
    · next y session =>
      split
      · next stage _ => exact (Deed.goes n y { y with accepted := true } session rfl rfl (by rw [stage]; rfl)).deeds
      · exact (Deed.ends _ _).deeds
      · exact .refl
      · exact ((((Deed.idles n).deeds.tell _).tell _).tell _).tell _
      · exact .refl

theorem profileReading_deeds : Deeds w (profileReading b w) := by
  unfold profileReading
  split
  · exact .refl
  · next n serves =>
    split
    · next y p session _ =>
      split
      · next stage =>
        split
        · split
          · have closes : Deeds w (w.upd fun s => s.modProv y.bay fun q => { q with
                switch := if (w.st.bay y.bay).door.state = .secure then some n else none }) := (Deed.switches _ _).deeds
            exact closes.trans (Deed.goes (w := w.upd fun s => s.modProv y.bay fun q => { q with
                switch := if (w.st.bay y.bay).door.state = .secure then some n else none }) n y
              { y with
                stage := .connected, wakeWait := none, entered := some w.st.now,
                limit := some (w.st.now + ((w.st.campaign y.slot).map fun c => c.limit).getD 0 * 60000) }
              session rfl rfl (by rw [stage]; rfl)).deeds
          · exact (Deed.ends _ _).deeds
          all_goals exact .refl
        · exact .refl
      · split
        iterate 3 exact (Deed.ends _ _).deeds
        all_goals exact .refl
      · exact .refl
    · exact .refl

theorem readingNotice_deeds (r : DockRegister) (cls : IdentClass) : Deeds w (readingNotice b r cls w) := by
  have read (r : DockRegister) : Deeds w (chargeReading b r w) :=
    .of_acts (chargeReading_acts subset_rfl r) fun e among => by
      rcases among with rfl | among <;> [exact ⟨rfl, rfl⟩; exact plain_of_charging among]
  cases r
  case ident =>
    have noted : Deeds (chargeReading b .ident w) (identNotice b cls (chargeReading b .ident w)) :=
      .of_acts (identNotice_acts cls subset_rfl) fun e among => by
        rcases among with (among | rfl) | among
        · exact plain_of_placing among
        · exact ⟨rfl, rfl⟩
        · exact plain_of_writing among
    simp only [readingNotice]
    refine Deeds.tell ?_ _
    split
    · exact ((read .ident).trans noted).trans (Deed.clears b).deeds
    · exact (read .ident).trans noted
  case battery =>
    simp only [readingNotice]
    refine Deeds.tell ((read .battery).trans ?_) _
    unfold batteryAbort
    split <;> [exact abortLane_deeds _; exact .refl]
  case chargeRequest => exact read .chargeRequest
  case profile => exact Deeds.tell profileReading_deeds _
  all_goals exact .refl

theorem selectIf_deeds (added : Bool) : Deeds w (selectIf added w) := by
  cases added
  · exact .refl
  · exact (Deeds.refl.tell _).tell _

theorem enterWaking_deeds {x : QueueItem} {c : Campaign} (idle : w.st.lane n = none) (held : w.st.campaign x.slot = some c)
    (fits : eligible w.st x.bay x.slot = true) : Deeds w (enterWaking n x c w) := by
  unfold enterWaking
  extract_lets w₁ w₂
  have woken : Deeds w w₁ := (Deed.wakes n x c idle held fits).deeds
  have asked : Deeds w₁ w₂ := .of_acts (requestWrite_acts (.provControl { enter := true, campaign := c.id })
    (fun _ its => by cases its) subset_rfl) fun _ => plain_of_writing
  have active : (w₂.st.bay x.bay).channel.state = .active :=
    (requestWrite_state (w := w₁) (.provControl { enter := true, campaign := c.id }) x.bay x.bay).trans
      (channel_of_eligible (s := w.st) fits)
  have due : Deeds w₂ (w₂.upd (profileAtOnce x.bay)) :=
    .of_acts (can := {.profileNow x.bay}) (Acts.once rfl (.profileNow active)) fun e among => among ▸ ⟨rfl, rfl⟩
  exact ((woken.trans asked).trans due).trans (.of_acts (refreshWish_acts subset_rfl) fun _ => plain_of_refreshing)

theorem selectFrom_deeds (idle : w.st.lane n = none) (k : Nat) : Deeds w (selectFrom n k w) := by
  induction k generalizing w with
  | zero => exact .refl
  | succ k ih =>
    unfold selectFrom
    split
    · exact .refl
    · next x streak _ =>
      extract_lets w₁
      have taken : Deeds w w₁ := (Deed.takes (w := w) (dropItem x.bay w.st.pvs.queue) w.st.pvs.streak
        (List.filter_sublist.subset)).deeds
      have again : Deeds w (selectFrom n k w₁) := taken.trans (ih idle)
      split
      · exact again
      · next c held =>
        split
        · next fits =>
          have counted : Deeds w₁ (w₁.upd fun s => s.modPvs fun p => { p with queue := w₁.st.pvs.queue, streak := streak }) :=
            (Deed.takes w₁.st.pvs.queue streak (List.Subset.refl _)).deeds
          exact (taken.trans counted).trans (enterWaking_deeds
            (w := w₁.upd fun s => s.modPvs fun p => { p with queue := w₁.st.pvs.queue, streak := streak }) idle held fits)
        · exact again

theorem handle_deeds (m : Notice) : Deeds w (handle m w) := by
  cases m with
  | recompute =>
    exact .of_acts (recompute_acts (can := {.recompute, .tell .split}) subset_rfl) fun e among => by
      rcases among with rfl | rfl <;> exact ⟨rfl, rfl⟩
  | split => exact .of_acts (runSplit_acts subset_rfl) fun _ => plain_of_splitting
  | wishInput b => exact .of_acts (refreshWish_acts subset_rfl) fun _ => plain_of_refreshing
  | chargeChanged b => exact chargeAbort_deeds.tell _
  | channelChanged b st => exact channelNotice_deeds st
  | laneChannel b st => exact (channelAbort_deeds st).tell _
  | reading b r cls => exact readingNotice_deeds r cls
  | writeEnded b x o =>
    cases x with
    | custody v => exact .of_acts (custodyEnded_acts v o subset_rfl) fun _ => plain_of_placing
    | provControl v => exact provEnded_deeds v o
    | chargeLimit g => exact .refl
  | discarded f => exact .of_acts (discardNotice_acts f subset_rfl) fun _ => plain_of_unanswering
  | doorMoved b left =>
    refine Deeds.tell ?_ (.reevaluate b)
    split <;> [exact abortLane_deeds _; exact .refl]
  | episodeEnded b attr r p =>
    exact Deeds.tell (.of_acts (episodeEndNotice_acts attr r p subset_rfl) fun _ => plain_of_writing) (.reevaluate b)
  | releaseAsked b r =>
    have asked : Deeds w (askRelease b r w) := .of_acts (askRelease_acts r subset_rfl) fun _ => plain_of_releasing
    simp only [handle, requestRelease]
    split
    · exact asked
    · exact (asked.trans (abortLane_deeds _)).tell _
  | releaseAnswered b r o =>
    exact .of_acts (releaseAnswer_acts r o subset_rfl) fun e among => by
      rcases among with (among | among) | among
      iterate 2 exact plain_of_placing among
      exact plain_of_writing among
  | laneIdle b => exact .of_acts (laneReportedIdle_acts subset_rfl) fun _ => plain_of_releasing
  | reevaluate b => exact (Deed.evaluates b).deeds.trans (selectIf_deeds _)
  | reevaluateAll =>
    refine Deeds.trans ?_ (selectIf_deeds _)
    generalize allBays = bays
    induction bays generalizing w with
    | nil => exact .refl
    | cons b bays ih => exact (Deed.evaluates b).deeds.trans ih
  | select n =>
    simp only [handle, selectLane]
    split
    · next idle => exact selectFrom_deeds (Option.isNone_iff_eq_none.1 idle) _
    · exact .refl
  | serviceChanged b => exact .of_acts (serviceChanged_acts subset_rfl) fun _ => plain_of_charging

/-- What every deed keeps, holds when all notices are worked. -/
theorem settle_keeps_of_deeds {P : State → Prop} (keeps : ∀ u v, Deed u v → P u.st → P v.st) (left : Nat) (holds : P w.st) :
    P (settle left w).st := by
  refine settle_keeps_all (fun m s before => ?_) left w holds
  have deeds := handle_deeds (w := startWork s) m
  generalize handle m (startWork s) = v at deeds
  induction deeds with
  | refl => exact before
  | tail _ deed ih => exact keeps _ _ deed ih

end

end Sys2Proof.Machine
end

section
/-! A CAMPAIGN CANCEL (R143): what stays of the slot it emptied. -/

namespace Sys2Proof.Machine

/-- R143: a slot that holds no campaign, and of which no item, no session at work, no attempt and no blocked bay is left. -/
structure Ceased (k : SlotIx) (s : State) : Prop where
  campaign : s.campaign k = none
  queue : ∀ x ∈ s.pvs.queue, x.slot ≠ k
  rests : ∀ n x, s.lane n = some x → x.slot = k → laneWorks x.stage = false
  prov : ∀ b, (s.bay b).prov.attempts[k] = 0 ∧ (s.bay b).prov.blocked[k] = false

section
variable {s t : State} {b : BayIx} {u v w : Work} {n m : LaneIx} {k : SlotIx} {x : LaneSession} {o : LaneOutcome}

theorem Ceased.of_same (h : Ceased k s) (pvs : t.pvs = s.pvs) (prov : ∀ b, (t.bay b).prov.attempts = (s.bay b).prov.attempts ∧
    (t.bay b).prov.blocked = (s.bay b).prov.blocked) : Ceased k t := by
  refine ⟨?_, by rw [pvs]; exact h.queue, fun n x at_n => h.rests n x ?_, fun b => ?_⟩
  · have none := h.campaign
    unfold State.campaign at none ⊢
    rw [pvs]
    exact none
  · unfold State.lane at at_n ⊢
    rw [← pvs]
    exact at_n
  · rw [(prov b).1, (prov b).2]
    exact h.prov b

theorem Ceased.of_modBay {f : Bay → Bay} (h : Ceased k s) (same : ∀ x, (f x).prov.attempts = x.prov.attempts ∧
    (f x).prov.blocked = x.prov.blocked) : Ceased k (s.modBay b f) :=
  h.of_same rfl fun c => ⟨s.read_modBay b c (·.prov.attempts) fun x => (same x).1,
    s.read_modBay b c (·.prov.blocked) fun x => (same x).2⟩

/-- What does not belong to the PVS leaves the slot as it is. -/
theorem Change.ceased {e : Effect} (changed : Change e s t) (plain : e.inner = true ∧ e.ofPvs = false) (h : Ceased k s) :
    Ceased k t := by
  obtain ⟨inner, apart⟩ := plain
  cases changed
  case recompute =>
    rw [recomputed_eq]
    exact h.of_same rfl fun _ => ⟨rfl, rfl⟩
  case reads c rs =>
    unfold requestReads
    split
    iterate 2 exact h.of_modBay fun _ => ⟨rfl, rfl⟩
    iterate 2 exact h
  case release c r _ =>
    refine h.of_same rfl fun b => ?_
    by_cases own : b = c
    · subst own
      have its := releaseBegun_bay (b := b) (r := r) (s := s)
      unfold releaseBegun at its
      rw [its]
      exact ⟨rfl, rfl⟩
    · have same : (startRelease c r (startWork s)).st.bay b = s.bay b :=
        (State.bay_modBay_other _ own _).trans ((State.bay_modBay_other _ own _).trans (State.bay_modBay_other _ own _))
      rw [same]
      exact ⟨rfl, rfl⟩
  case profileNow c _ =>
    unfold profileAtOnce
    exact h.of_modBay fun _ => ⟨rfl, rfl⟩
  case wish | tune | enter | write | answered | channelUp | pend | claim | count | session => exact h.of_modBay fun _ => ⟨rfl, rfl⟩
  case need | applied | freeChoice | frame | withdraw | slot | loan => exact h.of_same rfl fun _ => ⟨rfl, rfl⟩
  case items | lane | prov | switch | lanes => cases apart
  all_goals exact absurd inner Bool.false_ne_true

theorem Ceased.setLane {y : Option LaneSession} (h : Ceased k s) (rests : ∀ x, y = some x → x.slot = k → laneWorks x.stage = false) :
    Ceased k (s.setLane n y) := by
  refine ⟨h.campaign, h.queue, fun m x at_m => ?_, h.prov⟩
  rw [State.lane_setLane] at at_m
  split at at_m
  · exact rests x at_m
  · exact h.rests m x at_m

theorem Ceased.queued {q : List QueueItem} (h : Ceased k s) (queue : ∀ x ∈ q, x.slot ≠ k) (streak : Nat) :
    Ceased k (s.modPvs fun p => { p with queue := q, streak := streak }) := ⟨h.campaign, queue, h.rests, h.prov⟩

/-- R153: an outcome is counted at the session's own slot. -/
theorem provAfter_other {j : SlotIx} (other : j ≠ k) (p : Prov) :
    (provAfter j o p).attempts[k] = p.attempts[k] ∧ (provAfter j o p).blocked[k] = p.blocked[k] := by
  unfold provAfter
  split
  · have apart : j.val ≠ k.val := fun same => other (Fin.ext same)
    simp [apart]
  · exact ⟨rfl, rfl⟩

theorem Ceased.endSession (h : Ceased k w.st) : Ceased k (endSession n o w).st := by
  cases session : w.st.lane n with
  | none =>
    rw [endSession_stay o fun x its => by rw [session] at its; cases its]
    exact h
  | some x =>
    by_cases works : laneWorks x.stage = true
    · have other : x.slot ≠ k := fun same => by
        rw [h.rests n x session same] at works
        cases works
      refine ⟨?_, ?_, fun m y at_m => ?_, fun b => ?_⟩
      · have same : (Machine.endSession n o w).st.steady.pvs.campaigns = w.st.steady.pvs.campaigns := by rw [endSession_steady]
        have none := h.campaign
        unfold State.campaign at none ⊢
        rw [show (Machine.endSession n o w).st.pvs.campaigns = w.st.pvs.campaigns from same]
        exact none
      · rw [(endSession_same o session works).queue]
        exact h.queue
      · rw [endSession_lane session works] at at_m
        split at at_m
        · cases at_m
          exact fun _ => rfl
        · exact h.rests m y at_m
      · by_cases own : b = x.bay
        · rw [own, endSession_bay session works]
          obtain ⟨attempts, blocked⟩ := provAfter_other (o := o) other { (w.st.bay x.bay).prov with switch := none }
          exact ⟨attempts.trans (h.prov x.bay).1, blocked.trans (h.prov x.bay).2⟩
        · have away : ∀ y, w.st.lane n = some y → y.bay ≠ b := fun y at_n => by
            rw [session] at at_n
            cases at_n
            exact Ne.symm own
          obtain ⟨m, apart⟩ : ∃ m : LaneIx, m ≠ n := exists_ne n
          rw [(endSession_else (m := m) o away apart).1]
          exact h.prov b
    · rw [endSession_stay o fun y its => by rw [session] at its; cases its; simpa using works]
      exact h

theorem Ceased.evaluateBay (h : Ceased k s) : Ceased k (evaluateBay b s) := by
  have chosen {j : SlotIx} (its : chosenCampaign s b = some j) : j ≠ k := fun same => by
    obtain ⟨c, held⟩ := campaign_of_chosen its
    rw [same, h.campaign] at held
    cases held
  have inserted {x : QueueItem} {q : List QueueItem} (slot : x.slot ≠ k) (less : q ⊆ s.pvs.queue) :
      ∀ y ∈ insertItem x q, y.slot ≠ k := fun y among => by
    rcases List.mem_cons.1 ((insertItem_perm x q).mem_iff.1 among) with rfl | before
    · exact slot
    · exact h.queue y (less before)
  cases serves : s.laneOf b with
  | some n =>
    rw [evaluateBay_served (by rw [serves]; rfl)]
    exact h
  | none =>
    rw [evaluateBay_unserved serves]
    refine h.queued ?_ s.pvs.streak
    unfold alignQueue
    split
    · exact h.queue
    · next j _ its => exact inserted (chosen its) (List.Subset.refl _)
    · exact fun y among => h.queue y (mem_dropItem.1 among).1
    · next x j _ its => exact inserted (x := { x with slot := j, urgent := s.urgentSlot j }) (chosen its) (fun y among => (mem_dropItem.1 among).1)

/-- R143: every deed leaves the slot empty. -/
theorem Deed.ceased (deed : Deed u v) (h : Ceased k u.st) : Ceased k v.st := by
  cases deed with
  | plain act =>
    cases act with
    | tell _ => exact h
    | change may changed => exact changed.ceased may h
  | told m => exact h
  | ends n o => exact h.endSession
  | clears b =>
    refine ⟨h.campaign, h.queue, h.rests, fun c => ?_⟩
    rw [Work.upd_st, clearAttempts, State.prov_modProv]
    split
    · constructor <;> simp
    · exact h.prov c
  | goes n x y session bay slot works =>
    refine h.setLane fun z its same => ?_
    cases its
    rw [h.rests n x session (slot ▸ same)] at works
    cases works
  | switches b n => exact h.of_modBay (f := fun y => { y with prov := { y.prov with switch := n } }) fun _ => ⟨rfl, rfl⟩
  | idles n => exact h.setLane nofun
  | evaluates b => exact h.evaluateBay
  | takes q streak less => exact h.queued (fun x among => h.queue x (less among)) streak
  | wakes n x c idle held fits =>
    refine h.setLane fun y its same => ?_
    cases its
    have same : x.slot = k := same
    rw [same, h.campaign] at held
    cases held

theorem Ceased.settle (h : Ceased k w.st) (left : Nat) : Ceased k (settle left w).st :=
  settle_keeps_of_deeds (fun _ _ deed => deed.ceased) left h

end

end Sys2Proof.Machine
end

section
/-! A CAMPAIGN CANCEL (R143), and the campaigns as O48 says them. -/

namespace Sys2Proof.Machine

section
variable {s t : State} {b : BayIx} {w : Work} {n m : LaneIx} {k : SlotIx} {x : LaneSession}

/-! ### The lane machines of the slot -/

/-- R143: the session of a lane machine for the slot ends. -/
def cancelLane (k : SlotIx) (n : LaneIx) (w : Work) : Work :=
  if (w.st.lane n).any fun x => x.slot == k then endSession n .abortCancel w else w

theorem cancelLanes_eq : cancelLanes k w = cancelLane k 1 (cancelLane k 0 w) := rfl

theorem cancelLane_serves (session : w.st.lane n = some x) (slot : x.slot = k) : cancelLane k n w = endSession n .abortCancel w := by
  rw [cancelLane, session, Option.any_some, slot, beq_self_eq_true, if_pos rfl]

theorem cancelLane_steady : (cancelLane k n w).st.steady = w.st.steady := by
  unfold cancelLane
  split <;> [exact endSession_steady _ _ _; rfl]

theorem cancelLane_turns (apart : ∀ x, w.st.lane n = some x → x.bay ≠ b) : Turns b w (cancelLane k n w) := by
  unfold cancelLane
  split
  · exact endSession_turns _ fun x session same => absurd same (apart x session)
  · exact .refl

theorem cancelLane_else (apart : ∀ x, w.st.lane n = some x → x.bay ≠ b) (other : m ≠ n) :
    (cancelLane k n w).st.bay b = w.st.bay b ∧ (cancelLane k n w).st.lane m = w.st.lane m := by
  unfold cancelLane
  split
  · obtain ⟨bay, lane, -⟩ := endSession_else (m := m) .abortCancel apart other
    exact ⟨bay, lane⟩
  · exact ⟨rfl, rfl⟩

theorem cancelLane_lane (m : LaneIx) : (cancelLane k n w).st.lane m = w.st.lane m ∨
    m = n ∧ ∃ x, (cancelLane k n w).st.lane m = some x ∧ laneWorks x.stage = false := by
  unfold cancelLane
  split
  · cases session : w.st.lane n with
    | none =>
      rw [endSession_stay _ fun x its => by rw [session] at its; cases its]
      exact .inl rfl
    | some x =>
      by_cases works : laneWorks x.stage = true
      · rw [endSession_lane session works]
        split
        · next here => exact .inr ⟨here, _, rfl, rfl⟩
        · exact .inl rfl
      · rw [endSession_stay _ fun y its => by rw [session] at its; cases its; simpa using works]
        exact .inl rfl
  · exact .inl rfl

/-- R143: no lane machine of the slot is at work any more. -/
theorem cancelLane_rests (session : (cancelLane k n w).st.lane n = some x) (slot : x.slot = k) : laneWorks x.stage = false := by
  rcases cancelLane_lane (k := k) (n := n) (w := w) n with same | ⟨-, y, at_n, rests⟩
  · have before := same.symm.trans session
    by_contra works
    have its := cancelLane_serves before slot
    rw [its, endSession_lane before (by simpa using works), if_pos rfl] at session
    exact works (Option.some.inj session ▸ rfl)
  · rw [session] at at_n
    cases at_n
    exact rests

theorem cancelLanes_rests (session : (cancelLanes k w).st.lane n = some x) (slot : x.slot = k) : laneWorks x.stage = false := by
  rw [cancelLanes_eq] at session
  rcases Fin.exists_fin_two.1 ⟨n, rfl⟩ with rfl | rfl
  · rcases cancelLane_lane (k := k) (n := 1) (w := cancelLane k 0 w) 0 with same | ⟨no, -⟩
    · exact cancelLane_rests (same.symm.trans session) slot
    · cases no
  · exact cancelLane_rests session slot

/-! ### The slot emptied -/

/-- R143: queue items, attempt counts, blocked flags and the campaign of the slot are gone, and every bay is
re-evaluated. -/
def slotEmptied (k : SlotIx) (w : Work) : Work :=
  ((forEach allBays (fun b => Work.upd (clearAttemptsFor k b))
    (w.upd fun s => s.modPvs fun p => { p with queue := p.queue.filter fun x => x.slot != k })).upd
      fun s => s.setCampaign k none).raise .reevaluateAll

theorem slotEmptied_spec : (slotEmptied k w).todo = w.todo ++ [.reevaluateAll] ∧
    (slotEmptied k w).st.campaign k = none ∧
    (slotEmptied k w).st.pvs.queue = w.st.pvs.queue.filter (fun x => x.slot != k) ∧
    (∀ n, (slotEmptied k w).st.lane n = w.st.lane n) ∧
    ∀ b, (slotEmptied k w).st.bay b = { w.st.bay b with prov :=
      { (w.st.bay b).prov with
        attempts := (w.st.bay b).prov.attempts.set k 0, blocked := (w.st.bay b).prov.blocked.set k false } } := by
  have todo := (forEach_upd (clearAttemptsFor k) allBays
    (w.upd fun s => s.modPvs fun p => { p with queue := p.queue.filter fun x => x.slot != k })).2
  obtain ⟨bays, st, bay⟩ := forEach_modBay (h := fun b => Work.upd (clearAttemptsFor k b))
    (g := fun _ y => { y with prov := { y.prov with attempts := y.prov.attempts.set k 0, blocked := y.prov.blocked.set k false } })
    (fun b w => rfl) (bs := allBays) (by decide)
    (w.upd fun s => s.modPvs fun p => { p with queue := p.queue.filter fun x => x.slot != k })
  unfold slotEmptied
  generalize forEach allBays (fun b => Work.upd (clearAttemptsFor k b))
    (w.upd fun s => s.modPvs fun p => { p with queue := p.queue.filter fun x => x.slot != k }) = v at todo st bay
  refine ⟨congrArg (· ++ [Notice.reevaluateAll]) todo, ?_, ?_, fun n => ?_, fun b => ?_⟩
  · simp [State.setCampaign, State.campaign, State.modPvs]
  · change v.st.pvs.queue = _
    rw [st]
    rfl
  · change v.st.lane n = _
    rw [st]
    rfl
  · exact (bay b).trans (if_pos (mem_allBays b))

theorem setCampaign_steady_congr {c : Option Campaign} (same : s.steady = t.steady) :
    (s.setCampaign k c).steady = (t.setCampaign k c).steady := by
  have commutes (u : State) : (u.setCampaign k c).steady = u.steady.setCampaign k c := rfl
  rw [commutes, commutes, same]

theorem slotEmptied_steady : (slotEmptied k w).st.steady = (w.st.setCampaign k none).steady := by
  refine setCampaign_steady_congr ?_
  rw [forEach_keeps State.steady allBays (fun b => Work.upd (clearAttemptsFor k b)) fun b w => steady_modProv ..]
  rfl

theorem slotEmptied_ceased (rests : ∀ n x, w.st.lane n = some x → x.slot = k → laneWorks x.stage = false) :
    Ceased k (slotEmptied k w).st := by
  obtain ⟨-, campaign, queue, lane, bay⟩ := slotEmptied_spec (k := k) (w := w)
  refine ⟨campaign, fun x among => ?_, fun n x session => rests n x (lane n ▸ session), fun b => ?_⟩
  · rw [queue] at among
    exact bne_iff_ne.1 (List.mem_filter.1 among).2
  · rw [bay]
    simp

theorem cancelCampaign_held {body : CampaignBody} (valid : campaignValid body = true) (held : slotOfId w.st body.id = some k) :
    cancelCampaign body w = slotEmptied k (cancelLanes k w) := by
  simp only [cancelCampaign, valid, held, if_true]
  rfl

theorem cancelCampaign_unheld {body : CampaignBody} (unheld : slotOfId w.st body.id = none) : cancelCampaign body w = w := by
  simp only [cancelCampaign, unheld, ite_self]

/-- R143, R152: the session of a lane machine for the slot ends in ABORT_CANCEL, whatever the other lane machine does. -/
theorem finish_cancelledSession (fresh : w.todo = []) (session : w.st.lane n = some x) (slot : x.slot = k)
    (works : laneWorks x.stage = true) (apart : ∀ m y, m ≠ n → w.st.lane m = some y → y.bay ≠ x.bay)
    (active : (w.st.bay x.bay).channel.state = .active)
    (takes : ∀ i, (w.st.bay x.bay).view.identity = some i → takesProvControl i = true) :
    (slotEmptied k (cancelLanes k w)).finish.lane n = some (x.ended .abortCancel) ∧
      ((slotEmptied k (cancelLanes k w)).finish.bay x.bay).channel.provControl =
        some { enter := false, campaign := x.campaign } ∧
      ((slotEmptied k (cancelLanes k w)).finish.bay x.bay).prov.switch = none := by
  have ends (u v : Work) (todo : ∀ m ∈ u.todo, m.aloof x.bay) (serves : u.st.laneOf x.bay = some n)
      (own : u.st.lane n = some x) (bay : u.st.bay x.bay = w.st.bay x.bay)
      (turns : Turns x.bay (endSession n .abortCancel u) v) :
      (slotEmptied k v).finish.lane n = some (x.ended .abortCancel) ∧
        ((slotEmptied k v).finish.bay x.bay).channel.provControl = some { enter := false, campaign := x.campaign } ∧
        ((slotEmptied k v).finish.bay x.bay).prov.switch = none := by
    obtain ⟨exits, told⟩ := endSession_provControl (o := .abortCancel) own works (bay ▸ active) (bay ▸ takes)
    have barred := turns.rests.barred (endSession_barred (o := .abortCancel) own works serves)
    have ended : v.st.lane n = some (x.ended .abortCancel) := (turns.rests.lane n (x.ended .abortCancel) rfl).2
      ((endSession_lane own works n).trans (if_pos rfl))
    have opened : (v.st.bay x.bay).prov.switch = none := by
      rw [turns.rests.prov, endSession_bay own works]
      rfl
    obtain ⟨waits, -, -, lane, emptied⟩ := slotEmptied_spec (k := k) (w := v)
    have still : Barred x.bay (slotEmptied k v).st := by
      have same : (slotEmptied k v).st.laneOf x.bay = v.st.laneOf x.bay := by
        unfold State.laneOf
        exact congrArg (List.find? · allLanes) (funext fun m => by
          change (match (slotEmptied k v).st.lane m with | some y => y.bay == x.bay | none => false) =
            match v.st.lane m with | some y => y.bay == x.bay | none => false
          rw [lane])
      exact ⟨fun m y its at_m => barred.rests m y (same ▸ its) (lane m ▸ at_m),
        .inl (.inl ⟨n, x.ended .abortCancel, (lane n).trans ended, rfl⟩)⟩
    have rests := finish_rests (w := slotEmptied k v) still fun m among => by
      rw [waits] at among
      rcases List.mem_append.1 among with before | last
      · exact (turns.told m before).elim (fun its => (told m its).elim (todo m) id) id
      · rw [List.mem_singleton.1 last]
        trivial
    refine ⟨(rests.lane n (x.ended .abortCancel) rfl).2 ((lane n).trans ended), rests.provControl.trans ?_, ?_⟩
    · rw [emptied]
      exact turns.rests.provControl.trans exits
    · rw [rests.prov, emptied]
      exact opened
  rw [cancelLanes_eq]
  rcases Fin.exists_fin_two.1 ⟨n, rfl⟩ with rfl | rfl
  · refine ends w _ (by rw [fresh]; nofun) (laneOf_of_apart session apart) session rfl ?_
    rw [cancelLane_serves session slot]
    refine cancelLane_turns fun y at_1 => ?_
    rw [endSession_lane session works, if_neg (by decide)] at at_1
    exact apart 1 y (by decide) at_1
  · have other : ∀ y, w.st.lane 0 = some y → y.bay ≠ x.bay := fun y => apart 0 y (by decide)
    obtain ⟨bay, lane⟩ := cancelLane_else (k := k) (m := 1) other (by decide)
    have turns := cancelLane_turns (k := k) other
    refine ends (cancelLane k 0 w) _ (fun m among => (turns.told m among).elim (fun no => by rw [fresh] at no; cases no) id)
      ?_ (lane.trans session) bay ?_
    · rw [turns.rests.laneOf]
      exact laneOf_of_apart session apart
    · rw [cancelLane_serves (lane.trans session) slot]
      exact .refl

end

end Sys2Proof.Machine
end

section
/-! The campaigns (O48). -/

namespace Sys2Proof.Machine

section
variable {s : State} {b : BayIx} {k : SlotIx}

/-- R144: eligibility, as the list says it. -/
theorem eligible_listed (b : BayIx) (s : State) (k : SlotIx) : eligible s b k = true ↔ ∃ c : Campaign, s.campaign k = some c ∧
    s.cfl.phase = .active ∧ b.val < s.cfl.populated ∧ (s.bay b).present = true ∧ (s.bay b).channel.state = .active ∧
    (∀ i, (s.bay b).view.identity = some i → i.capability.getLsbD 1 = true) ∧
    (c.model = 0 ∨ ∃ i, (s.bay b).view.identity = some i ∧ i.model = c.model) ∧
    c.groups.getLsbD (s.bay b).attrs.group.val = true ∧ (s.bay b).attrs.optOut = false ∧
    (∃ p, (s.bay b).view.profile = some p ∧ (p.code ≠ c.profile ∨ p.version < c.target)) ∧
    (s.bay b).door.state = .secure ∧ (s.bay b).door.release = none ∧ (s.bay b).claim = none ∧
    ((s.bay b).charge.state = .charging ∨ (s.bay b).charge.state = .held ∨ (s.bay b).charge.state = .maintain) ∧
    (∃ z, (s.bay b).view.battery = some z ∧ s.cfl.config.socProv ≤ z.soc) ∧
    (s.bay b).prov.attempts[k] < 3 ∧ (s.bay b).prov.blocked[k] = false ∧ ¬ ∃ n x, s.lane n = some x ∧ x.bay = b := by
  rw [eligible_iff]
  refine exists_congr fun c => ?_
  have unserved : s.laneOf b = none ↔ ¬ ∃ n x, s.lane n = some x ∧ x.bay = b := by
    rw [← laneOf_isSome_iff, Option.not_isSome_iff_eq_none]
  rw [bayEligible_iff, tabletEligible_iff, unserved]
  constructor
  · rintro ⟨held, phase, populated, ⟨present, channel, group, optIn, secure, release, claim, charge, soc⟩,
      ⟨capability, model, profile⟩, attempts, blocked, unserved⟩
    exact ⟨held, phase, populated, present, channel, capability, model, group, optIn, profile, secure, release, claim, charge,
      soc, attempts, blocked, unserved⟩
  · rintro ⟨held, phase, populated, present, channel, capability, model, group, optIn, profile, secure, release, claim, charge,
      soc, attempts, blocked, unserved⟩
    exact ⟨held, phase, populated, ⟨present, channel, group, optIn, secure, release, claim, charge, soc⟩,
      ⟨capability, model, profile⟩, attempts, blocked, unserved⟩

/-- R144 to R146: the table of O48's first part. -/
theorem evaluation_spec (b : BayIx) (s : State) :
    ((∃ n x, s.lane n = some x ∧ x.bay = b) → evaluateBay b s = s) ∧
    ((¬ ∃ n x, s.lane n = some x ∧ x.bay = b) → (∀ x ∈ s.pvs.queue, x.bay ≠ b) →
      (chosenCampaign s b = none → evaluateBay b s = s) ∧
      ∀ (k : SlotIx) (c : Campaign), chosenCampaign s b = some k → s.campaign k = some c →
        evaluateBay b s = s.queued (insertItem { bay := b, slot := k, urgent := c.urgent, since := s.now } s.pvs.queue)) ∧
    (∀ x : QueueItem, (¬ ∃ n x, s.lane n = some x ∧ x.bay = b) → s.pvs.queue.find? (fun y => y.bay == b) = some x →
      (chosenCampaign s b = none → evaluateBay b s = s.queued (dropItem b s.pvs.queue)) ∧
      ∀ (k : SlotIx) (c : Campaign), chosenCampaign s b = some k → s.campaign k = some c →
        evaluateBay b s = s.queued (insertItem { x with slot := k, urgent := c.urgent } (dropItem b s.pvs.queue))) := by
  have unserved (no : ¬ ∃ n x, s.lane n = some x ∧ x.bay = b) : s.laneOf b = none :=
    Option.not_isSome_iff_eq_none.1 (mt laneOf_isSome_iff.1 no)
  refine ⟨fun serves => evaluateBay_served (laneOf_isSome_iff.2 serves), fun no absent => ?_, fun x no held => ?_⟩
  · rw [evaluateBay_unserved (unserved no), alignQueue_absent absent]
    refine ⟨fun none => ?_, fun k c chosen campaign => ?_⟩
    · rw [none]
      rfl
    · rw [chosen, ← urgentSlot_of_held campaign]
  · rw [evaluateBay_unserved (unserved no), alignQueue_held held]
    refine ⟨fun none => by rw [none], fun k c chosen campaign => ?_⟩
    rw [chosen, ← urgentSlot_of_held campaign]

/-- R145, R147: a re-evaluation that lengthened the queue lets the lane machines select. -/
theorem reevaluate_spec (b : BayIx) (s : State) : reevaluate b (startWork s) =
    { st := evaluateBay b s,
      todo := if s.pvs.queue.length < (evaluateBay b s).pvs.queue.length then [.select 0, .select 1] else [] } := by
  unfold reevaluate selectIf
  by_cases adds : addsItem s b = true
  · rw [if_pos (addsItem_iff.1 adds)]
    exact if_pos adds
  · rw [if_neg (mt addsItem_iff.2 adds)]
    exact if_neg adds

/-- R142: a lane machine and a new limit of its slot. -/
theorem renewLimit_spec (k : SlotIx) (limit : Nat) (n : LaneIx) (s : State) :
    ((¬ ∃ x entry, s.lane n = some x ∧ x.slot = k ∧ x.stage = .connected ∧ x.entered = some entry) →
      renewLimit k limit n (startWork s) = startWork s) ∧
    ∀ (x : LaneSession) (entry : Nat),
      s.lane n = some x ∧ x.slot = k ∧ x.stage = .connected ∧ x.entered = some entry →
      (s.now < entry + limit * 60000 → renewLimit k limit n (startWork s) =
        startWork (s.setLane n (some { x with limit := some (entry + limit * 60000) }))) ∧
      (entry + limit * 60000 ≤ s.now → renewLimit k limit n (startWork s) = endSession n .failTimeout
        (startWork (s.setLane n (some { x with limit := some (entry + limit * 60000) })))) := by
  refine ⟨fun none => renewLimit_other fun x session e since => none ⟨x, e, session, since⟩, fun x entry connected => ?_⟩
  obtain ⟨session, since⟩ := connected
  have runs := renewLimit_since (k := k) (limit := limit) (w := startWork s) session since
  refine ⟨fun running => ?_, fun passed => ?_⟩
  · rw [runs, if_neg (show ¬ entry + limit * 60000 ≤ (startWork s).st.now from not_le.2 running)]
    rfl
  · rw [runs, if_pos (show entry + limit * 60000 ≤ (startWork s).st.now from passed)]
    rfl

/-! ### The commands -/

section
variable {f : RxFrame} (hand : s.hands.pvs = some f) (campaign : f.kind = .campaign)
include hand campaign

/-- R142, R143: the commands that change nothing, and the START for which no slot is free. -/
theorem campaigns_ignored :
    (byteAt f.body 0 = 1 → byteAt f.body 1 = 0 ∨ 63 < (byteAt f.body 2).toNat →
      exec .campaignStart s = .next (s.setHand none .pvs)) ∧
    (byteAt f.body 0 = 2 → (byteAt f.body 1 = 0 ∨ 63 < (byteAt f.body 2).toNat) ∨
      (∀ j, ¬ s.holdsId (byteAt f.body 1) j) → exec .campaignCancel s = .next (s.setHand none .pvs)) ∧
    (byteAt f.body 0 = 1 → ¬ (byteAt f.body 1 = 0 ∨ 63 < (byteAt f.body 2).toNat) →
      (∀ j, ¬ s.holdsId (byteAt f.body 1) j) → (∀ j, s.campaign j ≠ none) → s.lkc.queue.length < 8 →
      exec .campaignStart s = .next { s.setHand none .pvs with lkc := { s.lkc with
        queue := insertFrame (newFrame .event 26 toAll [255, 0, 0, 0, byteAt f.body 1, 0, 2, 10] .pvs) s.lkc.queue } }) := by
  have invalid (no : byteAt f.body 1 = 0 ∨ 63 < (byteAt f.body 2).toNat) : campaignValid (readCampaign f.body) = false := by
    rw [← Bool.not_eq_true, campaignValid_iff]
    exact fun ⟨id, profile⟩ => no.elim id (fun high => absurd high (not_lt.2 profile))
  refine ⟨fun operation no => ?_, fun operation no => ?_, fun operation ok new full room => ?_⟩
  · rw [campaignStart_run hand campaign operation, carryOut_of_quiet] <;> rw [(startCampaign_invalid (invalid no)).1] <;> rfl
  · have stays : cancelCampaign (readCampaign f.body) (startWork (s.setHand none .pvs)) = startWork (s.setHand none .pvs) :=
      no.elim (fun bad => (startCampaign_invalid (invalid bad)).2) fun none => cancelCampaign_unheld (slotOfId_eq_none_iff.2 none)
    rw [campaignCancel_run hand campaign operation, carryOut_of_quiet] <;> rw [stays] <;> rfl
  · have valid : campaignValid (readCampaign f.body) = true :=
      (campaignValid_iff _).2 ⟨fun no => ok (.inl no), not_lt.1 fun no => ok (.inr no)⟩
    have starts := startCampaign_full (s := s.setHand none .pvs) valid (slotOfId_eq_none_iff.2 new) (freeSlot_eq_none_iff.2 full)
    have placed := placeEvent_of_room 10 noBay (BitVec.ofNat 32 (byteAt f.body 1).toNat) 2 .pvs
      (w := startWork (s.setHand none .pvs)) room
    have all := starts.trans placed
    rw [campaignStart_run hand campaign operation, carryOut_of_quiet (by rw [all]; rfl), all]
    have body : eventFrame 10 noBay (BitVec.ofNat 32 (byteAt f.body 1).toNat) 2 .pvs =
        newFrame .event 26 toAll [255, 0, 0, 0, byteAt f.body 1, 0, 2, 10] .pvs := by
      generalize byteAt f.body 1 = id
      revert id
      decide
    rw [body]
    rfl

end

end

end Sys2Proof.Machine
end

section
/-! The campaigns: START and CANCEL carried out (O48). -/

namespace Sys2Proof.Machine

section
variable {s : State} {k : SlotIx} {f : RxFrame}

/-- R142: the state with the campaign of a START in its slot. -/
def campaignPut (k : SlotIx) (c : Option Campaign) (s : State) : State := (s.setHand none .pvs).setCampaign k c

/-- R142: a START at a held id. -/
theorem campaignStart_held (hand : s.hands.pvs = some f) (campaign : f.kind = .campaign) (operation : byteAt f.body 0 = 1)
    (valid : campaignValid (readCampaign f.body) = true) (held : slotOfId s (byteAt f.body 1) = some k) :
    exec .campaignStart s = .next (renewed k (campaignOf s.cfl.config (readCampaign f.body)).limit
      (startWork (campaignPut k (some (campaignOf s.cfl.config (readCampaign f.body))) s))).finish := by
  rw [campaignStart_run hand campaign operation, carryOut,
    startCampaign_held (s := s.setHand none .pvs) valid held]
  rfl

/-- R142: a START of a new id at the lowest free slot. -/
theorem campaignStart_new (hand : s.hands.pvs = some f) (campaign : f.kind = .campaign) (operation : byteAt f.body 0 = 1)
    (valid : campaignValid (readCampaign f.body) = true) (new : slotOfId s (byteAt f.body 1) = none)
    (free : freeSlot s = some k) : exec .campaignStart s = .next ((startWork (campaignPut k
      (some (campaignOf s.cfl.config (readCampaign f.body))) s)).raise .reevaluateAll).finish := by
  rw [campaignStart_run hand campaign operation, carryOut,
    startCampaign_free (s := s.setHand none .pvs) valid new free]
  rfl

/-- R142: what a START leaves of the lane machines at a held id. -/
theorem renewed_spec (k : SlotIx) (limit : Nat) (u : State) (t : State)
    (finished : (renewed k limit (startWork u)).finish = t) :
    ((∀ n : LaneIx, u.lane n ≠ none) →
      (∀ (n : LaneIx) (x : LaneSession) (e : Nat), u.lane n = some x → x.slot = k → x.stage = .connected →
        x.entered = some e → u.now < e + limit * 60000) →
      ∀ (n : LaneIx) (x : LaneSession), u.lane n = some x →
        (x.slot ≠ k ∨ x.stage ≠ .connected ∨ x.entered = none → t.lane n = some x) ∧
        (∀ e : Nat, x.slot = k → x.stage = .connected → x.entered = some e →
          t.lane n = some { x with limit := some (e + limit * 60000) })) ∧
    ∀ (n : LaneIx) (x : LaneSession) (e : Nat), u.lane n = some x → x.slot = k → x.stage = .connected →
      x.entered = some e → e + limit * 60000 ≤ u.now →
      (∀ x y : LaneSession, u.lane 0 = some x → u.lane 1 = some y → x.bay ≠ y.bay) →
      (u.bay x.bay).channel.state = .active →
      (∀ i, (u.bay x.bay).view.identity = some i → takesProvControl i = true) →
      t.lane n = some { x with stage := .releasing .failTimeout, wakeWait := none, limit := none } ∧
      (t.bay x.bay).channel.provControl = some { enter := false, campaign := x.campaign } ∧
      (t.bay x.bay).prov.switch = none ∧
      (t.bay x.bay).prov.attempts[k] = (u.bay x.bay).prov.attempts[k] + 1 ∧
      (t.bay x.bay).counters.provFailures = (u.bay x.bay).counters.provFailures + 1 := by
  subst finished
  refine ⟨fun busy running n x session => ?_, fun n x e session slot stage entered passed apart active takes => ?_⟩
  · obtain ⟨todo, lane⟩ := renewed_running (k := k) (limit := limit) (w := startWork u)
      fun n x e at_n since => running n x e at_n since.1 since.2.1 since.2.2
    have still : ∀ n, (renewed k limit (startWork u)).st.lane n ≠ none := fun n => by
      rw [lane, ne_eq, Option.map_eq_none_iff]
      exact busy n
    have its : (renewed k limit (startWork u)).finish.lane n = some (x.renewed k limit) := by
      rw [finish_reevaluateAll todo still, allEvaluated_lane, lane, startWork, session]
      rfl
    rw [its]
    refine ⟨fun other => by rw [LaneSession.renewed_other other], fun e slot stage entered => ?_⟩
    rw [LaneSession.renewed_since ⟨slot, stage, entered⟩]
  · have alone : ∀ m y, m ≠ n → (startWork u).st.lane m = some y → y.bay ≠ x.bay := fun m y other at_m => by
      rcases Fin.exists_fin_two.1 ⟨n, rfl⟩ with rfl | rfl <;> rcases Fin.exists_fin_two.1 ⟨m, rfl⟩ with rfl | rfl
      · exact absurd rfl other
      · exact (apart x y session at_m).symm
      · exact apart y x at_m session
      · exact absurd rfl other
    obtain ⟨lane, exits, prov, counters⟩ := finish_expired (k := k) (limit := limit) (w := startWork u) rfl session
      ⟨slot, stage, entered⟩ passed alone active takes
    refine ⟨lane, exits, by rw [prov]; rfl, ?_, ?_⟩
    · rw [prov, slot]
      simp [provAfter, outcomeFails, startWork]
    · rw [counters]
      simp [countersAfter, outcomeFails, startWork]

/-- R143: a CANCEL of a held id. -/
theorem campaignCancel_held (hand : s.hands.pvs = some f) (campaign : f.kind = .campaign) (operation : byteAt f.body 0 = 2)
    (valid : campaignValid (readCampaign f.body) = true) (held : slotOfId s (byteAt f.body 1) = some k) :
    exec .campaignCancel s = .next (slotEmptied k (cancelLanes k (startWork (s.setHand none .pvs)))).finish := by
  rw [campaignCancel_run hand campaign operation, carryOut,
    cancelCampaign_held (w := startWork (s.setHand none .pvs)) valid held]

theorem finish_cancelled_steady : (slotEmptied k (cancelLanes k (startWork (s.setHand none .pvs)))).finish.steady =
    (campaignPut k none s).steady := by
  rw [finish_steady, slotEmptied_steady]
  refine setCampaign_steady_congr ?_
  rw [cancelLanes_eq, cancelLane_steady, cancelLane_steady]
  rfl

/-- Settles O48. -/
theorem campaignsStartAndCancel : Obligations.CampaignsStartAndCancel := by
  refine ⟨fun b s => ?_, fun x q => ?_, fun f s hand campaign => ?_, fun k limit n s => ?_, fun f k s hand campaign id profile => ?_⟩
  · obtain ⟨served, absent, held⟩ := evaluation_spec b s
    refine ⟨eligible_listed b s, chosenCampaign_eq_none_iff, fun k => ?_, served, absent, held, reevaluate_spec b s⟩
    simp only [chosenCampaign_eq_some_iff, urgentSlot_iff]
  · obtain ⟨before, after, whole, inserted, less, next⟩ := insertItem_split x q
    exact ⟨before, after, whole, inserted, fun y among => mt itemBefore_iff.2 (less y among),
      fun y its => itemBefore_iff.1 (next y its)⟩
  · obtain ⟨start, cancel, full⟩ := campaigns_ignored hand campaign
    exact ⟨start, cancel, campaign_otherOperation hand campaign, full⟩
  · exact renewLimit_spec k limit n s
  · have valid : campaignValid (readCampaign f.body) = true := (campaignValid_iff _).2 ⟨id, profile⟩
    intro idOf holds new put
    have campaigns : campaignOf s.cfl.config (readCampaign f.body) = new := rfl
    have puts : campaignPut k (some new) s = put (some new) := rfl
    refine ⟨fun operation slot => ?_, fun operation held least => ?_⟩
    · rcases slot with ⟨held, least⟩ | ⟨unheld, free, lower⟩
      · have run := campaignStart_held hand campaign operation valid (slotOfId_eq_some_iff.2 ⟨held, least⟩)
        rw [campaigns, puts] at run
        refine ⟨_, run, ?_, fun none => absurd held (none k), fun _ => ?_⟩
        · rw [finish_steady, renewed_steady]
          rfl
        · exact renewed_spec k new.limit (put (some new)) _ rfl
      · have run := campaignStart_new hand campaign operation valid (slotOfId_eq_none_iff.2 unheld)
          (freeSlot_eq_some_iff.2 ⟨free, lower⟩)
        rw [campaigns, puts] at run
        refine ⟨_, run, ?_, fun _ busy => ?_, fun held => absurd held (unheld k)⟩
        · rw [finish_steady]
          rfl
        · exact finish_reevaluateAll rfl busy
    · have run := campaignCancel_held hand campaign operation valid (slotOfId_eq_some_iff.2 ⟨held, least⟩)
      have ceased : Ceased k (slotEmptied k (cancelLanes k (startWork (s.setHand none .pvs)))).finish :=
        (slotEmptied_ceased fun n x => cancelLanes_rests).settle _
      refine ⟨_, run, finish_cancelled_steady, ceased.queue, ceased.prov, fun n x session slot works apart active takes => ?_⟩
      exact finish_cancelledSession rfl session slot (by rcases works with its | its <;> rw [its] <;> rfl)
        (fun m y other at_m => apart m y other at_m) active takes

end

end Sys2Proof.Machine
end

section
/-! How many notices a command can raise (assumption 8): a weight for every notice and state that every handled notice
lowers. It bounds what `settle` has to work, so the notices that wait behind a long chain are reached. -/

namespace Sys2Proof.Machine

/-! ### Weights -/

/-- What a notice can still raise, itself included, apart from what the state allows for. -/
def Notice.weight : Notice → Nat
  | .select _ | .discarded _ | .laneIdle _ | .writeEnded _ (.chargeLimit _) _ => 1
  | .writeEnded _ (.custody _) _ => 2
  | .writeEnded _ (.provControl v) o => if v.enter || o == .replaced then 1 else 176
  | .reevaluate _ | .reevaluateAll => 3
  | .chargeChanged _ | .laneChannel _ _ | .doorMoved _ _ | .releaseAnswered _ _ _ => 4
  | .channelChanged _ st => if st = .silent ∨ st = .stuck then 176 else 4
  | .episodeEnded _ _ _ _ => 6
  | .releaseAsked _ _ => 16
  | .split => 41
  | .recompute => 42
  | .wishInput _ => 84
  | .serviceChanged _ => 172
  | .reading _ _ _ => 480

/-- The wish or the class of a bay is not the one that it would be computed to. -/
def State.stale (s : State) (b : BayIx) : Bool :=
  s.wishOf b != (s.bay b).charge.wish || s.classOf b != (s.bay b).charge.cls

/-- R59: a reading of the battery that the charge state does not show yet. -/
def Bay.flips (y : Bay) : Bool := y.view.battery.any fun x => batteryFull x != (y.charge.state == .maintain)

/-- What the splits can still raise at a managed bay: a voltage to take, a move to THERMAL or between MAINTAIN and
CHARGING, a wish to compute. -/
def State.movesWeight (s : State) (b : BayIx) : Nat :=
  (if requestedVoltage (s.bay b).view ≠ (s.bay b).charge.voltage then 124 else 0) +
    if (s.bay b).view.battery.any (batteryHot s.cfl.config) = true then 170
    else if (s.bay b).flips = true then 87
    else if s.stale b = true then 83
    else 0

/-- What the charge section of a bay allows for. -/
def State.chargeWeight (s : State) (b : BayIx) : Nat :=
  (if managed (s.bay b).charge.state = true then s.movesWeight b else 0) + if (s.bay b).charge.limitOwed = true then 1 else 0

/-- What a release that waits for a lane and a claim allow for. -/
def Bay.sideWeight (y : Bay) : Nat := (if y.door.pendingLane = true then 8 else 0) + if y.claim.isSome = true then 3 else 0

/-- The EXIT write of a session would be pending. -/
def Bay.exits (y : Bay) : Bool := y.channel.state == .active && y.view.identity.all takesProvControl

/-- What a lane machine allows for: IDLE a session, at work the end of its session. -/
def State.laneWeight (s : State) (n : LaneIx) : Nat :=
  match s.lane n with
  | none => 169
  | some x => if laneWorks x.stage = true then if (s.bay x.bay).exits = true then 85 else 260 else 0

def State.weight (s : State) : Nat := (∑ b, (s.chargeWeight b + (s.bay b).sideWeight)) + ∑ n, s.laneWeight n

/-- What the waiting notices weigh. -/
def Work.told (w : Work) : Nat := (w.todo.map Notice.weight).sum

def Work.weight (w : Work) : Nat := w.st.weight + w.told

section
variable {r s t : State} {b c : BayIx} {u v w : Work} {n : LaneIx} {k l : Nat}

/-! ### Bounds -/

theorem chargeWeight_le (s : State) (b : BayIx) : s.chargeWeight b ≤ 295 := by
  unfold State.chargeWeight State.movesWeight
  split_ifs <;> omega

theorem chargeWeight_resting (rests : managed (s.bay b).charge.state = false) : s.chargeWeight b ≤ 1 := by
  unfold State.chargeWeight
  rw [rests, if_neg Bool.false_ne_true]
  split <;> omega

theorem sideWeight_le (y : Bay) : y.sideWeight ≤ 11 := by
  unfold Bay.sideWeight
  split_ifs <;> omega

theorem laneWeight_le (s : State) (n : LaneIx) : s.laneWeight n ≤ 260 := by
  unfold State.laneWeight
  split
  · omega
  · split_ifs <;> omega

/-- A state allows for 2968 notices at the most. -/
theorem weight_le (s : State) : s.weight ≤ 2968 := by
  have bays : (∑ b, (s.chargeWeight b + (s.bay b).sideWeight)) ≤ ∑ _b : BayIx, 306 :=
    Finset.sum_le_sum fun b _ => by have := chargeWeight_le s b; have := sideWeight_le (s.bay b); omega
  have lanes : (∑ n, s.laneWeight n) ≤ ∑ _n : LaneIx, 260 := Finset.sum_le_sum fun n _ => laneWeight_le s n
  rw [Finset.sum_const, Finset.card_univ, Fintype.card_fin] at bays lanes
  unfold State.weight
  simp only [smul_eq_mul] at bays lanes
  omega

theorem weight_pos (m : Notice) : 0 < m.weight := by
  cases m
  case writeEnded b x o => cases x <;> simp only [Notice.weight] <;> (try split) <;> omega
  case channelChanged b st => simp only [Notice.weight]; split <;> omega
  all_goals simp [Notice.weight]

/-! ### What notices weigh together -/

@[simp] theorem told_raise (m : Notice) (w : Work) : (w.raise m).told = w.told + m.weight := by
  simp [Work.told]

@[simp] theorem told_upd (f : State → State) (w : Work) : (w.upd f).told = w.told := rfl

theorem told_raiseIf_le (p : Bool) (m : Notice) (w : Work) : (w.raiseIf p m).told ≤ w.told + m.weight := by
  cases p
  · exact Nat.le_add_right ..
  · exact (told_raise m w).le

@[simp] theorem told_startWork (s : State) : (startWork s).told = 0 := rfl

/-! ### States that differ at the charge section of a bay -/

/-- What no operation of the BCC at a bay changes: the other bays, the lanes, and the rest of the bay that weighs. -/
structure Near (b : BayIx) (s t : State) : Prop where
  cfl : t.cfl = s.cfl
  lane : ∀ n, t.lane n = s.lane n
  others : ∀ c, c ≠ b → t.bay c = s.bay c
  view : (t.bay b).view = (s.bay b).view
  attrs : (t.bay b).attrs = (s.bay b).attrs
  exits : (t.bay b).exits = (s.bay b).exits
  side : (t.bay b).sideWeight = (s.bay b).sideWeight

theorem Near.refl : Near b s s := ⟨rfl, fun _ => rfl, fun _ _ => rfl, rfl, rfl, rfl, rfl⟩

theorem Near.trans (h : Near b r s) (h' : Near b s t) : Near b r t :=
  ⟨h'.cfl.trans h.cfl, fun n => (h'.lane n).trans (h.lane n), fun c other => (h'.others c other).trans (h.others c other),
    h'.view.trans h.view, h'.attrs.trans h.attrs, h'.exits.trans h.exits, h'.side.trans h.side⟩

theorem exits_of {x y : Bay} (state : x.channel.state = y.channel.state) (view : x.view = y.view) : x.exits = y.exits := by
  unfold Bay.exits
  rw [state, view]

theorem Tunes.near (h : Tunes b s t) (state : (t.bay b).channel.state = (s.bay b).channel.state) : Near b s t := by
  refine ⟨h.spares.cfl, fun n => ?_, h.others, ?_, ?_, exits_of state ?_, ?_⟩
  · unfold State.lane
    rw [h.spares.pvs]
  all_goals rw [h.own]
  rfl

theorem laneWorking_of_lane (lane : ∀ n, t.lane n = s.lane n) (b : BayIx) : t.laneWorking b = s.laneWorking b := by
  rw [Bool.eq_iff_iff, laneWorking_iff, laneWorking_iff]
  simp only [lane]

/-- The charge section of a bay weighs by the bay, the configuration and the lane at work for it. -/
theorem chargeWeight_congr (cfl : t.cfl = s.cfl) (working : t.laneWorking b = s.laneWorking b) (charge : (t.bay b).charge = (s.bay b).charge)
    (view : (t.bay b).view = (s.bay b).view) (attrs : (t.bay b).attrs = (s.bay b).attrs) : t.chargeWeight b = s.chargeWeight b := by
  have wish : t.wishOf b = s.wishOf b := by
    simp only [State.wishOf, requestedWish, cfl, working, charge, view]
  have cls : t.classOf b = s.classOf b := by
    simp only [State.classOf, cfl, working, charge, view, attrs]
  simp only [State.chargeWeight, State.movesWeight, State.stale, Bay.flips, cfl, charge, view, wish, cls] <;> rfl

theorem sum_but_one {ι : Type} [Fintype ι] [DecidableEq ι] {f g : ι → Nat} (i : ι) (same : ∀ j, j ≠ i → f j = g j) :
    (∑ j, f j) + g i = (∑ j, g j) + f i := by
  have rest : (∑ j ∈ Finset.univ.erase i, f j) = ∑ j ∈ Finset.univ.erase i, g j :=
    Finset.sum_congr rfl fun j among => same j (Finset.ne_of_mem_erase among)
  have first := Finset.add_sum_erase Finset.univ f (Finset.mem_univ i)
  have second := Finset.add_sum_erase Finset.univ g (Finset.mem_univ i)
  omega

/-- What an operation of the BCC at a bay does to the weight. -/
theorem Near.weight (h : Near b s t) : t.weight + s.chargeWeight b = s.weight + t.chargeWeight b := by
  have bays := sum_but_one (f := fun c => t.chargeWeight c + (t.bay c).sideWeight)
    (g := fun c => s.chargeWeight c + (s.bay c).sideWeight) b fun c other => by
      have same := h.others c other
      rw [same, chargeWeight_congr h.cfl (laneWorking_of_lane h.lane c) (by rw [same]) (by rw [same]) (by rw [same])]
  have lanes : ∀ n, t.laneWeight n = s.laneWeight n := fun n => by
    simp only [State.laneWeight, h.lane]
    split
    · rfl
    · next x _ =>
      by_cases own : x.bay = b
      · rw [own, h.exits]
      · rw [h.others x.bay own]
  simp only [State.weight, lanes]
  have side := h.side
  omega

/-- An operation of the BCC at a bay that raises notices of a weight. -/
structure Spends (b : BayIx) (k : Nat) (u v : Work) : Prop where
  near : Near b u.st v.st
  told : v.told ≤ u.told + k

theorem Spends.refl : Spends b 0 w w := ⟨.refl, le_rfl⟩

theorem Spends.trans (h : Spends b k u v) (h' : Spends b l v w) : Spends b (k + l) u w :=
  ⟨h.near.trans h'.near, by have := h.told; have := h'.told; omega⟩

theorem Spends.mono (h : Spends b k u v) (le : k ≤ l) : Spends b l u v := ⟨h.near, h.told.trans (by omega)⟩

/-- What the operation spends beyond what the bay's charge section allowed for. -/
theorem Spends.weight (h : Spends b k u v) : v.weight + u.st.chargeWeight b ≤ u.weight + k + v.st.chargeWeight b := by
  have near := h.near.weight
  have told := h.told
  unfold Work.weight
  omega

end

end Sys2Proof.Machine
end

section
/-! What the operations of the BCC weigh (R57 to R70). -/

namespace Sys2Proof.Machine

section
variable {s t : State} {b : BayIx} {u v w : Work} {k : Nat} {st : ChargeState}

theorem Spends.of_tunes (h : Tunes b u.st v.st) (state : (v.st.bay b).channel.state = (u.st.bay b).channel.state)
    (told : v.told ≤ u.told + k) : Spends b k u v := ⟨h.near state, told⟩

theorem Spends.raise (m : Notice) : Spends b m.weight w (w.raise m) := ⟨.refl, (told_raise m w).le⟩

theorem Spends.raiseIf (p : Bool) (m : Notice) : Spends b m.weight w (w.raiseIf p m) :=
  ⟨by rw [Work.raiseIf_st]; exact .refl, told_raiseIf_le p m w⟩

theorem Spends.modCharge (f : State → Charge → Charge) : Spends b 0 w (w.upd fun s => s.modCharge b (f s)) :=
  .of_tunes (.of_modCharge _) (by rw [Work.upd_st, State.channel_modCharge]) le_rfl

/-! ### Notices -/

theorem requestWrite_limit_told (x : Nat) : (requestWrite b (.chargeLimit x) w).told ≤ w.told + 1 := by
  simp only [requestWrite]
  split
  · exact (told_raise _ _).le
  · split
    · exact (told_raise _ _).le
    · split
      · next old pending =>
        have limits : Notice.weight (.writeEnded b old .replaced) = 1 := by
          simp only [pendingSame, Option.map_eq_some_iff] at pending
          obtain ⟨_, -, rfl⟩ := pending
          rfl
        rw [told_raise, limits]
        rfl
      · exact Nat.le_add_right ..

theorem requestLimit_spends : Spends b 1 w (requestLimit b w) := by
  refine .of_tunes requestLimit_tunes ?_ ?_
  · rw [requestLimit_channel]
    split <;> rfl
  · simp only [requestLimit]
    split
    · exact requestWrite_limit_told _
    · exact Nat.le_add_right ..

theorem setGrant_spends (g : Nat) : Spends b (if (w.st.bay b).charge.grant = g then 0 else 1) w (setGrant b g w) := by
  unfold setGrant
  split
  · exact .modCharge fun _ => withGrant g
  · exact ((Spends.modCharge fun _ => withGrant g).trans requestLimit_spends).mono (by omega)

theorem moveCharge_spends (st : ChargeState) :
    Spends b (if takesPart (w.st.bay b).charge.state = takesPart st then 4 else 45) w (moveCharge b st w) := by
  refine .of_tunes (moveCharge_tunes st) (by rw [moveCharge_channel]) ?_
  simp only [moveCharge]
  split
  · exact Nat.le_add_right ..
  · by_cases same : takesPart (w.st.bay b).charge.state = takesPart st
    · simp [same, Work.raiseIf, Notice.weight]
    · refine (told_raiseIf_le _ _ _).trans ?_
      rw [told_raise, told_upd, if_neg same]
      simp only [Notice.weight]
      omega

theorem moveCharge_spends_le (st : ChargeState) : Spends b 45 w (moveCharge b st w) :=
  (moveCharge_spends st).mono (by split <;> omega)

theorem takeVoltage_spends : Spends b 41 w (takeVoltage b w) := by
  refine .of_tunes takeVoltage_tunes (by rw [takeVoltage_channel]) ?_
  simp only [takeVoltage]
  split
  · exact (told_raise _ _).le
  · exact Nat.le_add_right ..

theorem refreshWish_spends : Spends b (if w.st.stale b = true then 83 else 0) w (refreshWish b w) := by
  refine .of_tunes refreshWish_tunes (by rw [refreshWish_channel]) ?_
  simp only [refreshWish]
  by_cases stale : w.st.stale b = true
  · rw [if_pos stale]
    refine (told_raiseIf_le _ _ _).trans ?_
    split
    · simp only [told_upd, Notice.weight]
      omega
    · have presented := told_raiseIf_le (w := (w.upd fun s => s.modCharge b fun c =>
        { c with wish := w.st.wishOf b, cls := w.st.classOf b }).upd fun s =>
          { s with shu := { s.shu with need :=
            (w.upd fun s => s.modCharge b fun c => { c with wish := w.st.wishOf b, cls := w.st.classOf b }).st.needOf } })
        ((w.upd fun s => s.modCharge b fun c => { c with wish := w.st.wishOf b, cls := w.st.classOf b }).st.isActive &&
          differsByTen
            (w.upd fun s => s.modCharge b fun c => { c with wish := w.st.wishOf b, cls := w.st.classOf b }).st.needOf
            (w.upd fun s => s.modCharge b fun c => { c with wish := w.st.wishOf b, cls := w.st.classOf b }).st.shu.refNeed)
        .recompute
      simp only [told_upd, Notice.weight, presentNeed] at presented ⊢
      omega
  · have fresh : (w.st.wishOf b != (w.st.bay b).charge.wish || w.st.classOf b != (w.st.bay b).charge.cls) = false :=
      Bool.eq_false_of_not_eq_true stale
    have wish : w.st.wishOf b = (w.st.bay b).charge.wish := by
      rw [Bool.or_eq_false_iff, bne_eq_false_iff_eq] at fresh
      exact fresh.1
    rw [if_pos wish, fresh]
    exact Nat.le_add_right ..

theorem refreshWish_spends_le : Spends b 83 w (refreshWish b w) := refreshWish_spends.mono (by split <;> omega)

theorem heldMoves_spends : Spends b 4 w (heldMoves b w) := by
  have moves (st : ChargeState) (takes : takesPart (w.st.bay b).charge.state = takesPart st) :
      Spends b 4 w (moveCharge b st w) := (moveCharge_spends st).mono (by rw [if_pos takes])
  have stays : Spends b 4 w w := Spends.refl.mono (by omega)
  simp only [heldMoves]
  split
  · next state => split <;> [exact moves _ (by rw [state]; rfl); exact stays]
  · next state => split <;> [exact moves _ (by rw [state]; rfl); exact stays]
  all_goals exact stays

/-! ### Entries -/

theorem entered_spends (st : ChargeState) (f : State → Charge → Charge) : Spends b 129 w (entered b st f w) :=
  ((((moveCharge_spends_le st).trans (setGrant_spends 0)).trans (.modCharge f)).trans refreshWish_spends_le).mono
    (by split <;> omega)

theorem enterVacant_spends : Spends b 170 w (enterVacant b w) := (entered_spends _ _).trans (.raise .split)

theorem enterUnmanaged_spends : Spends b 170 w (enterUnmanaged b w) := (entered_spends _ _).trans (.raise .split)

theorem enterOutOfService_spends : Spends b 170 w (enterOutOfService b w) := (entered_spends _ _).trans (.raise .split)

theorem enterThermal_spends : Spends b 170 w (enterThermal b w) :=
  ((((moveCharge_spends_le _).trans (.modCharge fun _ => withGrant 0)).trans requestLimit_spends).trans
    refreshWish_spends_le).trans (.raise .split)

theorem identifyAs_spends (st : ChargeState) : Spends b 170 w (identifyAs b st w) := by
  have begun : Spends b 0 w (w.upd fun s =>
      (s.modCharge b (identifiedCharge (s.bay b).view)).modCounters b (countSession st)) := by
    refine ⟨?_, le_rfl⟩
    have charged : Near b w.st (w.st.modCharge b (identifiedCharge (w.st.bay b).view)) :=
      (Tunes.of_modCharge _).near (by rw [State.channel_modCharge])
    refine charged.trans ⟨rfl, fun _ => rfl, fun c other => State.bay_modBay_other _ other _, ?_, ?_, ?_, ?_⟩
    all_goals rw [Work.upd_st, State.modCounters, State.bay_modBay_same]
    all_goals rfl
  have moved := begun.trans (moveCharge_spends_le st)
  have asked : Spends b 46 w (if st = .thermal then requestLimit b (moveCharge b st (w.upd fun s =>
      (s.modCharge b (identifiedCharge (s.bay b).view)).modCounters b (countSession st)))
      else moveCharge b st (w.upd fun s =>
        (s.modCharge b (identifiedCharge (s.bay b).view)).modCounters b (countSession st))) := by
    split
    · exact moved.trans requestLimit_spends
    · exact moved.mono (by omega)
  exact ((asked.trans refreshWish_spends_le).trans (.raise .split)).mono le_rfl

theorem leaveThermal_spends : Spends b 128 w (leaveThermal b w) := by
  unfold leaveThermal
  split
  · exact Spends.refl.mono (by omega)
  · split
    · exact (moveCharge_spends_le _).trans refreshWish_spends_le
    · exact Spends.refl.mono (by omega)

end

end Sys2Proof.Machine
end

section
/-! A split and the moves of the bays lower the weight (R59, R63, R66, R69). -/

namespace Sys2Proof.Machine

/-- What the charge section of a bay allows for once wish and class are computed. -/
def State.freshWeight (s : State) (b : BayIx) : Nat :=
  (if managed (s.bay b).charge.state = true then
    (if requestedVoltage (s.bay b).view ≠ (s.bay b).charge.voltage then 124 else 0) +
      if (s.bay b).view.battery.any (batteryHot s.cfl.config) = true then 170
      else if (s.bay b).flips = true then 87
      else 0
  else 0) + if (s.bay b).charge.limitOwed = true then 1 else 0

section
variable {s t : State} {b c : BayIx} {u v w : Work} {k g : Nat} {st : ChargeState}

theorem freshWeight_le : s.freshWeight b ≤ s.chargeWeight b := by
  unfold State.freshWeight State.chargeWeight State.movesWeight
  split_ifs <;> omega

theorem chargeWeight_of_fresh (fresh : s.stale b = false) : s.chargeWeight b = s.freshWeight b := by
  simp only [State.freshWeight, State.chargeWeight, State.movesWeight, fresh, Bool.false_eq_true, if_false]

theorem flips_congr {x y : Bay} (view : y.view = x.view)
    (maintain : (y.charge.state == .maintain) = (x.charge.state == .maintain)) : y.flips = x.flips := by
  unfold Bay.flips
  rw [view, maintain]

/-- The fresh weight reads these of the charge section, the view and the configuration. -/
theorem freshWeight_congr (cfl : t.cfl = s.cfl) (view : (t.bay b).view = (s.bay b).view)
    (manages : managed (t.bay b).charge.state = managed (s.bay b).charge.state)
    (maintain : ((t.bay b).charge.state == .maintain) = ((s.bay b).charge.state == .maintain))
    (voltage : (t.bay b).charge.voltage = (s.bay b).charge.voltage)
    (owed : (t.bay b).charge.limitOwed = (s.bay b).charge.limitOwed) : t.freshWeight b = s.freshWeight b := by
  simp only [State.freshWeight, flips_congr view maintain, cfl, view, manages, voltage, owed]

/-! ### Wish and class -/

/-- Wish and class are as stale as before where nothing that they read of a managed bay has changed. -/
theorem Near.stale (h : Near b s t) (manages : managed (s.bay b).charge.state = true)
    (manages' : managed (t.bay b).charge.state = true)
    (maintain : ((t.bay b).charge.state == .maintain) = ((s.bay b).charge.state == .maintain))
    (voltage : (t.bay b).charge.voltage = (s.bay b).charge.voltage) (wish : (t.bay b).charge.wish = (s.bay b).charge.wish)
    (cls : (t.bay b).charge.cls = (s.bay b).charge.cls) : t.stale b = s.stale b := by
  have working := laneWorking_of_lane h.lane b
  have managed_ne {st : ChargeState} (h : managed st = true) : (st != .unmanaged) = true := by
    cases st <;> first | rfl | cases h
  have requested : requestedWish t.cfl.config (t.bay b) = requestedWish s.cfl.config (s.bay b) := by
    simp only [requestedWish, h.cfl, h.view, voltage]
  have wished : t.wishOf b = s.wishOf b := by
    rw [wishOf_managed manages, wishOf_managed manages', requested, working, voltage, h.cfl]
  have classed : t.classOf b = s.classOf b := by
    simp only [State.classOf, working, h.view, h.attrs, h.cfl, managed_ne manages, managed_ne manages', maintain]
  simp only [State.stale, wished, classed, wish, cls]

/-- The charge section of a bay weighs the same where its grant, its limit or its HELD state alone has changed. -/
theorem Near.chargeWeight (h : Near b s t) (manages : managed (t.bay b).charge.state = managed (s.bay b).charge.state)
    (maintain : ((t.bay b).charge.state == .maintain) = ((s.bay b).charge.state == .maintain))
    (voltage : (t.bay b).charge.voltage = (s.bay b).charge.voltage) (wish : (t.bay b).charge.wish = (s.bay b).charge.wish)
    (cls : (t.bay b).charge.cls = (s.bay b).charge.cls) (owed : (t.bay b).charge.limitOwed = (s.bay b).charge.limitOwed) :
    t.chargeWeight b = s.chargeWeight b := by
  cases its : managed (s.bay b).charge.state with
  | false => simp only [State.chargeWeight, manages, its, owed, Bool.false_eq_true, if_false]
  | true =>
    have stale := h.stale its (manages.trans its) maintain voltage wish cls
    simp only [State.chargeWeight, State.movesWeight, flips_congr h.view maintain, h.cfl, h.view, manages, voltage, owed,
      stale]

theorem refreshWish_fresh (b : BayIx) (w : Work) (manages : managed (w.st.bay b).charge.state = true) :
    (refreshWish b w).st.stale b = false := by
  have charge : ((refreshWish b w).st.bay b).charge =
      { (w.st.bay b).charge with wish := w.st.wishOf b, cls := w.st.classOf b } := by rw [refreshWish_charge, if_pos rfl]
  have tunes := refreshWish_tunes (b := b) (w := w)
  have view : ((refreshWish b w).st.bay b).view = (w.st.bay b).view := by rw [tunes.own]
  have attrs : ((refreshWish b w).st.bay b).attrs = (w.st.bay b).attrs := by rw [tunes.own]
  have wish := wishOf_congr tunes.spares.cfl tunes.spares.pvs view (by rw [charge]) manages (by rw [charge]; exact manages)
  have cls := classOf_congr tunes.spares.cfl tunes.spares.pvs view attrs manages (by rw [charge]; exact manages)
    (by rw [charge])
  simp [State.stale, wish, cls, charge]

/-- After a computation of wish and class the charge section has its fresh weight. -/
theorem refreshWish_chargeWeight (b : BayIx) (w : Work) : (refreshWish b w).st.chargeWeight b = w.st.freshWeight b := by
  have charge : ((refreshWish b w).st.bay b).charge =
      { (w.st.bay b).charge with wish := w.st.wishOf b, cls := w.st.classOf b } := by rw [refreshWish_charge, if_pos rfl]
  have near := (refreshWish_spends (b := b) (w := w)).near
  have same : (refreshWish b w).st.freshWeight b = w.st.freshWeight b :=
    freshWeight_congr near.cfl near.view (by rw [charge]) (by rw [charge]) (by rw [charge]) (by rw [charge])
  rw [← same]
  cases manages : managed (w.st.bay b).charge.state with
  | true => exact chargeWeight_of_fresh (refreshWish_fresh b w manages)
  | false =>
    have rests : managed ((refreshWish b w).st.bay b).charge.state = false := by rw [charge]; exact manages
    simp only [State.chargeWeight, State.freshWeight, rests, Bool.false_eq_true, if_false]

theorem refreshWish_weight (b : BayIx) (w : Work) :
    (refreshWish b w).weight + w.st.chargeWeight b ≤ w.weight + 83 + w.st.freshWeight b := by
  have spent := (refreshWish_spends_le (b := b) (w := w)).weight
  rw [refreshWish_chargeWeight] at spent
  exact spent

/-- A computation of wish and class spends no more than its notices. -/
theorem refreshWish_weight_le (b : BayIx) (w : Work) : (refreshWish b w).weight ≤ w.weight + 83 := by
  have := refreshWish_weight b w
  have := freshWeight_le (s := w.st) (b := b)
  omega

/-! ### Grants -/

theorem requestWrite_limit_weight (x : Nat) : (requestWrite b (.chargeLimit x) w).weight ≤ w.weight + 1 := by
  have spends : Spends b 1 w (requestWrite b (.chargeLimit x) w) :=
    .of_tunes (requestWrite_tunes _) (requestWrite_state _ b b) (requestWrite_limit_told x)
  have same : (requestWrite b (.chargeLimit x) w).st.chargeWeight b = w.st.chargeWeight b :=
    spends.near.chargeWeight (by rw [requestWrite_charge]) (by rw [requestWrite_charge]) (by rw [requestWrite_charge])
      (by rw [requestWrite_charge]) (by rw [requestWrite_charge]) (by rw [requestWrite_charge])
  have := spends.weight
  omega

theorem setGrant_chargeWeight : (setGrant b g w).st.chargeWeight b = w.st.chargeWeight b := by
  have charge : ((setGrant b g w).st.bay b).charge = withGrant g (w.st.bay b).charge := by rw [setGrant_charge, if_pos rfl]
  exact (setGrant_spends g).near.chargeWeight (by rw [charge]; rfl) (by rw [charge]; rfl) (by rw [charge]; rfl)
    (by rw [charge]; rfl) (by rw [charge]; rfl) (by rw [charge]; rfl)

theorem setGrant_weight : (setGrant b g w).weight ≤ w.weight + if (w.st.bay b).charge.grant = g then 0 else 1 := by
  have spent := (setGrant_spends (b := b) (w := w) g).weight
  rw [setGrant_chargeWeight] at spent
  omega

theorem takeVoltage_weight : (takeVoltage b w).weight ≤ w.weight + 336 := by
  have spent := (takeVoltage_spends (b := b) (w := w)).weight
  have := chargeWeight_le (takeVoltage b w).st b
  omega

/-- R63: the voltage that a managed bay at grant 0 takes was allowed for. -/
theorem refreshWish_takeVoltage_weight (manages : managed (w.st.bay b).charge.state = true)
    (other : requestedVoltage (w.st.bay b).view ≠ (w.st.bay b).charge.voltage) (zero : (w.st.bay b).charge.grant = 0) :
    (refreshWish b (takeVoltage b w)).weight ≤ w.weight := by
  have charge : ((takeVoltage b w).st.bay b).charge =
      { (w.st.bay b).charge with voltage := requestedVoltage (w.st.bay b).view } := by
    rw [takeVoltage_charge, if_pos ⟨rfl, zero⟩]
  have spent := ((takeVoltage_spends (b := b) (w := w)).trans refreshWish_spends_le).weight
  rw [refreshWish_chargeWeight] at spent
  have near := (takeVoltage_spends (b := b) (w := w)).near
  have less : (takeVoltage b w).st.freshWeight b + 124 ≤ w.st.chargeWeight b := by
    have flips : ((takeVoltage b w).st.bay b).flips = (w.st.bay b).flips := flips_congr near.view (by rw [charge])
    simp only [State.freshWeight, State.chargeWeight, State.movesWeight, flips, charge, near.view, near.cfl, manages, other,
      if_true, ne_eq, not_true, not_false_eq_true, if_false]
    split_ifs <;> omega
  omega

theorem lowerBay_weight : (lowerBay b g w).weight ≤ w.weight + if g < (w.st.bay b).charge.grant then 1 else 0 := by
  unfold lowerBay
  split
  · next lower =>
    have given : (setGrant b g w).weight ≤ w.weight + 1 :=
      setGrant_weight.trans (by split <;> omega)
    dsimp only
    split
    · next takes =>
      obtain ⟨rfl, manages, other⟩ := takes
      have zero : ((setGrant b 0 w).st.bay b).charge.grant = 0 := by rw [setGrant_charge, if_pos rfl]; rfl
      exact (refreshWish_takeVoltage_weight manages other zero).trans given
    · exact given
  · exact Nat.le_add_right ..

theorem raiseBay_weight : (raiseBay b g w).weight ≤ w.weight + if (w.st.bay b).charge.grant < g then 1 else 0 := by
  unfold raiseBay
  split
  · exact setGrant_weight.trans (by split <;> omega)
  · exact Nat.le_add_right ..

theorem payLimit_weight : (payLimit b w).weight ≤ w.weight := by
  unfold payLimit
  split
  · next owed =>
    have cleared : Spends b 0 w (w.upd fun s => s.modCharge b fun c => { c with limitOwed := false }) :=
      .modCharge fun _ c => { c with limitOwed := false }
    have charge : ((w.upd fun s => s.modCharge b fun c => { c with limitOwed := false }).st.bay b).charge =
        { (w.st.bay b).charge with limitOwed := false } := by rw [Work.upd_st, State.charge_modCharge, if_pos rfl]
    have spent := cleared.weight
    generalize (w.upd fun s => s.modCharge b fun c => { c with limitOwed := false }) = v at cleared charge spent ⊢
    have less : v.st.chargeWeight b + 1 ≤ w.st.chargeWeight b := by
      cases manages : managed (w.st.bay b).charge.state with
      | false => simp [State.chargeWeight, charge, manages, owed]
      | true =>
        have stale := cleared.near.stale manages (by rw [charge]; exact manages) (by rw [charge]) (by rw [charge])
          (by rw [charge]) (by rw [charge])
        have flips : (v.st.bay b).flips = (w.st.bay b).flips := flips_congr cleared.near.view (by rw [charge])
        simp only [State.chargeWeight, State.movesWeight, flips, cleared.near.view, cleared.near.cfl, stale, charge, owed,
          manages, if_true, Bool.false_eq_true, if_false]
        omega
    have asked : (requestLimit b v).weight ≤ v.weight + 1 := by
      unfold requestLimit
      dsimp only
      split
      · exact requestWrite_limit_weight _
      · omega
    omega
  · exact le_rfl

/-! ### Moves -/

theorem moveCharge_managed (takes : takesPart st = true) :
    ((moveCharge b st w).st.bay b).charge = { (w.st.bay b).charge with state := st } := by
  rw [moveCharge_charge, if_pos rfl, Charge.moved_takesPart takes]

theorem heldMoves_weight : (heldMoves b w).weight ≤ w.weight + 4 := by
  have spends := heldMoves_spends (b := b) (w := w)
  have same : (heldMoves b w).st.chargeWeight b = w.st.chargeWeight b := by
    cases manages : managed (w.st.bay b).charge.state with
    | false =>
      have none : heldMoves b w = w := by
        simp only [heldMoves]
        split
        · next state => rw [state] at manages; cases manages
        · next state => rw [state] at manages; cases manages
        all_goals rfl
      rw [none]
    | true =>
      have charge := heldMoves_charge manages
      refine spends.near.chargeWeight ?_ ?_ ?_ ?_ ?_ ?_ <;> rw [charge]
      · exact (managed_heldState ..).trans manages.symm
      · rw [Bool.eq_iff_iff, beq_iff_eq, beq_iff_eq]
        exact heldState_maintain ..
  have := spends.weight
  omega

theorem enterThermal_state : ((enterThermal b w).st.bay b).charge.state = .thermal := by
  have asked : ((requestLimit b ((moveCharge b .thermal w).upd fun s => s.modCharge b (withGrant 0))).st.bay b).charge.state =
      .thermal := by
    rw [requestLimit_charge, Work.upd_st, State.charge_modCharge, if_pos rfl]
    rw [moveCharge_charge, if_pos rfl]
    exact Charge.moved_state ..
  unfold enterThermal
  rw [Work.raise_st, refreshWish_charge, if_pos rfl]
  exact asked

/-- R59: the moves of a managed bay between CHARGING and MAINTAIN. -/
def maintainMoves (b : BayIx) (w : Work) : Work :=
  match (w.st.bay b).view.battery with
  | none => w
  | some x =>
    if (w.st.bay b).charge.state == .maintain then if batteryFull x then w else moveCharge b .charging w
    else if batteryFull x then moveCharge b .maintain w
    else w

theorem managedMoves_cool (manages : managed (w.st.bay b).charge.state = true)
    (cool : ¬ (w.st.bay b).view.battery.any (batteryHot w.st.cfl.config) = true) :
    managedMoves b w = heldMoves b (refreshWish b (maintainMoves b w)) := by
  unfold managedMoves maintainMoves
  dsimp only
  rw [manages, Bool.not_true, if_neg Bool.false_ne_true, if_neg cool] <;> rfl

/-- The move that a reading of the battery asks for, where it asks for one. -/
theorem maintainMoves_cases : (maintainMoves b w = w ∧ (w.st.bay b).flips = false) ∨
    ((w.st.bay b).flips = true ∧ ∃ st, managed st = true ∧ takesPart st = true ∧ maintainMoves b w = moveCharge b st w ∧
      ∀ x, (w.st.bay b).view.battery = some x → batteryFull x = (st == .maintain)) := by
  unfold maintainMoves Bay.flips
  cases battery : (w.st.bay b).view.battery with
  | none => exact .inl ⟨rfl, rfl⟩
  | some x =>
    cases maintains : (w.st.bay b).charge.state == .maintain <;> cases full : batteryFull x <;>
      simp only [Option.any_some, full, Bool.false_eq_true, if_true, if_false]
    · exact .inl ⟨trivial, rfl⟩
    · exact .inr ⟨rfl, .maintain, rfl, rfl, rfl, fun y same => by cases same; exact full⟩
    · exact .inr ⟨rfl, .charging, rfl, rfl, rfl, fun y same => by cases same; exact full⟩
    · exact .inl ⟨trivial, rfl⟩

/-- A move to MAINTAIN or back and the wish and class after it were allowed for. -/
theorem refreshWish_maintainMoves_weight (manages : managed (w.st.bay b).charge.state = true)
    (cool : ¬ (w.st.bay b).view.battery.any (batteryHot w.st.cfl.config) = true) :
    (refreshWish b (maintainMoves b w)).weight ≤ w.weight := by
  rcases maintainMoves_cases (b := b) (w := w) with ⟨same, steady⟩ | ⟨flips, st, manages', part, same, full⟩
  · have spent := (refreshWish_spends (b := b) (w := w)).weight
    rw [refreshWish_chargeWeight] at spent
    have allowed : w.st.freshWeight b + (if w.st.stale b = true then 83 else 0) ≤ w.st.chargeWeight b := by
      simp only [State.freshWeight, State.chargeWeight, State.movesWeight, manages, cool, steady, if_true,
        Bool.false_eq_true, if_false]
      omega
    rw [same]
    omega
  · have takes : takesPart (w.st.bay b).charge.state = true := by
      generalize (w.st.bay b).charge.state = st at manages
      cases st <;> first | rfl | cases manages
    have moved : Spends b 4 w (moveCharge b st w) := (moveCharge_spends st).mono (by rw [takes, part, if_pos rfl])
    have charge := moveCharge_managed (b := b) (w := w) part
    have spent := (moved.trans (refreshWish_spends_le (b := b))).weight
    rw [refreshWish_chargeWeight] at spent
    have allowed : (moveCharge b st w).st.freshWeight b + 87 ≤ w.st.chargeWeight b := by
      have settled : ((moveCharge b st w).st.bay b).flips = false := by
        unfold Bay.flips
        rw [moved.near.view, charge]
        cases battery : (w.st.bay b).view.battery with
        | none => rfl
        | some x => simp [full x battery]
      simp only [State.freshWeight, State.chargeWeight, State.movesWeight, charge, manages, manages', moved.near.view,
        moved.near.cfl, cool, flips, settled, if_true, Bool.false_eq_true, if_false]
      omega
    rw [same]
    omega

/-- R59: the moves of a managed bay raise no more than one move that the state does not allow for. -/
theorem managedMoves_weight : (managedMoves b w).weight ≤ w.weight + 4 := by
  cases manages : managed (w.st.bay b).charge.state with
  | false =>
    rw [managedMoves_unmanaged manages]
    exact Nat.le_add_right ..
  | true =>
    by_cases hot : (w.st.bay b).view.battery.any (batteryHot w.st.cfl.config) = true
    · have its : managedMoves b w = enterThermal b w := by simp [managedMoves, manages, hot]
      have spent := (enterThermal_spends (b := b) (w := w)).weight
      have after := chargeWeight_resting (s := (enterThermal b w).st) (b := b) (by rw [enterThermal_state]; rfl)
      have before : 170 ≤ w.st.chargeWeight b := by
        simp only [State.chargeWeight, State.movesWeight, manages, hot, if_true]
        omega
      rw [its]
      omega
    · have held := heldMoves_weight (b := b) (w := refreshWish b (maintainMoves b w))
      have moved := refreshWish_maintainMoves_weight manages hot
      rw [managedMoves_cool manages hot]
      omega

/-! ### The split -/

section
variable {ι : Type} {key : ι → BayIx} {f : ι → Work → Work} {xs : List ι}

/-- A pass over the bays of a list spends what it costs at each of them. -/
theorem pass_weight (tunes : ∀ x w, Tunes (key x) w.st (f x w).st) (once : (xs.map key).Nodup) (cost : ι → Bay → Nat)
    (each : ∀ x w, (f x w).weight ≤ w.weight + cost x (w.st.bay (key x))) (w : Work) :
    (forEach xs f w).weight ≤ w.weight + (xs.map fun x => cost x (w.st.bay (key x))).sum := by
  induction xs generalizing w with
  | nil => exact Nat.le_add_right ..
  | cons x xs ih =>
    obtain ⟨fresh, later⟩ := List.nodup_cons.1 once
    have rest := ih later (f x w)
    have same : xs.map (fun y => cost y ((f x w).st.bay (key y))) = xs.map fun y => cost y (w.st.bay (key y)) :=
      List.map_congr_left fun y among => by
        rw [(tunes x w).others (key y) fun same => fresh (same ▸ List.mem_map_of_mem among)]
    have first := each x w
    rw [same] at rest
    rw [List.map_cons, List.sum_cons]
    exact rest.trans (by omega)

end

theorem sum_le_length {α : Type} {xs : List α} {f : α → Nat} {k : Nat} (each : ∀ x ∈ xs, f x ≤ k) :
    (xs.map f).sum ≤ k * xs.length := by
  have bound := List.sum_le_card_nsmul (xs.map f) k fun n among => by
    obtain ⟨x, x_in, rfl⟩ := List.mem_map.1 among
    exact each x x_in
  simpa [Nat.mul_comm] using bound

theorem length_le_bays {xs : List BayIx} (once : xs.Nodup) : xs.length ≤ 8 := by
  simpa using once.length_le_card

/-- R69: no bay is both lowered and raised. -/
theorem grantsGiven_weight {xs : List (BayIx × Nat)} (once : (xs.map Prod.fst).Nodup) :
    (grantsGiven xs w).weight ≤ w.weight + 8 := by
  have lowered := pass_weight (f := fun x => lowerBay x.1 x.2) (key := Prod.fst) (fun x w => lowerBay_tunes x.2) once
    (fun x y => if x.2 < y.charge.grant then 1 else 0) (fun x w => lowerBay_weight) w
  have raised := pass_weight (f := fun x => raiseBay x.1 x.2) (key := Prod.fst) (fun x w => raiseBay_tunes x.2) once
    (fun x y => if y.charge.grant < x.2 then 1 else 0) (fun x w => raiseBay_weight) (applying (lowering xs w))
  change (lowering xs w).weight ≤ _ at lowered
  change (grantsGiven xs w).weight ≤ _ at raised
  have applied : (applying (lowering xs w)).weight = (lowering xs w).weight := rfl
  have short : xs.length ≤ 8 := by simpa using length_le_bays once
  have together : (xs.map fun x => (if x.2 < (w.st.bay x.1).charge.grant then 1 else 0) +
      if ((applying (lowering xs w)).st.bay x.1).charge.grant < x.2 then 1 else 0).sum ≤ 1 * xs.length := by
    refine sum_le_length fun x among => ?_
    obtain ⟨v, before, after⟩ := lowering_at (w := w) (b := x.1) (g := x.2) among once
    have its : (applying (lowering xs w)).st.bay x.1 = (lowerBay x.1 x.2 v).st.bay x.1 := after
    rw [its]
    by_cases lower : x.2 < (w.st.bay x.1).charge.grant
    · have given : ((lowerBay x.1 x.2 v).st.bay x.1).charge.grant = x.2 := by
        rw [lowerBay_grant, before, Nat.min_eq_right lower.le]
      rw [if_pos lower, given, if_neg (lt_irrefl _)]
    · rw [if_neg lower]
      split <;> omega
  rw [List.sum_map_add] at together
  omega

theorem afterGrants_weight : (afterGrants w).weight ≤ w.weight + 32 := by
  have moved := pass_weight (f := managedMoves) (key := id) (xs := w.st.populatedBays) (fun x w => managedMoves_tunes)
    (by simpa using populatedBays_nodup w.st) (fun _ _ => 4) (fun x w => managedMoves_weight) w
  have short := length_le_bays (populatedBays_nodup w.st)
  have paid := pass_weight (f := payLimit) (key := id) (xs := (forEach w.st.populatedBays managedMoves w).st.populatedBays)
    (fun x w => payLimit_tunes) (by simpa using populatedBays_nodup _) (fun _ _ => 0) (fun x w => payLimit_weight)
    (forEach w.st.populatedBays managedMoves w)
  change (afterGrants w).weight ≤ _ at paid
  simp only [List.map_const', List.sum_replicate, smul_eq_mul, Nat.mul_zero] at paid moved
  omega

theorem runSplit_weight : (runSplit w).weight ≤ w.weight + 40 := by
  rw [runSplit_eq]
  have := afterGrants_weight (w := grantsGiven w.st.newGrants w)
  have := grantsGiven_weight (w := w) (newGrants_nodup w.st)
  omega

end

end Sys2Proof.Machine
end

section
/-! What the other blocks' operations weigh. -/

namespace Sys2Proof.Machine

/-- Two states whose bays weigh the same where the same lanes work for them. -/
structure Alike (s t : State) : Prop where
  cfl : t.cfl = s.cfl
  charge : ∀ c, (t.bay c).charge = (s.bay c).charge
  view : ∀ c, (t.bay c).view = (s.bay c).view
  attrs : ∀ c, (t.bay c).attrs = (s.bay c).attrs
  exits : ∀ c, (t.bay c).exits = (s.bay c).exits
  side : ∀ c, (t.bay c).sideWeight = (s.bay c).sideWeight

section
variable {r s t : State} {b c : BayIx} {u v w : Work} {n m : LaneIx} {k : Nat} {x : LaneSession}

theorem Alike.of_bays (cfl : t.cfl = s.cfl) (bays : ∀ c, t.bay c = s.bay c) : Alike s t :=
  ⟨cfl, fun c => by rw [bays], fun c => by rw [bays], fun c => by rw [bays], fun c => by rw [bays], fun c => by rw [bays]⟩

theorem Alike.of_modBay {f : Bay → Bay} (charge : ∀ y, (f y).charge = y.charge) (view : ∀ y, (f y).view = y.view)
    (attrs : ∀ y, (f y).attrs = y.attrs) (exits : ∀ y, (f y).exits = y.exits)
    (side : (f (s.bay b)).sideWeight = (s.bay b).sideWeight) : Alike s (s.modBay b f) := by
  refine ⟨rfl, fun c => ?_, fun c => ?_, fun c => ?_, fun c => ?_, fun c => ?_⟩ <;> rw [State.bay_modBay_at] <;>
    split
  · exact charge _
  · rfl
  · exact view _
  · rfl
  · exact attrs _
  · rfl
  · exact exits _
  · rfl
  · next same => exact same ▸ side
  · rfl

theorem Alike.chargeWeight (h : Alike s t) (working : t.laneWorking c = s.laneWorking c) : t.chargeWeight c = s.chargeWeight c :=
  chargeWeight_congr h.cfl working (h.charge c) (h.view c) (h.attrs c)

theorem Alike.weight (h : Alike s t) (lane : ∀ n, t.lane n = s.lane n) : t.weight = s.weight := by
  have lanes (n : LaneIx) : t.laneWeight n = s.laneWeight n := by
    simp only [State.laneWeight, lane, h.exits]
  simp only [State.weight, h.chargeWeight (laneWorking_of_lane lane _), h.side, lanes]

/-- What a lane machine's step does to the weight: the lane's part and the charge section of the bay it works for. -/
theorem Alike.weight_lane (h : Alike s t) (others : ∀ m, m ≠ n → t.lane m = s.lane m)
    (working : ∀ c, c ≠ b → t.laneWorking c = s.laneWorking c) :
    t.weight + s.laneWeight n + s.chargeWeight b = s.weight + t.laneWeight n + t.chargeWeight b := by
  have bays := sum_but_one (f := fun c => t.chargeWeight c + (t.bay c).sideWeight)
    (g := fun c => s.chargeWeight c + (s.bay c).sideWeight) b fun c other => by
      rw [h.chargeWeight (working c other), h.side]
  have lanes := sum_but_one (f := t.laneWeight) (g := s.laneWeight) n fun m other => by
    simp only [State.laneWeight, others m other, h.exits]
  have side := h.side b
  unfold State.weight
  omega

/-! ### Frames and writes -/

theorem place_weight (f : TxFrame) : (place f w).weight ≤ w.weight + 1 := by
  unfold place dropFrame
  dsimp only
  split
  · exact Nat.le_add_right ..
  · unfold Work.weight
    rw [told_raise]
    exact (Nat.add_assoc ..).symm.le

theorem requestWrite_alike (y : DockWrite) : Alike w.st (requestWrite b y w).st := by
  have tunes := requestWrite_tunes (w := w) (b := b) y
  have other (c : BayIx) (apart : c ≠ b) := tunes.others c apart
  refine ⟨tunes.spares.cfl, fun c => by rw [requestWrite_charge], fun c => ?_, fun c => ?_, fun c => ?_, fun c => ?_⟩ <;>
    rcases eq_or_ne c b with rfl | apart <;> [skip; rw [other c apart]; skip; rw [other c apart]; skip; rw [other c apart]; skip;
      rw [other c apart]]
  · rw [tunes.own]
  · rw [tunes.own]
  · exact exits_of (requestWrite_state y c c) (by rw [tunes.own])
  · rw [tunes.own]
    rfl

theorem requestWrite_lane (y : DockWrite) : (requestWrite b y w).st.lane n = w.st.lane n := by
  unfold State.lane
  rw [(requestWrite_tunes y).spares.pvs]

theorem weight_of_told (less : v.st.weight ≤ w.st.weight) (told : v.told ≤ w.told + k) : v.weight ≤ w.weight + k := by
  unfold Work.weight
  omega

theorem requestWrite_weight (y : DockWrite) (told : (requestWrite b y w).told ≤ w.told + k) :
    (requestWrite b y w).weight ≤ w.weight + k :=
  weight_of_told ((requestWrite_alike y).weight fun _ => requestWrite_lane y).le told

/-- A write that a tablet takes raises no more than the end of the one it replaces. -/
theorem requestWrite_told_taken (y : DockWrite) (active : (w.st.bay b).channel.state = .active)
    (takes : writeSupported (w.st.bay b).view y = true) (least : ∀ old, pendingSame (w.st.bay b).channel y = some old →
      Notice.weight (.writeEnded b old .replaced) ≤ k) : (requestWrite b y w).told ≤ w.told + k := by
  simp only [requestWrite, active, bne_self_eq_false, Bool.false_eq_true, if_false, takes, Bool.not_true]
  split
  · next old pending =>
    have := least old pending
    rw [told_raise]
    exact Nat.add_le_add_left this _
  · exact Nat.le_add_right ..

theorem requestCustody_weight (y : CustodyWrite) : (requestCustody b y w).weight ≤ w.weight + 2 := by
  unfold requestCustody
  dsimp only
  split
  · next takes =>
    rw [Bool.and_eq_true, beq_iff_eq] at takes
    refine requestWrite_weight _ (requestWrite_told_taken _ takes.1 takes.2 fun old pending => ?_)
    simp only [pendingSame, Option.map_eq_some_iff] at pending
    obtain ⟨_, -, rfl⟩ := pending
    exact le_rfl
  · exact Nat.le_add_right ..

theorem prov_replaced_weight {y : ProvWrite} {old : DockWrite} {z : Channel} (pending : pendingSame z (.provControl y) = some old) :
    Notice.weight (.writeEnded b old .replaced) = 1 := by
  simp only [pendingSame, Option.map_eq_some_iff] at pending
  obtain ⟨_, -, rfl⟩ := pending
  simp [Notice.weight]

/-- The EXIT write of a session. -/
theorem requestWrite_exit_weight (id : Byte) : (requestWrite b (.provControl { enter := false, campaign := id }) w).weight ≤
    w.weight + if (w.st.bay b).exits = true then 1 else 176 := by
  apply requestWrite_weight
  split
  · next exits =>
    simp only [Bay.exits, Bool.and_eq_true, beq_iff_eq] at exits
    refine requestWrite_told_taken _ exits.1 ?_ fun old pending => (prov_replaced_weight pending).le
    unfold writeSupported
    cases identity : (w.st.bay b).view.identity with
    | none => rfl
    | some i => simpa [identity] using exits.2
  · simp only [requestWrite]
    split
    · rw [told_raise]
      simp [Notice.weight]
    · split
      · rw [told_raise, told_upd]
        simp [Notice.weight]
      · split
        · next old pending =>
          rw [told_raise, told_upd, prov_replaced_weight pending]
          omega
        · rw [told_upd]
          exact Nat.le_add_right ..

/-! ### Lanes -/

theorem laneWorking_of_others (others : ∀ m, m ≠ n → t.lane m = s.lane m) (old : ∀ x, s.lane n = some x → x.bay = b)
    (new : ∀ x, t.lane n = some x → x.bay = b) (other : c ≠ b) : t.laneWorking c = s.laneWorking c := by
  rw [Bool.eq_iff_iff, laneWorking_iff, laneWorking_iff]
  refine exists_congr fun m => ?_
  by_cases same : m = n
  · subst same
    constructor
    · rintro ⟨x, lane, bay, -⟩
      exact absurd (bay.symm.trans (new x lane)) other
    · rintro ⟨x, lane, bay, -⟩
      exact absurd (bay.symm.trans (old x lane)) other
  · rw [others m same]

end

end Sys2Proof.Machine
end

section
/-! Lane sessions: what their begin and their end weigh (R147, R148, R152). -/

namespace Sys2Proof.Machine

section
variable {s t : State} {b c : BayIx} {u v w : Work} {n m : LaneIx} {k : Nat} {x : LaneSession} {o : LaneOutcome}

theorem Alike.freshWeight (h : Alike s t) : t.freshWeight c = s.freshWeight c :=
  freshWeight_congr h.cfl (h.view c) (by rw [h.charge]) (by rw [h.charge]) (by rw [h.charge]) (by rw [h.charge])

theorem laneWeight_working (session : s.lane n = some x) (works : laneWorks x.stage = true) :
    s.laneWeight n = if (s.bay x.bay).exits = true then 85 else 260 := by
  simp only [State.laneWeight, session, works, if_true]

theorem laneWeight_resting (session : s.lane n = some x) (rests : laneWorks x.stage = false) : s.laneWeight n = 0 := by
  simp only [State.laneWeight, session, rests, Bool.false_eq_true, if_false]

theorem laneWeight_idle (idle : s.lane n = none) : s.laneWeight n = 169 := by
  simp only [State.laneWeight, idle]

/-- A lane machine changes its session for `b`, and then wish and class of `b` are computed. -/
theorem lane_refresh_weight (alike : Alike w.st v.st) (others : ∀ m, m ≠ n → v.st.lane m = w.st.lane m)
    (working : ∀ c, c ≠ b → v.st.laneWorking c = w.st.laneWorking c) (told : v.told ≤ w.told + k) :
    (refreshWish b v).weight + w.st.laneWeight n ≤ w.weight + k + 83 + v.st.laneWeight n := by
  have lanes := alike.weight_lane others working
  have refreshed := refreshWish_weight b v
  have fresh := freshWeight_le (s := w.st) (b := b)
  rw [alike.freshWeight] at refreshed
  unfold Work.weight at refreshed ⊢
  omega

/-! ### The end of a session -/

theorem sessionOver_alike : Alike s (sessionOver n x o s) := by
  have switched : Alike s (s.modProv x.bay fun p => { p with switch := none }) :=
    .of_modBay (fun _ => rfl) (fun _ => rfl) (fun _ => rfl) (fun _ => rfl) rfl
  exact ⟨rfl, switched.charge, switched.view, switched.attrs, switched.exits, switched.side⟩

theorem countOutcome_alike (k : SlotIx) : Alike s (s.modBay b (countOutcome k o)) := by
  refine .of_modBay ?_ ?_ ?_ ?_ ?_
  all_goals
    first | intro y | skip
    rw [countOutcome_eq]
  all_goals rfl

/-- The end of a session was allowed for. -/
theorem endSession_weight : (endSession n o w).weight ≤ w.weight := by
  cases session : w.st.lane n with
  | none =>
    unfold endSession
    rw [session]
  | some x =>
    cases works : laneWorks x.stage with
    | false => simp [endSession, session, works]
    | true =>
      have others (m : LaneIx) (other : m ≠ n) : (sessionOver n x o w.st).lane m = w.st.lane m := by
        rw [sessionOver_lane, if_neg other]
      have lane : (sessionOver n x o w.st).lane n = some (x.ended o) := by
        rw [sessionOver_lane, if_pos rfl]
        rfl
      have refreshed := lane_refresh_weight (b := x.bay) (k := 0) (n := n) (w := w) (v := w.upd (sessionOver n x o))
        sessionOver_alike others (fun c other => laneWorking_of_others others
          (fun y its => by rw [session] at its; cases its; rfl) (fun y its => by cases lane.symm.trans its; rfl) other) le_rfl
      rw [laneWeight_working session works, Work.upd_st, laneWeight_resting lane rfl] at refreshed
      have counted : (sessionCounted n x o w).weight = (refreshWish x.bay (w.upd (sessionOver n x o))).weight :=
        congrArg (· + (refreshWish x.bay (w.upd (sessionOver n x o))).told) ((countOutcome_alike x.slot).weight fun _ => rfl)
      have placed := place_weight (w := sessionCounted n x o w) (provStatusFrame (sessionCounted n x o w).st x o)
      have exits : ((place (provStatusFrame (sessionCounted n x o w).st x o) (sessionCounted n x o w)).st.bay x.bay).exits =
          (w.st.bay x.bay).exits := by
        rw [place_bay]
        exact ((countOutcome_alike x.slot).exits x.bay).trans (refreshWish_spends_le.near.exits.trans (sessionOver_alike.exits _))
      have exit := requestWrite_exit_weight (b := x.bay) x.campaign
        (w := place (provStatusFrame (sessionCounted n x o w).st x o) (sessionCounted n x o w))
      rw [exits] at exit
      rw [endSession_eq session works]
      split at refreshed <;> split at exit <;> omega

theorem abortLane_weight : (abortLane b o w).weight ≤ w.weight := by
  unfold abortLane
  split <;> [exact le_rfl; exact endSession_weight]

theorem lane_step_weight (alike : Alike w.st v.st) (others : ∀ m, m ≠ n → v.st.lane m = w.st.lane m)
    (working : ∀ c, v.st.laneWorking c = w.st.laneWorking c) :
    v.st.weight + w.st.laneWeight n = w.st.weight + v.st.laneWeight n := by
  have lanes := alike.weight_lane (b := 0) others fun c _ => working c
  rw [alike.chargeWeight (working 0)] at lanes
  omega

/-- R152: a lane machine that becomes IDLE can begin another session. -/
theorem becomeIdle_weight (session : w.st.lane n = some x) (rests : laneWorks x.stage = false) :
    (becomeIdle n b w).weight ≤ w.weight + 175 := by
  have others (m : LaneIx) (other : m ≠ n) : (w.st.setLane n none).lane m = w.st.lane m := by
    rw [State.lane_setLane, if_neg other]
  have working (c : BayIx) : (w.st.setLane n none).laneWorking c = w.st.laneWorking c := by
    rw [Bool.eq_iff_iff, laneWorking_eq_true_iff, laneWorking_eq_true_iff]
    refine exists_congr fun m => ?_
    by_cases same : m = n
    · subst same
      simp only [State.lane_setLane_same, session, Option.some.injEq, reduceCtorEq, false_and, exists_false, false_iff]
      rintro ⟨y, rfl, -, works⟩
      rw [rests] at works
      cases works
    · rw [others m same]
  have lanes := lane_step_weight (n := n) (w := w) (v := w.upd fun s => s.setLane n none) (.of_bays rfl fun _ => rfl) others working
  rw [laneWeight_resting session rests, Work.upd_st, laneWeight_idle (State.lane_setLane_same ..)] at lanes
  unfold becomeIdle Work.weight
  simp only [told_raise, Work.raise_st, told_upd, Work.upd_st, Notice.weight]
  omega

/-! ### The begin of a session -/

theorem profileAtOnce_alike : Alike s (profileAtOnce b s) :=
  .of_modBay (f := fun y => { y with channel := { y.channel with dueProfile := true, profileTimer := none } }) (fun _ => rfl)
    (fun _ => rfl) (fun _ => rfl) (fun _ => rfl) rfl

theorem exits_of_eligible {k : SlotIx} (h : eligible s b k = true) : (s.bay b).exits = true := by
  obtain ⟨c, -, -, -, -, tablet, -⟩ := eligible_iff.1 h
  simp only [tabletEligible, Bool.and_eq_true] at tablet
  obtain ⟨⟨takes, -⟩, -⟩ := tablet
  rw [Bay.exits, channel_of_eligible h, takes]
  rfl

/-- R148: a session that begins was allowed for, its end included. -/
theorem enterWaking_weight {i : QueueItem} {c : Campaign} (idle : w.st.lane n = none) (exits : (w.st.bay i.bay).exits = true) :
    (enterWaking n i c w).weight ≤ w.weight := by
  unfold enterWaking
  extract_lets w₁ w₂
  have asked : w₂.told ≤ w.told + 1 := by
    simp only [Bay.exits, Bool.and_eq_true, beq_iff_eq] at exits
    refine requestWrite_told_taken (w := w₁) _ exits.1 ?_ fun old pending => (prov_replaced_weight pending).le
    show writeSupported (w.st.bay i.bay).view _ = true
    unfold writeSupported
    cases identity : (w.st.bay i.bay).view.identity with
    | none => rfl
    | some j => simpa [identity] using exits.2
  have alike : Alike w.st (w₂.upd (profileAtOnce i.bay)).st := by
    have first := requestWrite_alike (w := w₁) (b := i.bay) (.provControl { enter := true, campaign := c.id })
    have second := profileAtOnce_alike (s := w₂.st) (b := i.bay)
    exact ⟨second.cfl.trans first.cfl, fun c => (second.charge c).trans (first.charge c),
      fun c => (second.view c).trans (first.view c), fun c => (second.attrs c).trans (first.attrs c),
      fun c => (second.exits c).trans (first.exits c), fun c => (second.side c).trans (first.side c)⟩
  have lane (m : LaneIx) : (w₂.upd (profileAtOnce i.bay)).st.lane m = w₁.st.lane m := requestWrite_lane _
  have its : (w₂.upd (profileAtOnce i.bay)).st.lane n = some (wakingSession w.st i c) :=
    (lane n).trans (State.lane_setLane_same ..)
  have others (m : LaneIx) (other : m ≠ n) : (w₂.upd (profileAtOnce i.bay)).st.lane m = w.st.lane m :=
    (lane m).trans (by rw [Work.upd_st, State.lane_setLane, if_neg other])
  have begun := lane_refresh_weight (b := i.bay) (k := 1) (n := n) (w := w) (v := w₂.upd (profileAtOnce i.bay)) alike others
    (fun d other => laneWorking_of_others others (fun y none => by rw [idle] at none; cases none)
      (fun y new => by cases its.symm.trans new; rfl) other) asked
  rw [laneWeight_idle idle, laneWeight_working its rfl] at begun
  have exits' : ((w₂.upd (profileAtOnce i.bay)).st.bay (wakingSession w.st i c).bay).exits = true := (alike.exits i.bay).trans exits
  rw [if_pos exits'] at begun
  omega

theorem selectFrom_weight (left : Nat) (idle : w.st.lane n = none) : (selectFrom n left w).weight ≤ w.weight := by
  induction left generalizing w with
  | zero => exact le_rfl
  | succ left ih =>
    unfold selectFrom
    split
    · exact le_rfl
    · next i streak _ =>
      dsimp only
      split
      · exact ih (w := w.upd fun s => s.modPvs fun p => { p with queue := dropItem i.bay p.queue }) idle
      · split
        · next can =>
          exact enterWaking_weight (i := i) (w := (w.upd fun s => s.modPvs fun p =>
            { p with queue := dropItem i.bay p.queue }).upd fun s => s.modPvs fun p => { p with streak := streak }) idle
            (exits_of_eligible can)
        · exact ih (w := w.upd fun s => s.modPvs fun p => { p with queue := dropItem i.bay p.queue }) idle

theorem selectLane_weight : (selectLane n w).weight ≤ w.weight := by
  unfold selectLane
  split
  · next idle => exact selectFrom_weight _ (Option.isNone_iff_eq_none.1 idle)
  · exact le_rfl

end

end Sys2Proof.Machine
end

section
/-! Every notice that is worked lowers the weight, so `settle` works them all (assumption 8). -/

namespace Sys2Proof.Machine

section
variable {s t : State} {b c : BayIx} {u v w : Work} {n m : LaneIx} {k : Nat} {x : LaneSession} {o : LaneOutcome}

/-! ### The SHU and the BCC -/

theorem recompute_weight : (recompute w).weight ≤ w.weight + 41 := by
  have same : (w.upd recomputed).st.weight = w.st.weight := by
    rw [Work.upd_st, recomputed_eq]
    rfl
  unfold recompute
  exact weight_of_told (by rw [Work.raiseIf_st]; exact same.le) (told_raiseIf_le _ _ _)

/-- An operation of the BCC that leaves a bay which manages no tablet. -/
theorem Spends.weight_resting (h : Spends b k u v) (rests : managed (v.st.bay b).charge.state = false) :
    v.weight ≤ u.weight + k + 1 := by
  have := h.weight
  have := chargeWeight_resting rests
  omega

theorem entered_state (st : ChargeState) (f : State → Charge → Charge) (keeps : ∀ s c, (f s c).state = c.state) :
    ((entered b st f w).st.bay b).charge.state = st := by
  have charge := entering_charge (w := w) (b := b) st f
  unfold entered
  rw [refreshWish_charge, if_pos rfl, charge]
  simp [keeps, withGrant]

theorem enterVacant_weight : (enterVacant b w).weight ≤ w.weight + 171 :=
  enterVacant_spends.weight_resting (by
    rw [enterVacant_eq, Work.raise_st, entered_state .vacant vacantCharge fun _ _ => rfl]
    rfl)

theorem enterUnmanaged_weight : (enterUnmanaged b w).weight ≤ w.weight + 171 :=
  enterUnmanaged_spends.weight_resting (by
    rw [enterUnmanaged_eq, Work.raise_st, entered_state .unmanaged (unmanagedCharge b) fun _ _ => rfl]
    rfl)

theorem enterOutOfService_weight : (enterOutOfService b w).weight ≤ w.weight + 171 :=
  enterOutOfService_spends.weight_resting (by
    rw [enterOutOfService_eq, Work.raise_st, entered_state .outOfService retiredCharge fun _ _ => rfl]
    rfl)

theorem entered_identifying_weight (identRead : Bool) :
    (entered b .identifying (identifyingCharge identRead) w).weight ≤ w.weight + 130 :=
  (entered_spends _ _).weight_resting (by
    rw [entered_state .identifying (identifyingCharge identRead) fun _ _ => rfl]
    rfl)

theorem markDue_foldl_state (rs : List DockRegister) (y : Channel) :
    (rs.foldl (fun c r => markDue r c) y).state = y.state := by
  induction rs generalizing y with
  | nil => rfl
  | cons r rs ih => exact (ih _).trans (by cases r <;> rfl)

theorem modChannel_alike (f : Channel → Channel) (state : ∀ y, (f y).state = y.state) : Alike s (s.modChannel b f) :=
  .of_modBay (f := fun y => { y with channel := f y.channel }) (fun _ => rfl) (fun _ => rfl) (fun _ => rfl)
    (fun _ => exits_of (state _) rfl) rfl

theorem requestReads_alike (rs : List DockRegister) : Alike s (requestReads b rs s) := by
  unfold requestReads
  split
  · exact modChannel_alike _ (markDue_foldl_state rs)
  · exact modChannel_alike _ (markDue_foldl_state rs)
  all_goals exact .of_bays rfl fun _ => rfl

theorem requestReads_weight (rs : List DockRegister) : (w.upd (requestReads b rs)).weight = w.weight := by
  have lane (n : LaneIx) : (requestReads b rs w.st).lane n = w.st.lane n := by
    unfold requestReads
    split <;> rfl
  exact congrArg (· + w.told) ((requestReads_alike rs).weight lane)

/-- A channel that becomes ACTIVE: the end of a session at its bay weighs no more. -/
theorem modChannel_active_weight (f : Channel → Channel) (active : ∀ y, (f y).state = .active) :
    (s.modChannel b f).weight ≤ s.weight := by
  have alike (c : BayIx) : ((s.modChannel b f).bay c).charge = (s.bay c).charge ∧
      ((s.modChannel b f).bay c).view = (s.bay c).view ∧ ((s.modChannel b f).bay c).attrs = (s.bay c).attrs ∧
      ((s.modChannel b f).bay c).sideWeight = (s.bay c).sideWeight ∧
      ((s.bay c).exits = true → ((s.modChannel b f).bay c).exits = true) := by
    rw [State.modChannel, State.bay_modBay_at]
    split
    · refine ⟨rfl, rfl, rfl, rfl, fun exits => ?_⟩
      simp only [Bay.exits, Bool.and_eq_true] at exits ⊢
      exact ⟨by rw [active]; rfl, exits.2⟩
    · exact ⟨rfl, rfl, rfl, rfl, id⟩
  have bays (c : BayIx) : (s.modChannel b f).chargeWeight c + ((s.modChannel b f).bay c).sideWeight =
      s.chargeWeight c + (s.bay c).sideWeight := by
    obtain ⟨charge, view, attrs, side, -⟩ := alike c
    rw [side, chargeWeight_congr (s := s) (t := s.modChannel b f) rfl rfl charge view attrs]
  have lanes (n : LaneIx) : (s.modChannel b f).laneWeight n ≤ s.laneWeight n := by
    have lane : (s.modChannel b f).lane n = s.lane n := rfl
    cases session : s.lane n with
    | none => rw [laneWeight_idle session, laneWeight_idle (lane.trans session)]
    | some x =>
      cases works : laneWorks x.stage with
      | false => rw [laneWeight_resting session works, laneWeight_resting (lane.trans session) works]
      | true =>
        rw [laneWeight_working session works, laneWeight_working (lane.trans session) works]
        obtain ⟨-, -, -, -, exits⟩ := alike x.bay
        split
        · split <;> omega
        · next no =>
          rw [if_neg fun is => no (exits is)]
  unfold State.weight
  rw [Finset.sum_congr rfl fun c _ => bays c]
  exact Nat.add_le_add_left (Finset.sum_le_sum fun n _ => lanes n) _

theorem setChannelState_active_weight : (setChannelState b .active w).weight ≤ w.weight + 4 := by
  unfold setChannelState
  split
  · exact Nat.le_add_right ..
  · have less := modChannel_active_weight (s := w.st) (b := b) (fun c => { c with state := .active }) fun _ => rfl
    refine weight_of_told less ?_
    rw [told_raise, told_upd]
    simp [Notice.weight]

theorem requestIdentification_weight : (requestIdentification b w).weight ≤ w.weight + 4 := by
  unfold requestIdentification
  dsimp only
  rw [requestReads_weight]
  split
  · have same : (w.upd fun s => s.modChannel b fun c => { c with drops := 0 }).weight = w.weight :=
      congrArg (· + w.told) ((modChannel_alike (s := w.st) (b := b) (fun c => { c with drops := 0 }) fun _ => rfl).weight fun _ => rfl)
    exact same ▸ setChannelState_active_weight
  · exact Nat.le_add_right ..

theorem enterIdentifying_weight (identRead : Bool) : (enterIdentifying b identRead w).weight ≤ w.weight + 134 := by
  have entered := entered_identifying_weight (b := b) (w := w) identRead
  rw [enterIdentifying_eq]
  split
  · rw [requestReads_weight]
    omega
  · have := requestIdentification_weight (b := b) (w := Machine.entered b .identifying (identifyingCharge identRead) w)
    omega

theorem serviceChanged_weight : (serviceChanged b w).weight ≤ w.weight + 171 := by
  unfold serviceChanged leaveOutOfService
  split
  · exact enterOutOfService_weight
  · split
    · split
      · exact (enterIdentifying_weight false).trans (by omega)
      · exact enterVacant_weight
    · omega

/-! ### Readings -/

theorem Spends.weight_most (h : Spends b k u v) : v.weight ≤ u.weight + k + 295 := by
  have := h.weight
  have := chargeWeight_le v.st b
  omega

theorem modCharge_weight (f : Charge → Charge) (w : Work) (same : ∀ c, (f c).wish = c.wish ∧ (f c).cls = c.cls ∧
    (f c).state = c.state ∧ (f c).voltage = c.voltage ∧ (f c).limitOwed = c.limitOwed) :
    (w.upd fun s => s.modCharge b f).weight = w.weight := by
  have spends : Spends b 0 w (w.upd fun s => s.modCharge b f) := .modCharge fun _ => f
  have charge : ((w.upd fun s => s.modCharge b f).st.bay b).charge = f (w.st.bay b).charge := by
    rw [Work.upd_st, State.charge_modCharge, if_pos rfl]
  obtain ⟨wish, cls, state, voltage, owed⟩ := same (w.st.bay b).charge
  have weight := spends.near.chargeWeight (by rw [charge, state]) (by rw [charge, state]) (by rw [charge, voltage])
    (by rw [charge, wish]) (by rw [charge, cls]) (by rw [charge, owed])
  have near := spends.near.weight
  unfold Work.weight
  rw [told_upd]
  omega

theorem identificationRead_weight (r : DockRegister) : (identificationRead b r w).weight ≤ w.weight + 465 := by
  unfold identificationRead
  dsimp only
  split
  · exact (modCharge_weight (fun c => { c with stage := .awaitBattery }) w fun _ => ⟨rfl, rfl, rfl, rfl, rfl⟩).le.trans (by omega)
  · split
    · exact (modCharge_weight (fun c => { c with stage := .awaitRequest }) w fun _ => ⟨rfl, rfl, rfl, rfl, rfl⟩).le.trans
        (by omega)
    · split
      · exact (identifyAs_spends _).weight_most
      · omega

theorem managedReading_weight (r : DockRegister) : (managedReading b r w).weight ≤ w.weight + 340 := by
  have moved := managedMoves_weight (b := b) (w := w)
  have moved' := managedMoves_weight (b := b) (w := takeVoltage b w)
  have taken := takeVoltage_weight (b := b) (w := w)
  have refreshed := refreshWish_weight_le b w
  cases r <;> simp only [managedReading] <;> omega

theorem thermalReading_weight (r : DockRegister) : (thermalReading b r w).weight ≤ w.weight + 423 := by
  have entered := enterIdentifying_weight (b := b) (w := w) true
  have taken := takeVoltage_weight (b := b) (w := w)
  have left := (leaveThermal_spends (b := b) (w := w)).weight_most
  cases r <;> simp only [thermalReading] <;> omega

theorem chargeReading_weight (r : DockRegister) : (chargeReading b r w).weight ≤ w.weight + 465 := by
  have identified := identificationRead_weight (b := b) (w := w) r
  have managed := managedReading_weight (b := b) (w := w) r
  have thermal := thermalReading_weight (b := b) (w := w) r
  have entered := enterIdentifying_weight (b := b) (w := w) true
  have taken := takeVoltage_weight (b := b) (w := w)
  have refreshed := refreshWish_weight_le b w
  unfold chargeReading
  split
  · exact identified
  all_goals first | omega | skip
  · cases r <;> simp only [unmanagedReading] <;> omega
  all_goals cases r <;> simp only [restingReading] <;> omega

end

end Sys2Proof.Machine
end

section
/-! Every notice that is worked lowers the weight, so `settle` works them all (assumption 8). -/

namespace Sys2Proof.Machine

section
variable {s t : State} {b c : BayIx} {u v w : Work} {n m : LaneIx} {k l : Nat} {x : LaneSession} {o : LaneOutcome}

/-! ### Claims and releases -/

theorem raise_weight (y : Notice) : (w.raise y).weight = w.weight + y.weight := by
  unfold Work.weight
  rw [told_raise, Work.raise_st]
  omega

/-- A change of a bay that is not the BCC's: only what a waiting release and a claim allow for. -/
theorem modBay_side_weight (f : Bay → Bay) (charge : ∀ y, (f y).charge = y.charge) (view : ∀ y, (f y).view = y.view)
    (attrs : ∀ y, (f y).attrs = y.attrs) (exits : ∀ y, (f y).exits = y.exits) :
    (s.modBay b f).weight + (s.bay b).sideWeight = s.weight + (f (s.bay b)).sideWeight := by
  have at_b : (s.modBay b f).bay b = f (s.bay b) := State.bay_modBay_same ..
  have others (c : BayIx) (other : c ≠ b) : (s.modBay b f).bay c = s.bay c := State.bay_modBay_other _ other _
  have same (c : BayIx) : ((s.modBay b f).bay c).charge = (s.bay c).charge ∧ ((s.modBay b f).bay c).view = (s.bay c).view ∧
      ((s.modBay b f).bay c).attrs = (s.bay c).attrs ∧ ((s.modBay b f).bay c).exits = (s.bay c).exits := by
    rcases eq_or_ne c b with rfl | other
    · rw [at_b]
      exact ⟨charge _, view _, attrs _, exits _⟩
    · rw [others c other]
      exact ⟨rfl, rfl, rfl, rfl⟩
  have charges (c : BayIx) : (s.modBay b f).chargeWeight c = s.chargeWeight c := by
    obtain ⟨charge, view, attrs, -⟩ := same c
    exact chargeWeight_congr rfl rfl charge view attrs
  have bays := sum_but_one (f := fun c => (s.modBay b f).chargeWeight c + ((s.modBay b f).bay c).sideWeight)
    (g := fun c => s.chargeWeight c + (s.bay c).sideWeight) b fun c other => by rw [charges, others c other]
  have lanes (n : LaneIx) : (s.modBay b f).laneWeight n = s.laneWeight n := by
    have lane : (s.modBay b f).lane n = s.lane n := rfl
    simp only [State.laneWeight, lane, (same _).2.2.2]
  simp only [charges, at_b] at bays
  simp only [State.weight, lanes, charges]
  omega

theorem clearClaim_weight (claims : (w.st.bay b).claim.isSome = true) : (clearClaim b w).weight ≤ w.weight := by
  have less := modBay_side_weight (s := w.st) (b := b) (fun y => { y with claim := none }) (fun _ => rfl) (fun _ => rfl)
    (fun _ => rfl) fun _ => rfl
  have three : Notice.weight (.reevaluate b) = 3 := rfl
  unfold clearClaim Work.weight
  rw [told_raise, told_upd, three, Work.raise_st, Work.upd_st]
  unfold Bay.sideWeight at less
  dsimp only at less
  rw [claims, if_pos rfl, Option.isSome_none, if_neg Bool.false_ne_true] at less
  omega

theorem forEach_weight {α : Type} {f : α → Work → Work} (each : ∀ x w, (f x w).weight ≤ w.weight) (xs : List α) (w : Work) :
    (forEach xs f w).weight ≤ w.weight := by
  induction xs generalizing w with
  | nil => exact le_rfl
  | cons x xs ih => exact (ih (f x w)).trans (each x w)

theorem removeQueuedClaim_weight (r : Reader) (sequence : Byte) : (removeQueuedClaim r sequence w).weight ≤ w.weight := by
  refine forEach_weight (fun b w => ?_) _ w
  split
  · next its =>
    refine clearClaim_weight ?_
    obtain ⟨c, claim, -⟩ := Option.any_eq_true _ _ |>.1 its
    rw [claim]
    rfl
  · exact le_rfl

theorem modAnswered_weight (f : TxFrame) (g : PresentationSlot → PresentationSlot) : (s.modAnswered f g).weight = s.weight := by
  unfold State.modAnswered
  split
  · rfl
  · unfold State.modSlot
    split
    · split <;> rfl
    · rfl

theorem discardNotice_weight (f : TxFrame) : (discardNotice f w).weight ≤ w.weight := by
  have answered (g : PresentationSlot → PresentationSlot) : (w.upd fun s => s.modAnswered f g).weight = w.weight :=
    congrArg (· + w.told) (modAnswered_weight f g)
  unfold discardNotice
  split
  · unfold offerDiscarded
    split
    · exact le_rfl
    · exact (removeQueuedClaim_weight _ _).trans (answered _).le
  · unfold denyDiscarded
    split
    · exact le_rfl
    · exact (answered _).le
  · exact le_rfl

theorem ruleDeny_weight (credential : Word32) (r : Reader) (sequence : Byte) :
    (ruleDeny credential r sequence w).weight ≤ w.weight + 1 := place_weight _

theorem releaseAnswer_weight (r : ReleaseRecord) (y : ReleaseOutcome) : (releaseAnswer b r y w).weight ≤ w.weight + 3 := by
  unfold releaseAnswer
  dsimp only
  cases y
  case started =>
    dsimp only
    have placed := place_weight (w := w) (releasedFrame b (((w.st.bay b).view.identity.map fun i => i.asset).getD 0) r)
    split
    · exact (requestCustody_weight _).trans (by omega)
    · omega
  case pendingLane => exact Nat.le_add_right ..
  case unused =>
    dsimp only
    split
    · exact (requestCustody_weight _).trans (by omega)
    · omega
  all_goals exact (ruleDeny_weight _ _ _).trans (by omega)

theorem modDoor_weight (f : Door → Door) :
    (s.modDoor b f).weight + (if (s.bay b).door.pendingLane = true then 8 else 0) =
      s.weight + if (f (s.bay b).door).pendingLane = true then 8 else 0 := by
  have side := modBay_side_weight (s := s) (b := b) (fun y => { y with door := f y.door }) (fun _ => rfl) (fun _ => rfl)
    (fun _ => rfl) fun _ => rfl
  unfold Bay.sideWeight at side
  dsimp only at side
  unfold State.modDoor
  omega

theorem openSwitch_weight : (openSwitch b s).weight = s.weight :=
  (Alike.of_modBay (s := s) (b := b) (f := fun y => { y with prov := { y.prov with switch := none } }) (fun _ => rfl)
    (fun _ => rfl) (fun _ => rfl) (fun _ => rfl) rfl).weight fun _ => rfl

theorem modCounters_weight (f : BayCounters → BayCounters) : (s.modCounters b f).weight = s.weight :=
  (Alike.of_modBay (s := s) (b := b) (f := fun y => { y with counters := f y.counters }) (fun _ => rfl) (fun _ => rfl)
    (fun _ => rfl) (fun _ => rfl) rfl).weight fun _ => rfl

/-- A release that starts: what a wait for a lane allowed for is used. -/
theorem startRelease_weight (r : ReleaseRecord) :
    (startRelease b r w).weight + (if (w.st.bay b).door.pendingLane = true then 8 else 0) ≤ w.weight + 8 := by
  have four (y : ReleaseRecord) (z : ReleaseOutcome) : Notice.weight (.releaseAnswered b y z) = 4 := rfl
  have moved : Notice.weight (.doorMoved b true) = 4 := rfl
  unfold startRelease
  dsimp only
  simp only [raise_weight, four, moved]
  unfold Work.weight
  rw [told_upd, Work.upd_st, modCounters_weight, openSwitch_weight]
  have door := modDoor_weight (s := w.st) (b := b) fun d =>
    { d with
      state := .releasing, latch := .full, release := some { r with start := w.st.csu.minute }, pendingLane := false,
      pullIn := some (w.st.now + pullInTime), window := some (w.st.now + w.st.cfl.config.releaseTime * 1000), boltWait := none }
  rw [if_neg Bool.false_ne_true] at door
  omega

theorem laneReportedIdle_weight : (laneReportedIdle b w).weight ≤ w.weight := by
  unfold laneReportedIdle
  dsimp only
  split
  · exact le_rfl
  · next r _ =>
    split
    · next waits =>
      have started := startRelease_weight (b := b) (w := w) r
      rw [if_pos waits] at started
      omega
    · exact le_rfl

theorem askRelease_weight (r : ReleaseRecord) : (askRelease b r w).weight ≤ w.weight + 12 := by
  have four (y : ReleaseRecord) (z : ReleaseOutcome) : Notice.weight (.releaseAnswered b y z) = 4 := rfl
  unfold askRelease
  split
  · unfold Work.weight
    rw [told_raise, Work.raise_st, four]
    omega
  · split
    · have waits := modDoor_weight (s := w.st) (b := b) fun d =>
        { d with release := some { r with start := w.st.csu.minute }, pendingLane := true }
      rw [if_pos rfl] at waits
      dsimp only
      rw [raise_weight, four]
      unfold Work.weight
      rw [told_upd, Work.upd_st]
      omega
    · have := startRelease_weight (b := b) (w := w) r
      omega

theorem requestRelease_weight (r : ReleaseRecord) : (requestRelease b r w).weight ≤ w.weight + 15 := by
  have asked := askRelease_weight (b := b) (w := w) r
  unfold requestRelease
  split
  · omega
  · have aborted := abortLane_weight (b := b) (o := .abortCustody) (w := askRelease b r w)
    unfold Work.weight at *
    rw [told_raise, Work.raise_st]
    have three : Notice.weight (.reevaluate b) = 3 := rfl
    omega

theorem identNotice_weight (y : IdentClass) : (identNotice b y w).weight ≤ w.weight + 3 := by
  have docked (asset : Word32) (f : TxFrame) :
      (requestCustody b dockedCustody (loanSeen asset (place f w))).weight ≤ w.weight + 3 := by
    have placed := place_weight (w := w) f
    have seen : (loanSeen asset (place f w)).weight = (place f w).weight := rfl
    exact (requestCustody_weight _).trans (by omega)
  unfold identNotice
  split
  · exact Nat.le_add_right ..
  all_goals exact docked _ _

/-! ### Every notice -/

theorem clearAttempts_weight (s : State) : (clearAttempts b s).weight = s.weight :=
  (Alike.of_modBay (s := s) (b := b) (f := fun y => { y with prov := { y.prov with
    attempts := Vector.replicate 4 0, blocked := Vector.replicate 4 false } }) (fun _ => rfl) (fun _ => rfl)
    (fun _ => rfl) (fun _ => rfl) rfl).weight fun _ => rfl

/-- A step of a lane machine within the stages that work, or within RELEASING. -/
theorem setLane_weight {y : LaneSession} (session : s.lane n = some x) (bay : y.bay = x.bay)
    (works : laneWorks y.stage = laneWorks x.stage) : (s.setLane n (some y)).weight = s.weight := by
  have others (m : LaneIx) (other : m ≠ n) : (s.setLane n (some y)).lane m = s.lane m := by
    rw [State.lane_setLane, if_neg other]
  have its : (s.setLane n (some y)).lane n = some y := State.lane_setLane_same ..
  have working (c : BayIx) : (s.setLane n (some y)).laneWorking c = s.laneWorking c := by
    rw [Bool.eq_iff_iff, laneWorking_eq_true_iff, laneWorking_eq_true_iff]
    refine exists_congr fun m => ?_
    by_cases same : m = n
    · subst same
      simp only [its, session, Option.some.injEq]
      constructor
      · rintro ⟨z, rfl, own, at_work⟩
        exact ⟨x, rfl, bay.symm.trans own, works.symm.trans at_work⟩
      · rintro ⟨z, rfl, own, at_work⟩
        exact ⟨y, rfl, bay.trans own, works.trans at_work⟩
    · rw [others m same]
  have lanes := lane_step_weight (n := n) (w := startWork s) (v := startWork (s.setLane n (some y))) (.of_bays rfl fun _ => rfl)
    others working
  have same : (s.setLane n (some y)).laneWeight n = s.laneWeight n := by
    have exits : ((s.setLane n (some y)).bay x.bay).exits = (s.bay x.bay).exits := rfl
    simp only [State.laneWeight, its, session, works, bay, exits]
  simp only [startWork] at lanes
  omega

theorem provEnded_weight (v : ProvWrite) (z : WriteOutcome) :
    (provEnded b v z w).weight + 1 ≤ w.weight + Notice.weight (.writeEnded b (.provControl v) z) := by
  have own : Notice.weight (.writeEnded b (.provControl v) z) = if v.enter || z == .replaced then 1 else 176 := rfl
  have least : 1 ≤ Notice.weight (.writeEnded b (.provControl v) z) := weight_pos _
  unfold provEnded
  split
  · omega
  · next n _ =>
    split
    · omega
    · next x session =>
      split
      · next stage _ =>
        have same : (w.st.setLane n (some { x with accepted := true })).weight = w.st.weight := setLane_weight session rfl rfl
        have noted : (w.upd fun s => s.setLane n (some { x with accepted := true })).weight = w.weight :=
          congrArg (· + w.told) same
        omega
      · have := endSession_weight (n := n) (o := .failRefused) (w := w)
        omega
      · omega
      · next o stage enters replaced =>
        have idle := becomeIdle_weight (b := b) session (by rw [stage]; rfl)
        rw [own, enters, Bool.false_or, if_neg (by simpa using replaced)]
        omega
      · omega

theorem enterConnected_weight (session : w.st.lane n = some x) (waking : x.stage = .waking) :
    (enterConnected n x w).weight = w.weight := by
  have switched (s : State) (k : Option LaneIx) : (s.modProv x.bay fun p => { p with switch := k }).weight = s.weight :=
    (Alike.of_modBay (s := s) (b := x.bay) (f := fun y => { y with prov := { y.prov with switch := k } }) (fun _ => rfl)
      (fun _ => rfl) (fun _ => rfl) (fun _ => rfl) rfl).weight fun _ => rfl
  unfold enterConnected Work.weight
  have lane := setLane_weight (s := w.st.modProv x.bay fun p =>
      { p with switch := if (w.st.bay x.bay).door.state = .secure then some n else none }) (n := n) (x := x)
    (y := { x with
      stage := .connected, wakeWait := none, entered := some w.st.now,
      limit := some (w.st.now + ((w.st.campaign x.slot).map fun c => c.limit).getD 0 * 60000) }) session rfl (by rw [waking]; rfl)
  rw [told_upd, Work.upd_st, lane, switched]

theorem profileReading_weight : (profileReading b w).weight ≤ w.weight := by
  have ended (n : LaneIx) (o : LaneOutcome) : (endSession n o w).weight ≤ w.weight := endSession_weight
  unfold profileReading
  split
  · exact le_rfl
  · next n _ =>
    split
    · next x p session _ =>
      split
      · next waking =>
        split
        · split
          · exact (enterConnected_weight session waking).le
          · exact ended _ _
          all_goals exact le_rfl
        · exact le_rfl
      · split
        · exact ended _ _
        · exact ended _ _
        · exact ended _ _
        all_goals exact le_rfl
      · exact le_rfl
    · exact le_rfl

theorem selectIf_weight (added : Bool) (same : u.weight = w.weight) : (selectIf added u).weight ≤ w.weight + 2 := by
  have one (n : LaneIx) : Notice.weight (.select n) = 1 := rfl
  unfold selectIf
  split
  · rw [raise_weight, raise_weight, one, one]
    omega
  · omega

theorem evaluateBay_weight (s : State) : (evaluateBay b s).weight = s.weight := by
  unfold evaluateBay
  split <;> rfl

theorem reevaluate_weight : (reevaluate b w).weight ≤ w.weight + 2 :=
  selectIf_weight _ (congrArg (· + w.told) (evaluateBay_weight w.st))

theorem reevaluateAll_weight : (reevaluateAll w).weight ≤ w.weight + 2 := by
  refine selectIf_weight _ ?_
  generalize allBays = bays
  induction bays generalizing w with
  | nil => rfl
  | cons b bays ih => exact (ih (w := w.upd (evaluateBay b))).trans (congrArg (· + w.told) (evaluateBay_weight w.st))

theorem channelAbort_weight (y : ChannelState) : (channelAbort b y w).weight ≤ w.weight := by
  unfold channelAbort
  split
  · have cleared (u : Work) : (u.upd (clearAttempts b)).weight = u.weight :=
      congrArg (· + u.told) (clearAttempts_weight u.st)
    rw [cleared]
    exact abortLane_weight
  · exact abortLane_weight
  · exact abortLane_weight
  · exact le_rfl

theorem chargeChannel_weight (y : ChannelState) :
    (chargeChannel b y w).weight ≤ w.weight + if y = .silent ∨ y = .stuck then 171 else 0 := by
  have tuned : (w.upd fun s => s.modCharge b fun c => { c with unmanagedTimer := none }).weight = w.weight :=
    modCharge_weight (fun c => { c with unmanagedTimer := none }) w fun _ => ⟨rfl, rfl, rfl, rfl, rfl⟩
  have unmanaged := enterUnmanaged_weight (b := b) (w := w)
  unfold chargeChannel
  split
  · rw [if_pos (.inl rfl)]
    split <;> omega
  · rw [if_pos (.inr rfl)]
    split <;> omega
  all_goals exact Nat.le_add_right ..

theorem counted_weight (v : Work) : (v.upd fun s => { s with freeCount := s.freeCount + 1 }).weight = v.weight := rfl

theorem channelNotice_weight (y : ChannelState) :
    (channelNotice b y w).weight + 1 ≤ w.weight + Notice.weight (.channelChanged b y) := by
  have three : Notice.weight (.reevaluate b) = 3 := rfl
  have four : Notice.weight (.laneChannel b y) = 4 := rfl
  have own : Notice.weight (.channelChanged b y) = if y = .silent ∨ y = .stuck then 176 else 4 := rfl
  have later : ((chargeChannel b y (channelAbort b y w)).raise (.reevaluate b)).weight + 1 ≤
      w.weight + Notice.weight (.channelChanged b y) := by
    have aborted := channelAbort_weight (b := b) (w := w) y
    have charged := chargeChannel_weight (b := b) (w := channelAbort b y w) y
    rw [raise_weight, three, own]
    split at charged <;> rename_i lost <;> simp only [lost, if_true, if_false] <;> omega
  have first (lost : y = .silent ∨ y = .stuck) : ((chargeChannel b y w).raise (.laneChannel b y)).weight + 1 ≤
      w.weight + Notice.weight (.channelChanged b y) := by
    have charged := chargeChannel_weight (b := b) (w := w) y
    rw [if_pos lost] at charged
    rw [raise_weight, four, own, if_pos lost]
    omega
  unfold channelNotice
  dsimp only
  split
  · split
    · split
      · exact first (.inl rfl)
      · exact later
    · exact later
  · split
    · split
      · exact first (.inr rfl)
      · exact later
    · exact later
  all_goals exact later

theorem readingNotice_weight (r : DockRegister) (y : IdentClass) : (readingNotice b r y w).weight ≤ w.weight + 479 := by
  have three : Notice.weight (.reevaluate b) = 3 := rfl
  have read := chargeReading_weight (b := b) (w := w) r
  unfold readingNotice
  split
  · have noticed := identNotice_weight (b := b) (w := chargeReading b .ident w) y
    dsimp only
    rw [raise_weight, three]
    split
    · have cleared (u : Work) : (u.upd (clearAttempts b)).weight = u.weight :=
        congrArg (· + u.told) (clearAttempts_weight u.st)
      rw [cleared]
      omega
    · omega
  · have aborted : (batteryAbort b (chargeReading b .battery w)).weight ≤ (chargeReading b .battery w).weight := by
      unfold batteryAbort
      split <;> [exact abortLane_weight; exact le_rfl]
    rw [raise_weight, three]
    omega
  · omega
  · have profile := profileReading_weight (b := b) (w := w)
    rw [raise_weight, three]
    omega
  all_goals omega

theorem writeNotice_weight (y : DockWrite) (z : WriteOutcome) :
    (writeNotice b y z w).weight + 1 ≤ w.weight + Notice.weight (.writeEnded b y z) := by
  cases y with
  | chargeLimit g => exact le_rfl
  | custody v =>
    have two : Notice.weight (.writeEnded b (.custody v) z) = 2 := rfl
    have refused := place_weight (w := w)
      (eventFrame 14 (bayByte b) (((w.st.bay b).view.identity.map fun i => i.asset).getD 0) (if v.released then 2 else 1) .csu)
    rw [two]
    cases z
    case refused => exact Nat.add_le_add_right refused 1
    all_goals exact Nat.add_le_add_left (by omega) _
  | provControl v => exact provEnded_weight v z

/-- Every notice that is worked lowers the weight. -/
theorem handle_weight (y : Notice) : (handle y w).weight + 1 ≤ w.weight + y.weight := by
  have three (b : BayIx) : Notice.weight (.reevaluate b) = 3 := rfl
  have aborted (b : BayIx) (v : Work) (o : LaneOutcome) : (abortLane b o v).weight ≤ v.weight := abortLane_weight
  cases y with
  | recompute => exact Nat.add_le_add_right recompute_weight 1
  | split => exact Nat.add_le_add_right runSplit_weight 1
  | wishInput b => exact Nat.add_le_add_right (refreshWish_weight_le b w) 1
  | chargeChanged b =>
    have four : Notice.weight (.chargeChanged b) = 4 := rfl
    have charged : (chargeAbort b w).weight ≤ w.weight := by
      unfold chargeAbort
      split
      · exact aborted _ _ _
      · exact le_rfl
      · exact le_rfl
      · exact le_rfl
      all_goals exact aborted _ _ _
    simp only [handle, raise_weight, three, four]
    omega
  | channelChanged b st => exact channelNotice_weight st
  | laneChannel b st =>
    have four : Notice.weight (.laneChannel b st) = 4 := rfl
    have channel := channelAbort_weight (b := b) (w := w) st
    simp only [handle, raise_weight, three, four]
    omega
  | reading b r cls => exact Nat.add_le_add_right (readingNotice_weight r cls) 1
  | writeEnded b x o => exact writeNotice_weight x o
  | discarded f => exact Nat.add_le_add_right (discardNotice_weight f) 1
  | doorMoved b leftSecure =>
    have four : Notice.weight (.doorMoved b leftSecure) = 4 := rfl
    have left : (if leftSecure = true then abortLane b .abortCustody w else w).weight ≤ w.weight := by
      split <;> [exact aborted _ _ _; exact le_rfl]
    simp only [handle, raise_weight, three, four]
    omega
  | episodeEnded b attr record present =>
    have six : Notice.weight (.episodeEnded b attr record present) = 6 := rfl
    have ended : (episodeEndNotice b attr record present w).weight ≤ w.weight + 2 := by
      unfold episodeEndNotice
      split
      · split <;> [exact requestCustody_weight _; exact Nat.le_add_right ..]
      · exact Nat.le_add_right ..
    simp only [handle, raise_weight, three, six]
    omega
  | releaseAsked b r => exact Nat.add_le_add_right (requestRelease_weight r) 1
  | releaseAnswered b r o => exact Nat.add_le_add_right (releaseAnswer_weight r o) 1
  | laneIdle b => exact Nat.add_le_add_right laneReportedIdle_weight 1
  | reevaluate b => exact Nat.add_le_add_right reevaluate_weight 1
  | reevaluateAll => exact Nat.add_le_add_right reevaluateAll_weight 1
  | select n => exact Nat.add_le_add_right selectLane_weight 1
  | serviceChanged b => exact Nat.add_le_add_right serviceChanged_weight 1

/-! ### All of the notices -/

theorem settle_weight_le (k : Nat) (w : Work) : (settle k w).weight ≤ w.weight := by
  induction k generalizing w with
  | zero => exact le_rfl
  | succ k ih =>
    cases todo : w.todo with
    | nil => rw [settle, todo]
    | cons x xs =>
      have first := handle_weight (w := startWork w.st) x
      have rest := ih { st := (handle x (startWork w.st)).st, todo := (handle x (startWork w.st)).todo ++ xs }
      rw [settle, todo]
      refine rest.trans ?_
      simp only [Work.weight, Work.told, startWork, todo, List.map_append, List.sum_append, List.map_cons, List.sum_cons,
        List.map_nil, List.sum_nil] at first ⊢
      omega

/-- The work of a notice and of those behind it weighs less than they did. -/
theorem handled_weight {x : Notice} {xs : List Notice} (todo : w.todo = x :: xs) :
    Work.weight { st := (handle x (startWork w.st)).st, todo := (handle x (startWork w.st)).todo ++ xs } + 1 ≤ w.weight := by
  have first := handle_weight (w := startWork w.st) x
  simp only [Work.weight, Work.told, startWork, todo, List.map_append, List.sum_append, List.map_cons, List.sum_cons,
    List.map_nil, List.sum_nil] at first ⊢
  omega

theorem settle_nil (k : Nat) (todo : w.todo = []) : settle k w = w := by
  cases k with
  | zero => rfl
  | succ k => rw [settle, todo]

/-- With as many turns as the work weighs, no notice is left. -/
theorem settle_finishes (k : Nat) (enough : w.weight ≤ k) : (settle k w).todo = [] := by
  induction k generalizing w with
  | zero =>
    cases todo : w.todo with
    | nil => rw [settle_nil 0 todo, todo]
    | cons x xs =>
      have := handled_weight todo
      omega
  | succ k ih =>
    cases todo : w.todo with
    | nil => rw [settle_nil _ todo, todo]
    | cons x xs =>
      have less := handled_weight todo
      rw [settle, todo]
      exact ih (by omega)

/-- Turns beyond the weight change nothing. -/
theorem settle_succ (k : Nat) (enough : w.weight ≤ k) : settle (k + 1) w = settle k w := by
  induction k generalizing w with
  | zero =>
    cases todo : w.todo with
    | nil => rw [settle_nil 1 todo, settle_nil 0 todo]
    | cons x xs =>
      have := handled_weight todo
      omega
  | succ k ih =>
    cases todo : w.todo with
    | nil => rw [settle_nil _ todo, settle_nil _ todo]
    | cons x xs =>
      have less := handled_weight todo
      rw [settle, todo, settle, todo]
      exact ih (by omega)

/-- Notices that stand behind others are worked from the state that these and theirs leave. -/
theorem settle_append (k : Nat) {a b : List Notice} (enough : Work.weight { st := s, todo := a ++ b } ≤ k) :
    settle k { st := s, todo := a ++ b } = settle k { st := (settle k { st := s, todo := a }).st, todo := b } := by
  induction k generalizing s a with
  | zero => 
    cases a with
    | nil => rfl
    | cons x xs =>
      have := handled_weight (w := { st := s, todo := x :: xs ++ b }) rfl
      omega
  | succ k ih =>
    cases a with
    | nil => rfl
    | cons x xs =>
      have less := handled_weight (w := { st := s, todo := x :: (xs ++ b) }) rfl
      change Work.weight { st := s, todo := x :: (xs ++ b) } ≤ k + 1 at enough
      change settle k { st := (handle x (startWork s)).st, todo := (handle x (startWork s)).todo ++ (xs ++ b) } =
        settle (k + 1) { st := (settle k { st := (handle x (startWork s)).st, todo := (handle x (startWork s)).todo ++ xs }).st,
                         todo := b }
      simp only [← List.append_assoc] at less ⊢
      have left : Work.weight { st := (settle k { st := (handle x (startWork s)).st,
                                                  todo := (handle x (startWork s)).todo ++ xs }).st, todo := b } ≤ k := by
        have kept := settle_weight_le k { st := (handle x (startWork s)).st, todo := (handle x (startWork s)).todo ++ xs }
        simp only [Work.weight, Work.told, List.map_append, List.sum_append] at kept less enough ⊢
        omega
      rw [ih (by omega), settle_succ k left]

/-- The notices that stand behind others are worked from the state that these leave. -/
theorem finish_append {a b : List Notice} (enough : Work.weight { st := s, todo := a ++ b } ≤ noticeBound) :
    Work.finish { st := s, todo := a ++ b } = Work.finish { st := Work.finish { st := s, todo := a }, todo := b } :=
  congrArg Work.st (settle_append noticeBound enough)

end

end Sys2Proof.Machine
end

section
/-! The release window expires (R104, R138): what is asked after a discarded frame is heard all the same. -/

namespace Sys2Proof.Machine

section
variable {s t : State} {b c : BayIx} {w : Work} {f : TxFrame} {m : Notice} {a rest : List Notice}

/-! ### Enough turns for a command -/

/-- A command has turns enough for notices that weigh 1128 together. -/
theorem enough_of_told (told : w.told ≤ 1128) : w.weight ≤ noticeBound := by
  have := weight_le w.st
  unfold Work.weight noticeBound
  omega

/-- What a command ends in, from the state in which the notices before a later one leave it. -/
theorem finish_after (todo : w.todo = a ++ rest) (told : w.told ≤ 1128) :
    w.finish = Work.finish { st := Work.finish { st := w.st, todo := a }, todo := rest } := by
  obtain ⟨st, todo'⟩ := w
  subst todo
  exact finish_append (enough_of_told told)

theorem place_todo : ∃ a : List Notice, (place f w).todo = w.todo ++ a ∧ (a = [] ∨ ∃ g, a = [.discarded g]) := by
  unfold place dropFrame
  dsimp only
  split
  · exact ⟨[], (List.append_nil _).symm, .inl rfl⟩
  · next g _ => exact ⟨[.discarded g], rfl, .inr ⟨g, rfl⟩⟩

/-! ### The release that was not used -/

/-- R104: the state whose door is SECURE again. -/
def releaseOver (b : BayIx) (s : State) : State :=
  s.modDoor b fun d =>
    { d with
      state := .secure, latch := .off, release := none, pullIn := none, window := none,
      coolDown := some (s.now + coolDownTime), boltWait := some (s.now + boltWaitTime) }

theorem releaseUnused_eq {r : ReleaseRecord} (release : (s.bay b).door.release = some r) :
    releaseUnused b (startWork s) =
      ((placeEvent 4 (bayByte b) 0 (reasonCode r.reason) .ldc (startWork (releaseOver b s))).raise
        (.releaseAnswered b r .unused)).raise (.doorMoved b false) := by
  unfold releaseUnused
  simp only [startWork, release]
  rfl

theorem releaseOver_bay : (releaseOver b s).bay b = { s.bay b with
    door := (s.bay b).door.unused (s.now + coolDownTime) (s.now + boltWaitTime) } := State.bay_modBay_same ..

theorem releaseUnused_steadied : (releaseUnused b (startWork s)).st.steady =
    (s.modBay b fun y => { y with door := { y.door with coolDown := some (s.now + coolDownTime) } }).steady := by
  have rests : (releaseOver b s).steady =
      (s.modBay b fun y => { y with door := { y.door with coolDown := some (s.now + coolDownTime) } }).steady :=
    steady_modBay_congr rfl
  rw [← rests]
  unfold releaseUnused
  dsimp only
  split <;> exact placeEvent_steady ..

theorem releaseAnswer_unused_custody {r : ReleaseRecord} : ((releaseAnswer b r .unused w).st.bay b).channel.custody =
    if handsOut r.reason = true ∧ (w.st.bay b).present = true ∧ (w.st.bay b).channel.state = .active ∧
        (w.st.bay b).view.identity.all takesCustody = true then some dockedCustody
    else (w.st.bay b).channel.custody := by
  unfold releaseAnswer
  dsimp only
  split
  · next docks =>
    rw [Bool.and_eq_true] at docks
    rw [requestCustody_custody]
    simp only [docks, true_and]
  · next away =>
    rw [Bool.and_eq_true] at away
    rw [if_neg fun all => away ⟨all.1, all.2.1⟩]

/-- R138: what a tablet is told after a release that was not used. -/
theorem releaseUnused_custody (law : BayDoorLaw (s.bay b).door) (releasing : (s.bay b).door.state = .releasing)
    {r : ReleaseRecord} (release : (s.bay b).door.release = some r) :
    ((releaseUnused b (startWork s)).finish.bay b).channel.custody =
      if handsOut r.reason = true ∧ (s.bay b).present = true ∧ (s.bay b).channel.state = .active ∧
          (s.bay b).view.identity.all takesCustody = true then some dockedCustody
      else (s.bay b).channel.custody := by
  rw [releaseUnused_eq release]
  have bay : (placeEvent 4 (bayByte b) 0 (reasonCode r.reason) .ldc (startWork (releaseOver b s))).st.bay b = { s.bay b with
      door := (s.bay b).door.unused (s.now + coolDownTime) (s.now + boltWaitTime) } := by
    rw [placeEvent_bay]
    exact releaseOver_bay
  obtain ⟨a, todo, its⟩ := place_todo (f := eventFrame 4 (bayByte b) 0 (reasonCode r.reason) .ldc) (w := startWork (releaseOver b s))
  change (placeEvent 4 (bayByte b) 0 (reasonCode r.reason) .ldc (startWork (releaseOver b s))).todo = [] ++ a at todo
  generalize placeEvent 4 (bayByte b) 0 (reasonCode r.reason) .ldc (startWork (releaseOver b s)) = p at bay todo ⊢
  have light : (a.map Notice.weight).sum ≤ 1 := by
    rcases its with rfl | ⟨g, rfl⟩
    · exact Nat.zero_le _
    · exact le_rfl
  have among (n : Notice) (told : n ∈ a) : n.frees b = true ∧ n.settles = true ∧ n.drifts = true := by
    rcases its with rfl | ⟨g, rfl⟩
    · cases told
    · rw [List.mem_singleton.1 told]
      exact ⟨rfl, rfl, rfl⟩
  have order : ((p.raise (.releaseAnswered b r .unused)).raise (.doorMoved b false)).todo =
      a ++ [.releaseAnswered b r .unused, .doorMoved b false] := by
    rw [Work.raise_todo, Work.raise_todo, todo, List.nil_append, List.append_assoc]
    rfl
  have told : ((p.raise (.releaseAnswered b r .unused)).raise (.doorMoved b false)).told ≤ 1128 := by
    unfold Work.told
    rw [order, List.map_append, List.sum_append]
    have : (List.map Notice.weight [.releaseAnswered b r .unused, .doorMoved b false]).sum = 8 := rfl
    omega
  rw [finish_after order told]
  have free : (p.st.bay b).door.pendingLane = false := by
    rw [bay]
    exact law.released_none (by rw [releasing]; decide)
  have custody : ((Work.finish { st := p.st, todo := a }).bay b).channel.custody = (p.st.bay b).channel.custody :=
    settle_custody _ (fun n told => (among n told).1) free
  have door : ((Work.finish { st := p.st, todo := a }).bay b).door = (p.st.bay b).door :=
    finish_door (w := { st := p.st, todo := a }) (fun n told => (among n told).2.1) free
  have state : ((Work.finish { st := p.st, todo := a }).bay b).channel.state = (p.st.bay b).channel.state :=
    (finish_drifts (w := { st := p.st, todo := a }) (b := b) fun n told => (among n told).2.2).fed.state
  have steady : (Work.finish { st := p.st, todo := a }).steady = p.st.steady := finish_steady _
  have view := steady_view steady b
  have present := steady_present steady b
  change ((Work.finish { st := Work.finish { st := p.st, todo := a },
                         todo := [.releaseAnswered b r .unused, .doorMoved b false] }).bay b).channel.custody = _
  rw [bay] at custody door state view present
  generalize Work.finish { st := p.st, todo := a } = z at custody door state view present
  rw [finish_custody (w := { st := z, todo := [.releaseAnswered b r .unused, .doorMoved b false] }) rfl (.inr ⟨_, _, rfl⟩)
    (fun n told => by rw [List.mem_singleton.1 told]; rfl) (by
      change (z.bay b).door.pendingLane = false
      rw [door]
      rw [bay] at free
      exact free)]
  change ((releaseAnswer b r .unused (startWork z)).st.bay b).channel.custody = _
  dsimp only at custody state view present
  rw [releaseAnswer_unused_custody, startWork, present, state, view, custody]

theorem releaseUnused_settles : ∀ n ∈ (releaseUnused b (startWork s)).todo, n.settles = true := fun n told =>
  ((releaseUnused_acts (b := b)).told n told).elim (fun none => by cases none) settles_of_ofDoor

/-- Settles O35. -/
theorem latchTimersExpire : Obligations.LatchTimersExpire := by
  intro b d s x
  refine ⟨fun pullIn releasing => ?_, fun coolDown => ?_, fun law window releasing => ?_⟩
  · have pullIn : (s.bay b).door.pullIn = some d := pullIn
    have releasing : (s.bay b).door.state = .releasing := releasing
    simp only [exec, execPullInEnd, pullIn, releasing, if_true]
    rfl
  · have coolDown : (s.bay b).door.coolDown = some d := coolDown
    simp only [exec, execCoolDownEnd, coolDown]
    rfl
  · have window : (s.bay b).door.window = some d := window
    have releasing : (s.bay b).door.state = .releasing := releasing
    have ran : exec (.releaseWindowExpired b) s = .next (releaseUnused b (startWork (s.advanceTo d))).finish := by
      simp only [exec, execReleaseWindowExpired, window, releasing, if_true]
      rfl
    have door := releaseUnused_door b b (startWork (s.advanceTo d))
    rw [if_pos rfl] at door
    have own : ((startWork (s.advanceTo d)).st.bay b).door = (s.bay b).door := rfl
    have free : (s.bay b).door.pendingLane = false := (law b).released_none (by rw [releasing]; decide)
    have settled : ((releaseUnused b (startWork (s.advanceTo d))).finish.bay b).door =
        (s.bay b).door.unused ((s.advanceTo d).now + coolDownTime) ((s.advanceTo d).now + boltWaitTime) := by
      rw [finish_door releaseUnused_settles (by rw [door]; exact free), door]
      rfl
    refine ⟨_, ran, (finish_steady _).trans releaseUnused_steadied, ?_, ?_, ?_, ?_, ?_, ?_, fun r release => ?_,
      fun r release ending room => ?_⟩
    iterate 6 rw [settled]; rfl
    · rw [releaseUnused_custody (s := s.advanceTo d) (law b) releasing release]
      simp only [handsOut_iff]
      rfl
    · have lanes := Still.of_ending ending
      rw [releaseUnused_eq (s := s.advanceTo d) release]
      have placed := placeEvent_of_room (w := startWork (releaseOver b (s.advanceTo d))) 4 (bayByte b) 0
        (reasonCode r.reason) .ldc room
      have event : eventFrame 4 (bayByte b) 0 (reasonCode r.reason) .ldc = newFrame .event 20 toAll
          ([BitVec.ofNat 8 b.val, 0, 0, 0, 0, 0, BitVec.ofNat 8 (reasonCode r.reason), 4]) .ldc := by
        cases r.reason <;> rfl
      rw [placed, event]
      refine (finish_calmed (idle := False) (lanes.of_same (fun _ => rfl) rfl) fun n told => ?_).lkc.trans ?_
      · rcases List.mem_append.1 told with told | told
        · rw [List.mem_singleton.1 told]
          exact .inr rfl
        · rw [List.mem_singleton.1 told]
          trivial
      · rfl

end

end Sys2Proof.Machine
end

section
/-! Notices of other bays' service beside those of the class that drifts, and what a change of attributes does (R121). -/

namespace Sys2Proof.Machine

/-- The notices that enter `b` into no charge state and take no reading. -/
def Notice.driftsAt (b : BayIx) (n : Notice) : Prop := n.drifts = true ∨ ∃ c, c ≠ b ∧ n = .serviceChanged c

/-- The effects of these notices. -/
def Effect.driftsAt (b : BayIx) (e : Effect) : Prop :=
  e.drifts = true ∨ ∃ c, c ≠ b ∧ (e = .enter c ∨ e = .reads c ∨ e = .channelUp c)

section
variable {s t : State} {b c : BayIx} {w : Work} {m n : Notice} {e : Effect} {a rest : List Notice} {k : Nat}

/-! ### Drifting beside the service of other bays -/

theorem Change.driftAt (changed : Change e s t) (drifts : e.driftsAt b) : Drift b s t := by
  rcases drifts with drifts | ⟨c, other, rfl | rfl | rfl⟩
  · exact changed.drift drifts
  · cases changed
    exact .of_apart other.symm
  · cases changed
    unfold requestReads
    split
    · exact .of_apart other.symm
    · exact .of_apart other.symm
    all_goals exact .other rfl rfl rfl rfl rfl
  · cases changed
    exact .of_apart other.symm

theorem driftsAt_of_charging (other : c ≠ b) (h : e ∈ charging c) : e.driftsAt b := by
  rcases h with (((rfl | rfl) | h) | rfl | rfl | rfl | rfl) | h
  · exact .inr ⟨c, other, .inl rfl⟩
  · exact .inl rfl
  · exact .inl (drifts_of_refreshing h)
  · exact .inr ⟨c, other, .inr (.inl rfl)⟩
  · exact .inl rfl
  · exact .inr ⟨c, other, .inr (.inr rfl)⟩
  · exact .inl rfl
  · exact .inl (drifts_of_writing h)

/-- Working a notice of the class drifts, and tells notices of the class. -/
theorem handle_driftsAt (drifts : n.driftsAt b) : ∃ can : Set Effect, (∀ e ∈ can, e.driftsAt b) ∧ Acts can w (handle n w) := by
  rcases drifts with drifts | ⟨c, other, rfl⟩
  · obtain ⟨can, all, acts⟩ := handle_drifts (w := w) drifts
    exact ⟨can, fun e among => .inl (all e among), acts⟩
  · exact ⟨charging c, fun e => driftsAt_of_charging other, handle_acts (.serviceChanged c) w⟩

theorem Acts.driftsAt {can : Set Effect} {v : Work} (acts : Acts can w v) (drifts : ∀ e ∈ can, e.driftsAt b) :
    Drifts b w.st v.st :=
  acts.keeps (P := Drifts b w.st) (fun e may _ _ changed before => before.tail (changed.driftAt (drifts e may))) .refl

theorem finish_driftsAt (start : ∀ n ∈ w.todo, n.driftsAt b) : Drifts b w.st w.finish := by
  refine settle_keeps (P := Drifts b w.st) (Q := Notice.driftsAt b) (fun n s among before => ?_) _ w .refl start
  obtain ⟨can, drifts, acts⟩ := handle_driftsAt (w := startWork s) among
  refine ⟨before.trans (acts.driftsAt drifts), fun m told => ?_⟩
  rcases acts.told m told with earlier | now
  · cases earlier
  · rcases drifts _ now with drifts | ⟨c, -, its | its | its⟩
    · exact .inl drifts
    all_goals cases its

/-- A notice is worked, and then those that it raises and those behind it. -/
theorem finish_next (todo : w.todo = n :: rest) (enough : w.weight ≤ noticeBound) :
    w.finish = Work.finish { st := (handle n (startWork w.st)).st, todo := (handle n (startWork w.st)).todo ++ rest } := by
  have less := handled_weight todo
  rw [finish_of_first todo, Work.finish]
  exact (congrArg Work.st (settle_succ 4095 (by
    have bound : noticeBound = 4096 := rfl
    omega))).symm

/-! ### The service of a bay -/

/-- A notice of the service of a bay behind notices that drift: the state in which it finds the station, and the state in
which it and those behind it leave it. -/
theorem finish_service (todo : w.todo = a ++ .serviceChanged b :: rest) (light : w.weight ≤ noticeBound)
    (before : ∀ n ∈ a, n.driftsAt b) (after : ∀ n ∈ rest, n.driftsAt b) :
    ∃ z : State, Drifts b w.st z ∧ z.steady = w.st.steady ∧ Drifts b (serviceChanged b (startWork z)).st w.finish := by
  refine ⟨Work.finish { st := w.st, todo := a }, finish_driftsAt (w := { st := w.st, todo := a }) before,
    finish_steady _, ?_⟩
  obtain ⟨st, waiting⟩ := w
  subst todo
  rw [finish_append light]
  have less := settle_weight_le noticeBound { st, todo := a }
  have finished : Work.weight { st := Work.finish { st, todo := a }, todo := .serviceChanged b :: rest } ≤ noticeBound := by
    simp only [Work.weight, Work.told, List.map_append, List.sum_append] at less light ⊢
    change (Work.finish { st, todo := a }).weight + _ ≤ _ at less
    omega
  dsimp only
  generalize Work.finish { st, todo := a } = z at finished ⊢
  rw [finish_next (w := { st := z, todo := .serviceChanged b :: rest }) rfl finished]
  refine finish_driftsAt (w := ⟨(handle (.serviceChanged b) (startWork z)).st,
    (handle (.serviceChanged b) (startWork z)).todo ++ rest⟩) fun n among => ?_
  rcases List.mem_append.1 among with raised | later
  · rcases (handle_acts (.serviceChanged b) (startWork z)).told n raised with earlier | now
    · cases earlier
    · exact .inl (drifts_of_charging now)
  · exact after n later

/-! ### Steady parts -/

/-- The steady part of a change of a bay reads the steady part of the state and of the bay. -/
theorem steady_modBay_of_steady {f g : Bay → Bay} (same : t.steady = s.steady)
    (agrees : (f (t.bay b)).steady = (g (s.bay b)).steady) : (t.modBay b f).steady = (s.modBay b g).steady := by
  have set (u : State) (f : Bay → Bay) : (u.modBay b f).steady =
      { u.steady with bays := u.steady.bays.set b.val (f (u.bay b)).steady } := by
    have bays : (u.modBay b f).bays.map Bay.steady = (u.bays.map Bay.steady).set b.val (f (u.bay b)).steady := by
      apply Vector.ext
      intro i hi
      simp only [Vector.getElem_map, State.modBay, State.setBay, Vector.getElem_set]
      split <;> rfl
    simp only [State.steady, bays]
    rfl
  rw [set, set, same, agrees]

/-! ### A change of attributes -/

theorem cancelClaim_eq {c : PendingClaim} (claim : (w.st.bay b).claim = some c) : cancelClaim b w =
    clearClaim b ((if c.inWindow then w else withdraw (slotAnswer .offer c.reader c.sequence) w).upd fun s =>
      s.modSlot c.reader c.sequence fun x => { x with own := .none }) := by
  unfold cancelClaim
  rw [claim]

/-- The state in which the claim of a bay has been cancelled. -/
def claimCancelled (b : BayIx) (c : PendingClaim) (s : State) : State :=
  ((if c.inWindow then s else s.modLkc fun l =>
    { l with queue := withdrawFrames (slotAnswer .offer c.reader c.sequence) l.queue }).emptied c.reader c.sequence).modBay b
    fun x => { x with claim := none }

theorem cancelClaim_st {c : PendingClaim} (claim : (w.st.bay b).claim = some c) :
    (cancelClaim b w).st = claimCancelled b c w.st := by
  rw [cancelClaim_eq claim]
  unfold clearClaim claimCancelled
  rw [Work.raise_st, Work.upd_st, Work.upd_st]
  split <;> rfl

theorem claimCancelled_steady (c : PendingClaim) : (claimCancelled b c s).steady = s.steady := by
  unfold claimCancelled
  rw [steady_modBay (f := fun x => { x with claim := none }) fun _ => rfl, emptied_steady]
  split
  · rfl
  · exact steady_modLkc fun _ => rfl

theorem claimCancelled_bay (x : PendingClaim) : (claimCancelled b x s).bay c =
    if c = b then { s.bay b with claim := none } else s.bay c := by
  unfold claimCancelled
  rw [State.bay_modBay_at]
  have same (d : BayIx) : ((if x.inWindow then s else s.modLkc fun l =>
      { l with queue := withdrawFrames (slotAnswer .offer x.reader x.sequence) l.queue }).emptied x.reader x.sequence).bay d =
      s.bay d := by
    rw [emptied_bay]
    split <;> rfl
  split
  · next own => rw [same, own]
  · exact same c

/-- What a change of attributes makes of the state. -/
def attrsChanged (b : BayIx) (new : BayAttrs) (s : State) : State :=
  match cancelsClaim (s.bay b).attrs new, (s.bay b).claim with
  | true, some c => claimCancelled b c (s.modBay b fun x => { x with attrs := new })
  | _, _ => s.modBay b fun x => { x with attrs := new }

theorem attrsChanged_cancelled {new : BayAttrs} {c : PendingClaim} (cancels : cancelsClaim (s.bay b).attrs new = true)
    (claim : (s.bay b).claim = some c) :
    attrsChanged b new s = claimCancelled b c (s.modBay b fun x => { x with attrs := new }) := by
  simp only [attrsChanged, cancels, claim]

theorem attrsChanged_kept {new : BayAttrs} (keeps : cancelsClaim (s.bay b).attrs new = false ∨ (s.bay b).claim = none) :
    attrsChanged b new s = s.modBay b fun x => { x with attrs := new } := by
  unfold attrsChanged
  rcases keeps with keeps | none
  · rw [keeps]
  · rw [none]
    cases cancelsClaim (s.bay b).attrs new <;> rfl

theorem attrsChanged_steady (new : BayAttrs) :
    (attrsChanged b new s).steady = (s.modBay b fun x => { x with attrs := new }).steady := by
  unfold attrsChanged
  split
  · exact claimCancelled_steady _
  · rfl

/-- A change of attributes leaves a bay but for its attributes and its claim. -/
theorem attrsChanged_bay (new : BayAttrs) (c : BayIx) : ∃ claim, (attrsChanged b new s).bay c =
    if c = b then { s.bay b with attrs := new, claim := claim } else s.bay c := by
  have changed : (s.modBay b fun x => { x with attrs := new }).bay b = { s.bay b with attrs := new } := State.bay_modBay_same ..
  unfold attrsChanged
  split
  · refine ⟨none, ?_⟩
    rw [claimCancelled_bay]
    split
    · rw [changed]
    · next other => exact State.bay_modBay_other _ other _
  · refine ⟨(s.bay b).claim, ?_⟩
    split
    · next own => rw [own, changed]
    · next other => exact State.bay_modBay_other _ other _

theorem raiseIf_todo (p : Bool) (m : Notice) (w : Work) : (w.raiseIf p m).todo = w.todo ++ if p = true then [m] else [] := by
  cases p
  · exact (List.append_nil _).symm
  · rfl

/-- What a change of attributes tells. -/
def attrsNotices (b : BayIx) (old new : BayAttrs) (claim : Option PendingClaim) : List Notice :=
  (if cancelsClaim old new = true ∧ claim.isSome = true then [.reevaluate b] else []) ++
    ((if (new.outOfService != old.outOfService) = true then [.serviceChanged b] else []) ++
      ((if (new.reserved != old.reserved) = true then [.wishInput b] else []) ++
        if (new.group != old.group || new.optOut != old.optOut || new.outOfService != old.outOfService) = true then
          [.reevaluate b]
        else []))

theorem cancelClaim_todo : (cancelClaim b w).todo = w.todo ++ if (w.st.bay b).claim.isSome = true then [.reevaluate b] else [] := by
  cases claim : (w.st.bay b).claim with
  | none => simp [cancelClaim, claim]
  | some c =>
    rw [cancelClaim_eq claim]
    simp only [clearClaim, Work.raise_todo, Work.upd_todo, Option.isSome_some, if_true]
    split <;> rfl

theorem setAttrs_eq (new : BayAttrs) : setAttrs b new w =
    { st := attrsChanged b new w.st, todo := w.todo ++ attrsNotices b (w.st.bay b).attrs new (w.st.bay b).claim } := by
  have claim : ((w.upd fun s => s.modBay b fun x => { x with attrs := new }).st.bay b).claim = (w.st.bay b).claim :=
    State.read_modBay _ b b (·.claim) fun _ => rfl
  have st : (setAttrs b new w).st = attrsChanged b new w.st := by
    unfold setAttrs
    simp only [Work.raiseIf_st]
    cases cancels : cancelsClaim (w.st.bay b).attrs new with
    | false =>
      rw [if_neg Bool.false_ne_true, attrsChanged_kept (.inl cancels)]
      rfl
    | true =>
      rw [if_pos rfl]
      cases its : (w.st.bay b).claim with
      | none =>
        rw [attrsChanged_kept (.inr its)]
        unfold cancelClaim
        rw [claim, its]
        rfl
      | some c =>
        rw [attrsChanged_cancelled cancels its, cancelClaim_st (claim.trans its)]
        rfl
  have todo : (setAttrs b new w).todo = w.todo ++ attrsNotices b (w.st.bay b).attrs new (w.st.bay b).claim := by
    unfold setAttrs attrsNotices
    simp only [raiseIf_todo, List.append_assoc]
    cases cancels : cancelsClaim (w.st.bay b).attrs new with
    | false => simp
    | true =>
      rw [if_pos rfl, cancelClaim_todo, claim, List.append_assoc]
      simp
  exact congrArg₂ Work.mk st todo

end

end Sys2Proof.Machine
end

section
/-! BAYSET (R62, R76, R121, R122, R131). -/

namespace Sys2Proof.Machine

/-- The command of a field of a BAYSET. -/
def fieldCommand : BaysetField → Instr
  | .group => .baysetGroup
  | .openLevel => .baysetOpenLevel
  | .reserved => .baysetReserved
  | .outOfService => .baysetOutOfService
  | .optOut => .baysetProvOptOut
  | .clearFault => .baysetClearFault

section
variable {s t : State} {b : BayIx} {w : Work} {n : Notice} {new : BayAttrs} {field : BaysetField} {f : RxFrame} {e : CredentialEntry}

/-! ### The command of a field -/

theorem exec_field (field : BaysetField) (s : State) : exec (fieldCommand field) s = takeBayset field s := by
  cases field <;> rfl

theorem mem_fieldCommands {i : Instr} (h : i ∈ [.baysetGroup, .baysetOpenLevel, .baysetReserved, .baysetOutOfService,
    .baysetProvOptOut, .baysetClearFault]) : ∃ field, i = fieldCommand field := by
  simp only [List.mem_cons, List.not_mem_nil, or_false] at h
  rcases h with rfl | rfl | rfl | rfl | rfl | rfl
  exacts [⟨.group, rfl⟩, ⟨.openLevel, rfl⟩, ⟨.reserved, rfl⟩, ⟨.outOfService, rfl⟩, ⟨.optOut, rfl⟩, ⟨.clearFault, rfl⟩]

theorem authoriser_eq_some_iff {number : Word32} : authoriser s number = some e ↔
    lookupCredential s.csu.credentials number = some e ∧ e.suspended = false := by
  unfold authoriser
  rw [Option.filter_eq_some_iff, Bool.not_eq_true']

/-- A field is the next one of a mask when its bit is set and no lower one is. -/
theorem isNext_of_lowest {mask : Byte} (its : mask.getLsbD (fieldBit field) = true)
    (low : ∀ j < fieldBit field, mask.getLsbD j = false) : isNext field mask = true := by
  have above : ∀ j : Fin 8, fieldBit field ≤ j.val → ((1#8 <<< fieldBit field) - 1#8).getLsbD j.val = false := by
    cases field <;> decide
  have none : namedBits mask &&& ((1#8 <<< fieldBit field) - 1#8) = 0#8 := by
    refine BitVec.eq_of_getLsbD_eq fun j small => ?_
    rw [BitVec.getLsbD_and, BitVec.getLsbD_zero]
    by_cases below : j < fieldBit field
    · rw [namedBits, BitVec.getLsbD_and, low j below, Bool.false_and, Bool.false_and]
    · rw [above ⟨j, small⟩ (Nat.le_of_not_lt below), Bool.and_false]
  rw [isNext, its, Bool.true_and]
  exact beq_iff_eq.2 none

theorem takeBayset_unknown (held : s.hands.csu = some f) (kind : f.kind = .bayset)
    (unknown : ¬ ∃ e, lookupCredential s.csu.credentials (word32At f.body 0) = some e ∧ e.suspended = false) :
    takeBayset field s = carryOut (s.setHand none .csu) (rejectAuthority 1 (word32At f.body 0)) := by
  have hand : s.hand .csu = some f := held
  have none : authoriser s (readBayset f.body).authoriser = none := by
    rw [Option.eq_none_iff_forall_ne_some]
    exact fun e its => unknown ⟨e, authoriser_eq_some_iff.1 its⟩
  simp only [takeBayset, hand, kind, if_true, none]
  rfl

theorem takeBayset_ended (held : s.hands.csu = some f) (kind : f.kind = .bayset)
    (known : lookupCredential s.csu.credentials (word32At f.body 0) = some e ∧ e.suspended = false)
    (ends : 8 ≤ (byteAt f.body 4).toNat ∨ s.cfl.populated ≤ (byteAt f.body 4).toNat ∨ byteAt f.body 5 &&& 0x3F = 0) :
    takeBayset field s = .next (s.setHand none .csu) := by
  have hand : s.hand .csu = some f := held
  have author : authoriser s (readBayset f.body).authoriser = some e := authoriser_eq_some_iff.2 known
  simp only [takeBayset, hand, kind, if_true, author]
  split
  · next there =>
    have there : (byteAt f.body 4).toNat < 8 ∧ (byteAt f.body 4).toNat < s.cfl.populated := there
    have unnamed : namedBits (readBayset f.body).mask = 0 := by
      rcases ends with beyond | absent | unnamed
      · omega
      · omega
      · exact unnamed
    have not_next : isNext field (readBayset f.body).mask = false := by
      rw [← Bool.not_eq_true]
      intro next
      rw [isNext, Bool.and_eq_true] at next
      have small : fieldBit field < 8 := by cases field <;> decide
      have named : (namedBits (readBayset f.body).mask).getLsbD (fieldBit field) = true := by
        have inside : (0x3F#8).getLsbD (fieldBit field) = true := by cases field <;> rfl
        rw [namedBits, BitVec.getLsbD_and, next.1, inside]
        rfl
      rw [unnamed] at named
      simp at named
    rw [not_next, if_neg Bool.false_ne_true, if_pos unnamed]
  · rfl

theorem takeBayset_taken (held : s.hands.csu = some f) (kind : f.kind = .bayset)
    (known : lookupCredential s.csu.credentials (word32At f.body 0) = some e ∧ e.suspended = false)
    (index : (byteAt f.body 4).toNat = b.val) (there : b.val < s.cfl.populated)
    (its : (byteAt f.body 5).getLsbD (fieldBit field) = true) (low : ∀ j < fieldBit field, (byteAt f.body 5).getLsbD j = false) :
    takeBayset field s =
      carryOut (s.setHand (remainingBayset field f) .csu) (takeField field e (readBayset f.body) b) := by
  have hand : s.hand .csu = some f := held
  have author : authoriser s (readBayset f.body).authoriser = some e := authoriser_eq_some_iff.2 known
  have next : isNext field (readBayset f.body).mask = true := isNext_of_lowest its low
  have counted : (readBayset f.body).bay < 8 ∧ (readBayset f.body).bay < s.cfl.populated := by
    have index : (readBayset f.body).bay = b.val := index
    omega
  have bay : (⟨(readBayset f.body).bay, counted.1⟩ : BayIx) = b := Fin.ext index
  simp only [takeBayset, hand, kind, if_true, author, dif_pos counted, next, bay]

/-! ### Attributes that change -/

theorem attrsNotices_calm {idle : Prop} {old : BayAttrs} {claim : Option PendingClaim} :
    ∀ n ∈ attrsNotices b old new claim, Calm idle n := by
  intro n among
  simp only [attrsNotices, List.mem_append, List.mem_ite_nil_right, List.mem_singleton] at among
  rcases among with ⟨-, rfl⟩ | ⟨-, rfl⟩ | ⟨-, rfl⟩ | ⟨-, rfl⟩ <;> trivial

theorem claimCancelled_lkc (c : PendingClaim) : (claimCancelled b c s).lkc =
    if c.inWindow = true then s.lkc
    else { s.lkc with queue := withdrawFrames (slotAnswer .offer c.reader c.sequence) s.lkc.queue } := by
  have emptied (u : State) : (u.emptied c.reader c.sequence).lkc = u.lkc := by
    rcases emptied_cases u c.reader c.sequence with ⟨stays, -⟩ | ⟨x, -, -, its⟩
    · rw [stays]
    · rw [its]
      rfl
  unfold claimCancelled
  rw [State.modBay_lkc, emptied]
  split <;> rfl

theorem claimCancelled_pvs (c : PendingClaim) : (claimCancelled b c s).pvs = s.pvs := by
  have emptied (u : State) : (u.emptied c.reader c.sequence).pvs = u.pvs := by
    rcases emptied_cases u c.reader c.sequence with ⟨stays, -⟩ | ⟨x, -, -, its⟩
    · rw [stays]
    · rw [its]
      rfl
  unfold claimCancelled
  rw [State.modBay_pvs, emptied]
  split <;> rfl

theorem claimCancelled_slot (c : PendingClaim) (r : Reader) : (claimCancelled b c s).slot r =
    (s.emptied c.reader c.sequence).slot r := by
  have slots (u : State) (same : u.csu = s.csu) : (u.emptied c.reader c.sequence).slot r = (s.emptied c.reader c.sequence).slot r := by
    have slot (k : Reader) : u.slot k = s.slot k := by
      unfold State.slot
      rw [same]
    rcases emptied_cases s c.reader c.sequence with ⟨stays, free⟩ | ⟨x, held, seq, its⟩
    · rw [stays, State.emptied, modSlot_of_free (by rw [slot]; exact free), slot]
    · rw [its, emptied_held ((slot _).trans held) seq]
      unfold State.slot State.setSlot State.modCsu
      rw [same]
  unfold claimCancelled
  exact slots _ (by split <;> rfl)

/-- R121, R131: the attributes of a bay after a change, and what the change cancels. -/
theorem attrs_taken (s : State) (b : BayIx) (new : BayAttrs) (t : State) (its : t = (setAttrs b new (startWork s)).finish) :
    t.steady = (s.modBay b fun x => { x with attrs := new }).steady ∧
    (new = (s.bay b).attrs → t = s.modBay b fun x => { x with attrs := (s.bay b).attrs }) ∧
    (cancelsClaim (s.bay b).attrs new = true → ∀ c : PendingClaim, (s.bay b).claim = some c →
      (t.bay b).claim = none ∧
      (∀ x : PresentationSlot, s.slot c.reader = some x → x.sequence = c.sequence →
        t.slot c.reader = some { x with own := .none }) ∧
      (lanesQuiet s →
        (∀ x : PresentationSlot, s.slot c.reader = some x → x.sequence ≠ c.sequence → t.slot c.reader = some x) ∧
        (c.inWindow = true → t.lkc = s.lkc) ∧
        (c.inWindow = false → t.lkc = { s.lkc with
          queue := withdrawFrames (slotAnswer .offer c.reader c.sequence) s.lkc.queue }))) ∧
    (cancelsClaim (s.bay b).attrs new = false → lanesQuiet s →
      t.lkc = s.lkc ∧ t.csu.slots = s.csu.slots ∧ (t.bay b).claim = (s.bay b).claim) := by
  subst its
  have work := setAttrs_eq (b := b) (w := startWork s) new
  have st : (setAttrs b new (startWork s)).st = attrsChanged b new s := congrArg Work.st work
  have todo : (setAttrs b new (startWork s)).todo = attrsNotices b (s.bay b).attrs new (s.bay b).claim := congrArg Work.todo work
  generalize setAttrs b new (startWork s) = w at st todo ⊢
  have calmed (quiet : lanesQuiet w.st) : Calmed w.st w.finish :=
    finish_calmed (Still.of_quiet quiet) fun n among => attrsNotices_calm n (todo ▸ among)
  refine ⟨(finish_steady w).trans (st ▸ attrsChanged_steady new), fun same => ?_, fun cancels c claim => ?_, fun keeps quiet => ?_⟩
  · subst same
    have none : cancelsClaim (s.bay b).attrs (s.bay b).attrs = false := by simp [cancelsClaim]
    have still : w.todo = [] := by
      rw [todo]
      simp [attrsNotices, none]
    rw [finish_of_quiet still, st, attrsChanged_kept (.inl none)]
  · rw [attrsChanged_cancelled cancels claim] at st
    have gone : (w.st.bay b).claim = none := by
      rw [st, claimCancelled_bay, if_pos rfl]
    refine ⟨finish_noClaim gone, fun x held same => finish_slotNone ?_, fun quiet => ?_⟩
    · rw [st, claimCancelled_slot, emptied_held (s := s.modBay b fun x => { x with attrs := new }) held same,
        State.slot_setSlot_same]
    · have pvs : w.st.pvs = s.pvs := by
        rw [st, claimCancelled_pvs]
        rfl
      have calm := calmed (lanesQuiet_of_same quiet pvs)
      rw [calm.lkc, st, claimCancelled_lkc]
      refine ⟨fun x held other => ?_, fun window => ?_, fun queued => ?_⟩
      · have slot : w.finish.slot c.reader = w.st.slot c.reader := by
          unfold State.slot
          rw [calm.csu]
        have free : ¬ ∃ y, (s.modBay b fun x => { x with attrs := new }).slot c.reader = some y ∧ y.sequence = c.sequence := by
          rintro ⟨y, its, same⟩
          have its : s.slot c.reader = some y := its
          rw [held] at its
          cases its
          exact other same
        rw [slot, st, claimCancelled_slot, State.emptied, modSlot_of_free free]
        exact held
      · rw [if_pos window]
        rfl
      · rw [if_neg (by rw [queued]; exact Bool.false_ne_true)]
        rfl
  · rw [attrsChanged_kept (.inl keeps)] at st
    have calm := calmed (lanesQuiet_of_same quiet (by rw [st]; rfl))
    refine ⟨?_, ?_, ?_⟩
    · rw [calm.lkc, st]
      rfl
    · rw [calm.csu, st]
      rfl
    · rw [calm.claim, st]
      exact State.read_modBay _ b b (·.claim) fun _ => rfl

/-! ### Out of service and back -/

/-- The charge section of a bay at rest without its timers and watches. -/
structure Charge.Shut (c : Charge) : Prop where
  grant : c.grant = 0
  limit : c.limit = 0
  wish : c.wish = 0
  unmanagedTimer : c.unmanagedTimer = none
  shortHold : c.shortHold = none
  overdraw : c.overdraw = 0

theorem Drifts.shut (h : Drifts b s t) (apart : takesPart (s.bay b).charge.state = false) (shut : (s.bay b).charge.Shut) :
    (t.bay b).charge.Shut ∧ (t.bay b).charge.state = (s.bay b).charge.state ∧
      (t.bay b).charge.identTimer = (s.bay b).charge.identTimer ∧ (t.bay b).charge.voltage = (s.bay b).charge.voltage := by
  have rested := h.rested apart shut.grant shut.limit shut.wish
  refine ⟨⟨rested.grant, rested.limit, rested.wish, rested.unmanagedTimer.trans shut.unmanagedTimer, ?_, ?_⟩, rested.state,
    rested.identTimer, rested.voltage⟩
  · exact rested.shortHold.elim (·.trans shut.shortHold) id
  · exact rested.overdraw.elim (·.trans shut.overdraw) id

/-- An entry that shuts the charge section. -/
theorem entered_shut (st : ChargeState) (f : State → Charge → Charge) (apart : takesPart st = false)
    (state : ∀ u c, (f u c).state = c.state) (grant : ∀ u c, (f u c).grant = c.grant ∧ (f u c).limit = c.limit)
    (timers : ∀ u c, (f u c).unmanagedTimer = none)
    (watches : ∀ u c, c.overdraw = 0 ∧ c.shortHold = none → (f u c).overdraw = 0 ∧ (f u c).shortHold = none)
    (moves : (w.st.bay b).charge.state ≠ st ∨ ∀ u c, (f u c).overdraw = 0 ∧ (f u c).shortHold = none) :
    ((entered b st f w).st.bay b).charge.Shut ∧ ((entered b st f w).st.bay b).charge.state = st := by
  obtain ⟨u, v, -, -, -, charge, its⟩ := entered_charge (b := b) (w := w) st f
  have rests : takesPart (v.bay b).charge.state = false := by
    rw [charge, state]
    simpa [withGrant] using apart
  rw [its]
  have watch : (f u (withGrant 0 ((w.st.bay b).charge.moved st))).overdraw = 0 ∧
      (f u (withGrant 0 ((w.st.bay b).charge.moved st))).shortHold = none := by
    have stopped (other : (w.st.bay b).charge.state ≠ st) : (withGrant 0 ((w.st.bay b).charge.moved st)).overdraw = 0 ∧
        (withGrant 0 ((w.st.bay b).charge.moved st)).shortHold = none := by
      simp [Charge.moved, other, apart, withGrant, portLimit_zero]
    rcases moves with other | both
    · exact watches u _ (stopped other)
    · exact both u _
  refine ⟨⟨?_, ?_, wishOf_resting rests, timers u _, watch.2, watch.1⟩, ?_⟩
  · exact (grant u _).1
  · exact (grant u _).2.trans (portLimit_zero _)
  · simp [state, withGrant]

theorem enterOutOfService_shut : ((enterOutOfService b w).st.bay b).charge.Shut ∧
    ((enterOutOfService b w).st.bay b).charge.state = .outOfService ∧
      ((enterOutOfService b w).st.bay b).charge.identTimer = none := by
  obtain ⟨u, v, -, -, -, -, its⟩ := entered_charge (b := b) (w := w) .outOfService retiredCharge
  obtain ⟨shut, state⟩ := entered_shut (b := b) (w := w) .outOfService retiredCharge rfl (fun _ _ => rfl) (fun _ _ => ⟨rfl, rfl⟩)
    (fun _ _ => rfl) (fun _ _ _ => ⟨rfl, rfl⟩) (.inr fun _ _ => ⟨rfl, rfl⟩)
  rw [enterOutOfService_eq, Work.raise_st]
  exact ⟨shut, state, by rw [its]; rfl⟩

theorem enterVacant_shut : ((enterVacant b w).st.bay b).charge.Shut ∧ ((enterVacant b w).st.bay b).charge.state = .vacant ∧
    ((enterVacant b w).st.bay b).charge.voltage = 5 ∧ ((enterVacant b w).st.bay b).charge.identTimer = none := by
  obtain ⟨shut, state⟩ := entered_shut (b := b) (w := w) .vacant vacantCharge rfl (fun _ _ => rfl) (fun _ _ => ⟨rfl, rfl⟩)
    (fun _ _ => rfl) (fun _ _ _ => ⟨rfl, rfl⟩) (.inr fun _ _ => ⟨rfl, rfl⟩)
  obtain ⟨-, voltage, timer, -⟩ := entered_vacant (b := b) (w := w)
  rw [enterVacant_eq, Work.raise_st]
  exact ⟨shut, state, voltage, timer⟩

theorem enterIdentifying_shut (other : (w.st.bay b).charge.state ≠ .identifying) :
    ((enterIdentifying b false w).st.bay b).charge.Shut ∧ ((enterIdentifying b false w).st.bay b).charge.state = .identifying ∧
      ((enterIdentifying b false w).st.bay b).charge.identTimer = some (w.st.now + 3000) := by
  obtain ⟨shut, state⟩ := entered_shut (b := b) (w := w) .identifying (identifyingCharge false) rfl (fun _ _ => rfl)
    (fun _ _ => ⟨rfl, rfl⟩) (fun _ _ => rfl) (fun _ _ still => still) (.inl other)
  obtain ⟨-, timer, -⟩ := entered_identifying (b := b) (w := w) false
  rw [enterIdentifying_eq, if_neg Bool.false_ne_true, requestIdentification_charge]
  exact ⟨shut, state, timer⟩

theorem drifts_attrsNotices {old : BayAttrs} {claim : Option PendingClaim} (same : new.outOfService = old.outOfService) :
    ∀ n ∈ attrsNotices b old new claim, n.drifts = true := by
  intro n among
  simp only [attrsNotices, same, List.mem_append, List.mem_ite_nil_right, List.mem_singleton, bne_self_eq_false] at among
  rcases among with ⟨-, rfl⟩ | ⟨no, -⟩ | ⟨-, rfl⟩ | ⟨-, rfl⟩ <;> first | rfl | cases no

/-- The notices of a change of service: those that drift, the service of the bay, and those that drift. -/
theorem attrsNotices_service {old : BayAttrs} {claim : Option PendingClaim} (other : new.outOfService ≠ old.outOfService) :
    ∃ x y : List Notice, attrsNotices b old new claim = x ++ .serviceChanged b :: y ∧ (∀ n ∈ x, n.drifts = true) ∧
      (∀ n ∈ y, n.drifts = true) ∧ ((attrsNotices b old new claim).map Notice.weight).sum ≤ 262 := by
  have changes : (new.outOfService != old.outOfService) = true := bne_iff_ne.2 other
  refine ⟨if cancelsClaim old new = true ∧ claim.isSome = true then [.reevaluate b] else [],
    (if (new.reserved != old.reserved) = true then [.wishInput b] else []) ++
      if (new.group != old.group || new.optOut != old.optOut || new.outOfService != old.outOfService) = true then
        [.reevaluate b]
      else [], ?_, fun n among => ?_, fun n among => ?_, ?_⟩
  · rw [attrsNotices, if_pos changes]
    rfl
  · simp only [List.mem_ite_nil_right, List.mem_singleton] at among
    rw [among.2]
    rfl
  · simp only [List.mem_append, List.mem_ite_nil_right, List.mem_singleton] at among
    rcases among with ⟨-, rfl⟩ | ⟨-, rfl⟩ <;> rfl
  · simp only [attrsNotices, List.map_append, List.sum_append]
    have light (p : Prop) [Decidable p] (m : Notice) : ((if p then [m] else []).map Notice.weight).sum ≤ m.weight := by
      split <;> simp
    have first := light (cancelsClaim old new = true ∧ claim.isSome = true) (.reevaluate b)
    have second := light ((new.outOfService != old.outOfService) = true) (.serviceChanged b)
    have third := light ((new.reserved != old.reserved) = true) (.wishInput b)
    have fourth := light ((new.group != old.group || new.optOut != old.optOut || new.outOfService != old.outOfService) = true)
      (.reevaluate b)
    simp only [Notice.weight] at first second third fourth
    omega

/-- R62: the service of a bay, once the notices before it are worked. -/
theorem attrs_service (s : State) (b : BayIx) (other : new.outOfService ≠ (s.bay b).attrs.outOfService) :
    ∃ z : State, Drifts b (attrsChanged b new s) z ∧ z.steady = (attrsChanged b new s).steady ∧
      Drifts b (serviceChanged b (startWork z)).st (setAttrs b new (startWork s)).finish := by
  rw [setAttrs_eq]
  change ∃ z : State, Drifts b (attrsChanged b new s) z ∧ z.steady = (attrsChanged b new s).steady ∧
    Drifts b (serviceChanged b (startWork z)).st
      (Work.finish { st := attrsChanged b new s, todo := [] ++ attrsNotices b (s.bay b).attrs new (s.bay b).claim })
  obtain ⟨x, y, its, before, later, light⟩ := attrsNotices_service (b := b) (claim := (s.bay b).claim) other
  refine finish_service (w := { st := attrsChanged b new s,
                                todo := [] ++ attrsNotices b (s.bay b).attrs new (s.bay b).claim }) its ?_
    (fun n among => .inl (before n among)) fun n among => .inl (later n among)
  exact enough_of_told (light.trans (by omega))

end

end Sys2Proof.Machine
end

section
/-! Settles O41: the fields of a BAYSET. -/

namespace Sys2Proof.Machine

section
variable {s t : State} {b : BayIx} {w : Work} {new : BayAttrs} {field : BaysetField} {f : RxFrame} {e : CredentialEntry}

theorem cancelsClaim_iff {old : BayAttrs} : cancelsClaim old new = true ↔ (new.reserved = true ∧ old.reserved = false) ∨
    (new.outOfService = true ∧ old.outOfService = false) ∨ new.group ≠ old.group := by
  simp only [cancelsClaim, Bool.or_eq_true, Bool.and_eq_true, Bool.not_eq_true', bne_iff_ne, or_assoc]

/-- A permitted field changes the attributes as `setAttrs` does; one that is not permitted frees the hand alone. -/
theorem takeField_attrs (other : field ≠ .clearFault) (body : BaysetBody) :
    (roleLevel e.role ≤ fieldLevel field → takeField field e body b w = setAttrs b (applyField field body (w.st.bay b).attrs) w) ∧
      (fieldLevel field < roleLevel e.role → takeField field e body b w = w) := by
  refine ⟨fun permitted => ?_, fun denied => ?_⟩
  · unfold takeField
    rw [if_pos permitted]
    cases field
    case clearFault => exact absurd rfl other
    all_goals rfl
  · unfold takeField
    rw [if_neg (by omega)]

/-- A BAYSET's command of a field that changes an attribute. -/
theorem takeBayset_attrs (other : field ≠ .clearFault) (held : s.hands.csu = some f) (kind : f.kind = .bayset)
    (known : lookupCredential s.csu.credentials (word32At f.body 0) = some e ∧ e.suspended = false)
    (index : (byteAt f.body 4).toNat = b.val) (there : b.val < s.cfl.populated)
    (next : (byteAt f.body 5).getLsbD (fieldBit field) = true ∧ ∀ j < fieldBit field, (byteAt f.body 5).getLsbD j = false) :
    ∃ t, takeBayset field s = .next t ∧
      (roleLevel e.role ≤ fieldLevel field → t = (setAttrs b (applyField field (readBayset f.body) (s.bay b).attrs)
        (startWork (s.setHand (remainingBayset field f) .csu))).finish) ∧
      (fieldLevel field < roleLevel e.role → t = s.setHand (remainingBayset field f) .csu) := by
  rw [takeBayset_taken held kind known index there next.1 next.2]
  obtain ⟨permits, denies⟩ := takeField_attrs (b := b) (e := e) (w := startWork (s.setHand (remainingBayset field f) .csu))
    other (readBayset f.body)
  refine ⟨_, rfl, fun permitted => ?_, fun denied => ?_⟩
  · rw [permits permitted]
    rfl
  · rw [denies denied]
    exact finish_of_quiet rfl

theorem clearFault_cases (e : CredentialEntry) (body : BaysetBody) (b : BayIx) (s : State) :
    (roleLevel e.role = 0 ∧ (s.bay b).charge.state = .fault ∧
      takeField .clearFault e body b (startWork s) = enterIdentifying b false (startWork s)) ∨
    ((roleLevel e.role ≠ 0 ∨ (s.bay b).charge.state ≠ .fault) ∧ takeField .clearFault e body b (startWork s) = startWork s) := by
  have zero : fieldLevel .clearFault = 0 := rfl
  unfold takeField
  rw [zero]
  by_cases level : roleLevel e.role = 0
  · rw [if_pos level.le]
    by_cases fault : (s.bay b).charge.state = .fault
    · exact .inl ⟨level, fault, by simp [clearFault, startWork, fault]⟩
    · exact .inr ⟨.inr fault, by simp [clearFault, startWork, fault]⟩
  · rw [if_neg (by omega)]
    exact .inr ⟨.inl level, rfl⟩

/-- A bay that manages no tablet stays in its charge state. -/
theorem Drifts.stays (h : Drifts b s t) (rests : managed (s.bay b).charge.state = false) :
    (t.bay b).charge.state = (s.bay b).charge.state := by
  refine h.keeps (P := fun u => (u.bay b).charge.state = (s.bay b).charge.state) (fun u v drift before => ?_) rfl
  rcases drift.charge_eq with same | fresh | tuned
  · rw [same]
    exact before
  · rw [fresh]
    exact before
  · rcases tuned.state with same | ⟨moves, -⟩
    · exact same.trans before
    · rw [before, rests] at moves
      cases moves

theorem applyField_openLevel (body : List Byte) (a : BayAttrs) : applyField .openLevel (readBayset body) a =
    { a with openLevel := ⟨min 3 ((byteAt body 6).toNat / 16), Nat.lt_succ_of_le (Nat.min_le_left _ _)⟩ } := by
  have level : (applyField .openLevel (readBayset body) a).openLevel =
      ⟨min 3 ((byteAt body 6).toNat / 16), Nat.lt_succ_of_le (Nat.min_le_left _ _)⟩ := by
    have capped (n : Nat) : (if n = 0 then 0 else if n = 1 then 1 else if n = 2 then 2 else 3 : Fin 4).val = min 3 n := by
      rcases n with _ | _ | _ | n
      iterate 3 rfl
      rw [if_neg (by omega), if_neg (by omega), if_neg (by omega)]
      exact (Nat.min_eq_left (by omega)).symm
    exact Fin.ext (capped _)
  exact congrArg (fun l => { a with openLevel := l }) level

/-- R62: what the out-of-service attribute of a bay brings, set and cleared. -/
theorem service_taken (s : State) (b : BayIx) (new : BayAttrs) :
    let y := ((setAttrs b new (startWork s)).finish.bay b).charge
    (new.outOfService = true → (s.bay b).attrs.outOfService = false → y.Shut ∧ y.state = .outOfService ∧ y.identTimer = none) ∧
      (new.outOfService = false → (s.bay b).attrs.outOfService = true → (s.bay b).charge.state = .outOfService →
        y.Shut ∧ ((s.bay b).present = true ∧ s.cfl.phase = .active → y.state = .identifying ∧ y.identTimer = some (s.now + 3000)) ∧
          (¬ ((s.bay b).present = true ∧ s.cfl.phase = .active) → y.state = .vacant ∧ y.voltage = 5 ∧ y.identTimer = none)) := by
  intro y
  obtain ⟨claim, changed⟩ := attrsChanged_bay (b := b) (s := s) new b
  rw [if_pos rfl] at changed
  have begun := attrsChanged_steady (b := b) (s := s) new
  refine ⟨fun set clear => ?_, fun clear set retired => ?_⟩
  · obtain ⟨z, -, steady, after⟩ := attrs_service (new := new) s b (by rw [set, clear]; decide)
    have attrs : (z.bay b).attrs.outOfService = true := by
      rw [steady_attrs steady b, changed]
      exact set
    have its : serviceChanged b (startWork z) = enterOutOfService b (startWork z) := by
      unfold serviceChanged
      rw [startWork, if_pos attrs]
    rw [its] at after
    obtain ⟨shut, state, timer⟩ := enterOutOfService_shut (b := b) (w := startWork z)
    obtain ⟨shut', state', timer', -⟩ := after.shut (by rw [state]; rfl) shut
    exact ⟨shut', state'.trans state, timer'.trans timer⟩
  · obtain ⟨z, before, steady, after⟩ := attrs_service (new := new) s b (by rw [set, clear]; decide)
    have attrs : (z.bay b).attrs.outOfService = false := by
      rw [steady_attrs steady b, changed]
      exact clear
    have state : (z.bay b).charge.state = .outOfService := by
      rw [before.stays (by rw [changed, retired]; rfl), changed]
      exact retired
    have present : (z.bay b).present = (s.bay b).present := by rw [steady_present steady b, changed]
    have phase : z.isActive = true ↔ s.cfl.phase = .active := by
      unfold State.isActive
      rw [steady_cfl steady, steady_cfl begun, beq_iff_eq]
      rfl
    have now : z.now = s.now := (steady_now steady).trans ((steady_now begun).trans rfl)
    have its : serviceChanged b (startWork z) = leaveOutOfService b (startWork z) := by
      unfold serviceChanged
      rw [startWork, if_neg (by rw [attrs]; exact Bool.false_ne_true)]
    have left : leaveOutOfService b (startWork z) =
        if ((z.bay b).present && z.isActive) = true then enterIdentifying b false (startWork z) else enterVacant b (startWork z) := by
      unfold leaveOutOfService
      rw [startWork, if_pos (by rw [state]; rfl)]
    rw [its, left] at after
    by_cases tablet : (s.bay b).present = true ∧ s.cfl.phase = .active
    · rw [if_pos (by rw [Bool.and_eq_true, present, phase]; exact tablet)] at after
      obtain ⟨shut, state, timer⟩ := enterIdentifying_shut (b := b) (w := startWork z) (by rw [startWork, state]; decide)
      obtain ⟨shut', state', timer', -⟩ := after.shut (by rw [state]; rfl) shut
      exact ⟨shut', fun _ => ⟨state'.trans state, timer'.trans (by rw [timer, startWork, now])⟩, fun no => absurd tablet no⟩
    · rw [if_neg (by rw [Bool.and_eq_true, present, phase]; exact tablet)] at after
      obtain ⟨shut, state, voltage, timer⟩ := enterVacant_shut (b := b) (w := startWork z)
      obtain ⟨shut', state', timer', voltage'⟩ := after.shut (by rw [state]; rfl) shut
      exact ⟨shut', fun yes => absurd yes tablet, fun _ => ⟨state'.trans state, voltage'.trans voltage, timer'.trans timer⟩⟩

/-- Settles O41. -/
theorem baysetFieldsAreTaken : Obligations.BaysetFieldsAreTaken := by
  intro f s hand kind fields author known mask free
  refine ⟨fun unknown i among => ?_, fun e it => ⟨fun ends i among => ?_, fun b index there => ?_⟩⟩
  · obtain ⟨field, rfl⟩ := mem_fieldCommands among
    rw [exec_field, takeBayset_unknown hand kind unknown]
    refine ⟨_, rfl, (finish_steady _).trans (placeEvent_steady ..), fun room => ?_⟩
    have placed : rejectAuthority 1 (word32At f.body 0) (startWork (s.setHand none .csu)) = _ :=
      placeEvent_of_room 11 noBay (word32At f.body 0) 1 .csu room
    rw [placed, finish_of_quiet rfl]
    rfl
  · obtain ⟨field, rfl⟩ := mem_fieldCommands among
    rw [exec_field, takeBayset_ended hand kind it ends]
    rfl
  · intro a next held put cancels cancelled taken
    have attrs (field : BaysetField) (other : field ≠ .clearFault) (new : BayAttrs)
        (its : applyField field (readBayset f.body) (s.bay b).attrs = new) :
        taken (fieldCommand field) (fieldBit field) (fieldLevel field) new := by
      intro lowest
      obtain ⟨t, ran, permitted, denied⟩ := takeBayset_attrs other hand kind it index there lowest
      refine ⟨t, (exec_field field s).trans ran, fun level => ?_, fun level => ?_⟩
      · have same := permitted level
        rw [its] at same
        obtain ⟨steady, stays, cuts, keeps⟩ := attrs_taken (s.setHand (remainingBayset field f) .csu) b new t same
        refine ⟨steady, stays, fun claims c claim => cuts (cancelsClaim_iff.2 claims) c claim, fun no quiet => ?_⟩
        exact keeps (Bool.eq_false_iff.2 fun claims => no (cancelsClaim_iff.1 claims)) quiet
      · rw [denied level]
        exact (State.modBay_stay rfl).symm
    refine ⟨attrs .group (by decide) _ rfl, attrs .openLevel (by decide) _ ?_, attrs .reserved (by decide) _ rfl,
      attrs .outOfService (by decide) _ rfl, attrs .optOut (by decide) _ rfl, fun lowest level => ?_, fun lowest => ?_⟩
    · exact applyField_openLevel f.body _
    · obtain ⟨t, ran, permitted, -⟩ := takeBayset_attrs (field := .outOfService) (by decide) hand kind it index there lowest
      obtain ⟨sets, clears⟩ := service_taken (s.setHand (remainingBayset .outOfService f) .csu) b
        (applyField .outOfService (readBayset f.body) (s.bay b).attrs)
      rw [← permitted level.le] at sets clears
      refine ⟨t, ran, fun byte clear => ?_, fun byte set retired => ?_⟩
      · obtain ⟨shut, state, timer⟩ := sets (bne_iff_ne.2 byte) clear
        exact ⟨state, timer, shut.grant, shut.limit, shut.wish, shut.unmanagedTimer, shut.shortHold, shut.overdraw⟩
      · obtain ⟨shut, identifies, vacates⟩ := clears (bne_eq_false_iff_eq.2 byte) set retired
        exact ⟨⟨shut.grant, shut.limit, shut.wish, shut.unmanagedTimer, shut.shortHold, shut.overdraw⟩, identifies, vacates⟩
    · have ran := takeBayset_taken (field := .clearFault) hand kind it index there lowest.1 lowest.2
      have stays : put 5 a = s.setHand (remainingBayset .clearFault f) .csu := State.modBay_stay rfl
      rcases clearFault_cases e (readBayset f.body) b (s.setHand (remainingBayset .clearFault f) .csu) with
        ⟨level, fault, its⟩ | ⟨rests, its⟩
      · refine ⟨_, (exec_field .clearFault s).trans ran, ?_, fun _ _ => ?_, fun other => ?_⟩
        · rw [its, stays]
          exact (finish_steady _).trans (enterIdentifying_steady ..)
        · rw [its]
          obtain ⟨shut, state, timer⟩ := enterIdentifying_shut (b := b)
            (w := startWork (s.setHand (remainingBayset .clearFault f) .csu)) (by rw [startWork, fault]; decide)
          have drifts : Drifts b _ _ := finish_drifts ((enterIdentifying_acts subset_rfl false).told_drifts (b := b)
            (w := startWork (s.setHand (remainingBayset .clearFault f) .csu)) fun n told => by cases told)
          obtain ⟨shut', state', timer', -⟩ := drifts.shut (by rw [state]; rfl) shut
          exact ⟨state'.trans state, shut'.grant, timer'.trans timer⟩
        · exact absurd fault (other.resolve_left (fun no => no level))
      · refine ⟨_, (exec_field .clearFault s).trans ran, ?_, fun level fault => ?_, fun _ => ?_⟩
        · rw [its, stays, finish_of_quiet rfl]
          rfl
        · exact absurd fault (rests.resolve_left (fun no => no level))
        · rw [its, stays, finish_of_quiet rfl]
          rfl

end

end Sys2Proof.Machine
end

section
/-! A port trip (R70, R72, R75). -/

namespace Sys2Proof.Machine

/-- R75: the charge section of a bay that trips. -/
def trippedCharge (kind : FaultKind) (s : State) (c : Charge) : Charge :=
  { withGrant 0 c with lastFault := some s.seconds, faultKind := some kind, unmanagedTimer := none }

/-- R75: the bay in FAULT, before wish and class are computed. -/
def faulting (b : BayIx) (kind : FaultKind) (w : Work) : Work :=
  (moveCharge b .fault w).upd fun s => (s.modCharge b (trippedCharge kind s)).modCounters b
    fun k => { k with faults := k.faults + 1 }

/-- R75: the first part of a trip: the bay in FAULT, its EVENT and its CHARGE_LIMIT write. -/
def firstTrip (b : BayIx) (kind : FaultKind) (w : Work) : Work :=
  (requestLimit b (placeEvent 6 (bayByte b) 0 (faultCode kind) .bcc (refreshWish b (faulting b kind w)))).raise .split

section
variable {s t : State} {b c : BayIx} {u v w : Work} {kind : FaultKind}

theorem tripBay_eq : tripBay b kind w =
    if secondFault (w.st.bay b).charge w.st.seconds = true then
      placeEvent 7 (bayByte b) 0 0 .bcc
        (setAttrs b { ((firstTrip b kind w).st.bay b).attrs with outOfService := true } (firstTrip b kind w))
    else firstTrip b kind w := by
  unfold tripBay firstTrip faulting trippedCharge
  rfl

/-! ### The bay in FAULT -/

theorem faulting_bay : (faulting b kind w).st.bay b = { w.st.bay b with
    charge := trippedCharge kind w.st ((w.st.bay b).charge.moved .fault)
    counters := { (w.st.bay b).counters with faults := (w.st.bay b).counters.faults + 1 } } := by
  have tunes := moveCharge_tunes (b := b) (w := w) .fault
  have seconds : (moveCharge b .fault w).st.seconds = w.st.seconds := by
    rw [tunes.spares]
    rfl
  have own := tunes.own
  rw [moveCharge_channel, moveCharge_charge, if_pos rfl] at own
  unfold faulting
  rw [Work.upd_st, State.modCounters, State.bay_modBay_same, State.modCharge, State.bay_modBay_same, own]
  unfold trippedCharge
  rw [seconds]

theorem faulting_others (other : c ≠ b) : (faulting b kind w).st.bay c = w.st.bay c := by
  unfold faulting
  rw [Work.upd_st, State.modCounters, State.bay_modBay_other _ other, State.modCharge, State.bay_modBay_other _ other]
  exact (moveCharge_tunes .fault).others c other

/-- The charge section that a trip leaves. -/
def faultedCharge (kind : FaultKind) (s : State) (b : BayIx) (cls : Nat) : Charge :=
  { trippedCharge kind s ((s.bay b).charge.moved .fault) with wish := 0, cls := cls }

/-- R70, R75: the bay that trips. -/
theorem firstTrip_bay : ∃ cls, (firstTrip b kind w).st.bay b = { w.st.bay b with
    charge := faultedCharge kind w.st b cls
    counters := { (w.st.bay b).counters with faults := (w.st.bay b).counters.faults + 1 }
    channel := if (w.st.bay b).channel.state = .active then { (w.st.bay b).channel with chargeLimit := some 0 }
      else (w.st.bay b).channel } := by
  have bay := faulting_bay (b := b) (kind := kind) (w := w)
  have state : ((faulting b kind w).st.bay b).charge.state = .fault := by
    rw [bay]
    simp [trippedCharge, withGrant]
  refine ⟨(faulting b kind w).st.classOf b, ?_⟩
  have wish : (faulting b kind w).st.wishOf b = 0 := wishOf_resting (by rw [state]; rfl)
  have charge : ((refreshWish b (faulting b kind w)).st.bay b).charge =
      faultedCharge kind w.st b ((faulting b kind w).st.classOf b) := by
    rw [refreshWish_charge, if_pos rfl, wish, bay]
    rfl
  have own := (refreshWish_tunes (b := b) (w := faulting b kind w)).own
  rw [charge, refreshWish_channel, bay] at own
  dsimp only at own
  unfold firstTrip
  rw [Work.raise_st]
  have placed := placeEvent_bay (c := b) 6 (bayByte b) 0 (faultCode kind) .bcc (refreshWish b (faulting b kind w))
  rw [own] at placed
  generalize placeEvent 6 (bayByte b) 0 (faultCode kind) .bcc (refreshWish b (faulting b kind w)) = p at placed
  have asked := (requestLimit_tunes (b := b) (w := p)).own
  have fault : (faultedCharge kind w.st b ((faulting b kind w).st.classOf b)).state = .fault := by
    simp [faultedCharge, trippedCharge, withGrant]
  rw [requestLimit_charge, requestLimit_channel, placed] at asked
  rw [asked]
  simp only [fault]
  simp [faultedCharge, trippedCharge, withGrant]

theorem firstTrip_others (other : c ≠ b) : (firstTrip b kind w).st.bay c = w.st.bay c := by
  unfold firstTrip
  rw [Work.raise_st, requestLimit_tunes.others c other, placeEvent_bay, refreshWish_tunes.others c other,
    faulting_others other]

/-! ### Its steady part, its notices and its frame -/

theorem firstTrip_steady : (firstTrip b kind w).st.steady = (w.st.modBay b fun x => { x with
    charge := { x.charge with lastFault := some w.st.seconds, faultKind := some kind }
    counters := { x.counters with faults := x.counters.faults + 1 } }).steady := by
  unfold firstTrip
  rw [Work.raise_st, requestLimit_steady, placeEvent_steady, refreshWish_steady]
  have moved := moveCharge_tunes (b := b) (w := w) .fault
  have step : (faulting b kind w).st = (moveCharge b .fault w).st.modBay b fun x => { x with
      charge := trippedCharge kind (moveCharge b .fault w).st x.charge
      counters := { x.counters with faults := x.counters.faults + 1 } } := by
    unfold faulting
    rw [Work.upd_st, State.modCounters, State.modCharge, State.modBay_modBay]
  rw [step]
  refine steady_modBay_of_steady (moveCharge_steady ..) ?_
  have seconds : (moveCharge b .fault w).st.seconds = w.st.seconds := by
    rw [moved.spares]
    rfl
  have own := moved.own
  rw [moveCharge_channel, moveCharge_charge, if_pos rfl] at own
  have tripped : trippedCharge kind (moveCharge b .fault w).st = trippedCharge kind w.st := by
    unfold trippedCharge
    rw [seconds]
  rw [own, tripped]
  generalize (w.st.bay b).charge = c
  have kept : (c.moved .fault).steady = c.steady := by
    unfold Charge.moved
    split <;> [rfl; split <;> rfl]
  obtain ⟨volts, amps, power, rest⟩ : (c.moved .fault).milliVolts = c.milliVolts ∧
      (c.moved .fault).milliAmps = c.milliAmps ∧ (c.moved .fault).power = c.power ∧
        (c.moved .fault).remainder = c.remainder :=
    ⟨congrArg (·.milliVolts) kept, congrArg (·.milliAmps) kept, congrArg (·.power) kept, congrArg (·.remainder) kept⟩
  simp only [Bay.steady, Charge.steady, trippedCharge, withGrant, volts, amps, power, rest]

/-- Behind the notices that wait come others of a class, which together weigh no more than a bound. -/
def Tells (p : Notice → Prop) (k : Nat) (earlier later : List Notice) : Prop :=
  ∃ x : List Notice, later = earlier ++ x ∧ (∀ n ∈ x, p n) ∧ (x.map Notice.weight).sum ≤ k

theorem Tells.refl {p : Notice → Prop} {k : Nat} {l : List Notice} : Tells p k l l :=
  ⟨[], (List.append_nil _).symm, by simp, by simp⟩

theorem Tells.one {p : Notice → Prop} {l : List Notice} (n : Notice) (its : p n) : Tells p n.weight l (l ++ [n]) :=
  ⟨[n], rfl, fun m among => List.mem_singleton.1 among ▸ its, by simp⟩

theorem Tells.trans {p : Notice → Prop} {k j : Nat} {x y z : List Notice} (h : Tells p k x y) (h' : Tells p j y z) :
    Tells p (k + j) x z := by
  obtain ⟨m, its, all, light⟩ := h
  obtain ⟨n, its', all', light'⟩ := h'
  refine ⟨m ++ n, by rw [its', its, List.append_assoc], fun e among => ?_, ?_⟩
  · exact (List.mem_append.1 among).elim (all e) (all' e)
  · rw [List.map_append, List.sum_append]
    omega

theorem Tells.weaken {p q : Notice → Prop} {k : Nat} {x y : List Notice} (h : Tells p k x y) (weaker : ∀ n, p n → q n) :
    Tells q k x y := by
  obtain ⟨m, its, all, light⟩ := h
  exact ⟨m, its, fun n among => weaker n (all n among), light⟩

theorem Tells.mono {p : Notice → Prop} {k j : Nat} {x y : List Notice} (h : Tells p k x y) (le : k ≤ j) : Tells p j x y := by
  obtain ⟨m, its, all, light⟩ := h
  exact ⟨m, its, all, light.trans le⟩

theorem Tells.raiseIf {p : Notice → Prop} (c : Bool) (n : Notice) (its : p n) : Tells p n.weight u.todo (u.raiseIf c n).todo := by
  cases c
  · exact .refl
  · exact .one n its

/-- The notice of a frame that a full queue gives up for another. -/
theorem placeEvent_tells (code : Nat) (bay : Byte) (word : Word32) (value : Nat) (k : Block) :
    Tells (fun n => 8 ≤ w.st.lkc.queue.length ∧ ∃ g, n = .discarded g) 1 w.todo (placeEvent code bay word value k w).todo := by
  by_cases room : w.st.lkc.queue.length < 8
  · rw [placeEvent_of_room _ _ _ _ _ room]
    exact .refl
  · obtain ⟨x, its, none | ⟨g, one⟩⟩ := place_todo (f := eventFrame code bay word value k) (w := w)
    · rw [none, List.append_nil] at its
      rw [placeEvent, its]
      exact .refl
    · rw [placeEvent, its, one]
      exact .one _ ⟨by omega, g, rfl⟩

/-- The notices of a trip of a bay. -/
def Notice.trips (b : BayIx) (n : Notice) : Prop :=
  n = .chargeChanged b ∨ n = .split ∨ n = .recompute ∨ ∃ v o, n = .writeEnded b (.chargeLimit v) o

theorem Notice.trips.drifts {n : Notice} (trips : n.trips b) : n.drifts = true := by
  rcases trips with rfl | rfl | rfl | ⟨v, o, rfl⟩ <;> rfl

theorem Notice.trips.calm {idle : Prop} {n : Notice} (trips : n.trips b) : Calm idle n := by
  rcases trips with rfl | rfl | rfl | ⟨v, o, rfl⟩ <;> trivial

theorem moveCharge_tells (st : ChargeState) : Tells (·.trips b) 45 w.todo (moveCharge b st w).todo := by
  simp only [moveCharge]
  split
  · exact .refl
  · exact (Tells.one (.chargeChanged b) (.inl rfl)).trans
      (.raiseIf (u := Work.raise (.chargeChanged b) _) _ .split (.inr (.inl rfl)))

theorem refreshWish_tells : Tells (·.trips b) 83 w.todo (refreshWish b w).todo := by
  have needs (n : Nat) (v : Work) : Tells (·.trips b) 42 v.todo (presentNeed n v).todo :=
    .raiseIf (u := v.upd _) _ .recompute (.inr (.inr (.inl rfl)))
  have first : Tells (·.trips b) 42 w.todo (if w.st.wishOf b = (w.st.bay b).charge.wish then
      w.upd fun s => s.modCharge b fun c => { c with wish := w.st.wishOf b, cls := w.st.classOf b }
    else presentNeed (State.needOf (w.upd fun s => s.modCharge b fun c =>
        { c with wish := w.st.wishOf b, cls := w.st.classOf b }).st)
      (w.upd fun s => s.modCharge b fun c => { c with wish := w.st.wishOf b, cls := w.st.classOf b })).todo := by
    split
    · exact .refl
    · exact needs _ (w.upd _)
  exact first.trans (.raiseIf _ .split (.inr (.inl rfl)))

theorem requestLimit_tells : Tells (·.trips b) 1 w.todo (requestLimit b w).todo := by
  have ended (v : Nat) (o : WriteOutcome) : Tells (·.trips b) 1 w.todo (w.todo ++ [.writeEnded b (.chargeLimit v) o]) :=
    .one _ (.inr (.inr (.inr ⟨v, o, rfl⟩)))
  have pending (x : DockWrite) (g : Nat) (among : pendingSame (w.st.bay b).channel (.chargeLimit g) = some x) :
      ∃ v, x = .chargeLimit v := by
    simp only [pendingSame, Option.map_eq_some_iff] at among
    obtain ⟨v, -, rfl⟩ := among
    exact ⟨v, rfl⟩
  simp only [requestLimit, requestWrite]
  split
  · split
    · exact ended _ _
    · split
      · exact ended _ _
      · split
        · next x among =>
          obtain ⟨v, rfl⟩ := pending x _ among
          exact ended v _
        · exact .refl
  · exact .refl

theorem Spares.lkc (h : Spares s t) : t.lkc = s.lkc := (congrArg State.lkc h).trans rfl

theorem faulting_spares : Spares w.st (refreshWish b (faulting b kind w)).st := by
  have moved := (moveCharge_tunes (b := b) (w := w) .fault).spares
  refine Spares.trans ?_ (refreshWish_tunes (w := faulting b kind w)).spares
  unfold faulting
  generalize moveCharge b .fault w = v at moved ⊢
  exact moved.trans rfl

theorem placeEvent_pvs (code : Nat) (bay : Byte) (word : Word32) (value : Nat) (k : Block) :
    (placeEvent code bay word value k w).st.pvs = w.st.pvs := by
  simp only [placeEvent, place, dropFrame]
  split <;> rfl

theorem firstTrip_pvs : (firstTrip b kind w).st.pvs = w.st.pvs := by
  have spares := faulting_spares (b := b) (w := w) (kind := kind)
  unfold firstTrip
  generalize refreshWish b (faulting b kind w) = r at spares ⊢
  rw [Work.raise_st, requestLimit_tunes.spares.pvs, placeEvent_pvs, spares.pvs]

theorem firstTrip_lkc (room : w.st.lkc.queue.length < 8) : (firstTrip b kind w).st.lkc = { w.st.lkc with
    queue := insertFrame (eventFrame 6 (bayByte b) 0 (faultCode kind) .bcc) w.st.lkc.queue } := by
  have spares := faulting_spares (b := b) (w := w) (kind := kind)
  unfold firstTrip
  generalize refreshWish b (faulting b kind w) = r at spares ⊢
  rw [Work.raise_st, requestLimit_tunes.spares.lkc, placeEvent_of_room _ _ _ _ _ (by rw [spares.lkc]; exact room), ← spares.lkc]
  rfl

/-- The notices of a trip, among them one of the frame that a full queue gives up for its EVENT. -/
theorem firstTrip_tells : Tells (fun n => n.trips b ∨ (8 ≤ w.st.lkc.queue.length ∧ ∃ g, n = .discarded g)) 171 w.todo
    (firstTrip b kind w).todo := by
  have queue := (faulting_spares (b := b) (w := w) (kind := kind)).lkc
  have fault : Tells (·.trips b) 45 w.todo (faulting b kind w).todo := moveCharge_tells .fault
  have refreshed := refreshWish_tells (b := b) (w := faulting b kind w)
  unfold firstTrip
  generalize refreshWish b (faulting b kind w) = r at queue refreshed ⊢
  have placed := placeEvent_tells (w := r) 6 (bayByte b) 0 (faultCode kind) .bcc
  rw [queue] at placed
  generalize placeEvent 6 (bayByte b) 0 (faultCode kind) .bcc r = p at placed ⊢
  have split : Tells (·.trips b) 41 (requestLimit b p).todo ((requestLimit b p).raise .split).todo :=
    .one .split (.inr (.inl rfl))
  exact (((fault.trans refreshed).weaken fun _ => .inl).trans (placed.weaken fun _ => .inr)).trans
    ((requestLimit_tells.trans split).weaken fun _ => .inl)

end

end Sys2Proof.Machine
end

section
/-! What a port trip leaves once its notices are worked (R70, R75). -/

namespace Sys2Proof.Machine

/-- R75: the attributes that a trip leaves. -/
def trippedAttrs (second : Bool) (a : BayAttrs) : BayAttrs := if second = true then { a with outOfService := true } else a

/-- R75: the frames of a trip. -/
def tripFrames (b : BayIx) (kind : FaultKind) (second : Bool) : List TxFrame :=
  eventFrame 6 (bayByte b) 0 (faultCode kind) .bcc :: if second = true then [eventFrame 7 (bayByte b) 0 0 .bcc] else []

section
variable {s t : State} {b c : BayIx} {u v w : Work} {kind : FaultKind} {a rest : List Notice}

/-! ### The bays -/

/-- R70, R75: what a trip makes of its bay; the computed class and a claim are left open. -/
structure Tripped (kind : FaultKind) (s : State) (b : BayIx) (y : Bay) : Prop where
  charge : ∃ cls, y.charge = faultedCharge kind s b cls
  counters : y.counters = { (s.bay b).counters with faults := (s.bay b).counters.faults + 1 }
  channel : y.channel = if (s.bay b).channel.state = .active then { (s.bay b).channel with chargeLimit := some 0 }
    else (s.bay b).channel
  attrs : y.attrs = trippedAttrs (secondFault (s.bay b).charge s.seconds) (s.bay b).attrs
  view : y.view = (s.bay b).view
  present : y.present = (s.bay b).present

theorem tripBay_bay : Tripped kind w.st b ((tripBay b kind w).st.bay b) := by
  obtain ⟨cls, bay⟩ := firstTrip_bay (b := b) (w := w) (kind := kind)
  rw [tripBay_eq]
  split
  · next second =>
    obtain ⟨claim, changed⟩ := attrsChanged_bay (b := b) (s := (firstTrip b kind w).st)
      { ((firstTrip b kind w).st.bay b).attrs with outOfService := true } b
    rw [placeEvent_bay, setAttrs_eq, changed, if_pos rfl, bay]
    exact ⟨⟨cls, rfl⟩, rfl, rfl, by rw [trippedAttrs, if_pos second], rfl, rfl⟩
  · next first =>
    rw [bay]
    exact ⟨⟨cls, rfl⟩, rfl, rfl, by rw [trippedAttrs, if_neg first], rfl, rfl⟩

theorem tripBay_others (other : c ≠ b) : (tripBay b kind w).st.bay c = w.st.bay c := by
  rw [tripBay_eq]
  split
  · obtain ⟨claim, changed⟩ := attrsChanged_bay (b := b) (s := (firstTrip b kind w).st)
      { ((firstTrip b kind w).st.bay b).attrs with outOfService := true } c
    rw [placeEvent_bay, setAttrs_eq, changed, if_neg other, firstTrip_others other]
  · exact firstTrip_others other

theorem tripBay_steady : (tripBay b kind w).st.steady = (w.st.modBay b fun x => { x with
    charge := { x.charge with lastFault := some w.st.seconds, faultKind := some kind }
    counters := { x.counters with faults := x.counters.faults + 1 }
    attrs := trippedAttrs (secondFault (w.st.bay b).charge w.st.seconds) x.attrs }).steady := by
  have first := firstTrip_steady (b := b) (w := w) (kind := kind)
  rw [tripBay_eq]
  split
  · next second =>
    rw [placeEvent_steady, setAttrs_eq, attrsChanged_steady]
    refine (steady_modBay_of_steady (g := fun x => { x with attrs := { x.attrs with outOfService := true } }) first ?_).trans ?_
    · have attrs := steady_attrs first b
      have own := steady_bay first b
      generalize (firstTrip b kind w).st.bay b = x at attrs own ⊢
      generalize State.bay _ b = y at attrs own ⊢
      change { x.steady with attrs := { x.attrs with outOfService := true } } =
        { y.steady with attrs := { y.attrs with outOfService := true } }
      rw [own, attrs]
    · rw [State.modBay_modBay]
      simp only [trippedAttrs, if_pos second]
  · next one =>
    rw [first]
    simp only [trippedAttrs, if_neg one]

/-! ### The notices -/

theorem attrsNotices_retired {old : BayAttrs} {claim : Option PendingClaim} (serves : old.outOfService = false) :
    attrsNotices b old { old with outOfService := true } claim =
      (if claim.isSome = true then [.reevaluate b] else []) ++ .serviceChanged b :: [.reevaluate b] := by
  simp [attrsNotices, cancelsClaim, serves]

theorem attrsNotices_retired_again {old : BayAttrs} {claim : Option PendingClaim} (retired : old.outOfService = true) :
    attrsNotices b old { old with outOfService := true } claim = [] := by
  simp [attrsNotices, cancelsClaim, retired]

/-- The trip retires its bay: at a second fault a bay that was in service. -/
def retires (b : BayIx) (s : State) : Bool := secondFault (s.bay b).charge s.seconds && !(s.bay b).attrs.outOfService

theorem firstTrip_attrs : ((firstTrip b kind w).st.bay b).attrs = (w.st.bay b).attrs := by
  obtain ⟨cls, bay⟩ := firstTrip_bay (b := b) (w := w) (kind := kind)
  rw [bay]

/-- What a change of attributes at a second fault tells. -/
theorem retiring_todo (second : secondFault (w.st.bay b).charge w.st.seconds = true) :
    (setAttrs b { ((firstTrip b kind w).st.bay b).attrs with outOfService := true } (firstTrip b kind w)).todo =
      (firstTrip b kind w).todo ++ if retires b w.st = true then
        (if ((firstTrip b kind w).st.bay b).claim.isSome = true then [.reevaluate b] else []) ++ .serviceChanged b :: [.reevaluate b]
      else [] := by
  rw [setAttrs_eq]
  cases service : (w.st.bay b).attrs.outOfService with
  | false =>
    rw [if_pos (by rw [retires, second, service]; rfl), attrsNotices_retired (firstTrip_attrs.symm ▸ service)]
  | true =>
    rw [if_neg (by rw [retires, second, service]; decide), attrsNotices_retired_again (firstTrip_attrs.symm ▸ service)]

theorem firstTrip_drifts : Tells (·.drifts = true) 171 w.todo (firstTrip b kind w).todo :=
  firstTrip_tells.weaken fun n its => by
    rcases its with trips | ⟨-, g, rfl⟩
    · exact trips.drifts
    · rfl

/-- What a trip tells where it retires no bay. -/
theorem tripBay_tells (kept : retires b w.st = false) :
    Tells (·.drifts = true) 350 w.todo (tripBay b kind w).todo := by
  have first := firstTrip_drifts (b := b) (w := w) (kind := kind)
  rw [tripBay_eq]
  split
  · next second =>
    have told := retiring_todo (b := b) (w := w) (kind := kind) second
    rw [if_neg (by rw [kept]; exact Bool.false_ne_true), List.append_nil] at told
    generalize setAttrs b { ((firstTrip b kind w).st.bay b).attrs with outOfService := true } (firstTrip b kind w) = v at told ⊢
    have placed := placeEvent_tells (w := v) 7 (bayByte b) 0 0 .bcc
    rw [told] at placed
    refine (first.trans (placed.weaken fun n its => ?_)).mono (by decide)
    obtain ⟨-, g, rfl⟩ := its
    rfl
  · exact first.mono (by decide)

/-- What a trip tells that retires its bay. -/
theorem tripBay_retires (gone : retires b w.st = true) :
    ∃ x y, (tripBay b kind w).todo = w.todo ++ (x ++ .serviceChanged b :: y) ∧ (∀ n ∈ x, n.drifts = true) ∧
      (∀ n ∈ y, n.drifts = true) ∧ ((x ++ .serviceChanged b :: y).map Notice.weight).sum ≤ 350 := by
  have second : secondFault (w.st.bay b).charge w.st.seconds = true := (Bool.and_eq_true_iff.1 gone).1
  obtain ⟨x, first, drifts, light⟩ := firstTrip_drifts (b := b) (w := w) (kind := kind)
  have told := retiring_todo (b := b) (w := w) (kind := kind) second
  rw [if_pos gone, first] at told
  rw [tripBay_eq, if_pos second]
  generalize setAttrs b { ((firstTrip b kind w).st.bay b).attrs with outOfService := true } (firstTrip b kind w) = v at told ⊢
  obtain ⟨y, placed, drops, small⟩ := placeEvent_tells (w := v) 7 (bayByte b) 0 0 .bcc
  have claims : ∃ q : List Notice, (if ((firstTrip b kind w).st.bay b).claim.isSome = true then [.reevaluate b] else []) = q ∧
      (∀ n ∈ q, n.drifts = true) ∧ (q.map Notice.weight).sum ≤ 3 := by
    split
    · exact ⟨[.reevaluate b], rfl, by simp [Notice.drifts], by simp [Notice.weight]⟩
    · exact ⟨[], rfl, by simp, by simp⟩
  obtain ⟨q, its, calls, few⟩ := claims
  rw [its] at told
  refine ⟨x ++ q, .reevaluate b :: y, ?_, fun n among => ?_, fun n among => ?_, ?_⟩
  · rw [placed, told]
    simp only [List.append_assoc, List.cons_append, List.nil_append]
  · exact (List.mem_append.1 among).elim (drifts n) (calls n)
  · rcases List.mem_cons.1 among with rfl | among
    · rfl
    · obtain ⟨-, g, rfl⟩ := drops n among
      rfl
  · simp only [List.map_append, List.sum_append, List.map_cons, List.sum_cons, Notice.weight]
    omega

theorem firstTrip_claim : ((firstTrip b kind w).st.bay b).claim = (w.st.bay b).claim := by
  obtain ⟨cls, bay⟩ := firstTrip_bay (b := b) (w := w) (kind := kind)
  rw [bay]

/-- The frames of a trip find room, and its bay has no claim that a second fault would cancel. -/
structure TripRoom (b : BayIx) (kind : FaultKind) (s : State) : Prop where
  room : s.lkc.queue.length + (tripFrames b kind (secondFault (s.bay b).charge s.seconds)).length ≤ 8
  free : secondFault (s.bay b).charge s.seconds = true → (s.bay b).claim = none

theorem TripRoom.first (h : TripRoom b kind s) : s.lkc.queue.length < 8 := by
  have room := h.room
  rw [tripFrames, List.length_cons] at room
  omega

theorem TripRoom.second (h : TripRoom b kind s) (second : secondFault (s.bay b).charge s.seconds = true) :
    s.lkc.queue.length + 2 ≤ 8 := by
  have room := h.room
  rw [tripFrames, if_pos second] at room
  exact room

theorem attrsChanged_pvs (new : BayAttrs) : (attrsChanged b new s).pvs = s.pvs := by
  unfold attrsChanged
  split
  · rw [claimCancelled_pvs]
    rfl
  · rfl

theorem setAttrs_pvs (new : BayAttrs) : (setAttrs b new w).st.pvs = w.st.pvs := by
  rw [setAttrs_eq]
  exact attrsChanged_pvs new

theorem setAttrs_lkc (new : BayAttrs) (free : (w.st.bay b).claim = none) : (setAttrs b new w).st.lkc = w.st.lkc := by
  rw [setAttrs_eq]
  change (attrsChanged b new w.st).lkc = _
  rw [attrsChanged_kept (.inr free)]
  rfl

/-- The link after the attributes of a second fault are set. -/
theorem retiring_lkc (h : TripRoom b kind w.st) (second : secondFault (w.st.bay b).charge w.st.seconds = true) :
    (setAttrs b { ((firstTrip b kind w).st.bay b).attrs with outOfService := true } (firstTrip b kind w)).st.lkc =
      { w.st.lkc with queue := insertFrame (eventFrame 6 (bayByte b) 0 (faultCode kind) .bcc) w.st.lkc.queue } := by
  rw [setAttrs_lkc _ (firstTrip_claim.trans (h.free second))]
  exact firstTrip_lkc h.first

theorem tripBay_lkc (h : TripRoom b kind w.st) : (tripBay b kind w).st.lkc = { w.st.lkc with
    queue := (tripFrames b kind (secondFault (w.st.bay b).charge w.st.seconds)).foldl (fun q f => insertFrame f q)
      w.st.lkc.queue } := by
  rw [tripBay_eq, tripFrames]
  split
  · next second =>
    have lkc := retiring_lkc h second
    generalize setAttrs b { ((firstTrip b kind w).st.bay b).attrs with outOfService := true } (firstTrip b kind w) = v at lkc ⊢
    have room : v.st.lkc.queue.length < 8 := by
      have := h.second second
      rw [lkc, length_insertFrame]
      omega
    rw [placeEvent_of_room _ _ _ _ _ room]
    refine (congrArg (fun l : Lkc => { l with queue := insertFrame (eventFrame 7 (bayByte b) 0 0 .bcc) l.queue }) lkc :)
  · exact firstTrip_lkc h.first

/-- A trip whose frames find room raises nothing that moves a door, a lane or a frame. -/
theorem tripBay_calm {idle : Prop} (h : TripRoom b kind w.st) : Tells (Calm idle) 350 w.todo (tripBay b kind w).todo := by
  have first : Tells (Calm idle) 171 w.todo (firstTrip b kind w).todo := firstTrip_tells.weaken fun n its => by
    rcases its with trips | ⟨full, -⟩
    · exact trips.calm
    · exact absurd full (by have := h.first; omega)
  rw [tripBay_eq]
  split
  · next second =>
    have lkc := retiring_lkc h second
    have told := retiring_todo (b := b) (w := w) (kind := kind) second
    have set : Tells (Calm idle) 178 (firstTrip b kind w).todo
        (setAttrs b { ((firstTrip b kind w).st.bay b).attrs with outOfService := true } (firstTrip b kind w)).todo := by
      rw [told]
      refine ⟨_, rfl, fun n among => ?_, ?_⟩
      · split at among
        · simp only [List.mem_append, List.mem_ite_nil_right, List.mem_cons, List.not_mem_nil, or_false] at among
          rcases among with ⟨-, rfl⟩ | rfl | rfl <;> trivial
        · cases among
      · split
        · split <;> simp [Notice.weight]
        · simp
    generalize setAttrs b { ((firstTrip b kind w).st.bay b).attrs with outOfService := true } (firstTrip b kind w) = v
      at lkc set ⊢
    have placed : Tells (Calm idle) 1 v.todo (placeEvent 7 (bayByte b) 0 0 .bcc v).todo :=
      (placeEvent_tells (w := v) 7 (bayByte b) 0 0 .bcc).weaken fun n full => by
        have := h.second second
        rw [lkc, length_insertFrame] at full
        exact absurd full.1 (by omega)
    exact ((first.trans set).trans placed)
  · exact first.mono (by decide)

theorem tripBay_pvs : (tripBay b kind w).st.pvs = w.st.pvs := by
  rw [tripBay_eq]
  split
  · rw [placeEvent_pvs, setAttrs_pvs, firstTrip_pvs]
  · exact firstTrip_pvs

/-! ### The bay once its notices are worked -/

theorem Tripped.shut {y : Bay} (trip : Tripped kind s b y) (runs : takesPart (s.bay b).charge.state = true) :
    y.charge.Shut ∧ y.charge.state = .fault := by
  obtain ⟨cls, charge⟩ := trip.charge
  have other : (s.bay b).charge.state ≠ .fault := fun fault => by
    rw [fault] at runs
    cases runs
  rw [charge]
  refine ⟨⟨rfl, portLimit_zero _, rfl, rfl, ?_, ?_⟩, ?_⟩
  · simp [faultedCharge, trippedCharge, withGrant, portLimit_zero]
  · simp [faultedCharge, trippedCharge, withGrant, Charge.moved, other, takesPart]
  · simp [faultedCharge, trippedCharge, withGrant]

/-- What stays of a bay that has tripped. -/
structure Bay.Halted (st : ChargeState) (active : Prop) (y : Bay) : Prop where
  shut : y.charge.Shut
  state : y.charge.state = st
  limit : active → y.channel.chargeLimit = some 0

theorem Drifts.halted {st : ChargeState} {active : Prop} (h : Drifts b s t) (apart : takesPart st = false)
    (halted : (s.bay b).Halted st active) : (t.bay b).Halted st active := by
  have rests : takesPart (s.bay b).charge.state = false := halted.state ▸ apart
  have stays := h.shut rests halted.shut
  refine ⟨stays.1, stays.2.1.trans halted.state, fun its => ?_⟩
  exact h.limitZero rests halted.shut.grant halted.shut.limit halted.shut.wish (halted.limit its)

theorem enterOutOfService_halted {st : ChargeState} {active : Prop} (halted : (w.st.bay b).Halted st active) :
    ((enterOutOfService b w).st.bay b).Halted .outOfService active := by
  obtain ⟨shut, state, -⟩ := enterOutOfService_shut (b := b) (w := w)
  refine ⟨shut, state, fun its => ?_⟩
  rw [enterOutOfService_eq, Work.raise_st]
  have moved : ((moveCharge b .outOfService w).st.bay b).charge.grant = 0 := by
    rw [moveCharge_charge, if_pos rfl, ← halted.shut.grant]
    unfold Charge.moved
    split <;> [rfl; split <;> rfl]
  rw [entered, refreshWish_channel, Work.upd_st, State.channel_modCharge, setGrant, if_pos moved, Work.upd_st,
    State.channel_modCharge, moveCharge_channel]
  exact halted.limit its

/-- R75: a bay that tripped, when all its notices are worked. -/
theorem finish_halted {active : Prop} (halted : (w.st.bay b).Halted .fault active) (start : ∀ n ∈ w.todo, n.driftsAt b) :
    (w.finish.bay b).Halted .fault active := (finish_driftsAt start).halted rfl halted

/-- R62, R75: a bay that a trip retires, when all its notices are worked. -/
theorem finish_retired {active : Prop} (halted : (w.st.bay b).Halted .fault active) (retired : (w.st.bay b).attrs.outOfService = true)
    (todo : w.todo = a ++ .serviceChanged b :: rest) (light : w.weight ≤ noticeBound)
    (before : ∀ n ∈ a, n.driftsAt b) (after : ∀ n ∈ rest, n.driftsAt b) :
    (w.finish.bay b).Halted .outOfService active := by
  obtain ⟨z, first, steady, last⟩ := finish_service todo light before after
  have attrs : (z.bay b).attrs.outOfService = true := by
    rw [steady_attrs steady b]
    exact retired
  have its : serviceChanged b (startWork z) = enterOutOfService b (startWork z) := by
    unfold serviceChanged
    rw [startWork, if_pos attrs]
  rw [its] at last
  exact last.halted rfl (enterOutOfService_halted (w := startWork z) (first.halted rfl halted))

end

end Sys2Proof.Machine
end

section
/-! Settles O26: a SHORT trip. -/

namespace Sys2Proof.Machine

section
variable {s t : State} {b : BayIx} {kind : FaultKind}

theorem secondFault_iff {c : Charge} {now : Nat} : secondFault c now = true ↔ ∃ last, c.lastFault = some last ∧ now - last < 600 := by
  unfold secondFault
  cases c.lastFault <;> simp

/-- R75: a trip of a bay, when its notices are worked. -/
theorem trip_halts (runs : takesPart (s.bay b).charge.state = true) :
    let w := tripBay b kind (startWork s)
    (w.finish.bay b).Halted (if retires b s = true then .outOfService else .fault) ((s.bay b).channel.state = .active) := by
  intro w
  have trip : Tripped kind s b (w.st.bay b) := tripBay_bay (w := startWork s)
  obtain ⟨shut, state⟩ := trip.shut runs
  have halted : (w.st.bay b).Halted .fault ((s.bay b).channel.state = .active) :=
    ⟨shut, state, fun active => by rw [trip.channel, if_pos active]⟩
  by_cases gone : retires b s = true
  · rw [if_pos gone]
    obtain ⟨x, y, todo, before, after, light⟩ := tripBay_retires (b := b) (w := startWork s) (kind := kind) gone
    have second : secondFault (s.bay b).charge s.seconds = true := (Bool.and_eq_true_iff.1 gone).1
    have retired : (w.st.bay b).attrs.outOfService = true := by
      rw [trip.attrs, trippedAttrs, if_pos second]
    refine finish_retired halted retired todo (enough_of_told ?_) (fun n among => .inl (before n among))
      fun n among => .inl (after n among)
    rw [Work.told, todo]
    exact light.trans (by omega)
  · rw [if_neg gone]
    obtain ⟨x, todo, drifts, -⟩ := tripBay_tells (b := b) (w := startWork s) (kind := kind) (by simpa using gone)
    refine finish_halted halted fun n among => .inl (drifts n ?_)
    rw [todo] at among
    exact among

/-- Settles O26. -/
theorem shortTripFaults : Obligations.ShortTripFaults := by
  intro b d s hold runs limit time second
  have ran : exec (.shortTrip b) s = .next (tripBay b .short (startWork (s.advanceTo d))).finish := by
    have watch : shortWatch (s.bay b).charge = true := by simp [shortWatch, runs, limit]
    change execShortTrip b s = _
    simp only [execShortTrip, hold, watch, if_true]
    rfl
  have fault : secondFault ((s.advanceTo d).bay b).charge (s.advanceTo d).seconds = true ↔ second := secondFault_iff
  have single (once : ¬ second) : secondFault ((s.advanceTo d).bay b).charge (s.advanceTo d).seconds = false :=
    Bool.eq_false_iff.2 fun its => once (fault.1 its)
  have steady := (finish_steady _).trans (tripBay_steady (b := b) (w := startWork (s.advanceTo d)) (kind := .short))
  have halted := trip_halts (s := s.advanceTo d) (b := b) (kind := .short) runs
  have linked (room : TripRoom b .short (s.advanceTo d)) (quiet : lanesQuiet s) :
      (tripBay b .short (startWork (s.advanceTo d))).finish.lkc = { s.lkc with
        queue := (tripFrames b .short (secondFault ((s.advanceTo d).bay b).charge (s.advanceTo d).seconds)).foldl
          (fun q f => insertFrame f q) s.lkc.queue } := by
    obtain ⟨x, todo, calm, -⟩ := tripBay_calm (idle := True) (w := startWork (s.advanceTo d)) room
    have still := Still.of_quiet (lanesQuiet_of_same quiet (tripBay_pvs (b := b) (w := startWork (s.advanceTo d)) (kind := .short)))
    exact (finish_calmed still fun n among => calm n (by rw [todo] at among; exact among)).lkc.trans (tripBay_lkc room)
  refine ⟨_, ran, fun again => ?_, fun once => ?_, halted.shut.grant, halted.shut.limit, halted.shut.wish, halted.limit,
    ⟨fun once quiet room => ?_, fun again free quiet room => ?_⟩, fun once => ?_, fun again serves => ?_⟩
  · simp only [startWork, trippedAttrs, fault.2 again, if_true] at steady
    exact steady
  · simp only [startWork, trippedAttrs, single once, Bool.false_eq_true, if_false] at steady
    exact steady
  · have one := single once
    rw [linked ⟨?_, fun its => absurd (fault.1 its) once⟩ quiet, one]
    · rfl
    · rw [one]
      exact room
  · have two := fault.2 again
    rw [linked ⟨?_, fun _ => free⟩ quiet, two]
    · rfl
    · rw [two]
      exact Nat.succ_le_of_lt (Nat.succ_lt_succ room)
  · have stays : retires b (s.advanceTo d) = false := by
      rw [retires, single once, Bool.false_and]
    have state := halted.state
    rwa [stays, if_neg Bool.false_ne_true] at state
  · have gone : retires b (s.advanceTo d) = true := by
      rw [retires, fault.2 again, Bool.true_and, Bool.not_eq_true']
      exact serves
    have state := halted.state
    rwa [gone, if_pos rfl] at state

end

end Sys2Proof.Machine
end

section
/-! A measurement (R71, R73): the values that it takes and the draw that it presents. -/

namespace Sys2Proof.Machine

/-- R71, R73: every populated port is measured. -/
def metered (ports : Vector PortSense 8) (s : State) : State :=
  { s with bays := Vector.ofFn fun b : BayIx => if s.populated b = true then measureBay ports[b] (s.bay b) else s.bay b }

section
variable {s t u : State} {b c : BayIx} {v w : Work} {ports : Vector PortSense 8} {draw : Nat}

theorem metered_bay : (metered ports s).bay b = if s.populated b = true then measureBay ports[b] (s.bay b) else s.bay b := by
  simp [metered, State.bay]

theorem mem_populatedBays_iff : b ∈ s.populatedBays ↔ s.populated b = true :=
  ⟨fun among => (List.mem_filter.1 among).2, mem_populatedBays⟩

theorem forEach_measure : forEach s.populatedBays (fun b => Work.upd fun s => s.modBay b (measureBay ports[b])) (startWork s) =
    startWork (metered ports s) := by
  have todo (bs : List BayIx) (w : Work) :
      (forEach bs (fun b => Work.upd fun s => s.modBay b (measureBay ports[b])) w).todo = w.todo := by
    induction bs generalizing w with
    | nil => rfl
    | cons b bs ih => exact ih _
  obtain ⟨bays, st, bay⟩ := forEach_modBay (h := fun b => Work.upd fun s => s.modBay b (measureBay ports[b]))
    (g := fun b => measureBay ports[b]) (fun b w => rfl) (populatedBays_nodup s)
    (startWork s)
  have same : bays = (metered ports s).bays := by
    refine Vector.ext fun i small => ?_
    have its := bay ⟨i, small⟩
    rw [st, if_congr mem_populatedBays_iff rfl rfl] at its
    exact its.trans metered_bay.symm
  rw [same] at st
  exact congrArg₂ Work.mk st (todo _ _)

theorem measuredDraw_metered : (metered ports s).measuredDraw =
    (s.populatedBays.map fun b => ports[b].milliVolts * ports[b].milliAmps / 100000).sum := by
  unfold State.measuredDraw
  have bays : (metered ports s).populatedBays = s.populatedBays := rfl
  rw [bays]
  refine congrArg List.sum (List.map_congr_left fun b among => ?_)
  rw [metered_bay, if_pos (mem_populatedBays_iff.1 among)]
  unfold measureBay countEnergy overdrawStep senseBay
  dsimp only
  split <;> [split; rfl] <;> rfl

/-! ### The draw -/

/-- The state in which a draw is presented. -/
def drawn (draw : Nat) (s : State) : State := { s with shu := { s.shu with draw := min draw 65535 } }

/-- R52: a recomputation follows the draw that is presented. -/
def drawStarts (draw : Nat) (s : State) : Prop :=
  s.shu.refDraw + 10 ≤ min draw 65535 ∨ min draw 65535 + 10 ≤ s.shu.refDraw ∨
    (evaluateGuard (drawn draw s)).shu.guard ≠ s.shu.guard

theorem presentDraw_resting (rests : s.cfl.phase ≠ .active) : presentDraw draw (startWork s) = startWork (drawn draw s) := by
  have inactive : (drawn draw s).isActive = false := by
    simpa [State.isActive, drawn] using rests
  unfold presentDraw
  exact if_neg (by rw [Bool.not_eq_true]; exact inactive)

theorem presentDraw_active (active : s.cfl.phase = .active) : presentDraw draw (startWork s) =
    (startWork (evaluateGuard (drawn draw s))).raiseIf (differsByTen (min draw 65535) s.shu.refDraw ||
      ((evaluateGuard (drawn draw s)).shu.guard != s.shu.guard)) .recompute := by
  have active : (drawn draw s).isActive = true := by
    simpa [State.isActive, drawn] using active
  unfold presentDraw
  exact if_pos active

theorem drawStarts_iff : (differsByTen (min draw 65535) s.shu.refDraw ||
    ((evaluateGuard (drawn draw s)).shu.guard != s.shu.guard)) = true ↔ drawStarts draw s := by
  unfold differsByTen drawStarts
  simp only [Bool.or_eq_true, decide_eq_true_eq, bne_iff_ne]
  rw [or_assoc]
  refine or_congr (by omega) (or_congr (by omega) Iff.rfl)

/-- R39, R52: a draw that is presented. -/
theorem draw_presented :
    (s.cfl.phase ≠ .active → presentDraw draw (startWork s) = startWork (drawn draw s)) ∧
    (s.cfl.phase = .active → drawStarts draw s →
      presentDraw draw (startWork s) = { st := evaluateGuard (drawn draw s), todo := [.recompute] }) ∧
    (s.cfl.phase = .active → ¬ drawStarts draw s → presentDraw draw (startWork s) = startWork (evaluateGuard (drawn draw s))) := by
  refine ⟨presentDraw_resting, fun active starts => ?_, fun active stays => ?_⟩
  · rw [presentDraw_active active, drawStarts_iff.2 starts]
    rfl
  · rw [presentDraw_active active, Bool.eq_false_iff.2 fun its => stays (drawStarts_iff.1 its)]
    rfl

/-- The evaluation of the guard reads the SHU, the peers and the clock alone. -/
theorem evaluateGuard_congr (shu : t.shu = s.shu) (pmn : t.pmn = s.pmn) (cfl : t.cfl = s.cfl) (now : t.now = s.now) :
    (evaluateGuard t).shu = (evaluateGuard s).shu := by
  have estimate : t.drawEstimate = s.drawEstimate := by
    simp only [State.drawEstimate, State.shelfPeers, shu, pmn, cfl]
  rw [evaluateGuard_eq, evaluateGuard_eq]
  simp only [shu, now, estimate]

theorem presented_st : ∃ shu : Shu, (presentDraw draw (startWork s)).st = { s with shu := shu } ∧
    shu.draw = min draw 65535 ∧ shu.history = s.shu.history ∧
    (s.cfl.phase = .active → shu = (evaluateGuard (drawn draw s)).shu) ∧
    ((presentDraw draw (startWork s)).todo = [] ∨ (presentDraw draw (startWork s)).todo = [.recompute]) := by
  obtain ⟨rests, starts, stays⟩ := draw_presented (s := s) (draw := draw)
  have guarded : evaluateGuard (drawn draw s) = { s with shu := (evaluateGuard (drawn draw s)).shu } := by
    rw [evaluateGuard_eq]
    rfl
  have drew : (evaluateGuard (drawn draw s)).shu.draw = min draw 65535 ∧ (evaluateGuard (drawn draw s)).shu.history = s.shu.history := by
    rw [evaluateGuard_eq]
    exact ⟨rfl, rfl⟩
  by_cases active : s.cfl.phase = .active
  · by_cases begins : drawStarts draw s
    · rw [starts active begins]
      exact ⟨_, guarded, drew.1, drew.2, fun _ => rfl, .inr rfl⟩
    · rw [stays active begins]
      exact ⟨_, guarded, drew.1, drew.2, fun _ => rfl, .inl rfl⟩
  · rw [rests active]
    exact ⟨_, rfl, rfl, rfl, fun its => absurd its active, .inl rfl⟩

end

end Sys2Proof.Machine
end

section
/-! Port trips of several bays, one after another (R73, R75). -/

namespace Sys2Proof.Machine

/-- R73: the trips of a measurement. -/
def trips (bs : List BayIx) (w : Work) : Work := forEach bs (fun b => tripBay b .overdraw) w

/-- Nothing but bays differs in the steady part. -/
def SteadyBays (s t : State) : Prop := ∃ bays, t.steady = { s.steady with bays := bays }

section
variable {r s t u : State} {b c : BayIx} {v w : Work} {kind : FaultKind} {bs : List BayIx}

/-! ### The steady part -/

theorem SteadyBays.refl : SteadyBays s s := ⟨_, rfl⟩

theorem SteadyBays.trans (h : SteadyBays r s) (h' : SteadyBays s t) : SteadyBays r t := by
  obtain ⟨x, its⟩ := h
  obtain ⟨y, its'⟩ := h'
  exact ⟨y, by rw [its', its]⟩

theorem SteadyBays.of_steady (h : t.steady = s.steady) : SteadyBays s t := ⟨_, h⟩

theorem SteadyBays.seconds (h : SteadyBays s t) : t.seconds = s.seconds := by
  obtain ⟨x, its⟩ := h
  have now : t.now = s.now := (congrArg State.now its).trans rfl
  have since : t.bcc.since = s.bcc.since := (congrArg (fun u : State => u.bcc.since) its).trans rfl
  rw [State.seconds, State.seconds, now, since]

theorem tripBay_but : SteadyBays w.st (tripBay b kind w).st := ⟨_, tripBay_steady⟩

theorem tripBay_seconds : (tripBay b kind w).st.seconds = w.st.seconds := tripBay_but.seconds

theorem trips_but : SteadyBays w.st (trips bs w).st := by
  induction bs generalizing w with
  | nil => exact .refl
  | cons b bs ih => exact tripBay_but.trans ih

/-! ### The bays -/

theorem trips_others (absent : b ∉ bs) : (trips bs w).st.bay b = w.st.bay b := by
  induction bs generalizing w with
  | nil => rfl
  | cons c bs ih =>
    rw [List.mem_cons, not_or] at absent
    exact (ih absent.2).trans (tripBay_others absent.1)

/-- What a trip makes of a bay depends on this bay and the time alone. -/
theorem Tripped.congr {y : Bay} (trip : Tripped kind t b y) (bay : t.bay b = s.bay b) (seconds : t.seconds = s.seconds) :
    Tripped kind s b y := by
  obtain ⟨⟨cls, charge⟩, counters, channel, attrs, view, present⟩ := trip
  rw [bay] at counters channel view present
  rw [bay, seconds] at attrs
  refine ⟨⟨cls, ?_⟩, counters, channel, attrs, view, present⟩
  rw [charge, faultedCharge, faultedCharge, trippedCharge, trippedCharge, bay, seconds]

theorem trips_bay (once : bs.Nodup) (among : b ∈ bs) : Tripped .overdraw w.st b ((trips bs w).st.bay b) := by
  induction bs generalizing w with
  | nil => cases among
  | cons c bs ih =>
    obtain ⟨fresh, later⟩ := List.nodup_cons.1 once
    change Tripped .overdraw w.st b ((trips bs (tripBay c .overdraw w)).st.bay b)
    by_cases own : b = c
    · subst own
      rw [trips_others fresh]
      exact tripBay_bay
    · exact (ih later ((List.mem_cons.1 among).resolve_left own)).congr (tripBay_others own) tripBay_seconds

theorem retires_congr (bay : t.bay b = s.bay b) (seconds : t.seconds = s.seconds) : retires b t = retires b s := by
  rw [retires, retires, bay, seconds]

/-! ### The notices -/

theorem tripBay_clean (other : c ≠ b) : Tells (·.driftsAt b) 350 w.todo (tripBay c kind w).todo := by
  by_cases gone : retires c w.st = true
  · obtain ⟨x, y, todo, before, after, light⟩ := tripBay_retires (kind := kind) gone
    refine ⟨_, todo, fun n among => ?_, light⟩
    rcases List.mem_append.1 among with first | last
    · exact .inl (before n first)
    · rcases List.mem_cons.1 last with rfl | last
      · exact .inr ⟨c, other, rfl⟩
      · exact .inl (after n last)
  · exact (tripBay_tells (by simpa using gone)).weaken fun _ => .inl

theorem tripBay_light : Tells (fun _ => True) 350 w.todo (tripBay b kind w).todo := by
  by_cases gone : retires b w.st = true
  · obtain ⟨x, y, todo, -, -, light⟩ := tripBay_retires (kind := kind) gone
    exact ⟨_, todo, fun _ _ => trivial, light⟩
  · exact (tripBay_tells (by simpa using gone)).weaken fun _ _ => trivial

/-- What several works tell that each tell notices of a class. -/
theorem forEach_tells {α : Type} {f : α → Work → Work} {p : Notice → Prop} {k : Nat} {xs : List α}
    (each : ∀ x ∈ xs, ∀ w : Work, Tells p k w.todo (f x w).todo) : Tells p (k * xs.length) w.todo (forEach xs f w).todo := by
  induction xs generalizing w with
  | nil => exact .refl
  | cons x xs ih =>
    refine ((each x (List.mem_cons_self ..) w).trans (ih fun y among => each y (List.mem_cons_of_mem _ among))).mono ?_
    rw [List.length_cons, Nat.mul_succ, Nat.add_comm]

theorem trips_clean (absent : b ∉ bs) : Tells (·.driftsAt b) (350 * bs.length) w.todo (trips bs w).todo :=
  forEach_tells fun _ among _ => tripBay_clean fun own => absent (own ▸ among)

theorem trips_light : Tells (fun _ => True) (350 * bs.length) w.todo (trips bs w).todo :=
  forEach_tells fun _ _ _ => tripBay_light

/-- The notices of several trips, seen from a bay that one of them does not retire. -/
theorem trips_kept (once : bs.Nodup) (kept : retires b w.st = false) :
    Tells (·.driftsAt b) (350 * bs.length) w.todo (trips bs w).todo := by
  induction bs generalizing w with
  | nil => exact .refl
  | cons c bs ih =>
    obtain ⟨fresh, later⟩ := List.nodup_cons.1 once
    change Tells (·.driftsAt b) _ w.todo (trips bs (tripBay c .overdraw w)).todo
    have first : Tells (·.driftsAt b) 350 w.todo (tripBay c .overdraw w).todo := by
      by_cases own : c = b
      · exact (tripBay_tells (own ▸ kept)).weaken fun _ => .inl
      · exact tripBay_clean own
    have rest : Tells (·.driftsAt b) (350 * bs.length) (tripBay c .overdraw w).todo (trips bs (tripBay c .overdraw w)).todo := by
      by_cases own : c = b
      · exact trips_clean (own ▸ fresh)
      · refine ih later ?_
        rw [retires_congr (tripBay_others fun its => own its.symm) tripBay_seconds]
        exact kept
    refine (first.trans rest).mono ?_
    rw [List.length_cons]
    omega

/-- The notices of several trips, seen from a bay that one of them retires. -/
theorem trips_retired (once : bs.Nodup) (among : b ∈ bs) (gone : retires b w.st = true) :
    ∃ x y, (trips bs w).todo = w.todo ++ (x ++ .serviceChanged b :: y) ∧ (∀ n ∈ x, n.driftsAt b) ∧ (∀ n ∈ y, n.driftsAt b) := by
  induction bs generalizing w with
  | nil => cases among
  | cons c bs ih =>
    obtain ⟨fresh, later⟩ := List.nodup_cons.1 once
    change ∃ x y, (trips bs (tripBay c .overdraw w)).todo = _ ∧ _ ∧ _
    by_cases own : b = c
    · subst own
      obtain ⟨x, y, first, before, after, -⟩ := tripBay_retires (kind := .overdraw) gone
      obtain ⟨z, rest, clean, -⟩ := trips_clean (w := tripBay b .overdraw w) fresh
      refine ⟨x, y ++ z, ?_, fun n among => .inl (before n among), fun n among => ?_⟩
      · rw [rest, first]
        simp only [List.append_assoc, List.cons_append]
      · exact (List.mem_append.1 among).elim (fun its => .inl (after n its)) (clean n)
    · have still : retires b (tripBay c .overdraw w).st = true := by
        rw [retires_congr (tripBay_others own) tripBay_seconds]
        exact gone
      obtain ⟨x, y, rest, before, after⟩ := ih later ((List.mem_cons.1 among).resolve_left own) still
      obtain ⟨z, first, clean, -⟩ := tripBay_clean (w := w) (kind := .overdraw) (Ne.symm own)
      refine ⟨z ++ x, y, ?_, fun n among => ?_, after⟩
      · rw [rest, first]
        simp only [List.append_assoc]
      · exact (List.mem_append.1 among).elim (clean n) (before n)

/-! ### Enough room for all notices -/

theorem weight_le_resting (once : bs.Nodup) (rests : ∀ b ∈ bs, managed (s.bay b).charge.state = false) :
    s.weight + 294 * bs.length ≤ 2968 := by
  have each (b : BayIx) : s.chargeWeight b + (s.bay b).sideWeight + (if b ∈ bs.toFinset then 294 else 0) ≤ 306 := by
    have side := sideWeight_le (s.bay b)
    split
    · next among =>
      have := chargeWeight_resting (rests b (List.mem_toFinset.1 among))
      omega
    · have := chargeWeight_le s b
      omega
  have bays : (∑ b, (s.chargeWeight b + (s.bay b).sideWeight + (if b ∈ bs.toFinset then 294 else 0))) ≤ ∑ _b : BayIx, 306 :=
    Finset.sum_le_sum fun b _ => each b
  have lanes : (∑ n, s.laneWeight n) ≤ ∑ _n : LaneIx, 260 := Finset.sum_le_sum fun n _ => laneWeight_le s n
  rw [Finset.sum_add_distrib, Finset.sum_ite_mem, Finset.univ_inter, Finset.sum_const, List.toFinset_card_of_nodup once,
    Finset.sum_const, Finset.card_univ, Fintype.card_fin] at bays
  rw [Finset.sum_const, Finset.card_univ, Fintype.card_fin] at lanes
  unfold State.weight
  simp only [smul_eq_mul] at bays lanes
  omega

theorem trips_weight (once : bs.Nodup) (told : w.told ≤ 42) : (trips bs w).weight ≤ noticeBound := by
  have rests : (trips bs w).st.weight + 294 * bs.length ≤ 2968 := weight_le_resting once fun b among => by
    obtain ⟨cls, charge⟩ := (trips_bay (w := w) once among).charge
    rw [charge]
    simp [faultedCharge, trippedCharge, withGrant, managed]
  obtain ⟨x, todo, -, light⟩ := trips_light (bs := bs) (w := w)
  have few : bs.length ≤ 8 := by
    have := once.length_le_card
    simpa using this
  have sum : (trips bs w).told = w.told + (x.map Notice.weight).sum := by
    rw [Work.told, todo, List.map_append, List.sum_append]
    rfl
  have bound : noticeBound = 4096 := rfl
  unfold Work.weight
  omega

end

end Sys2Proof.Machine
end

section
/-! What a measurement leaves of the frames, the guard and the OVERDRAW counts (R52, R73, R75). -/

namespace Sys2Proof.Machine

section
variable {s t : State} {b c : BayIx} {w : Work} {kind : FaultKind} {bs : List BayIx} {e : Effect}

/-! ### The frames -/

/-- R75: a trip of this bay now is its second fault. -/
def State.faultsTwice (s : State) (b : BayIx) : Bool := secondFault (s.bay b).charge s.seconds

/-- R75: the frames of several trips. -/
def tripsFrames (bs : List BayIx) (s : State) : List TxFrame := bs.flatMap fun b => tripFrames b .overdraw (s.faultsTwice b)

theorem tripsFrames_congr (same : ∀ b ∈ bs, t.bay b = s.bay b) (seconds : t.seconds = s.seconds) :
    tripsFrames bs t = tripsFrames bs s := by
  unfold tripsFrames State.faultsTwice
  rw [seconds]
  exact List.flatMap_congr fun b among => by rw [same b among]

theorem length_insertFrames (fs queue : List TxFrame) :
    (fs.foldl (fun q f => insertFrame f q) queue).length = queue.length + fs.length := by
  induction fs generalizing queue with
  | nil => rfl
  | cons f fs ih =>
    rw [List.foldl_cons, ih, length_insertFrame, List.length_cons]
    omega

theorem trips_linked {idle : Prop} (once : bs.Nodup) (room : w.st.lkc.queue.length + (tripsFrames bs w.st).length ≤ 8)
    (free : ∀ b ∈ bs, w.st.faultsTwice b = true → (w.st.bay b).claim = none) :
    (trips bs w).st.lkc = { w.st.lkc with queue := (tripsFrames bs w.st).foldl (fun q f => insertFrame f q) w.st.lkc.queue } ∧
      Tells (Calm idle) (350 * bs.length) w.todo (trips bs w).todo := by
  induction bs generalizing w with
  | nil => exact ⟨rfl, .refl⟩
  | cons b bs ih =>
    obtain ⟨fresh, later⟩ := List.nodup_cons.1 once
    have frames : tripsFrames (b :: bs) w.st = tripFrames b .overdraw (w.st.faultsTwice b) ++ tripsFrames bs w.st := rfl
    have same (c : BayIx) (among : c ∈ bs) : (tripBay b .overdraw w).st.bay c = w.st.bay c :=
      tripBay_others fun own => fresh (own ▸ among)
    have rest : tripsFrames bs (tripBay b .overdraw w).st = tripsFrames bs w.st := tripsFrames_congr same tripBay_seconds
    rw [frames, List.length_append] at room
    have here : TripRoom b .overdraw w.st := ⟨by unfold State.faultsTwice at room; omega, free b (List.mem_cons_self ..)⟩
    have lkc := tripBay_lkc here
    obtain ⟨linked, told⟩ := ih (w := tripBay b .overdraw w) later
      (by rw [rest, lkc, length_insertFrames]; unfold State.faultsTwice at room; omega) fun c among twice => by
        rw [State.faultsTwice, same c among, tripBay_seconds] at twice
        rw [same c among]
        exact free c (List.mem_cons_of_mem _ among) twice
    refine ⟨?_, ((tripBay_calm here).trans told).mono (by rw [List.length_cons]; omega)⟩
    change (trips bs (tripBay b .overdraw w)).st.lkc = _
    rw [linked, rest, lkc, frames, List.foldl_append]
    rfl

theorem trips_pvs : (trips bs w).st.pvs = w.st.pvs := by
  induction bs generalizing w with
  | nil => rfl
  | cons b bs ih => exact (ih (w := tripBay b .overdraw w)).trans tripBay_pvs

/-! ### The guard -/

theorem firstTrip_guard : (firstTrip b kind w).st.shu.guard = w.st.shu.guard := by
  have placed (v : Work) (f : TxFrame) : (place f v).st.shu = v.st.shu := by
    simp only [place, dropFrame]
    split <;> rfl
  have spared {s t : State} (h : Spares s t) : t.shu.guard = s.shu.guard := (congrArg (fun u : State => u.shu.guard) h).trans rfl
  have spares := faulting_spares (b := b) (w := w) (kind := kind)
  unfold firstTrip
  generalize refreshWish b (faulting b kind w) = r at spares ⊢
  rw [Work.raise_st, spared requestLimit_tunes.spares, placeEvent, placed, spared spares]

theorem setAttrs_shu (new : BayAttrs) : (setAttrs b new w).st.shu = w.st.shu := by
  rw [setAttrs_eq]
  change (attrsChanged b new w.st).shu = _
  have emptied (u : State) (r : Reader) (q : Byte) : (u.emptied r q).shu = u.shu := by
    rcases emptied_cases u r q with ⟨stays, -⟩ | ⟨x, -, -, its⟩
    · rw [stays]
    · rw [its]
      rfl
  unfold attrsChanged
  split
  · unfold claimCancelled
    change (State.emptied _ _ _).shu = _
    rw [emptied]
    split <;> rfl
  · rfl

theorem tripBay_guard : (tripBay b kind w).st.shu.guard = w.st.shu.guard := by
  have placed (v : Work) (f : TxFrame) : (place f v).st.shu = v.st.shu := by
    simp only [place, dropFrame]
    split <;> rfl
  rw [tripBay_eq]
  split
  · rw [placeEvent, placed, setAttrs_shu, firstTrip_guard]
  · exact firstTrip_guard

theorem trips_guard : (trips bs w).st.shu.guard = w.st.shu.guard := by
  induction bs generalizing w with
  | nil => rfl
  | cons b bs ih => exact (ih (w := tripBay b .overdraw w)).trans tripBay_guard

theorem evaluateGuard_guarded (active : s.shu.guard = true) : (evaluateGuard s).shu.guard = true := by
  rw [evaluateGuard_eq]
  simp only [guardAfter, active, if_true]
  split <;> rfl

/-- R53: only its lift timer ends the guard. -/
theorem Change.guarded (changed : Change e s t) (inner : e.inner = true) (active : s.shu.guard = true) : t.shu.guard = true := by
  cases changed
  case recompute =>
    unfold recomputed
    split
    · exact evaluateGuard_guarded (s := recomputeFloor (recomputeClaim s)) active
    · exact active
  case reads b rs =>
    unfold requestReads
    split <;> exact active
  case hand x k may => cases k <;> exact active
  case share u same => cases inner
  all_goals exact active

theorem finish_guarded (active : w.st.shu.guard = true) : w.finish.shu.guard = true :=
  finish_keeps (fun _ _ _ inner changed active => changed.guarded inner active) active

/-! ### The OVERDRAW counts -/

/-- R73: a bay that takes no part keeps its count. -/
theorem Drifts.uncounted (h : Drifts b s t) (rests : takesPart (s.bay b).charge.state = false) :
    (t.bay b).charge.overdraw = (s.bay b).charge.overdraw := by
  have apart : managed (s.bay b).charge.state = false :=
    Bool.eq_false_iff.2 fun its => by rw [managed_takesPart its] at rests; cases rests
  refine (h.keeps (P := fun u => (u.bay b).charge.state = (s.bay b).charge.state ∧
    (u.bay b).charge.overdraw = (s.bay b).charge.overdraw) (fun u v drift before => ?_) ⟨rfl, rfl⟩).2
  obtain ⟨state, count⟩ := before
  rcases drift.charge_eq with same | fresh | tuned
  · rw [same]
    exact ⟨state, count⟩
  · rw [fresh]
    exact ⟨state, count⟩
  · rcases tuned.state with same | ⟨moves, -⟩
    · exact ⟨same.trans state, (tuned.counted (.inr same)).trans count⟩
    · rw [state, apart] at moves
      cases moves

/-- R73: a bay that takes part afterwards keeps its count. -/
theorem Drifts.counted (h : Drifts b s t) (runs : takesPart (t.bay b).charge.state = true) :
    (t.bay b).charge.overdraw = (s.bay b).charge.overdraw := by
  refine h.keeps (P := fun u => takesPart (u.bay b).charge.state = true →
    (u.bay b).charge.overdraw = (s.bay b).charge.overdraw) (fun u v drift before runs => ?_) (fun _ => rfl) runs
  rcases drift.charge_eq with same | fresh | tuned
  · rw [same] at runs ⊢
    exact before runs
  · rw [fresh] at runs ⊢
    exact before runs
  · have ran : takesPart (u.bay b).charge.state = true := by
      rcases tuned.state with same | ⟨moves, -⟩
      · rwa [same] at runs
      · exact managed_takesPart moves
    exact (tuned.counted (.inl runs)).trans (before ran)

/-- R73: a count of 0 stays. -/
theorem Drifts.countZero (h : Drifts b s t) (zero : (s.bay b).charge.overdraw = 0) : (t.bay b).charge.overdraw = 0 := by
  refine h.keeps (P := fun u => (u.bay b).charge.overdraw = 0) (fun u v drift before => ?_) zero
  rcases drift.charge_eq with same | fresh | tuned
  · rw [same]
    exact before
  · rw [fresh]
    exact before
  · exact tuned.watches.1.elim (·.trans before) id

end

end Sys2Proof.Machine
end

section
/-! Settles O21: a measurement of every port. -/

namespace Sys2Proof.Machine

section
variable {s t u : State} {b c : BayIx} {w : Work} {kind : FaultKind} {bs : List BayIx} {ports : Vector PortSense 8} {d : Nat}

/-! ### One port -/

/-- R71: the power sensed at a port. -/
def portPower (p : PortSense) : Nat := p.milliVolts * p.milliAmps / 100000

/-- R73: the power sensed at a port is above the bound of its bay. -/
def portExceeds (p : PortSense) (c : Charge) : Prop := c.grant + c.grant / 10 < portPower p

theorem overBound_sense (p : PortSense) (c : Charge) : overBound (senseBay p c) = true ↔ portExceeds p c := decide_eq_true_iff

/-- R73: the count after a measurement. -/
theorem measured_overdraw (p : PortSense) (x : Bay) :
    (takesPart x.charge.state = false → (measureBay p x).charge.overdraw = x.charge.overdraw) ∧
    (takesPart x.charge.state = true → ¬ portExceeds p x.charge → (measureBay p x).charge.overdraw = 0) ∧
    (takesPart x.charge.state = true → portExceeds p x.charge → (measureBay p x).charge.overdraw = min 11 (x.charge.overdraw + 1)) := by
  rw [measureBay_charge]
  refine ⟨fun rests => ?_, fun runs below => ?_, fun runs above => ?_⟩
  · simp [overdrawStep, rests, senseBay]
  · have state : takesPart (senseBay p x.charge).state = true := runs
    have below : ¬ overBound (senseBay p x.charge) = true := fun its => below ((overBound_sense p _).1 its)
    rw [overdrawStep, if_pos state, if_neg below]
  · have state : takesPart (senseBay p x.charge).state = true := runs
    rw [overdrawStep, if_pos state, if_pos ((overBound_sense p _).2 above)]
    rfl

/-- R73: the trip of a bay at a measurement. -/
def portTrips (p : PortSense) (c : Charge) : Prop := takesPart c.state = true ∧ portExceeds p c ∧ 10 ≤ c.overdraw

theorem overdrawn_iff (p : PortSense) (x : Bay) : overdrawn (measureBay p x).charge = true ↔ portTrips p x.charge := by
  have state : (measureBay p x).charge.state = x.charge.state := by
    rw [measureBay_charge]
    rfl
  obtain ⟨-, below, above⟩ := measured_overdraw p x
  unfold overdrawn portTrips
  rw [state, Bool.and_eq_true, decide_eq_true_iff]
  refine and_congr_right fun runs => ?_
  by_cases exceeds : portExceeds p x.charge
  · rw [above runs exceeds]
    simp only [exceeds, true_and]
    omega
  · rw [below runs exceeds]
    simp [exceeds]

/-- What a measurement leaves of a bay beside its charge section and the energy. -/
theorem measured_others (p : PortSense) (x : Bay) : measureBay p x = { x with
    charge := (measureBay p x).charge
    counters := { x.counters with
      energy := x.counters.energy + BitVec.ofNat 32 ((x.charge.remainder + portPower p * 100) / 10000) } } := by
  have energy : energyStep (overdrawStep (senseBay p x.charge)) = energyStep (senseBay p x.charge) := by
    rw [overdrawStep_eq]
    rfl
  unfold measureBay countEnergy
  dsimp only
  rw [energy]
  rfl

theorem measured_values (p : PortSense) (x : Bay) : (measureBay p x).charge = { x.charge with
    milliVolts := p.milliVolts
    milliAmps := p.milliAmps
    power := portPower p
    overdraw := (measureBay p x).charge.overdraw
    remainder := (x.charge.remainder + portPower p * 100) % 10000 } := by
  rw [measureBay_charge]
  rfl

/-! ### The bays that trip -/

theorem forEach_overdrawn (once : bs.Nodup) (same : ∀ b ∈ bs, w.st.bay b = u.bay b) :
    forEach bs (fun b w => if overdrawn (w.st.bay b).charge = true then tripBay b .overdraw w else w) w =
      trips (bs.filter fun b => overdrawn (u.bay b).charge) w := by
  induction bs generalizing w with
  | nil => rfl
  | cons b bs ih =>
    obtain ⟨fresh, later⟩ := List.nodup_cons.1 once
    have here := same b (List.mem_cons_self ..)
    have there (c : BayIx) (among : c ∈ bs) := same c (List.mem_cons_of_mem _ among)
    rw [List.filter_cons]
    change forEach bs _ (if overdrawn (w.st.bay b).charge = true then tripBay b .overdraw w else w) = _
    rw [here]
    split
    · refine ih later fun c among => (tripBay_others fun own => ?_).trans (there c among)
      subst own
      exact fresh among
    · exact ih later there

/-- The bays that trip at a measurement. -/
def tripping (ports : Vector PortSense 8) (s : State) : List BayIx :=
  s.populatedBays.filter fun b => overdrawn ((metered ports s).bay b).charge

/-- R39: the draw of a measurement. -/
def totalPower (ports : Vector PortSense 8) (s : State) : Nat := (s.populatedBays.map fun b => portPower ports[b]).sum

theorem takeMeasurement_eq : takeMeasurement ports (startWork s) =
    trips (tripping ports s) (presentDraw (totalPower ports s) (startWork (metered ports s))) := by
  have begun : (startWork s).st.populatedBays = s.populatedBays := rfl
  obtain ⟨shu, st, -⟩ := presented_st (s := metered ports s) (draw := totalPower ports s)
  unfold takeMeasurement
  rw [begun, forEach_measure]
  have draw : (startWork (metered ports s)).st.measuredDraw = totalPower ports s := measuredDraw_metered
  dsimp only
  rw [draw]
  generalize presentDraw (totalPower ports s) (startWork (metered ports s)) = w at st ⊢
  have bays : w.st.populatedBays = s.populatedBays := by rw [st]; rfl
  rw [bays]
  exact forEach_overdrawn (populatedBays_nodup s) fun b _ => by rw [st]; rfl

theorem tripping_nodup : (tripping ports s).Nodup := (populatedBays_nodup s).filter _

theorem mem_tripping_iff : b ∈ tripping ports s ↔ s.populated b = true ∧ portTrips ports[b] (s.bay b).charge := by
  rw [tripping, List.mem_filter, mem_populatedBays_iff]
  refine and_congr_right fun there => ?_
  rw [metered_bay, if_pos there]
  exact overdrawn_iff _ _

/-! ### What a trip leaves of the values -/

theorem Tripped.charge_steady {y : Bay} (trip : Tripped kind s b y) :
    y.charge.steady = { (s.bay b).charge with lastFault := some s.seconds, faultKind := some kind }.steady := by
  obtain ⟨cls, charge⟩ := trip.charge
  have kept : ((s.bay b).charge.moved .fault).steady = (s.bay b).charge.steady := by
    unfold Charge.moved
    split <;> [rfl; split <;> rfl]
  rw [charge]
  change { ((s.bay b).charge.moved .fault).steady with lastFault := some s.seconds, faultKind := some kind } =
    { (s.bay b).charge.steady with lastFault := some s.seconds, faultKind := some kind }
  rw [kept]

theorem secondFault_eq (c : Charge) (now : Nat) : secondFault c now = c.lastFault.any fun last => decide (now - last < 600) := by
  unfold secondFault
  cases c.lastFault <;> rfl

/-- The state of a measurement before its trips. -/
theorem measurement_begins (ports : Vector PortSense 8) (s : State) :
    ∃ (w : Work) (shu : Shu), takeMeasurement ports (startWork s) = trips (tripping ports s) w ∧
      w.st = { metered ports s with shu := shu } ∧ w.told ≤ 42 ∧ (∀ n ∈ w.todo, n = .recompute) ∧
      shu.draw = min (totalPower ports s) 65535 ∧ shu.history = s.shu.history ∧
      (s.cfl.phase = .active → shu = (evaluateGuard (drawn (totalPower ports s) s)).shu) ∧
      (s.cfl.phase ≠ .active → w.todo = [] ∧ shu = (drawn (totalPower ports s) s).shu) ∧
      (s.cfl.phase = .active → ¬ drawStarts (totalPower ports s) s → w.todo = []) := by
  obtain ⟨shu, st, draw, history, guarded, todo⟩ := presented_st (s := metered ports s) (draw := totalPower ports s)
  obtain ⟨rests, -, stays⟩ := draw_presented (s := metered ports s) (draw := totalPower ports s)
  have same : (evaluateGuard (drawn (totalPower ports s) (metered ports s))).shu = (evaluateGuard (drawn (totalPower ports s) s)).shu :=
    evaluateGuard_congr rfl rfl rfl rfl
  refine ⟨_, shu, takeMeasurement_eq, st, ?_, fun n among => ?_, draw, history, fun active => (guarded active).trans same,
    fun inactive => ?_, fun active few => ?_⟩
  · rcases todo with none | one
    · rw [Work.told, none]
      exact Nat.zero_le _
    · rw [Work.told, one]
      exact le_rfl
  · rcases todo with none | one
    · rw [none] at among
      cases among
    · rw [one] at among
      exact List.mem_singleton.1 among
  · have its := rests inactive
    rw [its] at st ⊢
    exact ⟨rfl, (congrArg State.shu st).symm⟩
  · rw [stays active fun its => few ?_]
    · rfl
    · unfold drawStarts at its ⊢
      rw [same] at its
      exact its

/-- What working the notices leaves of a bay. -/
theorem finished_steady (b : BayIx) : ((trips (tripping ports s) w).finish.bay b).steady = ((trips (tripping ports s) w).st.bay b).steady :=
  steady_bay (finish_steady _) b

section
variable {shu : Shu} (st : w.st = { metered ports s with shu := shu }) (told : w.told ≤ 42) (recomputes : ∀ n ∈ w.todo, n = .recompute)
include st

theorem begun_bay (b : BayIx) : w.st.bay b = (metered ports s).bay b := by
  rw [st]
  rfl

theorem begun_seconds : w.st.seconds = s.seconds := by
  rw [st]
  rfl

/-- A bay that trips, before its trip. -/
theorem begun_trips (among : b ∈ tripping ports s) :
    w.st.bay b = measureBay ports[b] (s.bay b) ∧ portTrips ports[b] (s.bay b).charge := by
  obtain ⟨there, its⟩ := mem_tripping_iff.1 among
  rw [begun_bay st, metered_bay, if_pos there]
  exact ⟨rfl, its⟩

theorem faultsTwice_begun (b : BayIx) : w.st.faultsTwice b =
    (s.bay b).charge.lastFault.any fun last => decide (s.seconds - last < 600) := by
  have last : (w.st.bay b).charge.lastFault = (s.bay b).charge.lastFault := by
    rw [begun_bay st, metered_bay]
    split
    · rw [measured_values]
    · rfl
  rw [State.faultsTwice, secondFault_eq, last, begun_seconds st]

theorem retires_begun (b : BayIx) : retires b w.st = (w.st.faultsTwice b && !(s.bay b).attrs.outOfService) := by
  have attrs : (w.st.bay b).attrs = (s.bay b).attrs := by
    rw [begun_bay st, metered_bay]
    split
    · rw [measured_others]
    · rfl
  rw [retires, attrs]
  rfl

include recomputes in
/-- A bay that does not trip. -/
theorem untripped (absent : b ∉ tripping ports s) :
    (trips (tripping ports s) w).st.bay b = (metered ports s).bay b ∧
      Drifts b (trips (tripping ports s) w).st (trips (tripping ports s) w).finish := by
  obtain ⟨x, todo, clean, -⟩ := trips_clean (w := w) absent
  refine ⟨(trips_others absent).trans (begun_bay st b), finish_driftsAt fun n among => ?_⟩
  rw [todo] at among
  rcases List.mem_append.1 among with first | last
  · rw [recomputes n first]
    exact .inl rfl
  · exact clean n last

include told recomputes in
/-- R75: a bay that trips. -/
theorem tripped_halts (among : b ∈ tripping ports s) : ((trips (tripping ports s) w).finish.bay b).Halted
    (if retires b w.st = true then .outOfService else .fault) ((s.bay b).channel.state = .active) := by
  obtain ⟨bay, runs, -⟩ := begun_trips st among
  have trip := trips_bay (w := w) tripping_nodup among
  have fault := trip.shut (by rw [bay, measured_values]; exact runs)
  have halted : ((trips (tripping ports s) w).st.bay b).Halted .fault ((s.bay b).channel.state = .active) := by
    refine ⟨fault.1, fault.2, fun active => ?_⟩
    have active : (w.st.bay b).channel.state = .active := by
      rw [bay, measured_others]
      exact active
    rw [trip.channel, if_pos active]
  have first (n : Notice) (among : n ∈ w.todo) : n.driftsAt b := by
    rw [recomputes n among]
    exact .inl rfl
  by_cases gone : retires b w.st = true
  · rw [if_pos gone]
    obtain ⟨x, y, todo, before, after⟩ := trips_retired tripping_nodup among gone
    have second : secondFault (w.st.bay b).charge w.st.seconds = true := (Bool.and_eq_true_iff.1 gone).1
    refine finish_retired halted (by rw [trip.attrs, trippedAttrs, if_pos second]) (todo.trans (List.append_assoc ..).symm)
      (trips_weight tripping_nodup told) (fun n its => ?_) after
    exact (List.mem_append.1 its).elim (first n) (before n)
  · rw [if_neg gone]
    obtain ⟨x, todo, clean, -⟩ := trips_kept (w := w) (b := b) (tripping_nodup (ports := ports) (s := s)) (by simpa using gone)
    refine finish_halted halted fun n its => ?_
    rw [todo] at its
    exact (List.mem_append.1 its).elim (first n) (clean n)

include recomputes in
/-- R71: the values and the energy of a populated bay. -/
theorem measured_kept (there : s.populated b = true) :
    let y := (trips (tripping ports s) w).finish.bay b
    y.charge.milliVolts = ports[b].milliVolts ∧ y.charge.milliAmps = ports[b].milliAmps ∧ y.charge.power = portPower ports[b] ∧
      y.charge.remainder = ((s.bay b).charge.remainder + portPower ports[b] * 100) % 10000 ∧
      y.counters.energy = (s.bay b).counters.energy +
        BitVec.ofNat 32 (((s.bay b).charge.remainder + portPower ports[b] * 100) / 10000) := by
  intro y
  have own := finished_steady (w := w) (ports := ports) (s := s) b
  have metered : (metered ports s).bay b = measureBay ports[b] (s.bay b) := by rw [metered_bay, if_pos there]
  have values := measured_values ports[b] (s.bay b)
  have others := congrArg (fun y : Bay => y.counters.energy) (measured_others ports[b] (s.bay b))
  have same : ((trips (tripping ports s) w).st.bay b).charge.milliVolts = (measureBay ports[b] (s.bay b)).charge.milliVolts ∧
      ((trips (tripping ports s) w).st.bay b).charge.milliAmps = (measureBay ports[b] (s.bay b)).charge.milliAmps ∧
      ((trips (tripping ports s) w).st.bay b).charge.power = (measureBay ports[b] (s.bay b)).charge.power ∧
      ((trips (tripping ports s) w).st.bay b).charge.remainder = (measureBay ports[b] (s.bay b)).charge.remainder ∧
      ((trips (tripping ports s) w).st.bay b).counters.energy = (measureBay ports[b] (s.bay b)).counters.energy := by
    by_cases among : b ∈ tripping ports s
    · have trip := trips_bay (w := w) tripping_nodup among
      have charge := trip.charge_steady
      rw [(begun_trips st among).1] at charge
      refine ⟨congrArg (·.milliVolts) charge, congrArg (·.milliAmps) charge, congrArg (·.power) charge,
        congrArg (·.remainder) charge, ?_⟩
      rw [trip.counters, (begun_trips st among).1]
    · rw [(untripped st recomputes among).1, metered]
      exact ⟨rfl, rfl, rfl, rfl, rfl⟩
  obtain ⟨volts, amps, watts, rest, energy⟩ := same
  rw [values] at volts amps watts rest
  exact ⟨(congrArg (·.charge.milliVolts) own).trans volts, (congrArg (·.charge.milliAmps) own).trans amps,
    (congrArg (·.charge.power) own).trans watts, (congrArg (·.charge.remainder) own).trans rest,
    (congrArg (·.counters.energy) own).trans (energy.trans others)⟩

/-- R75: the record of a trip. -/
theorem tripped_kept (among : b ∈ tripping ports s) :
    let y := (trips (tripping ports s) w).finish.bay b
    y.counters.faults = (s.bay b).counters.faults + 1 ∧ y.charge.faultKind = some .overdraw ∧ y.charge.lastFault = some s.seconds ∧
      y.attrs = trippedAttrs (w.st.faultsTwice b) (s.bay b).attrs := by
  intro y
  have own := finished_steady (w := w) (ports := ports) (s := s) b
  have trip := trips_bay (w := w) tripping_nodup among
  have charge := trip.charge_steady
  have metered := (begun_trips st among).1
  refine ⟨(congrArg (·.counters.faults) own).trans ?_, (congrArg (·.charge.faultKind) own).trans (congrArg (·.faultKind) charge),
    ((congrArg (·.charge.lastFault) own).trans (congrArg (·.lastFault) charge)).trans ?_, (congrArg (·.attrs) own).trans ?_⟩
  · change ((trips (tripping ports s) w).st.bay b).counters.faults = _
    rw [trip.counters, metered]
    rfl
  · exact congrArg some (begun_seconds st)
  · refine trip.attrs.trans ?_
    unfold State.faultsTwice
    rw [metered]
    rfl

include recomputes in
theorem untripped_kept (absent : b ∉ tripping ports s) :
    let y := (trips (tripping ports s) w).finish.bay b
    y.counters.faults = (s.bay b).counters.faults ∧ y.attrs = (s.bay b).attrs ∧ y.charge.faultKind = (s.bay b).charge.faultKind ∧
      (s.populated b = false → y.steady = (s.bay b).steady) := by
  intro y
  have own := finished_steady (w := w) (ports := ports) (s := s) b
  have bay := (untripped st recomputes absent).1
  rw [bay, metered_bay] at own
  split at own
  · next there =>
    exact ⟨congrArg (·.counters.faults) own, congrArg (·.attrs) own,
      (congrArg (·.charge.faultKind) own).trans (congrArg (·.faultKind) (measured_values ports[b] (s.bay b))),
      fun no => by rw [no] at there; cases there⟩
  · exact ⟨congrArg (·.counters.faults) own, congrArg (·.attrs) own, congrArg (·.charge.faultKind) own, fun _ => own⟩

include recomputes in
/-- R73: the counts of the bays that do not trip. -/
theorem untripped_counts (absent : b ∉ tripping ports s) (there : s.populated b = true) :
    let y := (trips (tripping ports s) w).finish.bay b
    (takesPart (s.bay b).charge.state = true → ¬ portExceeds ports[b] (s.bay b).charge → y.charge.overdraw = 0) ∧
    (takesPart (s.bay b).charge.state = true → portExceeds ports[b] (s.bay b).charge → (s.bay b).charge.overdraw < 10 →
      takesPart y.charge.state = true → y.charge.overdraw = (s.bay b).charge.overdraw + 1) ∧
    (takesPart (s.bay b).charge.state = false → y.charge.overdraw = (s.bay b).charge.overdraw) := by
  intro y
  obtain ⟨bay, drifts⟩ := untripped st recomputes absent
  rw [metered_bay, if_pos there] at bay
  obtain ⟨rests, below, above⟩ := measured_overdraw ports[b] (s.bay b)
  rw [← bay] at rests below above
  have state : ((trips (tripping ports s) w).st.bay b).charge.state = (s.bay b).charge.state := by
    rw [bay, measured_values]
  refine ⟨fun runs none => drifts.countZero (below runs none), fun runs more few still => ?_, fun apart => ?_⟩
  · rw [drifts.counted still, above runs more]
    omega
  · rw [drifts.uncounted (state ▸ apart), rests apart]

/-- What no measurement touches. -/
theorem measured_view (b : BayIx) :
    let y := (trips (tripping ports s) w).finish.bay b
    y.view = (s.bay b).view ∧ y.present = (s.bay b).present ∧ y.channel.exchange = (s.bay b).channel.exchange := by
  intro y
  have own := finished_steady (w := w) (ports := ports) (s := s) b
  have begun : (w.st.bay b).view = (s.bay b).view ∧ (w.st.bay b).present = (s.bay b).present ∧
      (w.st.bay b).channel = (s.bay b).channel := by
    rw [begun_bay st, metered_bay]
    split
    · rw [measured_others]
      exact ⟨rfl, rfl, rfl⟩
    · exact ⟨rfl, rfl, rfl⟩
  have same : ((trips (tripping ports s) w).st.bay b).view = (w.st.bay b).view ∧
      ((trips (tripping ports s) w).st.bay b).present = (w.st.bay b).present ∧
      ((trips (tripping ports s) w).st.bay b).channel.exchange = (w.st.bay b).channel.exchange := by
    by_cases among : b ∈ tripping ports s
    · have trip := trips_bay (w := w) tripping_nodup among
      refine ⟨trip.view, trip.present, ?_⟩
      rw [trip.channel]
      split <;> rfl
    · rw [trips_others among]
      exact ⟨rfl, rfl, rfl⟩
  obtain ⟨view, present, channel⟩ := begun
  rw [view, present, channel] at same
  exact ⟨(congrArg (·.view) own).trans same.1, (congrArg (·.present) own).trans same.2.1,
    (congrArg (·.channel.exchange) own).trans same.2.2⟩

include recomputes in
/-- R75: the frames of a measurement. -/
theorem measured_linked (quiet : lanesQuiet s) (free : ∀ b ∈ tripping ports s, w.st.faultsTwice b = true → (s.bay b).claim = none)
    (room : s.lkc.queue.length + (tripsFrames (tripping ports s) w.st).length ≤ 8) :
    (trips (tripping ports s) w).finish.lkc = { s.lkc with
      queue := (tripsFrames (tripping ports s) w.st).foldl (fun q f => insertFrame f q) s.lkc.queue } := by
  have lkc : w.st.lkc = s.lkc := by rw [st]; rfl
  have pvs : w.st.pvs = s.pvs := by rw [st]; rfl
  obtain ⟨linked, x, todo, calm, -⟩ := trips_linked (idle := True) (w := w) tripping_nodup (lkc ▸ room) fun b among twice => by
    rw [(begun_trips st among).1, measured_others]
    exact free b among twice
  have still := Still.of_quiet (lanesQuiet_of_same quiet (trips_pvs.trans pvs) : lanesQuiet (trips (tripping ports s) w).st)
  rw [lkc] at linked
  refine (finish_calmed still fun n among => ?_).lkc.trans linked
  rw [todo] at among
  rcases List.mem_append.1 among with first | last
  · rw [recomputes n first]
    trivial
  · exact calm n last

end

/-- What no measurement changes of the rest of the station. -/
theorem SteadyBays.kept (h : SteadyBays s t) : t.now = s.now ∧ t.bcc.measureTimer = s.bcc.measureTimer ∧
    t.bcc.since = s.bcc.since ∧ t.shu.draw = s.shu.draw ∧ t.shu.history = s.shu.history ∧ t.cfl = s.cfl ∧ t.pmn = s.pmn ∧
      t.hands = s.hands ∧ t.rpu = s.rpu ∧ t.csu.credentials = s.csu.credentials ∧ t.csu.minute = s.csu.minute ∧
        t.pvs.campaigns = s.pvs.campaigns := by
  obtain ⟨bays, its⟩ := h
  exact ⟨(congrArg State.now its).trans rfl, (congrArg (fun u : State => u.bcc.measureTimer) its).trans rfl,
    (congrArg (fun u : State => u.bcc.since) its).trans rfl, (congrArg (fun u : State => u.shu.draw) its).trans rfl,
    (congrArg (fun u : State => u.shu.history) its).trans rfl, (congrArg State.cfl its).trans rfl,
    (congrArg State.pmn its).trans rfl, (congrArg State.hands its).trans rfl, (congrArg State.rpu its).trans rfl,
    (congrArg (fun u : State => u.csu.credentials) its).trans rfl, (congrArg (fun u : State => u.csu.minute) its).trans rfl,
    (congrArg (fun u : State => u.pvs.campaigns) its).trans rfl⟩

theorem exec_measurement (timer : s.bcc.measureTimer = some d) : exec (.measurement ports) s =
    .next (takeMeasurement ports (startWork { s.advanceTo d with bcc := { s.bcc with measureTimer := some (d + 100) } })).finish := by
  change execMeasurement ports s = _
  unfold execMeasurement
  rw [timer]
  rfl

/-- Settles O21. -/
theorem measurementTakesEveryPort : Obligations.MeasurementTakesEveryPort := by
  refine ⟨fun draw s => draw_presented, fun d ports s timer => ?_⟩
  intro power energy exceeds trip time second total watched
  have ran := exec_measurement (ports := ports) timer
  let u : State := { s.advanceTo d with bcc := { s.bcc with measureTimer := some (d + 100) } }
  obtain ⟨w, shu, its, st, told, recomputes, draw, history, guarded, inactive, few⟩ := measurement_begins ports u
  rw [its] at ran
  have begun (b : BayIx) : b ∈ tripping ports u ↔ s.populated b = true ∧ trip b := mem_tripping_iff
  have sum : min (totalPower ports u) 65535 = total := Nat.min_comm ..
  have twice (b : BayIx) : w.st.faultsTwice b = second b := faultsTwice_begun st b
  have shus : w.st.shu = shu := by rw [st]
  have kept := (trips_but (bs := tripping ports u) (w := w)).trans (.of_steady (finish_steady _))
  have parts := kept.kept
  rw [st] at parts
  obtain ⟨now, meter, since, drew, past, cfl, pmn, hands, rpu, credentials, minute, campaigns⟩ := parts
  have evaluated : (evaluateGuard (drawn (totalPower ports u) u)).shu = watched.shu :=
    evaluateGuard_congr (congrArg (fun n => { s.shu with draw := n }) sum) rfl rfl rfl
  have noTrips (none : ∀ b : BayIx, s.populated b = true → ¬ trip b) : tripping ports u = [] :=
    List.eq_nil_iff_forall_not_mem.2 fun b among => none b ((begun b).1 among).1 ((begun b).1 among).2
  refine ⟨_, ran, now, meter, since, drew.trans (draw.trans sum), fun active guard => ?_, fun none => ⟨fun rests => ?_,
    fun active below above same => ?_⟩, ?_, cfl, pmn, hands, rpu, past.trans history, credentials, minute, campaigns,
    fun b there => ?_, fun b away => ?_, fun b => measured_view st b⟩
  · refine finish_guarded (trips_guard.trans ?_)
    rw [shus, guarded active, evaluated]
    exact guard
  · have none := noTrips none
    rw [none]
    change w.finish.shu = _
    obtain ⟨todo, its⟩ := inactive rests
    rw [finish_of_quiet todo, shus, its]
    exact congrArg (fun n => { s.shu with draw := n }) sum
  · have none := noTrips none
    rw [none]
    change w.finish.shu = _
    rw [finish_of_quiet (few active fun starts => ?_), shus, guarded active, evaluated]
    unfold drawStarts at starts
    rw [evaluated, sum] at starts
    rcases starts with more | less | other
    · exact absurd more (by change ¬ s.shu.refDraw + 10 ≤ total; omega)
    · exact absurd less (by change ¬ total + 10 ≤ s.shu.refDraw; omega)
    · exact other same
  · intro bays events free quiet room
    have list : tripping ports u = bays := by
      have both : tripping ports u = allBays.filter fun b => overdrawn ((metered ports u).bay b).charge && u.populated b :=
        List.filter_filter ..
      rw [both]
      refine List.filter_congr fun b _ => Bool.eq_iff_iff.2 ?_
      have same := begun b
      rw [both, List.mem_filter] at same
      refine ((and_iff_right (mem_allBays b)).symm.trans same).trans ?_
      simp only [Bool.and_eq_true, decide_eq_true_eq, and_assoc]
      rfl
    have frames : tripsFrames (tripping ports u) w.st = events := by
      rw [list]
      refine List.flatMap_congr fun b _ => ?_
      rw [twice]
      rfl
    have linked := measured_linked st recomputes quiet (fun b among again => free b (list ▸ among) (twice b ▸ again)) (frames ▸ room)
    rw [frames] at linked
    exact linked
  · obtain ⟨volts, amps, watts, rest, count⟩ := measured_kept st recomputes there
    by_cases among : b ∈ tripping ports u
    · obtain ⟨-, trips⟩ := (begun b).1 among
      obtain ⟨faults, kind, last, attrs⟩ := tripped_kept st among
      have halted := tripped_halts st told recomputes among
      obtain ⟨runs, above, many⟩ := trips
      rw [twice] at attrs
      refine ⟨volts, amps, watts, rest, count, fun _ below => absurd above below, fun _ _ few => absurd many (by omega),
        fun apart => absurd (runs.symm.trans apart) (by decide), fun _ => ⟨faults, kind, halted.shut.overdraw, halted.shut.shortHold,
          last, halted.shut.grant, halted.shut.limit, halted.shut.wish, fun once => ?_, fun again => ?_, halted.limit⟩,
        fun no => absurd ⟨runs, above, many⟩ no⟩
      · rw [once] at attrs
        have state := halted.state
        rw [retires_begun st, twice, once, Bool.false_and, if_neg Bool.false_ne_true] at state
        exact ⟨state, attrs⟩
      · rw [again] at attrs
        refine ⟨attrs, fun serves => ?_⟩
        have state := halted.state
        have serves : (u.bay b).attrs.outOfService = false := serves
        rw [retires_begun st, twice, again, serves] at state
        exact state
    · obtain ⟨faults, attrs, kind, -⟩ := untripped_kept st recomputes among
      obtain ⟨below, above, rests⟩ := untripped_counts st recomputes among there
      exact ⟨volts, amps, watts, rest, count, below, above, rests, fun its => absurd ((begun b).2 ⟨there, its⟩) among,
        fun _ => ⟨faults, attrs, kind⟩⟩
  · exact (untripped_kept st recomputes fun among => by rw [((begun b).1 among).1] at away; cases away).2.2.2 away

end

end Sys2Proof.Machine
end

section
/-! Refutes O32: a bay whose battery is hot while it is managed. -/

namespace Sys2Proof.Machine

/-- A battery reading at a temperature. -/
def batteryAt (temperature : Int) : Battery :=
  { soc := 50, temperature, health := 90, full := false, charging := true, fault := false }

/-- Bay 0 is CHARGING with a battery at 100 °C in its view, and the EXIT write of its session is pending on its ACTIVE
channel. -/
def hotBay : Bay :=
  { present := true, view := { battery := some (batteryAt 100) }, charge := { state := .charging }
    channel := { state := .active, provControl := some { enter := false, campaign := 40 } } }

/-- Bay 1 waits for the lane, and meets every condition of R144. -/
def waitingBay : Bay :=
  { present := true, channel := { state := .active }, charge := { state := .held }, door := { state := .secure }
    view := { battery := some (batteryAt 20), profile := some { code := 63, version := 1, state := .idle, progress := 0 } } }

/-- A station in ACTIVE with these two bays, lane 0 RELEASING for bay 0. -/
def hotState : State :=
  { State.reset with
    cfl := { cflReset with phase := .active, address := 5, populated := 2 }
    bays := (State.reset.bays.set 0 hotBay).set 1 waitingBay
    pvs :=
      { campaigns := #v[some { id := 40, profile := 63, target := 2, model := 0, groups := 255, limit := 10, urgent := false },
          none, none, none]
        lanes := #v[some { bay := 0, slot := 0, campaign := 40, asset := none, minute := 0, stage := .releasing .success,
                           wakeWait := none, limit := none, entered := none, accepted := true }, none]
        queue := [{ bay := 1, slot := 0, urgent := false, since := 0 }] } }

/-- R89: the stretch that makes the channel of bay 0 STUCK. -/
def lowRun480 : WireRun := { high := false, length := 480 }

/-- The CANCELLED EXIT write makes lane 0 IDLE, bay 1 takes the lane, and the split of its new wish finds the hot battery of
bay 0: it is in THERMAL before the BCC hears that its channel is STUCK. -/
theorem hotState_stuck : ((watchStretch 0 hotState lowRun480).bay 0).charge.state = .thermal := by
  decide +kernel

/-- Refutes O32: a managed bay is not UNMANAGED after its wire is STUCK, where a write that the stuck wire cancels starts a
split that moves the bay to THERMAL first. -/
theorem not_stuckWireSilences : ¬ Obligations.StuckWireSilences := by
  intro holds
  obtain ⟨⟨-, stretch⟩, -⟩ := holds 0 hotState
  obtain ⟨t, ran, -, -, stuck, -⟩ := stretch lowRun480
  have its : t = watchStretch 0 hotState lowRun480 := (Host.Outcome.next.inj ran).symm
  obtain ⟨-, -, -, -, -, -, -, -, -, -, -, -, -, -, -, -, managed, -⟩ := stuck (.inl (by decide +kernel)) (by decide +kernel)
  have unmanaged := (managed (.inl (by decide +kernel))).1
  rw [its, hotState_stuck] at unmanaged
  cases unmanaged

end Sys2Proof.Machine
end

section
/-! Refutes O49: a release that is cancelled puts another bay on a lane before the PVS hears of the door. -/

namespace Sys2Proof.Machine

/-- A queued OFFER of reader 0. -/
def offerOf (sequence : Byte) : TxFrame := newFrame .offer 100 toAll [0, sequence] .csu

/-- The session of lane 0, in WAKING for bay 0. -/
def sessionOfBay0 : LaneSession :=
  { bay := 0, slot := 0, campaign := 40, asset := none, minute := 0, stage := .waking, wakeWait := none, limit := none
    entered := none, accepted := true }

/-- Bay 0 is CHARGING with a battery at 100 °C in its view, and a release waits for its lane. -/
def lockedHotBay : Bay :=
  { present := true, view := { battery := some (batteryAt 100) }, charge := { state := .charging }
    channel := { state := .active }
    door :=
      { state := .secure, pendingLane := true
        release := some { reason := .checkout, credential := 7, reader := 0, sequence := 1, start := 0 } } }

/-- Bay 1 meets every condition of R144 but for its claim, whose OFFER is queued. -/
def claimedBay : Bay :=
  { waitingBay with
    claim := some { reader := 0, sequence := 9, kind := .checkout, credential := 7, endTime := 0, inWindow := false, key := 0 } }

/-- A station in ACTIVE with these two bays and a full transmit queue, whose last frame is the OFFER of bay 1's claim. -/
def lockedState : State :=
  { State.reset with
    cfl := { cflReset with phase := .active, address := 5, populated := 2 }
    lkc := { State.reset.lkc with queue := List.replicate 7 (offerOf 3) ++ [offerOf 9] }
    bays := (State.reset.bays.set 0 lockedHotBay).set 1 claimedBay
    pvs :=
      { campaigns := #v[some { id := 40, profile := 63, target := 2, model := 0, groups := 255, limit := 10, urgent := false },
          none, none, none]
        lanes := #v[some sessionOfBay0, none] } }

/-- The DENY of the cancelled release takes the place of bay 1's OFFER, so bay 1 has no claim any more and takes lane 1; the
split of its new wish moves bay 0 to THERMAL, and the session of lane 0 has ended in ABORT_CHARGE before the PVS hears of
the open door. -/
theorem lockedState_opens : ((doorOpened 0 (startWork lockedState)).finish.lane 0).map (·.stage) =
    some (.releasing .abortCharge) := by
  decide +kernel

/-- Refutes O49: a session does not end in ABORT_CUSTODY when its door is forced open, where the opening cancels a release and
this, before the PVS hears of the door, starts a split that finds the battery of the bay hot. -/
theorem not_laneTimersFail : ¬ Obligations.LaneTimersFail := by
  intro holds
  obtain ⟨-, -, -, aborts, -⟩ := holds
  have session : lockedState.lane 0 = some sessionOfBay0 := by decide +kernel
  obtain ⟨served, -⟩ := aborts 0 sessionOfBay0 lockedState session (by decide +kernel) (.inl rfl) (by decide +kernel)
  obtain ⟨opens, -⟩ := served fun v its => by cases its
  obtain ⟨t, ran, lane, -⟩ := opens (by decide +kernel) (by decide +kernel) (by decide +kernel)
  have its : t = (doorOpened 0 (startWork lockedState)).finish := (Host.Outcome.next.inj ran).symm
  have stage := lockedState_opens
  rw [← its, lane] at stage
  cases stage

end Sys2Proof.Machine
end

section
/-! What the drifts of a command leave of a bay's view, its sessions, its timers and its voltage, and the managed states
between which they move it (R59, R60, R63). -/

namespace Sys2Proof.Machine

section
variable {s t : State} {b : BayIx}

theorem Drift.view_eq (drift : Drift b s t) : (t.bay b).view = (s.bay b).view := by
  cases drift with
  | other charge channel view sessions cfl => exact view
  | wish | tune | answered | channel => exact State.read_modBay _ b b (·.view) fun _ => rfl

theorem Drift.sessions_eq (drift : Drift b s t) : (t.bay b).counters.sessions = (s.bay b).counters.sessions := by
  cases drift with
  | other charge channel view sessions cfl => exact sessions
  | wish | tune | answered | channel => exact State.read_modBay _ b b (·.counters.sessions) fun _ => rfl

theorem Drifts.view (h : Drifts b s t) : (t.bay b).view = (s.bay b).view :=
  h.keeps (P := fun u => (u.bay b).view = (s.bay b).view) (fun _ _ drift before => drift.view_eq.trans before) rfl

theorem Drifts.sessions (h : Drifts b s t) : (t.bay b).counters.sessions = (s.bay b).counters.sessions :=
  h.keeps (P := fun u => (u.bay b).counters.sessions = (s.bay b).counters.sessions)
    (fun _ _ drift before => drift.sessions_eq.trans before) rfl

/-- R58: the timers and the stage of an identification stay. -/
theorem Drifts.timers (h : Drifts b s t) : (t.bay b).charge.identTimer = (s.bay b).charge.identTimer ∧
    (t.bay b).charge.unmanagedTimer = (s.bay b).charge.unmanagedTimer ∧ (t.bay b).charge.stage = (s.bay b).charge.stage := by
  refine h.keeps (P := fun u => (u.bay b).charge.identTimer = (s.bay b).charge.identTimer ∧
    (u.bay b).charge.unmanagedTimer = (s.bay b).charge.unmanagedTimer ∧
    (u.bay b).charge.stage = (s.bay b).charge.stage) (fun u v drift before => ?_) ⟨rfl, rfl, rfl⟩
  rcases drift.charge_eq with same | fresh | tuned
  · rw [same]
    exact before
  · rw [fresh]
    exact before
  · obtain ⟨ident, unmanaged, stage⟩ := tuned.timers
    obtain ⟨ident', unmanaged', stage'⟩ := before
    exact ⟨ident.trans ident', unmanaged.trans unmanaged', stage.trans stage'⟩

/-- R63: the voltage stays, or is the one that the tablet requests. -/
theorem Drifts.voltage (h : Drifts b s t) : (t.bay b).charge.voltage = (s.bay b).charge.voltage ∨
    (t.bay b).charge.voltage = requestedVoltage (s.bay b).view := by
  refine (h.keeps (P := fun u => (u.bay b).view = (s.bay b).view ∧ ((u.bay b).charge.voltage = (s.bay b).charge.voltage ∨
    (u.bay b).charge.voltage = requestedVoltage (s.bay b).view)) (fun u v drift before => ?_) ⟨rfl, .inl rfl⟩).2
  obtain ⟨view, voltage⟩ := before
  refine ⟨drift.view_eq.trans view, ?_⟩
  rcases drift.charge_eq with same | fresh | tuned
  · rw [same]
    exact voltage
  · rw [fresh]
    exact voltage
  · rcases tuned.asked with same | asked
    · rw [same]
      exact voltage
    · exact .inr (asked.trans (congrArg requestedVoltage view))

/-! ### Managed states -/

/-- R59: the states in which a bay stays whose battery is not hot: MAINTAIN for a full one, and CHARGING and HELD for
another. -/
def State.Abides (s : State) (b : BayIx) : Prop :=
  (s.bay b).view.battery.any (batteryHot s.cfl.config) = false ∧
    ((s.bay b).charge.state = .maintain ∧ (s.bay b).view.battery.any (fun z => !batteryFull z) = false ∨
      ((s.bay b).charge.state = .charging ∨ (s.bay b).charge.state = .held) ∧
        (s.bay b).view.battery.any batteryFull = false)

theorem Drift.abides (drift : Drift b s t) (abides : s.Abides b) : t.Abides b ∧
    ((s.bay b).charge.state = .maintain ↔ (t.bay b).charge.state = .maintain) := by
  unfold State.Abides at abides ⊢
  rw [drift.view_eq, drift.cfl_eq]
  obtain ⟨cool, its⟩ := abides
  suffices state : (t.bay b).charge.state = (s.bay b).charge.state ∨
      ((s.bay b).charge.state = .charging ∨ (s.bay b).charge.state = .held) ∧
        ((t.bay b).charge.state = .charging ∨ (t.bay b).charge.state = .held) by
    rcases state with same | ⟨old, new⟩
    · rw [same]
      exact ⟨⟨cool, its⟩, .rfl⟩
    · have part : (s.bay b).view.battery.any batteryFull = false := by
        rcases its with ⟨maintain, -⟩ | ⟨-, part⟩
        · rw [maintain] at old
          rcases old with old | old <;> cases old
        · exact part
      refine ⟨⟨cool, .inr ⟨new, part⟩⟩, ?_⟩
      rcases old with old | old <;> rcases new with new | new <;> simp [old, new]
  rcases drift.charge_eq with same | fresh | tuned
  · exact .inl (congrArg Charge.state same)
  · exact .inl ((congrArg Charge.state fresh).trans rfl)
  · rcases tuned.moved with same | goes
    · exact .inl same
    · cases to_state : (t.bay b).charge.state with
      | thermal =>
        rw [to_state] at goes
        exact absurd (cool.symm.trans goes) Bool.false_ne_true
      | maintain =>
        rw [to_state] at goes
        obtain ⟨-, full⟩ : _ ∧ (s.bay b).view.battery.any batteryFull = true := goes
        rcases its with ⟨maintain, -⟩ | ⟨-, part⟩
        · exact .inl maintain.symm
        · exact absurd (part.symm.trans full) Bool.false_ne_true
      | charging | held =>
        rw [to_state] at goes
        rcases its with ⟨maintain, full⟩ | ⟨old, -⟩
        · rcases goes with other | part
          · exact absurd maintain other
          · exact absurd (full.symm.trans part) Bool.false_ne_true
        · exact .inr ⟨old, by simp⟩
      | _ =>
        rw [to_state] at goes
        exact goes.elim

/-- R59: such a bay stays in MAINTAIN, or between CHARGING and HELD. -/
theorem Drifts.abides (h : Drifts b s t) (abides : s.Abides b) : t.Abides b ∧
    ((s.bay b).charge.state = .maintain ↔ (t.bay b).charge.state = .maintain) :=
  h.keeps (P := fun u => u.Abides b ∧ ((s.bay b).charge.state = .maintain ↔ (u.bay b).charge.state = .maintain))
    (fun _ _ drift before => ⟨(drift.abides before.1).1, before.2.trans (drift.abides before.1).2⟩) ⟨abides, .rfl⟩

theorem Drifts.maintains (h : Drifts b s t) (abides : s.Abides b) (state : (s.bay b).charge.state = .maintain) :
    (t.bay b).charge.state = .maintain := (h.abides abides).2.1 state

theorem Drifts.charges (h : Drifts b s t) (abides : s.Abides b)
    (state : (s.bay b).charge.state = .charging ∨ (s.bay b).charge.state = .held) :
    (t.bay b).charge.state = .charging ∨ (t.bay b).charge.state = .held := by
  obtain ⟨⟨-, its⟩, same⟩ := h.abides abides
  rcases its with ⟨maintain, -⟩ | ⟨new, -⟩
  · rw [same.2 maintain] at state
    rcases state with state | state <;> cases state
  · exact new

end

end Sys2Proof.Machine
end

section
/-! Wish, voltage and state of a managed bay while notices are worked (R59, R63, R64): a wish that changes starts a split,
and a split leaves the state that wish and grant give. -/

namespace Sys2Proof.Machine

/-- R60, R63, R64: a managed bay whose battery is not hot, and full exactly in MAINTAIN, with the wish that the table
gives and, at grant 0, the voltage that is requested. -/
structure State.Fits (s : State) (b : BayIx) : Prop where
  manages : managed (s.bay b).charge.state = true
  settled : ∀ z : Battery, (s.bay b).view.battery = some z → z.temperature < s.cfl.config.tempHot ∧
    (z.full = true ∧ 95 ≤ z.soc ↔ (s.bay b).charge.state = .maintain)
  wish : (s.bay b).charge.wish = s.wishOf b
  voltage : (s.bay b).charge.grant = 0 → (s.bay b).charge.voltage = requestedVoltage (s.bay b).view

/-- R59: the state of a managed bay is the one that wish and grant give. -/
def State.Follows (s : State) (b : BayIx) : Prop :=
  (s.bay b).charge.state = heldState (s.bay b).charge.state (s.bay b).charge.wish (s.bay b).charge.grant

/-- Work after which a bay fits still, and follows wish and grant where it did or a split waits. -/
structure Steers (b : BayIx) (w v : Work) : Prop where
  fits : w.st.Fits b → v.st.Fits b
  follows : w.st.Fits b → w.st.Follows b ∨ .split ∈ w.todo → v.st.Follows b ∨ .split ∈ v.todo

/-- The effects that change neither a lane session nor, but for its wish and class, a charge section. -/
def Effect.steers : Effect → Bool
  | .lane | .tune _ | .applied => false
  | e => e.drifts

section
variable {s t : State} {b c : BayIx} {u v w : Work} {e : Effect} {n : LaneIx} {can : Set Effect}

theorem Steers.refl (b : BayIx) (w : Work) : Steers b w w := ⟨id, fun _ => id⟩

theorem Steers.trans (h : Steers b u v) (h' : Steers b v w) : Steers b u w :=
  ⟨fun fits => h'.fits (h.fits fits), fun fits before => h'.follows (h.fits fits) (h.follows fits before)⟩

/-- What a bay that fits can change without a doubt of it: its class, and all that wish and charge state do not read. -/
theorem State.Fits.of_same (fits : s.Fits b) (charge : ∃ cls, (t.bay b).charge = { (s.bay b).charge with cls := cls })
    (view : (t.bay b).view = (s.bay b).view) (cfl : t.cfl = s.cfl) (working : t.laneWorking b = s.laneWorking b) :
    t.Fits b := by
  obtain ⟨manages, settled, wish, voltage⟩ := fits
  obtain ⟨cls, charge⟩ := charge
  refine ⟨by rwa [charge], by rwa [view, charge, cfl], ?_, by rwa [charge, view]⟩
  have asked : requestedWish s.cfl.config (t.bay b) = requestedWish s.cfl.config (s.bay b) := by
    unfold requestedWish
    rw [view, charge]
  rw [wishOf_managed manages] at wish
  rw [wishOf_managed (by rwa [charge]), working, cfl, asked, charge]
  exact wish

theorem State.Follows.of_same (follows : s.Follows b) (charge : ∃ cls, (t.bay b).charge = { (s.bay b).charge with cls := cls }) :
    t.Follows b := by
  obtain ⟨cls, charge⟩ := charge
  unfold State.Follows at follows ⊢
  rwa [charge]

theorem Steers.of_same (charge : (v.st.bay b).charge = (w.st.bay b).charge) (view : (v.st.bay b).view = (w.st.bay b).view)
    (cfl : v.st.cfl = w.st.cfl) (working : v.st.laneWorking b = w.st.laneWorking b)
    (told : .split ∈ w.todo → .split ∈ v.todo) : Steers b w v where
  fits fits := fits.of_same ⟨_, charge⟩ view cfl working
  follows _ before := before.imp (fun follows => follows.of_same ⟨_, charge⟩) told

/-! ### What the effects leave -/

theorem Effect.drifts_of_steers (steers : e.steers = true) : e.drifts = true := by
  cases e <;> first | exact steers | cases steers

theorem Change.lane_steers (changed : Change e s t) (steers : e.steers = true) (n : LaneIx) : t.lane n = s.lane n := by
  cases changed
  case recompute =>
    rw [recomputed_eq]
    rfl
  case lane | reads | hand | lanes => cases steers
  all_goals rfl

theorem Effect.atCharge_of_steers (steers : e.steers = true) (other : ∀ c, e ≠ .wish c) (c : BayIx) : e.atCharge c := by
  cases e
  case wish d => exact absurd rfl (other d)
  case tune | enter | applied | present => cases steers
  all_goals trivial

/-- A wish computed afresh is the one that a bay has that fits. -/
theorem Change.charge_steers (changed : Change e s t) (steers : e.steers = true) (fits : s.Fits b) :
    ∃ cls, (t.bay b).charge = { (s.bay b).charge with cls := cls } := by
  by_cases fresh : ∃ c, e = .wish c
  · obtain ⟨c, rfl⟩ := fresh
    cases changed
    rw [State.charge_modCharge]
    split
    · next own =>
      refine ⟨s.classOf c, ?_⟩
      rw [← own, ← fits.wish]
    · exact ⟨_, rfl⟩
  · exact ⟨_, changed.charge_same (Effect.atCharge_of_steers steers fun c is => fresh ⟨c, is⟩) b⟩

theorem Change.steers (changed : Change e s t) (steers : e.steers = true) (fits : s.Fits b) :
    t.Fits b ∧ (s.Follows b → t.Follows b) := by
  have drift := changed.drift (b := b) (Effect.drifts_of_steers steers)
  have charge := changed.charge_steers steers fits
  exact ⟨fits.of_same charge drift.view_eq drift.cfl_eq (laneWorking_of_lane (changed.lane_steers steers) b),
    fun follows => follows.of_same charge⟩

theorem Acts.grow (acts : Acts can u v) {m : Notice} (told : m ∈ u.todo) : m ∈ v.todo := by
  induction acts with
  | refl => exact told
  | tail _ act ih =>
    cases act with
    | tell may => exact List.mem_append_left _ ih
    | change may changed => exact ih

theorem Acts.steers (acts : Acts can u v) (all : ∀ e ∈ can, e.steers = true) : Steers b u v where
  fits fits := acts.keeps (P := fun s => s.Fits b) (fun e may _ _ changed fits => (changed.steers (all e may) fits).1) fits
  follows fits before := before.imp
    (fun follows => (acts.keeps (P := fun s => s.Fits b ∧ s.Follows b) (fun e may _ _ changed holds =>
      have kept := changed.steers (all e may) holds.1
      ⟨kept.1, kept.2 holds.2⟩) ⟨fits, follows⟩).2) acts.grow

theorem Steers.raise (h : Steers b u v) (m : Notice) : Steers b u (v.raise m) :=
  h.trans (.of_same rfl rfl rfl rfl fun told => List.mem_append_left _ told)

/-! ### The effects of the notices -/

theorem steers_of_refreshing (h : e ∈ refreshing c) : e.steers = true := by
  rcases h with rfl | rfl | rfl | rfl <;> rfl

theorem steers_of_writing {r : DockRegister} (h : e ∈ writing r c) : e.steers = true := by
  rcases h with rfl | ⟨x, -, rfl | ⟨o, rfl⟩⟩ <;> rfl

theorem steers_of_placing {k : FrameKind} (h : e ∈ placing k) : e.steers = true := by
  rcases h with rfl | ⟨f, rfl⟩ <;> rfl

theorem steers_of_releasing (h : e ∈ releasing c) : e.steers = true := by
  rcases h with rfl | rfl | rfl | ⟨r, o, rfl⟩ <;> rfl

theorem steers_of_evaluating (h : e ∈ evaluating) : e.steers = true := by
  rcases h with rfl | rfl | rfl <;> rfl

/-! ### Lane sessions -/

/-- Wish and class of a bay are computed where the lane machine that serves it has changed. -/
theorem Steers.of_lane (charge : (v.st.bay b).charge = (w.st.bay b).charge) (view : (v.st.bay b).view = (w.st.bay b).view)
    (cfl : v.st.cfl = w.st.cfl) (working : b ≠ c → v.st.laneWorking b = w.st.laneWorking b)
    (told : .split ∈ w.todo → .split ∈ v.todo) : Steers b w (refreshWish c v) := by
  have refreshed := refreshWish_acts (w := v) (b := c) subset_rfl
  by_cases own : b = c
  · subst own
    have its := refreshWish_charge b b v
    rw [if_pos rfl] at its
    have view' : ((refreshWish b v).st.bay b).view = (w.st.bay b).view := by
      rw [(refreshWish_tunes (b := b) (w := v)).own]
      exact view
    have cfl' := (refreshWish_tunes (b := b) (w := v)).spares.cfl
    have pvs' := (refreshWish_tunes (b := b) (w := v)).spares.pvs
    have wished (fits : w.st.Fits b) : (refreshWish b v).st.wishOf b = v.st.wishOf b := by
      have manages : managed (v.st.bay b).charge.state = true := by
        rw [charge]
        exact fits.manages
      exact wishOf_congr cfl' pvs' (view'.trans view.symm) (by rw [its]) manages (by rw [its]; exact manages)
    refine ⟨fun fits => ⟨?_, ?_, ?_, ?_⟩, fun fits before => ?_⟩
    · rw [its, charge]
      exact fits.manages
    · rw [its, view', cfl', cfl, charge]
      exact fits.settled
    · rw [wished fits, its]
    · rw [its, view', charge]
      exact fits.voltage
    · by_cases same : v.st.wishOf b = (v.st.bay b).charge.wish
      · rcases before with follows | waits
        · refine .inl (follows.of_same ⟨v.st.classOf b, ?_⟩)
          rw [its, same, charge]
        · exact .inr (refreshed.grow (told waits))
      · refine .inr ?_
        have splits : (v.st.wishOf b != (v.st.bay b).charge.wish || v.st.classOf b != (v.st.bay b).charge.cls) = true := by
          simp [same]
        unfold refreshWish
        dsimp only
        rw [splits]
        exact List.mem_append_right _ (List.mem_singleton.2 rfl)
  · exact (Steers.of_same charge view cfl (working own) told).trans (refreshed.steers fun _ => steers_of_refreshing)

end

end Sys2Proof.Machine
end

section
/-! The notices that start, move or end a lane session leave wish and state of a managed bay to the split that they start
(R64, R147 to R152). -/

namespace Sys2Proof.Machine

section
variable {s t : State} {b c : BayIx} {u v w : Work} {e : Effect} {n : LaneIx} {x : LaneSession}

/-- Whether a session is at work for a bay. -/
def LaneSession.worksFor (x : LaneSession) (b : BayIx) : Prop := x.bay = b ∧ laneWorks x.stage = true

/-- A lane machine changes, and works for a bay where it did. -/
theorem laneWorking_setLane {y : Option LaneSession}
    (same : (∃ z, y = some z ∧ z.worksFor b) ↔ ∃ z, s.lane n = some z ∧ z.worksFor b) :
    (s.setLane n y).laneWorking b = s.laneWorking b := by
  rw [Bool.eq_iff_iff, laneWorking_eq_true_iff, laneWorking_eq_true_iff]
  refine exists_congr fun m => ?_
  by_cases own : m = n
  · subst own
    rw [State.lane_setLane_same]
    exact same
  · rw [State.lane_setLane, if_neg own]

theorem Steers.setLane {y : Option LaneSession}
    (same : (∃ z, y = some z ∧ z.worksFor b) ↔ ∃ z, w.st.lane n = some z ∧ z.worksFor b) :
    Steers b w (w.upd fun s => s.setLane n y) :=
  .of_same rfl rfl rfl (laneWorking_setLane same) id

theorem place_steers (f : TxFrame) : Steers b w (place f w) := by
  have bay := place_bay (c := b) f w
  refine .of_same (by rw [bay]) (by rw [bay]) ?_ ?_ fun told => ?_
  · rw [place_eq]
    rfl
  · rw [place_eq]
    rfl
  · rw [place_eq]
    exact List.mem_append_left _ told

theorem requestWrite_steers (y : DockWrite) (limit : ∀ g, y = .chargeLimit g → g = (w.st.bay c).charge.grant) :
    Steers b w (requestWrite c y w) :=
  (requestWrite_acts y limit subset_rfl).steers fun _ => steers_of_writing

/-! ### The end of a session -/

theorem sessionOver_working (session : w.st.lane n = some x) (o : LaneOutcome) (other : b ≠ x.bay) :
    (sessionOver n x o w.st).laneWorking b = w.st.laneWorking b := by
  have own : (sessionOver n x o w.st).lane n = some (x.ended o) := by
    rw [sessionOver_lane, if_pos rfl]
    rfl
  exact laneWorking_of_others (fun m apart => by rw [sessionOver_lane, if_neg apart])
    (fun y its => by cases session.symm.trans its; rfl) (fun y its => by cases own.symm.trans its; rfl) other

theorem endSession_steers (n : LaneIx) (o : LaneOutcome) : Steers b w (endSession n o w) := by
  cases session : w.st.lane n with
  | none =>
    simp only [endSession, session]
    exact .refl b w
  | some x =>
    cases works : laneWorks x.stage with
    | false =>
      simp only [endSession, session, works, Bool.false_eq_true, if_false]
      exact .refl b w
    | true =>
      rw [endSession_eq session works]
      have alike : Alike w.st (sessionOver n x o w.st) := sessionOver_alike
      have ended : Steers b w (refreshWish x.bay (w.upd (sessionOver n x o))) :=
        .of_lane (alike.charge b) (alike.view b) rfl (sessionOver_working session o) id
      have counted : Steers b (refreshWish x.bay (w.upd (sessionOver n x o))) (sessionCounted n x o w) := by
        have alike := countOutcome_alike (s := (refreshWish x.bay (w.upd (sessionOver n x o))).st) (b := x.bay) (o := o) x.slot
        exact .of_same (alike.charge b) (alike.view b) rfl rfl id
      exact ((ended.trans counted).trans (place_steers _)).trans (requestWrite_steers _ nofun)

theorem abortLane_steers (c : BayIx) (o : LaneOutcome) : Steers b w (abortLane c o w) := by
  unfold abortLane
  split
  · exact .refl b w
  · exact endSession_steers _ o

theorem chargeAbort_steers (c : BayIx) : Steers b w (chargeAbort c w) := by
  unfold chargeAbort
  split
  · exact abortLane_steers c _
  iterate 3 exact .refl b w
  all_goals exact abortLane_steers c _

theorem channelAbort_steers (c : BayIx) (st : ChannelState) : Steers b w (channelAbort c st w) := by
  unfold channelAbort
  split
  · refine (abortLane_steers c .abortRemoved).trans (.of_same ?_ ?_ rfl rfl id)
    · exact State.read_modBay _ c b (·.charge) fun _ => rfl
    · exact State.read_modBay _ c b (·.view) fun _ => rfl
  · exact abortLane_steers c _
  · exact abortLane_steers c _
  · exact .refl b w

/-- R149, R152: the outcome of a PROV_CONTROL write. -/
theorem provEnded_steers (c : BayIx) (y : ProvWrite) (o : WriteOutcome) : Steers b w (provEnded c y o w) := by
  unfold provEnded
  split
  · exact .refl b w
  · next n _ =>
    split
    · exact .refl b w
    · next x session =>
      split
      · refine .setLane ?_
        rw [session]
        simp only [Option.some.injEq, exists_eq_left']
        exact .rfl
      · exact endSession_steers n _
      · exact .refl b w
      · next stage _ _ =>
        unfold becomeIdle
        have idle : Steers b w (w.upd fun s => s.setLane n none) := by
          refine .setLane ?_
          rw [session]
          simp only [reduceCtorEq, false_and, exists_false, Option.some.injEq, exists_eq_left', false_iff]
          rintro ⟨-, works⟩
          rw [stage] at works
          cases works
        exact (((idle.raise _).raise _).raise _).raise _
      · exact .refl b w

/-! ### Selection -/

theorem enterWaking_steers {i : QueueItem} {k : Campaign} (idle : w.st.lane n = none) : Steers b w (enterWaking n i k w) := by
  unfold enterWaking
  extract_lets w₁ w₂
  have asked := requestWrite_alike (w := w₁) (b := i.bay) (.provControl { enter := true, campaign := k.id })
  have due := profileAtOnce_alike (s := w₂.st) (b := i.bay)
  have lane (m : LaneIx) : (w₂.upd (profileAtOnce i.bay)).st.lane m = w₁.st.lane m := requestWrite_lane _
  have its : (w₂.upd (profileAtOnce i.bay)).st.lane n = some (wakingSession w.st i k) :=
    (lane n).trans (State.lane_setLane_same ..)
  refine .of_lane ((due.charge b).trans (asked.charge b)) ((due.view b).trans (asked.view b)) (due.cfl.trans asked.cfl)
    (fun other => ?_) fun told => ?_
  · exact laneWorking_of_others (fun m apart => (lane m).trans (by rw [Work.upd_st, State.lane_setLane, if_neg apart]))
      (fun y none => by cases idle.symm.trans none) (fun y new => by cases its.symm.trans new; rfl) other
  · exact (requestWrite_acts (w := w₁) (b := i.bay) (.provControl { enter := true, campaign := k.id }) nofun subset_rfl).grow told

theorem selectFrom_steers (left : Nat) (idle : w.st.lane n = none) : Steers b w (selectFrom n left w) := by
  induction left generalizing w with
  | zero => exact .refl b w
  | succ left ih =>
    unfold selectFrom
    split
    · exact .refl b w
    · next i streak _ =>
      have dropped : Steers b w (w.upd fun s => s.modPvs fun p => { p with queue := dropItem i.bay p.queue }) :=
        .of_same rfl rfl rfl rfl id
      have again := ih (w := w.upd fun s => s.modPvs fun p => { p with queue := dropItem i.bay p.queue }) idle
      dsimp only
      split
      · exact dropped.trans again
      · next k _ =>
        split
        · have counted : Steers b (w.upd fun s => s.modPvs fun p => { p with queue := dropItem i.bay p.queue })
              ((w.upd fun s => s.modPvs fun p => { p with queue := dropItem i.bay p.queue }).upd fun s =>
                s.modPvs fun p => { p with streak := streak }) := .of_same rfl rfl rfl rfl id
          exact (dropped.trans counted).trans (enterWaking_steers (i := i) (k := k)
            (w := (w.upd fun s => s.modPvs fun p => { p with queue := dropItem i.bay p.queue }).upd fun s =>
              s.modPvs fun p => { p with streak := streak }) idle)
        · exact dropped.trans again

theorem selectLane_steers : Steers b w (selectLane n w) := by
  unfold selectLane
  split
  · next idle => exact selectFrom_steers _ (Option.isNone_iff_eq_none.1 idle)
  · exact .refl b w

theorem requestRelease_steers (r : ReleaseRecord) : Steers b w (requestRelease c r w) := by
  have asked : Steers b w (askRelease c r w) := (askRelease_acts r subset_rfl).steers fun _ => steers_of_releasing
  unfold requestRelease
  split
  · exact asked
  · exact (asked.trans (abortLane_steers c _)).raise _

/-! ### Every notice but a split -/

/-- A notice that enters no bay into a charge state and is no split. -/
theorem handle_steers {m : Notice} (drifts : m.drifts = true) (other : m ≠ .split) : Steers b w (handle m w) := by
  cases m with
  | recompute => exact (handle_acts .recompute w).steers fun _ h => by rcases h with rfl | rfl <;> rfl
  | split => exact absurd rfl other
  | wishInput c => exact (handle_acts (.wishInput c) w).steers fun _ => steers_of_refreshing
  | chargeChanged c => exact (chargeAbort_steers c).raise _
  | channelChanged c st =>
    cases st with
    | off => exact (channelAbort_steers c .off).raise (.reevaluate c)
    | active => exact (channelAbort_steers c .active).raise (.reevaluate c)
    | silent | stuck => cases drifts
  | laneChannel c st => exact (channelAbort_steers c st).raise _
  | reading c r cls | serviceChanged c => cases drifts
  | writeEnded c y o =>
    cases y with
    | custody v => exact (handle_acts (.writeEnded c (.custody v) o) w).steers fun _ => steers_of_placing
    | provControl v => exact provEnded_steers c v o
    | chargeLimit g => exact .refl b w
  | discarded f =>
    refine (handle_acts (.discarded f) w).steers fun _ h => ?_
    rcases h with rfl | ⟨c, rfl | rfl⟩ <;> rfl
  | doorMoved c left =>
    cases left with
    | true => exact (abortLane_steers c _).raise _
    | false => exact (Steers.refl b w).raise _
  | episodeEnded c attr r p =>
    refine (handle_acts (.episodeEnded c attr r p) w).steers fun _ h => ?_
    rcases h with h | rfl
    · exact steers_of_writing h
    · rfl
  | releaseAsked c r => exact requestRelease_steers r
  | releaseAnswered c r o =>
    refine (handle_acts (.releaseAnswered c r o) w).steers fun _ h => ?_
    rcases h with (h | h) | h
    · exact steers_of_placing h
    · exact steers_of_placing h
    · exact steers_of_writing h
  | laneIdle c => exact (handle_acts (.laneIdle c) w).steers fun _ => steers_of_releasing
  | reevaluate c => exact (handle_acts (.reevaluate c) w).steers fun _ => steers_of_evaluating
  | reevaluateAll => exact (handle_acts .reevaluateAll w).steers fun _ => steers_of_evaluating
  | select n => exact selectLane_steers

/-! ### A split -/

/-- R59, R63, R64, R69: a split leaves the state that wish and grant give, and at grant 0 the voltage that is requested. -/
theorem runSplit_fits (fits : s.Fits b) : (runSplit (startWork s)).st.Fits b ∧
    (s.populated b = true → (runSplit (startWork s)).st.Follows b) := by
  have rest := grantsGiven_rest (xs := s.newGrants) (w := startWork s)
  have cfl : (grantsGiven s.newGrants (startWork s)).st.cfl = s.cfl := (congrArg State.cfl rest).trans rfl
  have pvs : (grantsGiven s.newGrants (startWork s)).st.pvs = s.pvs := (congrArg State.pvs rest).trans rfl
  have after := afterGrants_spares (w := grantsGiven s.newGrants (startWork s))
  have apart (none : ∀ y ∈ s.newGrants, y.1 ≠ b) : (grantsGiven s.newGrants (startWork s)).st.bay b = s.bay b :=
    grantsGiven_apart none
  have mid : ∃ g wish cls, ((grantsGiven s.newGrants (startWork s)).st.bay b).charge =
      { granted g (s.bay b) with wish := wish, cls := cls } := by
    by_cases among : ∃ y ∈ s.newGrants, y.1 = b
    · obtain ⟨⟨_, g⟩, among, rfl⟩ := among
      obtain ⟨wish, cls, its⟩ := grantsGiven_managed (w := startWork s) among (newGrants_nodup s) fits.manages
      exact ⟨g, wish, cls, congrArg Bay.charge its⟩
    · refine ⟨(s.bay b).charge.grant, (s.bay b).charge.wish, (s.bay b).charge.cls, ?_⟩
      rw [apart fun y there own => among ⟨y, there, own⟩, granted, if_pos rfl]
  obtain ⟨g, wish, cls, mid⟩ := mid
  have view : ((grantsGiven s.newGrants (startWork s)).st.bay b).view = (s.bay b).view := by
    rw [grantsGiven_forms (w := startWork s) (xs := s.newGrants) b]
    rfl
  rw [runSplit_eq]
  change (afterGrants (grantsGiven s.newGrants (startWork s))).st.Fits b ∧
    (s.populated b = true → (afterGrants (grantsGiven s.newGrants (startWork s))).st.Follows b)
  generalize grantsGiven s.newGrants (startWork s) = v at cfl pvs after apart mid view ⊢
  have populated : v.st.populated b = s.populated b := populated_of_cfl cfl b
  cases there : s.populated b with
  | false =>
    have same : (afterGrants v).st.bay b = s.bay b := by
      rw [afterGrants_unpopulated (populated.trans there)]
      refine apart fun y among own => ?_
      have populated := (newGrants_spec among).1
      rw [own, there] at populated
      cases populated
    exact ⟨fits.of_same ⟨_, by rw [same]⟩ (by rw [same]) (after.cfl.trans cfl) (laneWorking_congr (after.pvs.trans pvs)),
      nofun⟩
  | true =>
    have state : (v.st.bay b).charge.state = (s.bay b).charge.state := by
      rw [mid, granted]
      dsimp only
      split <;> rfl
    have voltage : (v.st.bay b).charge.grant = 0 → (v.st.bay b).charge.voltage = requestedVoltage (s.bay b).view := by
      rw [mid, granted]
      dsimp only
      split
      · exact fits.voltage
      · next other =>
        intro zero
        have zero : g = 0 := zero
        exact if_pos ⟨zero, by omega⟩
    have last := afterGrants_managed (populated.trans there) (by rw [state]; exact fits.manages)
      (by rw [state, view, cfl]; exact fits.settled)
    refine ⟨⟨?_, ?_, ?_, ?_⟩, fun _ => ?_⟩
    · rw [last]
      exact managed_heldState _ _ _
    · rw [after.cfl, cfl, last, view, state]
      simpa only [heldState_maintain] using fits.settled
    · exact congrArg (fun y : Bay => y.charge.wish) last
    · rw [last, view]
      exact voltage
    · unfold State.Follows
      rw [last]
      dsimp only
      simp only [heldState]
      split
      · rfl
      · split <;> rfl

end

end Sys2Proof.Machine
end

section
/-! All the notices of a command leave a managed bay in the state that wish and grant give (R59), and a reading of a bay is
worked with the bay's charge section as the notices before it leave it. -/

namespace Sys2Proof.Machine

section
variable {s t : State} {b c : BayIx} {u v w : Work} {n : Notice} {rest : List Notice} {r : DockRegister} {cls : IdentClass}

/-! ### To the last notice -/

theorem handle_told_drifts (drifts : n.drifts = true) : ∀ m ∈ (handle n (startWork s)).todo, m.drifts = true := by
  obtain ⟨can, all, acts⟩ := handle_drifts (w := startWork s) drifts
  intro m told
  rcases acts.told m told with earlier | now
  · cases earlier
  · exact all _ now

/-- R59: a bay that follows wish and grant where a split is not told does so when no notice is left. -/
theorem settle_follows (k : Nat) (enough : w.weight ≤ k) (all : ∀ m ∈ w.todo, m.drifts = true) (fits : w.st.Fits b)
    (follows : w.st.populated b = true → w.st.Follows b ∨ .split ∈ w.todo) :
    (settle k w).st.Fits b ∧ (w.st.populated b = true → (settle k w).st.Follows b) := by
  induction k generalizing w with
  | zero =>
    cases todo : w.todo with
    | nil =>
      rw [settle_nil 0 todo]
      exact ⟨fits, fun there => (follows there).resolve_right (by rw [todo]; nofun)⟩
    | cons x xs =>
      have := handled_weight todo
      omega
  | succ k ih =>
    cases todo : w.todo with
    | nil =>
      rw [settle_nil _ todo]
      exact ⟨fits, fun there => (follows there).resolve_right (by rw [todo]; nofun)⟩
    | cons x xs =>
      have less := handled_weight todo
      have drifts : x.drifts = true := all x (by rw [todo]; exact List.mem_cons_self)
      rw [settle, todo]
      have told : ∀ m ∈ (handle x (startWork w.st)).todo ++ xs, m.drifts = true := fun m among =>
        (List.mem_append.1 among).elim (handle_told_drifts drifts m) fun later =>
          all m (by rw [todo]; exact List.mem_cons_of_mem _ later)
      obtain ⟨can, effects, acts⟩ := handle_drifts (w := startWork w.st) drifts
      have populated : (handle x (startWork w.st)).st.populated b = w.st.populated b :=
        populated_of_cfl (acts.drifts (b := b) effects).cfl b
      suffices now : (handle x (startWork w.st)).st.Fits b ∧ (w.st.populated b = true →
          (handle x (startWork w.st)).st.Follows b ∨ .split ∈ (handle x (startWork w.st)).todo ++ xs) by
        have last := ih (w := { st := (handle x (startWork w.st)).st, todo := (handle x (startWork w.st)).todo ++ xs })
          (by omega) told now.1 fun there => now.2 (populated.symm.trans there)
        exact ⟨last.1, fun there => last.2 (populated.trans there)⟩
      by_cases split : x = .split
      · subst split
        have ran := runSplit_fits fits
        exact ⟨ran.1, fun there => .inl (ran.2 there)⟩
      · have steers := handle_steers (b := b) (w := startWork w.st) drifts split
        refine ⟨steers.fits fits, fun there => ?_⟩
        rcases follows there with follows | waits
        · exact (steers.follows fits (.inl follows)).imp id fun told => List.mem_append_left _ told
        · rw [todo] at waits
          rcases List.mem_cons.1 waits with first | later
          · exact absurd first.symm split
          · exact .inr (List.mem_append_right _ later)

/-! ### A reading -/

/-- The registers whose readings the BCC takes (R58 to R60, R63). -/
def DockRegister.charges (r : DockRegister) : Prop := r = .ident ∨ r = .battery ∨ r = .chargeRequest

/-- What the other blocks make of a reading drifts. -/
theorem readingNotice_after (charges : r.charges) :
    ∃ can : Set Effect, (∀ e ∈ can, e.drifts = true) ∧ Acts can (chargeReading b r w) (readingNotice b r cls w) := by
  rcases charges with rfl | rfl | rfl
  · refine ⟨identNoting b ∪ sessionEnding b ∪ {.tell (.reevaluate b)}, fun e may => ?_, ?_⟩
    · rcases may with (((may | rfl) | may) | may) | rfl
      · exact drifts_of_placing may
      · rfl
      · exact drifts_of_writing may
      · exact drifts_of_sessionEnding may
      · rfl
    · simp only [readingNotice]
      have noted : Acts (identNoting b ∪ sessionEnding b ∪ {.tell (.reevaluate b)}) (chargeReading b .ident w)
          (identNotice b cls (chargeReading b .ident w)) := identNotice_acts cls fun _ may => .inl (.inl may)
      refine Acts.tell ?_ (.inr rfl)
      split
      · exact noted.trans (clearAttempts_acts (.inl (.inr (.inl (.inl (.inl (.inl rfl)))))))
      · exact noted
  · refine ⟨sessionEnding b ∪ {.tell (.reevaluate b)}, fun e may => ?_, ?_⟩
    · rcases may with may | rfl
      · exact drifts_of_sessionEnding may
      · rfl
    · exact (batteryAbort_acts fun _ may => .inl may).tell (.inr rfl)
  · exact ⟨∅, fun e none => none.elim, .refl⟩

theorem chargeReading_told (m : Notice) (told : m ∈ (chargeReading b r (startWork s)).todo) : m.drifts = true := by
  rcases (chargeReading_acts (w := startWork s) (b := b) subset_rfl r).told m told with earlier | now
  · cases earlier
  · rcases now with now | now
    · cases now
    · exact drifts_of_charging now

/-- A reading at the front of the work: from what the BCC makes of it, the bay drifts. -/
theorem finish_reading (charges : r.charges) (todo : w.todo = .reading b r cls :: rest) (light : w.weight ≤ noticeBound)
    (after : ∀ m ∈ rest, m.drifts = true) : Drifts b (chargeReading b r (startWork w.st)).st w.finish := by
  obtain ⟨can, effects, acts⟩ := readingNotice_after (w := startWork w.st) (b := b) (cls := cls) charges
  rw [finish_next todo light]
  refine (acts.drifts effects).trans (finish_drifts (w := ⟨(readingNotice b r cls (startWork w.st)).st,
    (readingNotice b r cls (startWork w.st)).todo ++ rest⟩) fun m among => ?_)
  rcases List.mem_append.1 among with raised | later
  · rcases acts.told m raised with read | now
    · exact chargeReading_told m read
    · exact effects _ now
  · exact after m later

/-- R59: a CHARGE_REQUEST reading that is all the work: the bay ends in the state that wish and grant give, where what the
BCC makes of the reading fits and follows. -/
theorem finish_request (todo : w.todo = [.reading b .chargeRequest cls]) (light : w.weight ≤ noticeBound)
    (fits : (chargeReading b .chargeRequest (startWork w.st)).st.Fits b)
    (follows : (chargeReading b .chargeRequest (startWork w.st)).st.Follows b) :
    w.finish.Fits b ∧ (w.st.populated b = true → w.finish.Follows b) := by
  have less := handled_weight todo
  have populated : (chargeReading b .chargeRequest (startWork w.st)).st.populated b = w.st.populated b :=
    populated_of_cfl (steady_cfl (chargeReading_steady b .chargeRequest (startWork w.st))) b
  rw [finish_next todo light, ← populated]
  exact settle_follows noticeBound (w := ⟨(chargeReading b .chargeRequest (startWork w.st)).st,
    (chargeReading b .chargeRequest (startWork w.st)).todo ++ []⟩) ((Nat.le_of_succ_le less).trans light)
    (fun m told => chargeReading_told m (by rwa [List.append_nil] at told)) fits fun _ => .inl follows

end

end Sys2Proof.Machine
end

section
/-! What a reading makes of the charge section of its bay (R58 to R60, R63). -/

namespace Sys2Proof.Machine

section
variable {s t : State} {b : BayIx} {w : Work} {z : Battery} {o : Option Battery} {cfg : WorkingConfig}

/-! ### Batteries -/

theorem batteryFull_iff : batteryFull z = true ↔ z.full = true ∧ 95 ≤ z.soc := by
  rw [batteryFull, Bool.and_eq_true, decide_eq_true_eq]

theorem batteryHot_iff : batteryHot cfg z = true ↔ (cfg.tempHot : Int) ≤ z.temperature := decide_eq_true_iff

theorem cool_iff : o.any (batteryHot cfg) = false ↔ ∀ z, o = some z → ¬ (cfg.tempHot : Int) ≤ z.temperature := by
  cases o with
  | none => simp
  | some z => simp [batteryHot]

theorem notFull_iff : o.any batteryFull = false ↔ ∀ z, o = some z → ¬ (z.full = true ∧ 95 ≤ z.soc) := by
  cases o with
  | none => simp
  | some z => simp [← batteryFull_iff]

/-! ### A bay that is not managed -/

/-- R63: a bay that manages no tablet keeps its voltage. -/
theorem Drifts.restingVoltage (h : Drifts b s t) (rests : managed (s.bay b).charge.state = false) :
    (t.bay b).charge.voltage = (s.bay b).charge.voltage := by
  refine (h.keeps (P := fun u => managed (u.bay b).charge.state = false ∧
    (u.bay b).charge.voltage = (s.bay b).charge.voltage) (fun u v drift before => ?_) ⟨rests, rfl⟩).2
  obtain ⟨rests, voltage⟩ := before
  have step : Drifts b u v := Relation.ReflTransGen.single drift
  rw [step.stays rests]
  refine ⟨rests, ?_⟩
  rcases drift.charge_eq with same | fresh | tuned
  · rw [same]
    exact voltage
  · rw [fresh]
    exact voltage
  · rcases tuned.voltage with same | moves
    · exact same.trans voltage
    · rw [rests] at moves
      cases moves

/-- R60: an entry to THERMAL. -/
theorem enterThermal_charge : let y := ((enterThermal b w).st.bay b).charge
    y.state = .thermal ∧ y.grant = 0 ∧ y.limit = 0 ∧ y.wish = 0 ∧ y.voltage = (w.st.bay b).charge.voltage := by
  have moved : ((moveCharge b .thermal w).st.bay b).charge = (w.st.bay b).charge.moved .thermal := by
    rw [moveCharge_charge, if_pos rfl]
  have asked : ((requestLimit b ((moveCharge b .thermal w).upd fun s => s.modCharge b (withGrant 0))).st.bay b).charge =
      withGrant 0 ((w.st.bay b).charge.moved .thermal) := by
    rw [requestLimit_charge, Work.upd_st, State.charge_modCharge, if_pos rfl, moved]
  have state : (withGrant 0 ((w.st.bay b).charge.moved .thermal)).state = .thermal := Charge.moved_state ..
  have voltage : ((w.st.bay b).charge.moved .thermal).voltage = (w.st.bay b).charge.voltage := by rw [Charge.moved_eq]
  unfold enterThermal
  rw [Work.raise_st, refreshWish_charge, if_pos rfl]
  generalize requestLimit b ((moveCharge b .thermal w).upd fun s => s.modCharge b (withGrant 0)) = v at asked
  have wish : v.st.wishOf b = 0 := wishOf_resting (by rw [asked, state]; rfl)
  rw [wish, asked]
  exact ⟨state, rfl, portLimit_zero _, rfl, voltage⟩

/-! ### A managed bay -/

theorem heldState_heldState (st : ChargeState) (wish grant : Nat) :
    heldState (heldState st wish grant) wish grant = heldState st wish grant := by
  have maintain := heldState_maintain st wish grant
  by_cases its : st = .maintain
  · rw [maintain.2 its]
    rfl
  · rw [heldState, if_neg (maintain.not.2 its), heldState, if_neg its]

/-- R59: the state that a reading of the battery asks for. -/
theorem maintainMoves_charge (manages : managed (w.st.bay b).charge.state = true) :
    ∃ st, managed st = true ∧ (∀ z, (w.st.bay b).view.battery = some z → (batteryFull z = true ↔ st = .maintain)) ∧
      ((w.st.bay b).view.battery = none → st = (w.st.bay b).charge.state) ∧
      ((maintainMoves b w).st.bay b).charge = { (w.st.bay b).charge with state := st } ∧
      Tunes b w.st (maintainMoves b w).st := by
  rcases maintainMoves_cases (b := b) (w := w) with ⟨same, steady⟩ | ⟨flips, st, manages', part, same, full⟩
  · refine ⟨(w.st.bay b).charge.state, manages, fun z battery => ?_, fun _ => rfl, by rw [same], by rw [same]; exact .refl b _⟩
    unfold Bay.flips at steady
    rw [battery, Option.any_some, bne_eq_false_iff_eq] at steady
    rw [steady, beq_iff_eq]
  · refine ⟨st, manages', fun z battery => ?_, fun none => ?_, ?_, same ▸ moveCharge_tunes st⟩
    · rw [full z battery, beq_iff_eq]
    · unfold Bay.flips at flips
      rw [none] at flips
      cases flips
    · rw [same, moveCharge_charge, if_pos rfl, Charge.moved_takesPart part]

/-- R59: the moves of a managed bay whose battery is not hot. -/
theorem managedMoves_managed (manages : managed (w.st.bay b).charge.state = true)
    (cool : (w.st.bay b).view.battery.any (batteryHot w.st.cfl.config) = false) :
    ∃ st cls, managed st = true ∧
      (∀ z, (w.st.bay b).view.battery = some z → (batteryFull z = true ↔ st = .maintain)) ∧
      ((w.st.bay b).view.battery = none → st = (w.st.bay b).charge.state) ∧
      ((managedMoves b w).st.bay b).charge = { (w.st.bay b).charge with
        wish := (managedMoves b w).st.wishOf b, cls := cls
        state := heldState st ((managedMoves b w).st.wishOf b) (w.st.bay b).charge.grant } := by
  obtain ⟨st, manages', full, none, charge, tunes⟩ := maintainMoves_charge manages
  have whole : Tunes b w.st (managedMoves b w).st := managedMoves_tunes
  have mid : managed ((maintainMoves b w).st.bay b).charge.state = true := by
    rw [charge]
    exact manages'
  have fresh : ((refreshWish b (maintainMoves b w)).st.bay b).charge = { (w.st.bay b).charge with
      wish := (maintainMoves b w).st.wishOf b, cls := (maintainMoves b w).st.classOf b, state := st } := by
    rw [refreshWish_charge, if_pos rfl, charge]
  have held := heldMoves_charge (b := b) (w := refreshWish b (maintainMoves b w)) (by rw [fresh]; exact manages')
  rw [fresh, ← managedMoves_cool manages (Bool.not_eq_true _ ▸ cool)] at held
  have view (u : Work) (tunes : Tunes b w.st u.st) : (u.st.bay b).view = (w.st.bay b).view := by rw [tunes.own]
  have same : (managedMoves b w).st.wishOf b = (maintainMoves b w).st.wishOf b := by
    refine wishOf_congr (whole.spares.cfl.trans tunes.spares.cfl.symm) (whole.spares.pvs.trans tunes.spares.pvs.symm)
      ((view _ whole).trans (view _ tunes).symm) ?_ mid ?_
    · rw [held, charge]
    · rw [held]
      exact managed_heldState ..
  rw [same]
  exact ⟨st, (maintainMoves b w).st.classOf b, manages', full, none, held⟩

end

end Sys2Proof.Machine
end

section
/-! A reading is taken into the view and worked (R83, R94, R96): what stands before it, and with which charge section it
finds its bay. -/

namespace Sys2Proof.Machine

section
variable {s t : State} {b : BayIx} {w : Work} {r : DockRegister}

/-! ### The response -/

/-- R83: a whole and sound response of a called read. -/
theorem exec_readSucceeds {x : Exchange} {data : List Byte} {check : Byte} {answer : List SampledByte}
    (exchange : (s.bay b).channel.exchange = some x) (called : x.stage = .called) (reads : x.body = .read r)
    (received : receivedBytes answer = some (callByte x.body x.number :: data ++ [check]))
    (long : data.length = registerLength r) (good : sumGood (callByte x.body x.number :: data ++ [check]) = true) :
    exec (.readResponseReceived b answer) s = .next (readSucceeds b r data (startWork s)).finish := by
  have ran : exec (.readResponseReceived b answer) s =
      .next (readResponse b (callByte x.body x.number :: data ++ [check]) (startWork s)).finish := by
    simp only [exec, execReadResponseReceived, received]
    rfl
  have taken : ((callByte (.read r) x.number :: data ++ [check]).drop 1).take (registerLength r) = data := by
    rw [List.cons_append, List.drop_one, List.tail_cons, ← long, List.take_left]
  have bytes : (callByte (.read r) x.number :: data ++ [check]).length = registerLength r + 2 := by
    simp [long]
  have first : byteAt (callByte (.read r) x.number :: data ++ [check]) 0 = callByte (.read r) x.number := rfl
  rw [ran, readResponse]
  rw [reads] at good ⊢
  simp only [startWork, exchange, called, reads, bytes, first, good, taken, if_true]

/-- What a read leaves before its reading is worked: the exchange is over, and the view has the new fields. -/
structure ReadTaken (b : BayIx) (s t : State) : Prop where
  charge : (t.bay b).charge = (s.bay b).charge
  sessions : (t.bay b).counters.sessions = (s.bay b).counters.sessions
  cfl : t.cfl = s.cfl
  now : t.now = s.now

theorem ReadTaken.refl (b : BayIx) (s : State) : ReadTaken b s s := ⟨rfl, rfl, rfl, rfl⟩

theorem ReadTaken.trans {u : State} (h : ReadTaken b s t) (h' : ReadTaken b t u) : ReadTaken b s u :=
  ⟨h'.charge.trans h.charge, h'.sessions.trans h.sessions, h'.cfl.trans h.cfl, h'.now.trans h.now⟩

theorem ReadTaken.of_modBay {f : Bay → Bay} (charge : ∀ x, (f x).charge = x.charge)
    (sessions : ∀ x, (f x).counters.sessions = x.counters.sessions) : ReadTaken b s (s.modBay b f) :=
  ⟨s.read_modBay b b (·.charge) charge, s.read_modBay b b (·.counters.sessions) sessions, rfl, rfl⟩

theorem ReadTaken.of_modChannel (f : Channel → Channel) : ReadTaken b s (s.modChannel b f) :=
  .of_modBay (fun _ => rfl) fun _ => rfl

theorem readTaken_polled : ReadTaken b s (startPollAt b r (endAnswered b s)) :=
  (ReadTaken.of_modChannel _).trans (.of_modChannel _)

theorem readTaken_plain (f : TabletView → TabletView) :
    ReadTaken b s ((startPollAt b r (endAnswered b s)).modView b f) ∧
      (((startPollAt b r (endAnswered b s)).modView b f).bay b).view = f (s.bay b).view := by
  refine ⟨readTaken_polled.trans (.of_modBay (fun _ => rfl) fun _ => rfl), ?_⟩
  have view : ((startPollAt b r (endAnswered b s)).bay b).view = (s.bay b).view := by
    simp only [startPollAt, endAnswered, State.modChannel, State.bay_modBay_same]
  rw [State.modView, State.bay_modBay_same, view]

/-! ### BATTERY and CHARGE_REQUEST -/

theorem reading_light (cls : IdentClass) : Work.weight { st := s, todo := [.reading b r cls] } ≤ noticeBound :=
  enough_of_told (show 480 ≤ 1128 by omega)

/-- R94: a BATTERY read that succeeds is one reading, and the notices that it raises. -/
theorem finish_battery (data : List Byte) : ∃ z : State, ReadTaken b s z ∧
    (z.bay b).view = { (s.bay b).view with battery := some (readBattery data) } ∧
    Drifts b (chargeReading b .battery (startWork z)).st (readSucceeds b .battery data (startWork s)).finish := by
  obtain ⟨taken, view⟩ := readTaken_plain (b := b) (s := s) (r := .battery) fun v => { v with battery := some (readBattery data) }
  exact ⟨_, taken, view, finish_reading (.inr (.inl rfl)) rfl (reading_light .same) fun _ => nofun⟩

/-- R94: a CHARGE_REQUEST read that succeeds is one reading, and the notices that it raises. -/
theorem finish_chargeRequest (data : List Byte) : ∃ z : State, ReadTaken b s z ∧
    (z.bay b).view = { (s.bay b).view with request := some (readRequest data) } ∧
    Drifts b (chargeReading b .chargeRequest (startWork z)).st (readSucceeds b .chargeRequest data (startWork s)).finish ∧
    ((chargeReading b .chargeRequest (startWork z)).st.Fits b → (chargeReading b .chargeRequest (startWork z)).st.Follows b →
      (readSucceeds b .chargeRequest data (startWork s)).finish.Fits b ∧
        (s.populated b = true → (readSucceeds b .chargeRequest data (startWork s)).finish.Follows b)) := by
  obtain ⟨taken, view⟩ := readTaken_plain (b := b) (s := s) (r := .chargeRequest) fun v => { v with request := some (readRequest data) }
  exact ⟨_, taken, view, finish_reading (.inr (.inr rfl)) rfl (reading_light .same) fun _ => nofun,
    finish_request rfl (reading_light .same)⟩

/-! ### IDENT -/

theorem foldl_markDue_state (rs : List DockRegister) (c : Channel) : (rs.foldl (fun c r => markDue r c) c).state = c.state := by
  induction rs generalizing c with
  | nil => rfl
  | cons r rs ih =>
    rw [List.foldl_cons, ih]
    cases r <;> rfl

theorem requestReads_stands (rs : List DockRegister) : ReadTaken b s (requestReads b rs s) ∧
    ((requestReads b rs s).bay b).channel.state = (s.bay b).channel.state := by
  unfold requestReads
  split
  iterate 2
    refine ⟨.of_modChannel _, ?_⟩
    rw [State.channel_modChannel, if_pos rfl]
    exact foldl_markDue_state rs _
  all_goals exact ⟨.refl b s, rfl⟩

/-- The channel of a tablet that answers an IDENT read: ACTIVE after SILENT (R88). -/
def Channel.answers (c : Channel) : ChannelState := if c.state = .silent then .active else c.state

theorem setChannelState_up {st : ChannelState} (other : (w.st.bay b).channel.state ≠ st) : setChannelState b st w =
    (w.upd fun s => s.modChannel b fun c => { c with state := st }).raise (.channelChanged b st) := by
  rw [setChannelState, if_neg (by rwa [beq_iff_eq])]

theorem answeredFromSilence_stands (quiet : w.todo = []) : ReadTaken b w.st (answeredFromSilence b w).st ∧
    ((answeredFromSilence b w).st.bay b).channel.state = (w.st.bay b).channel.answers ∧
    ((answeredFromSilence b w).todo = [] ∨ (answeredFromSilence b w).todo = [.channelChanged b .active]) := by
  unfold answeredFromSilence Channel.answers
  by_cases silent : (w.st.bay b).channel.state = .silent
  · rw [if_pos (beq_iff_eq.2 silent), if_pos silent]
    have off : ((w.upd fun s => s.modChannel b fun c => { c with identTimer := none }).st.bay b).channel.state ≠ .active := by
      simp [silent]
    rw [setChannelState_up off]
    have marked := requestReads_stands (b := b) followingReads
      (s := (w.st.modChannel b fun c => { c with identTimer := none }).modChannel b fun c => { c with state := .active })
    refine ⟨((ReadTaken.of_modChannel _).trans (.of_modChannel _)).trans marked.1, marked.2.trans ?_, .inr ?_⟩
    · rw [State.channel_modChannel, if_pos rfl]
    · exact congrArg (· ++ [Notice.channelChanged b .active]) quiet
  · rw [if_neg (by rwa [beq_iff_eq]), if_neg silent]
    exact ⟨.refl b _, rfl, .inl quiet⟩

theorem takeIdentity_stands (new : Identity) : ReadTaken b w.st (takeIdentity b new w).st ∧
    ((takeIdentity b new w).st.bay b).channel.state = (w.st.bay b).channel.state ∧
    ∃ a cls, (takeIdentity b new w).todo = w.todo ++ a ++ [.reading b .ident cls] ∧ (a = [] ∨ ∃ g, a = [.discarded g]) := by
  unfold takeIdentity
  dsimp only
  generalize classify (w.st.bay b).view.identity new = cls
  split
  · have marked := requestReads_stands (b := b) followingReads (s := (placeEvent 8 (bayByte b) new.asset 0 .sbc
      (w.upd fun s => s.modView b fun _ => { identity := some new })).st)
    have steady := placeEvent_steady 8 (bayByte b) new.asset 0 .sbc (w.upd fun s => s.modView b fun _ => { identity := some new })
    have bay := placeEvent_bay b 8 (bayByte b) new.asset 0 .sbc (w.upd fun s => s.modView b fun _ => { identity := some new })
    have placed : ReadTaken b w.st (placeEvent 8 (bayByte b) new.asset 0 .sbc
        (w.upd fun s => s.modView b fun _ => { identity := some new })).st := by
      have viewed : ReadTaken b w.st (w.st.modView b fun _ => { identity := some new }) := .of_modBay (fun _ => rfl) fun _ => rfl
      exact viewed.trans ⟨by rw [bay]; rfl, by rw [bay]; rfl, steady_cfl steady, steady_now steady⟩
    obtain ⟨a, todo, its⟩ := place_todo (f := eventFrame 8 (bayByte b) new.asset 0 .sbc)
      (w := w.upd fun s => s.modView b fun _ => { identity := some new })
    refine ⟨placed.trans marked.1, marked.2.trans ?_, a, cls, ?_, its⟩
    · rw [bay]
      exact State.read_modBay _ b b (·.channel.state) fun _ => rfl
    · rw [Work.raise_todo, Work.upd_todo]
      exact congrArg (· ++ _) todo
  · refine ⟨.of_modBay (f := fun x => { x with view := { x.view with identity := some new } }) (fun _ => rfl) fun _ => rfl,
      w.st.read_modBay b b (·.channel.state) (f := fun x => { x with view := { x.view with identity := some new } })
        fun _ => rfl, [], cls, ?_, .inl rfl⟩
    rw [Work.raise_todo, Work.upd_todo, List.append_nil]

/-- R88, R96: an IDENT read that succeeds: its reading is worked after the notices of the channel and of a SWAP's EVENT. -/
theorem finish_ident (data : List Byte) : ∃ y z : State, ReadTaken b s y ∧
    (y.bay b).channel.state = (s.bay b).channel.answers ∧ Drifts b y z ∧ z.now = s.now ∧
    Drifts b (chargeReading b .ident (startWork z)).st (readSucceeds b .ident data (startWork s)).finish := by
  obtain ⟨answered, up, first⟩ := answeredFromSilence_stands (b := b) (w := (startWork s).upd (endAnswered b)) rfl
  have ran : readSucceeds b .ident data (startWork s) = takeIdentity b (readIdentity data)
      ((answeredFromSilence b ((startWork s).upd (endAnswered b))).upd (startPollAt b .ident)) := rfl
  rw [ran]
  generalize answeredFromSilence b ((startWork s).upd (endAnswered b)) = u at answered up first
  obtain ⟨identified, same, a, cls, todo, event⟩ := takeIdentity_stands (b := b) (w := u.upd (startPollAt b .ident)) (readIdentity data)
  generalize takeIdentity b (readIdentity data) (u.upd (startPollAt b .ident)) = v at identified same todo ⊢
  rw [Work.upd_todo] at todo
  have before (m : Notice) (told : m ∈ u.todo ++ a) : m.drifts = true := by
    rcases List.mem_append.1 told with told | told
    · rcases first with none | up
      · rw [none] at told
        cases told
      · rw [up, List.mem_singleton] at told
        rw [told]
        rfl
    · rcases event with rfl | ⟨g, rfl⟩
      · cases told
      · rw [List.mem_singleton.1 told]
        rfl
  have light : v.told ≤ 1128 := by
    have four : ((u.todo.map Notice.weight).sum) ≤ 4 := by
      rcases first with none | up
      · rw [none]
        exact Nat.zero_le _
      · rw [up]
        exact le_rfl
    have one : (a.map Notice.weight).sum ≤ 1 := by
      rcases event with rfl | ⟨g, rfl⟩
      · exact Nat.zero_le _
      · exact le_rfl
    have own : ([Notice.reading b .ident cls].map Notice.weight).sum = 480 := rfl
    rw [Work.told, todo, List.map_append, List.sum_append, List.map_append, List.sum_append]
    omega
  have ended : ReadTaken b s ((startWork s).upd (endAnswered b)).st :=
    .of_modChannel (s := s) fun c => { c with exchange := none, drops := 0 }
  have taken : ReadTaken b s v.st := ((ended.trans answered).trans (.of_modChannel _)).trans identified
  refine ⟨v.st, Work.finish { st := v.st, todo := u.todo ++ a }, taken, ?_,
    finish_drifts (w := { st := v.st, todo := u.todo ++ a }) before, ?_, ?_⟩
  · have polled : ((u.upd (startPollAt b .ident)).st.bay b).channel.state = (u.st.bay b).channel.state := by
      rw [Work.upd_st, startPollAt, State.channel_modChannel, if_pos rfl, startPoll]
      split <;> rfl
    have state : (((startWork s).upd (endAnswered b)).st.bay b).channel.state = (s.bay b).channel.state := by
      rw [Work.upd_st, endAnswered, State.channel_modChannel, if_pos rfl]
      rfl
    rw [same, polled, up, Channel.answers, Channel.answers, state]
  · exact (steady_now (finish_steady _)).trans taken.now
  · rw [finish_after todo light]
    exact finish_reading (.inl rfl) rfl (reading_light cls) fun _ => nofun

end

end Sys2Proof.Machine
end

section
/-! What the BCC makes of each reading, by the charge state in which it finds the bay (R58 to R61, R63). -/

namespace Sys2Proof.Machine

section
variable {s t : State} {b : BayIx} {w : Work} {r : DockRegister} {z : Battery}

/-- A managed bay whose battery is not hot, and full exactly in MAINTAIN, stays in the states of its battery. -/
theorem abides_of (manages : managed (s.bay b).charge.state = true)
    (cool : (s.bay b).view.battery.any (batteryHot s.cfl.config) = false)
    (full : ∀ z, (s.bay b).view.battery = some z → (batteryFull z = true ↔ (s.bay b).charge.state = .maintain)) :
    s.Abides b := by
  refine ⟨cool, ?_⟩
  by_cases maintain : (s.bay b).charge.state = .maintain
  · refine .inl ⟨maintain, ?_⟩
    cases battery : (s.bay b).view.battery with
    | none => rfl
    | some z => simp [(full z battery).2 maintain]
  · refine .inr ⟨?_, notFull_iff.2 fun z battery its => maintain ((full z battery).1 (batteryFull_iff.2 its))⟩
    generalize (s.bay b).charge.state = st at manages maintain
    cases st <;> simp_all [managed]

theorem State.Fits.abides (fits : s.Fits b) : s.Abides b :=
  abides_of fits.manages (cool_iff.2 fun z battery => not_le.2 (fits.settled z battery).1)
    fun z battery => batteryFull_iff.trans (fits.settled z battery).2

/-! ### Identification -/

/-- R58: a reading that moves an identification on by one stage. -/
theorem chargeReading_stage {next : IdentStage} (state : (w.st.bay b).charge.state = .identifying)
    (order : r = .ident ∧ (w.st.bay b).charge.stage = .awaitIdent ∧ next = .awaitBattery ∨
      r = .battery ∧ (w.st.bay b).charge.stage = .awaitBattery ∧ next = .awaitRequest) :
    chargeReading b r w = w.upd fun s => s.modCharge b fun c => { c with stage := next } := by
  simp only [chargeReading, state, identificationRead]
  rcases order with ⟨rfl, stage, rfl⟩ | ⟨rfl, stage, rfl⟩
  · rw [stage]
    rfl
  · rw [stage]
    rfl

/-- R58, R63: what a completed identification gives, as `y` of a state `s`. -/
structure Identified (b : BayIx) (s : State) (y : Bay) : Prop where
  state : y.charge.state = identifiedState s b
  voltage : y.charge.voltage = requestedVoltage (s.bay b).view
  timer : y.charge.identTimer = none
  sessions : y.counters.sessions = (countSession (identifiedState s b) (s.bay b).counters).sessions
  view : y.view = (s.bay b).view

theorem chargeReading_identified (state : (w.st.bay b).charge.state = .identifying)
    (stage : (w.st.bay b).charge.stage = .awaitRequest) :
    Identified b w.st ((chargeReading b .chargeRequest w).st.bay b) ∧ (chargeReading b .chargeRequest w).st.cfl = w.st.cfl := by
  have its : chargeReading b .chargeRequest w = identifyAs b (identifiedState w.st b) w := by
    simp only [chargeReading, state, identificationRead, stage, completeIdentification]
    rfl
  rw [its]
  generalize gives : identifiedState w.st b = st
  have begun : ((w.upd fun s => (s.modCharge b (identifiedCharge (s.bay b).view)).modCounters b (countSession st)).st.bay b) =
      { w.st.bay b with
        charge := identifiedCharge (w.st.bay b).view (w.st.bay b).charge
        counters := countSession st (w.st.bay b).counters } := by
    rw [Work.upd_st, State.modCounters, State.bay_modBay_same, State.modCharge, State.bay_modBay_same]
  have cfl : (w.upd fun s => (s.modCharge b (identifiedCharge (s.bay b).view)).modCounters b (countSession st)).st.cfl =
      w.st.cfl := rfl
  unfold identifyAs
  dsimp only
  generalize w.upd (fun s => (s.modCharge b (identifiedCharge (s.bay b).view)).modCounters b (countSession st)) = u at begun cfl
  have moved : ((moveCharge b st u).st.bay b).charge = (u.st.bay b).charge.moved st := by
    rw [moveCharge_charge, if_pos rfl]
  have asked : ∃ v : Work, v = (if st = .thermal then requestLimit b (moveCharge b st u) else moveCharge b st u) ∧
      Tunes b u.st v.st ∧ (v.st.bay b).charge = (u.st.bay b).charge.moved st := by
    refine ⟨_, rfl, ?_⟩
    split
    · exact ⟨(moveCharge_tunes st).trans requestLimit_tunes, (requestLimit_charge ..).trans moved⟩
    · exact ⟨moveCharge_tunes st, moved⟩
  obtain ⟨v, its, tunes, charge⟩ := asked
  rw [← its, Work.raise_st]
  have whole := tunes.trans (refreshWish_tunes (b := b) (w := v))
  have last := refreshWish_charge b b v
  rw [if_pos rfl, charge, Charge.moved_eq, begun] at last
  have own := whole.own
  rw [begun] at own
  generalize (refreshWish b v).st = x at whole last own
  refine ⟨⟨(congrArg Charge.state last).trans gives.symm, congrArg Charge.voltage last, congrArg Charge.identTimer last, ?_,
    (congrArg Bay.view own).trans rfl⟩, whole.spares.cfl.trans cfl⟩
  rw [gives]
  exact congrArg (·.counters.sessions) own

/-! ### Managed bays -/

theorem chargeReading_managed (manages : managed (w.st.bay b).charge.state = true) :
    chargeReading b r w = managedReading b r w := by
  unfold chargeReading
  cases state : (w.st.bay b).charge.state
  case charging | held | maintain => rfl
  all_goals
    rw [state] at manages
    cases manages

theorem managedMoves_hot (manages : managed (w.st.bay b).charge.state = true)
    (hot : (w.st.bay b).view.battery.any (batteryHot w.st.cfl.config) = true) : managedMoves b w = enterThermal b w := by
  unfold managedMoves
  dsimp only
  rw [manages, Bool.not_true, if_neg Bool.false_ne_true, if_pos hot]

/-- R60: a BATTERY reading that moves a managed bay to THERMAL. -/
theorem battery_hot (manages : managed (w.st.bay b).charge.state = true)
    (hot : (w.st.bay b).view.battery.any (batteryHot w.st.cfl.config) = true) :
    let y := ((chargeReading b .battery w).st.bay b).charge
    y.state = .thermal ∧ y.grant = 0 ∧ y.limit = 0 ∧ y.wish = 0 := by
  rw [chargeReading_managed manages, managedReading, managedMoves_hot manages hot]
  obtain ⟨state, grant, limit, wish, -⟩ := enterThermal_charge (b := b) (w := w)
  exact ⟨state, grant, limit, wish⟩

/-- R59: the states that a BATTERY reading leaves a managed bay in. -/
theorem battery_cool (manages : managed (w.st.bay b).charge.state = true) (battery : (w.st.bay b).view.battery = some z)
    (cool : (w.st.bay b).view.battery.any (batteryHot w.st.cfl.config) = false) :
    (chargeReading b .battery w).st.Abides b ∧
      (batteryFull z = true ↔ ((chargeReading b .battery w).st.bay b).charge.state = .maintain) := by
  rw [chargeReading_managed manages, managedReading]
  obtain ⟨st, cls, manages', full, -, charge⟩ := managedMoves_managed manages cool
  have tunes : Tunes b w.st (managedMoves b w).st := managedMoves_tunes
  have maintains := heldState_maintain st ((managedMoves b w).st.wishOf b) (w.st.bay b).charge.grant
  have state : ((managedMoves b w).st.bay b).charge.state =
      heldState st ((managedMoves b w).st.wishOf b) (w.st.bay b).charge.grant := congrArg Charge.state charge
  have same : batteryFull z = true ↔ ((managedMoves b w).st.bay b).charge.state = .maintain := by
    rw [state, maintains]
    exact full z battery
  refine ⟨abides_of (by rw [state]; exact managed_heldState ..) ?_ ?_, same⟩
  · rw [tunes.own, tunes.spares.cfl]
    exact cool
  · rw [tunes.own]
    intro y held
    cases battery.symm.trans held
    exact same

/-! ### CHARGE_REQUEST -/

theorem takeVoltage_own : ((takeVoltage b w).st.bay b).charge = { (w.st.bay b).charge with
    voltage := if (w.st.bay b).charge.grant = 0 then requestedVoltage (w.st.bay b).view else (w.st.bay b).charge.voltage } := by
  rw [takeVoltage_charge]
  by_cases none : (w.st.bay b).charge.grant = 0
  · rw [if_pos ⟨rfl, none⟩, if_pos none]
  · rw [if_neg fun all => none all.2, if_neg none]

/-- R60, R63: a CHARGE_REQUEST reading of a managed bay with a hot battery. -/
theorem request_hot (manages : managed (w.st.bay b).charge.state = true)
    (hot : (w.st.bay b).view.battery.any (batteryHot w.st.cfl.config) = true) :
    let y := ((chargeReading b .chargeRequest w).st.bay b).charge
    y.state = .thermal ∧ y.grant = 0 ∧ y.limit = 0 ∧ y.wish = 0 ∧ y.voltage =
      if (w.st.bay b).charge.grant = 0 then requestedVoltage (w.st.bay b).view else (w.st.bay b).charge.voltage := by
  have tunes : Tunes b w.st (takeVoltage b w).st := takeVoltage_tunes
  have charge := takeVoltage_own (b := b) (w := w)
  rw [chargeReading_managed manages, managedReading, managedMoves_hot (by rw [charge]; exact manages)
    (by rw [tunes.own, tunes.spares.cfl]; exact hot)]
  obtain ⟨state, grant, limit, wish, voltage⟩ := enterThermal_charge (b := b) (w := takeVoltage b w)
  exact ⟨state, grant, limit, wish, voltage.trans (congrArg Charge.voltage charge)⟩

/-- R59, R63, R64: what a CHARGE_REQUEST reading leaves of a managed bay whose battery is not hot. -/
theorem request_cool (manages : managed (w.st.bay b).charge.state = true)
    (cool : (w.st.bay b).view.battery.any (batteryHot w.st.cfl.config) = false) :
    let y := ((chargeReading b .chargeRequest w).st.bay b).charge
    (chargeReading b .chargeRequest w).st.Fits b ∧ (chargeReading b .chargeRequest w).st.Follows b ∧
      y.grant = (w.st.bay b).charge.grant ∧
      y.voltage = (if (w.st.bay b).charge.grant = 0 then requestedVoltage (w.st.bay b).view else (w.st.bay b).charge.voltage) ∧
      ((w.st.bay b).view.battery = none → (y.state = .maintain ↔ (w.st.bay b).charge.state = .maintain)) := by
  have taken : Tunes b w.st (takeVoltage b w).st := takeVoltage_tunes
  have voltage := takeVoltage_own (b := b) (w := w)
  have view : ((takeVoltage b w).st.bay b).view = (w.st.bay b).view := by rw [taken.own]
  rw [chargeReading_managed manages, managedReading]
  obtain ⟨st, cls, manages', full, none, charge⟩ := managedMoves_managed (b := b) (w := takeVoltage b w)
    (by rw [voltage]; exact manages) (by rw [view, taken.spares.cfl]; exact cool)
  have tunes := taken.trans (managedMoves_tunes (b := b) (w := takeVoltage b w))
  have view' : ((managedMoves b (takeVoltage b w)).st.bay b).view = (w.st.bay b).view := by rw [tunes.own]
  have cfl := tunes.spares.cfl
  generalize managedMoves b (takeVoltage b w) = v at charge view' cfl ⊢
  rw [voltage] at charge none
  rw [view] at full none
  have state : (v.st.bay b).charge.state = heldState st (v.st.wishOf b) (w.st.bay b).charge.grant := congrArg Charge.state charge
  have maintains := heldState_maintain st (v.st.wishOf b) (w.st.bay b).charge.grant
  refine ⟨⟨?_, ?_, ?_, ?_⟩, ?_, (congrArg Charge.grant charge).trans rfl, (congrArg Charge.voltage charge).trans rfl,
    fun absent => ?_⟩
  · rw [state]
    exact managed_heldState ..
  · rw [view', cfl, state, maintains]
    intro z battery
    exact ⟨not_le.1 (cool_iff.1 cool z battery), batteryFull_iff.symm.trans (full z battery)⟩
  · exact congrArg Charge.wish charge
  · rw [view', charge]
    exact fun zero => if_pos zero
  · have wish : (v.st.bay b).charge.wish = v.st.wishOf b := congrArg Charge.wish charge
    have grant : (v.st.bay b).charge.grant = (w.st.bay b).charge.grant := (congrArg Charge.grant charge).trans rfl
    unfold State.Follows
    rw [wish, grant, state, heldState_heldState]
  · rw [state, maintains, none absent]

/-- R60, R61, R63: a CHARGE_REQUEST reading of a bay that manages no tablet and is not identifying. -/
theorem request_resting (rests : (w.st.bay b).charge.state ∈ [ChargeState.thermal, .fault, .outOfService]) :
    ((chargeReading b .chargeRequest w).st.bay b).charge = { (w.st.bay b).charge with
      voltage := if (w.st.bay b).charge.grant = 0 then requestedVoltage (w.st.bay b).view else (w.st.bay b).charge.voltage } := by
  rw [← takeVoltage_own]
  unfold chargeReading
  cases state : (w.st.bay b).charge.state
  case thermal | fault | outOfService => rfl
  all_goals simp [state] at rests

theorem request_unmanaged (state : (w.st.bay b).charge.state = .unmanaged) :
    ((chargeReading b .chargeRequest w).st.bay b).charge.state = .unmanaged ∧
      ((chargeReading b .chargeRequest w).st.bay b).charge.voltage = (w.st.bay b).charge.voltage := by
  have its : chargeReading b .chargeRequest w = refreshWish b w := by
    unfold chargeReading
    rw [state]
    rfl
  rw [its, refreshWish_charge, if_pos rfl]
  exact ⟨state, rfl⟩

/-! ### THERMAL and UNMANAGED bays -/

theorem thermal_battery (state : (w.st.bay b).charge.state = .thermal) : chargeReading b .battery w = leaveThermal b w := by
  unfold chargeReading
  rw [state]
  rfl

/-- R60: a battery that is still above T_hot − 5. -/
theorem thermal_stays (state : (w.st.bay b).charge.state = .thermal) (battery : (w.st.bay b).view.battery = some z)
    (warm : (w.st.cfl.config.tempHot : Int) - 5 < z.temperature) : chargeReading b .battery w = w := by
  rw [thermal_battery state, leaveThermal, battery]
  exact if_neg (not_le.2 warm)

/-- R60: a battery that has cooled to T_hot − 5. -/
theorem thermal_leaves (state : (w.st.bay b).charge.state = .thermal) (battery : (w.st.bay b).view.battery = some z)
    (cooled : z.temperature ≤ (w.st.cfl.config.tempHot : Int) - 5) :
    (chargeReading b .battery w).st.Abides b ∧
      ((chargeReading b .battery w).st.bay b).charge.state = if batteryFull z = true then .maintain else .charging := by
  have its : chargeReading b .battery w = refreshWish b (moveCharge b (if batteryFull z = true then .maintain else .charging) w) := by
    rw [thermal_battery state, leaveThermal, battery]
    exact if_pos cooled
  rw [its]
  have tunes := (moveCharge_tunes (b := b) (w := w) (if batteryFull z = true then .maintain else .charging)).trans
    (refreshWish_tunes (b := b))
  have moved : ((refreshWish b (moveCharge b (if batteryFull z = true then .maintain else .charging) w)).st.bay b).charge.state =
      if batteryFull z = true then .maintain else .charging := by
    rw [refreshWish_charge, if_pos rfl, moveCharge_charge, if_pos rfl]
    exact Charge.moved_state ..
  refine ⟨abides_of (by rw [moved]; split <;> rfl) ?_ ?_, moved⟩
  · rw [tunes.own, tunes.spares.cfl]
    refine cool_iff.2 fun y held hot => ?_
    cases battery.symm.trans held
    omega
  · rw [tunes.own]
    intro y held
    cases battery.symm.trans held
    change _ ↔ ((refreshWish b (moveCharge b _ w)).st.bay b).charge.state = .maintain
    rw [moved]
    split <;> simp [*]

/-- R58, R61: an IDENT reading of a THERMAL or an UNMANAGED bay. -/
theorem ident_returns (state : (w.st.bay b).charge.state = .thermal ∨ (w.st.bay b).charge.state = .unmanaged) :
    let y := (chargeReading b .ident w).st.bay b
    y.charge.state = .identifying ∧ y.charge.identTimer = some (w.st.now + 3000) ∧ y.charge.unmanagedTimer = none ∧
      y.charge.grant = 0 ∧ y.charge.limit = 0 ∧ y.charge.wish = 0 ∧ y.charge.stage = .awaitBattery ∧
      ((w.st.bay b).channel.state = .active → y.channel.state = .active ∧ y.channel.dueBattery = true ∧
        y.channel.dueRequest = true ∧ y.channel.dueProfile = true) := by
  have its : chargeReading b .ident w =
      (entered b .identifying (identifyingCharge true) w).upd (requestReads b followingReads) := by
    unfold chargeReading
    rcases state with state | state
    all_goals
      rw [state]
      rfl
  obtain ⟨entry, timer, unmanaged, grant, limit, wish, stage⟩ := entered_identifying (w := w) (b := b) true
  have fed := entered_fed (w := w) (b := b) .identifying (identifyingCharge true)
  rw [its]
  generalize entered b .identifying (identifyingCharge true) w = v at *
  have charge : ((requestReads b followingReads v.st).bay b).charge = (v.st.bay b).charge := requestReads_charge ..
  rw [Work.upd_st]
  refine ⟨?_, ?_, ?_, ?_, ?_, ?_, ?_, fun active => ?_⟩
  iterate 7 rw [charge]; assumption
  have active : (v.st.bay b).channel.state = .active := fed.state.trans active
  have marked : ((requestReads b followingReads v.st).bay b).channel =
      followingReads.foldl (fun c r => markDue r c) (v.st.bay b).channel := by
    simp only [requestReads, active, State.channel_modChannel, if_true]
  rw [marked]
  exact ⟨(foldl_markDue_state _ _).trans active, rfl, rfl, rfl⟩

end

end Sys2Proof.Machine
end

section
/-! The identification timer, and the readings of a bay with what they leave of it (R58 to R61, R63, R64). -/

namespace Sys2Proof.Machine

section
variable {s t u z : State} {b : BayIx} {data : List Byte}

/-! ### The timer -/

/-- R58, R61: the identification timer expires. -/
theorem identification_expires {d : Nat} (timer : (s.bay b).charge.identTimer = some d)
    (state : (s.bay b).charge.state = .identifying) :
    ∃ t, exec (.identificationTimerExpired b) s = .next t ∧ t.steady = { s with now := max s.now d }.steady ∧
      (t.bay b).charge.state = .unmanaged ∧ (t.bay b).charge.voltage = 5 ∧
      (t.bay b).charge.wish = s.cfl.config.unmanaged ∧ (t.bay b).charge.identTimer = none ∧
      (t.bay b).charge.unmanagedTimer =
        if (s.bay b).channel.state = .active then some (max s.now d + 10000) else none := by
  have ran : exec (.identificationTimerExpired b) s = .next (enterUnmanaged b (startWork (s.advanceTo d))).finish := by
    simp only [exec, execIdentificationTimerExpired, timer, state, if_true]
    rfl
  obtain ⟨entry, voltage, ident, wish, unmanaged⟩ := entered_unmanaged (b := b) (w := startWork (s.advanceTo d))
  have told := (enterUnmanaged_acts (b := b) (w := startWork (s.advanceTo d)) subset_rfl).told
  have steady : (enterUnmanaged b (startWork (s.advanceTo d))).finish.steady = (s.advanceTo d).steady := by
    rw [finish_steady, enterUnmanaged_steady, startWork]
  have cfl := steady_cfl (enterUnmanaged_steady b (startWork (s.advanceTo d)))
  rw [enterUnmanaged_eq] at told steady cfl ran
  have after := finish_drifts (b := b) (w := (entered b .unmanaged (unmanagedCharge b) (startWork (s.advanceTo d))).raise .split)
    fun n among => (told n among).elim nofun drifts_of_charging
  rw [Work.raise_st] at cfl after
  obtain ⟨state', voltage', wish', ident', unmanaged'⟩ := after.unmanaged entry (by rw [wish, cfl])
  exact ⟨_, ran, steady, state', voltage'.trans voltage, wish'.trans (by rw [cfl]; rfl), ident'.trans ident,
    unmanaged'.trans unmanaged⟩

/-! ### Identification -/

/-- R58: a reading that moves an identification on leaves the bay in its next stage. -/
theorem Drifts.staged {r : DockRegister} {next : IdentStage} (state : (z.bay b).charge.state = .identifying)
    (order : r = .ident ∧ (z.bay b).charge.stage = .awaitIdent ∧ next = .awaitBattery ∨
      r = .battery ∧ (z.bay b).charge.stage = .awaitBattery ∧ next = .awaitRequest)
    (after : Drifts b (chargeReading b r (startWork z)).st t) :
    (t.bay b).charge.state = .identifying ∧ (t.bay b).charge.stage = next := by
  rw [chargeReading_stage (w := startWork z) state order] at after
  have charge : (((startWork z).upd fun s => s.modCharge b fun c => { c with stage := next }).st.bay b).charge =
      { (z.bay b).charge with stage := next } := by
    rw [Work.upd_st, State.charge_modCharge, if_pos rfl]
    rfl
  have state' : (((startWork z).upd fun s => s.modCharge b fun c => { c with stage := next }).st.bay b).charge.state = .identifying := by
    rw [charge]
    exact state
  obtain ⟨-, -, stage⟩ := after.timers
  rw [charge] at stage
  exact ⟨(after.stays (by rw [state']; rfl)).trans state', stage⟩

/-- R58, R63: what a completed identification leaves of its bay. -/
theorem Identified.ends (done : Identified b z (u.bay b)) (cfl : u.cfl = z.cfl) (after : Drifts b u t) :
    (t.bay b).charge.identTimer = none ∧ (t.bay b).charge.voltage = requestedVoltage (z.bay b).view ∧
      ((z.bay b).view.battery.any (batteryHot z.cfl.config) = true →
        (t.bay b).charge.state = .thermal ∧ (t.bay b).counters.sessions = (z.bay b).counters.sessions) ∧
      ((z.bay b).view.battery.any (batteryHot z.cfl.config) = false → (z.bay b).view.battery.any batteryFull = true →
        (t.bay b).charge.state = .maintain ∧ (t.bay b).counters.sessions = (z.bay b).counters.sessions) ∧
      ((z.bay b).view.battery.any (batteryHot z.cfl.config) = false → (z.bay b).view.battery.any batteryFull = false →
        ((t.bay b).charge.state = .charging ∨ (t.bay b).charge.state = .held) ∧
          (t.bay b).counters.sessions = (z.bay b).counters.sessions + 1) := by
  obtain ⟨state, voltage, timer, sessions, view⟩ := done
  have sessions' := after.sessions.trans sessions
  refine ⟨after.timers.1.trans timer, ?_, fun hot => ?_, fun cool full => ?_, fun cool part => ?_⟩
  · rcases after.voltage with same | asked
    · exact same.trans voltage
    · rw [asked, view]
  · have gives : identifiedState z b = .thermal := if_pos hot
    rw [gives] at state sessions'
    exact ⟨(after.stays (by rw [state]; rfl)).trans state, sessions'⟩
  · have gives : identifiedState z b = .maintain := (if_neg (Bool.not_eq_true _ ▸ cool)).trans (if_pos full)
    rw [gives] at state sessions'
    refine ⟨after.maintains (abides_of (by rw [state]; rfl) (by rw [view, cfl]; exact cool) fun y battery => ?_) state, sessions'⟩
    rw [view] at battery
    rw [battery] at full
    exact iff_of_true full state
  · have gives : identifiedState z b = .charging :=
      (if_neg (Bool.not_eq_true _ ▸ cool)).trans (if_neg (Bool.not_eq_true _ ▸ part))
    rw [gives] at state sessions'
    refine ⟨after.charges (abides_of (by rw [state]; rfl) (by rw [view, cfl]; exact cool) fun y battery => ?_) (.inl state), sessions'⟩
    rw [view] at battery
    rw [battery] at part
    rw [state]
    simpa using part

/-! ### BATTERY -/

/-- R59, R60: what a BATTERY reading leaves of a managed bay. -/
theorem battery_managed {y : Battery} (manages : managed (z.bay b).charge.state = true)
    (battery : (z.bay b).view.battery = some y) (after : Drifts b (chargeReading b .battery (startWork z)).st t) :
    ((z.cfl.config.tempHot : Int) ≤ y.temperature → (t.bay b).charge.state = .thermal ∧ (t.bay b).charge.grant = 0 ∧
      (t.bay b).charge.limit = 0 ∧ (t.bay b).charge.wish = 0) ∧
    (¬ (z.cfl.config.tempHot : Int) ≤ y.temperature →
      (y.full = true ∧ 95 ≤ y.soc → (t.bay b).charge.state = .maintain) ∧
      (¬ (y.full = true ∧ 95 ≤ y.soc) → (t.bay b).charge.state = .charging ∨ (t.bay b).charge.state = .held)) := by
  refine ⟨fun hot => ?_, fun cold => ?_⟩
  · have hot : (z.bay b).view.battery.any (batteryHot z.cfl.config) = true := by
      rw [battery]
      exact batteryHot_iff.2 hot
    obtain ⟨state, grant, limit, wish⟩ := battery_hot (w := startWork z) manages hot
    have rested := after.rested (by rw [state]; rfl) grant limit wish
    exact ⟨rested.state.trans state, rested.grant, rested.limit, rested.wish⟩
  · have cool : (z.bay b).view.battery.any (batteryHot z.cfl.config) = false :=
      cool_iff.2 fun x held => by rwa [← Option.some.inj (battery.symm.trans held)]
    obtain ⟨abides, full⟩ := battery_cool (w := startWork z) manages battery cool
    refine ⟨fun is => after.maintains abides (full.1 (batteryFull_iff.2 is)), fun part => after.charges abides ?_⟩
    rcases abides.2 with ⟨maintain, -⟩ | ⟨state, -⟩
    · exact absurd (batteryFull_iff.1 (full.2 maintain)) part
    · exact state

/-- R60: what a BATTERY reading leaves of a THERMAL bay. -/
theorem battery_thermal {y : Battery} (state : (z.bay b).charge.state = .thermal)
    (battery : (z.bay b).view.battery = some y) (after : Drifts b (chargeReading b .battery (startWork z)).st t) :
    ((z.cfl.config.tempHot : Int) - 5 < y.temperature → (t.bay b).charge.state = .thermal) ∧
    (y.temperature ≤ (z.cfl.config.tempHot : Int) - 5 → y.full = true ∧ 95 ≤ y.soc → (t.bay b).charge.state = .maintain) ∧
    (y.temperature ≤ (z.cfl.config.tempHot : Int) - 5 → ¬ (y.full = true ∧ 95 ≤ y.soc) →
      (t.bay b).charge.state = .charging ∨ (t.bay b).charge.state = .held) := by
  refine ⟨fun warm => ?_, fun cooled full => ?_, fun cooled part => ?_⟩
  · rw [thermal_stays (w := startWork z) state battery warm] at after
    exact (after.stays (by rw [startWork, state]; rfl)).trans state
  · obtain ⟨abides, its⟩ := thermal_leaves (w := startWork z) state battery cooled
    exact after.maintains abides (its.trans (if_pos (batteryFull_iff.2 full)))
  · obtain ⟨abides, its⟩ := thermal_leaves (w := startWork z) state battery cooled
    exact after.charges abides (.inl (its.trans (if_neg (batteryFull_iff.not.2 part))))

end

end Sys2Proof.Machine
end

section
/-! A CHARGE_REQUEST reading of a bay (R59, R60, R63, R64), and what the readings of an exchange leave together. -/

namespace Sys2Proof.Machine

section
variable {s t z : State} {b : BayIx}

/-! ### CHARGE_REQUEST -/

/-- R63: the voltage that a request at grant 0 is given at once. -/
def State.askedVoltage (s : State) (b : BayIx) : Nat :=
  if (s.bay b).charge.grant = 0 then requestedVoltage (s.bay b).view else (s.bay b).charge.voltage

/-- R60, R63: a CHARGE_REQUEST reading of a managed bay with a hot battery. -/
theorem request_managed_hot (manages : managed (z.bay b).charge.state = true)
    (hot : (z.bay b).view.battery.any (batteryHot z.cfl.config) = true)
    (after : Drifts b (chargeReading b .chargeRequest (startWork z)).st t) :
    (t.bay b).charge.state = .thermal ∧ (t.bay b).charge.grant = 0 ∧ (t.bay b).charge.limit = 0 ∧
      (t.bay b).charge.wish = 0 ∧ (t.bay b).charge.voltage = z.askedVoltage b := by
  obtain ⟨state, grant, limit, wish, voltage⟩ := request_hot (w := startWork z) manages hot
  have rested := after.rested (by rw [state]; rfl) grant limit wish
  exact ⟨rested.state.trans state, rested.grant, rested.limit, rested.wish, rested.voltage.trans voltage⟩

/-- R59, R63, R64: what is left of a managed bay with a battery that is not hot after a CHARGE_REQUEST reading, `t` being
the state then and `z` the one in which the reading finds it. -/
structure Requested (b : BayIx) (z t : State) : Prop where
  fits : t.Fits b
  follows : z.populated b = true → t.Follows b
  voltage : (t.bay b).charge.voltage = (z.bay b).charge.voltage ∨ (t.bay b).charge.voltage = requestedVoltage (z.bay b).view
  ungranted : (z.bay b).charge.grant = 0 → (t.bay b).charge.voltage = requestedVoltage (z.bay b).view
  unread : (z.bay b).view.battery = none → ((t.bay b).charge.state = .maintain ↔ (z.bay b).charge.state = .maintain)
  view : (t.bay b).view = (z.bay b).view
  cfl : t.cfl = z.cfl

theorem request_managed_cool (manages : managed (z.bay b).charge.state = true)
    (cool : (z.bay b).view.battery.any (batteryHot z.cfl.config) = false)
    (after : Drifts b (chargeReading b .chargeRequest (startWork z)).st t)
    (ends : (chargeReading b .chargeRequest (startWork z)).st.Fits b →
      (chargeReading b .chargeRequest (startWork z)).st.Follows b → t.Fits b ∧ (z.populated b = true → t.Follows b)) :
    Requested b z t := by
  have steady := chargeReading_steady b .chargeRequest (startWork z)
  have view : ((chargeReading b .chargeRequest (startWork z)).st.bay b).view = (z.bay b).view := steady_view steady b
  obtain ⟨fits, follows, -, voltage, unread⟩ := request_cool (w := startWork z) manages cool
  obtain ⟨fits', follows'⟩ := ends fits follows
  have drifted := after.voltage
  rw [view, voltage] at drifted
  refine ⟨fits', follows', ?_, fun zero => ?_, fun none => ?_, after.view.trans view, after.cfl.trans (steady_cfl steady)⟩
  · rcases drifted with same | asked
    · rw [same, startWork]
      split <;> [exact .inr rfl; exact .inl rfl]
    · exact .inr asked
  · rcases drifted with same | asked
    · exact same.trans (if_pos zero)
    · exact asked
  · exact (after.abides fits.abides).2.symm.trans (unread none)

theorem Requested.voltage_zero (h : Requested b z t) (zero : (z.bay b).charge.grant = 0 ∨ (t.bay b).charge.grant = 0) :
    (t.bay b).charge.voltage = requestedVoltage (z.bay b).view := by
  rcases zero with before | after
  · exact h.ungranted before
  · rw [h.fits.voltage after, h.view]

/-- R59: CHARGING and HELD by wish and grant, where the bay is not in MAINTAIN. -/
theorem Requested.state (h : Requested b z t) (other : (t.bay b).charge.state ≠ .maintain) (there : z.populated b = true) :
    (t.bay b).charge.state =
      if (t.bay b).charge.wish ≠ 0 ∧ (t.bay b).charge.grant = 0 then .held else .charging :=
  (h.follows there).trans (if_neg other)

theorem Requested.maintain_iff {y : Battery} (h : Requested b z t) (battery : (z.bay b).view.battery = some y) :
    y.full = true ∧ 95 ≤ y.soc ↔ (t.bay b).charge.state = .maintain :=
  (h.fits.settled y (by rw [h.view, battery])).2

/-- R64: the wish of a request, at the voltage of the port. -/
theorem Requested.wish {r : ChargeRequest} (h : Requested b z t) (request : (z.bay b).view.request = some r) :
    (t.bay b).charge.wish =
      let asked := if (z.bay b).view.battery.any (fun y => y.fault) = true then 0
        else raiseWish (t.bay b).charge.voltage (min z.cfl.config.bayMax r.power)
      if t.laneWorking b = true then raiseWish (t.bay b).charge.voltage (asked + z.cfl.config.laneExtra) else asked := by
  have asked : requestedWish z.cfl.config (t.bay b) = if (z.bay b).view.battery.any (fun y => y.fault) = true then 0
      else raiseWish (t.bay b).charge.voltage (min z.cfl.config.bayMax r.power) := by
    unfold requestedWish
    rw [h.view, request]
  rw [h.fits.wish, wishOf_managed h.fits.manages, h.cfl, asked]

/-- R60, R63: a CHARGE_REQUEST reading of a THERMAL bay, and of one in FAULT or OUT_OF_SERVICE. -/
theorem request_rests (rests : (z.bay b).charge.state ∈ [ChargeState.thermal, .fault, .outOfService])
    (after : Drifts b (chargeReading b .chargeRequest (startWork z)).st t) :
    (t.bay b).charge.state = (z.bay b).charge.state ∧ (t.bay b).charge.voltage = z.askedVoltage b := by
  have charge := request_resting (w := startWork z) rests
  have state : ((chargeReading b .chargeRequest (startWork z)).st.bay b).charge.state = (z.bay b).charge.state :=
    (congrArg Charge.state charge).trans rfl
  have unmanaged : managed (z.bay b).charge.state = false := by
    generalize (z.bay b).charge.state = st at rests
    cases st <;> simp [managed] at rests ⊢
  rw [← state] at unmanaged
  exact ⟨(after.stays unmanaged).trans state, (after.restingVoltage unmanaged).trans ((congrArg Charge.voltage charge).trans rfl)⟩

/-! ### IDENT -/

/-- R58, R61: an IDENT reading of a THERMAL or an UNMANAGED bay begins its identification behind the IDENT read. -/
theorem ident_begins {y : State} (state : (z.bay b).charge.state = .thermal ∨ (z.bay b).charge.state = .unmanaged)
    (active : (y.bay b).channel.state = .active → (z.bay b).channel.state = .active)
    (after : Drifts b (chargeReading b .ident (startWork z)).st t) :
    (t.bay b).charge.state = .identifying ∧ (t.bay b).charge.stage = .awaitBattery ∧
      (t.bay b).charge.identTimer = some (z.now + 3000) ∧ (t.bay b).charge.unmanagedTimer = none ∧
      (t.bay b).charge.grant = 0 ∧ (t.bay b).charge.limit = 0 ∧ (t.bay b).charge.wish = 0 ∧
      ((y.bay b).channel.state = .active → (t.bay b).channel.state = .active ∧ (t.bay b).channel.dueBattery = true ∧
        (t.bay b).channel.dueRequest = true ∧ (t.bay b).channel.dueProfile = true) := by
  obtain ⟨entry, timer, unmanaged, grant, limit, wish, stage, channel⟩ := ident_returns (w := startWork z) state
  have rested := after.rested (by rw [entry]; rfl) grant limit wish
  have fed := after.fed
  refine ⟨rested.state.trans entry, rested.stage.trans stage, rested.identTimer.trans timer,
    rested.unmanagedTimer.trans unmanaged, rested.grant, rested.limit, rested.wish, fun up => ?_⟩
  obtain ⟨stays, battery, request, profile⟩ := channel (active up)
  exact ⟨fed.state.trans stays, fed.dueBattery.trans battery, fed.dueRequest.trans request, fed.dueProfile profile⟩

end

/-- R63: at another grant a request leaves the voltage, and the grant where the battery is not hot. -/
theorem request_granted (b : BayIx) (s : State) (manages : managed (s.bay b).charge.state = true)
    (grant : (s.bay b).charge.grant ≠ 0) :
    let y := ((chargeReading b .chargeRequest (startWork s)).st.bay b).charge
    y.voltage = (s.bay b).charge.voltage ∧
      ((∀ z : Battery, (s.bay b).view.battery = some z → z.temperature < (s.cfl.config.tempHot : Int)) →
        y.grant = (s.bay b).charge.grant) := by
  cases heat : (s.bay b).view.battery.any (batteryHot s.cfl.config) with
  | true =>
    obtain ⟨-, -, -, -, voltage⟩ := request_hot (w := startWork s) manages heat
    refine ⟨voltage.trans (if_neg grant), fun cold => ?_⟩
    rw [cool_iff.2 fun z battery => not_le.2 (cold z battery)] at heat
    cases heat
  | false =>
    obtain ⟨-, -, given, voltage, -⟩ := request_cool (w := startWork s) manages heat
    exact ⟨voltage.trans (if_neg grant), fun _ => given⟩

end Sys2Proof.Machine
end

section
/-! Identification, the moves that readings give, and the voltage and wish after them (R58 to R61, R63, R64). -/

namespace Sys2Proof.Machine

section
variable {s : State} {b : BayIx} {data : List Byte}

/-- R58, R61: what an IDENT read leaves of its bay. -/
theorem ident_read (data : List Byte) : let t := (readSucceeds b .ident data (startWork s)).finish
    ((s.bay b).charge.state = .identifying → (s.bay b).charge.stage = .awaitIdent →
      (t.bay b).charge.state = .identifying ∧ (t.bay b).charge.stage = .awaitBattery) ∧
    ((s.bay b).charge.state = .thermal ∨ (s.bay b).charge.state = .unmanaged →
      (t.bay b).charge.state = .identifying ∧ (t.bay b).charge.stage = .awaitBattery ∧
        (t.bay b).charge.identTimer = some (s.now + 3000) ∧ (t.bay b).charge.unmanagedTimer = none ∧
        (t.bay b).charge.grant = 0 ∧ (t.bay b).charge.limit = 0 ∧ (t.bay b).charge.wish = 0 ∧
        ((s.bay b).channel.state = .active ∨ (s.bay b).channel.state = .silent →
          (t.bay b).channel.state = .active ∧ (t.bay b).channel.dueBattery = true ∧
          (t.bay b).channel.dueRequest = true ∧ (t.bay b).channel.dueProfile = true)) := by
  obtain ⟨y, z, taken, channel, before, now, after⟩ := finish_ident (b := b) (s := s) data
  have stays (rests : managed (s.bay b).charge.state = false) : (z.bay b).charge.state = (s.bay b).charge.state := by
    rw [before.stays (by rw [taken.charge]; exact rests), taken.charge]
  refine ⟨fun state stage => ?_, fun state => ?_⟩
  · refine after.staged ((stays (by rw [state]; rfl)).trans state) (.inl ⟨rfl, ?_, rfl⟩)
    rw [before.timers.2.2, taken.charge, stage]
  · have same := stays (by rcases state with state | state <;> rw [state] <;> rfl)
    obtain ⟨entry, stage, timer, unmanaged, grant, limit, wish, reads⟩ := ident_begins (y := y)
      (by rw [same]; exact state) (fun up => before.fed.state.trans up) after
    refine ⟨entry, stage, now ▸ timer, unmanaged, grant, limit, wish, fun answers => reads ?_⟩
    rw [channel, Channel.answers]
    rcases answers with up | silent
    · rw [up]
      rfl
    · rw [if_pos silent]

/-- R58 to R60: what a BATTERY read leaves of its bay. -/
theorem battery_read (data : List Byte) :
    let t := (readSucceeds b .battery data (startWork s)).finish
    let z := readBattery data
    ((s.bay b).charge.state = .identifying → (s.bay b).charge.stage = .awaitBattery →
      (t.bay b).charge.state = .identifying ∧ (t.bay b).charge.stage = .awaitRequest) ∧
    (managed (s.bay b).charge.state = true →
      ((s.cfl.config.tempHot : Int) ≤ z.temperature → (t.bay b).charge.state = .thermal ∧ (t.bay b).charge.grant = 0 ∧
        (t.bay b).charge.limit = 0 ∧ (t.bay b).charge.wish = 0) ∧
      (¬ (s.cfl.config.tempHot : Int) ≤ z.temperature →
        (z.full = true ∧ 95 ≤ z.soc → (t.bay b).charge.state = .maintain) ∧
        (¬ (z.full = true ∧ 95 ≤ z.soc) → (t.bay b).charge.state = .charging ∨ (t.bay b).charge.state = .held))) ∧
    ((s.bay b).charge.state = .thermal →
      ((s.cfl.config.tempHot : Int) - 5 < z.temperature → (t.bay b).charge.state = .thermal) ∧
      (z.temperature ≤ (s.cfl.config.tempHot : Int) - 5 → z.full = true ∧ 95 ≤ z.soc → (t.bay b).charge.state = .maintain) ∧
      (z.temperature ≤ (s.cfl.config.tempHot : Int) - 5 → ¬ (z.full = true ∧ 95 ≤ z.soc) →
        (t.bay b).charge.state = .charging ∨ (t.bay b).charge.state = .held)) := by
  obtain ⟨z, taken, view, after⟩ := finish_battery (b := b) (s := s) data
  have battery : (z.bay b).view.battery = some (readBattery data) := by rw [view]
  rw [← taken.charge, ← taken.cfl]
  exact ⟨fun state stage => after.staged state (.inr ⟨rfl, stage, rfl⟩), fun manages => battery_managed manages battery after,
    fun state => battery_thermal state battery after⟩

/-- R58, R63: a CHARGE_REQUEST read that completes the identification of its bay. -/
theorem request_identifies (data : List Byte) (state : (s.bay b).charge.state = .identifying)
    (stage : (s.bay b).charge.stage = .awaitRequest) :
    let t := (readSucceeds b .chargeRequest data (startWork s)).finish
    let hot (z : Battery) : Prop := (s.cfl.config.tempHot : Int) ≤ z.temperature
    let full (z : Battery) : Prop := z.full = true ∧ 95 ≤ z.soc
    (t.bay b).charge.identTimer = none ∧ (t.bay b).charge.voltage = voltageOfCode (readRequest data).code ∧
      (∀ z : Battery, (s.bay b).view.battery = some z →
        (hot z → (t.bay b).charge.state = .thermal ∧ (t.bay b).counters.sessions = (s.bay b).counters.sessions) ∧
        (¬ hot z → full z → (t.bay b).charge.state = .maintain ∧
          (t.bay b).counters.sessions = (s.bay b).counters.sessions)) ∧
      ((∀ z : Battery, (s.bay b).view.battery = some z → ¬ hot z ∧ ¬ full z) →
        ((t.bay b).charge.state = .charging ∨ (t.bay b).charge.state = .held) ∧
        (t.bay b).counters.sessions = (s.bay b).counters.sessions + 1) := by
  obtain ⟨z, taken, view, after, -⟩ := finish_chargeRequest (b := b) (s := s) data
  have battery : (z.bay b).view.battery = (s.bay b).view.battery := by rw [view]
  have asked : requestedVoltage (z.bay b).view = voltageOfCode (readRequest data).code := by
    rw [view]
    rfl
  obtain ⟨done, cfl⟩ := chargeReading_identified (w := startWork z) (b := b)
    (by rw [startWork, taken.charge, state]) (by rw [startWork, taken.charge, stage])
  obtain ⟨timer, voltage, thermal, maintain, charging⟩ := Identified.ends (z := z) done cfl after
  rw [battery, taken.cfl, taken.sessions] at thermal maintain charging
  intro t hot full
  refine ⟨timer, voltage.trans asked, fun y its => ⟨fun heat => thermal ?_, fun cold is => maintain ?_ ?_⟩, fun other => charging ?_ ?_⟩
  · rw [its]
    exact batteryHot_iff.2 heat
  · exact cool_iff.2 fun x held => by rwa [← Option.some.inj (its.symm.trans held)]
  · rw [its]
    exact batteryFull_iff.2 is
  · exact cool_iff.2 fun x held => (other x held).1
  · exact notFull_iff.2 fun x held => (other x held).2

/-- R59, R60, R61, R63, R64: what a CHARGE_REQUEST read leaves of its bay. -/
theorem request_read (data : List Byte) :
    let t := (readSucceeds b .chargeRequest data (startWork s)).finish
    let c := (s.bay b).charge
    let hot (z : Battery) : Prop := (s.cfl.config.tempHot : Int) ≤ z.temperature
    let full (z : Battery) : Prop := z.full = true ∧ 95 ≤ z.soc
    let y := (t.bay b).charge
    let voltage : Nat := voltageOfCode (readRequest data).code
    let raised (wish : Nat) : Nat := if wish = 0 then 0 else max y.voltage wish
    let asked : Nat :=
      if (s.bay b).view.battery.any (fun z => z.fault) = true then 0
      else raised (min s.cfl.config.bayMax (readRequest data).power)
    let follows : Prop :=
      s.populated b = true → y.state = if y.wish ≠ 0 ∧ y.grant = 0 then .held else .charging
    (managed c.state = true →
      (∀ z : Battery, (s.bay b).view.battery = some z →
        (hot z → y.state = .thermal ∧ y.grant = 0 ∧ y.limit = 0 ∧ y.wish = 0 ∧
          y.voltage = if c.grant = 0 then voltage else c.voltage) ∧
        (¬ hot z → full z → y.state = .maintain) ∧
        (¬ hot z → ¬ full z → follows)) ∧
      ((s.bay b).view.battery = none → c.state = .maintain → y.state = .maintain) ∧
      ((s.bay b).view.battery = none → c.state ≠ .maintain → follows) ∧
      ((∀ z : Battery, (s.bay b).view.battery = some z → ¬ hot z) →
        (c.grant = 0 ∨ y.grant = 0 → y.voltage = voltage) ∧
        (y.voltage = c.voltage ∨ y.voltage = voltage) ∧
        y.wish = if t.laneWorking b = true then raised (asked + s.cfl.config.laneExtra) else asked)) ∧
    (c.state = .thermal ∨ c.state = .fault ∨ c.state = .outOfService →
      y.state = c.state ∧ y.voltage = if c.grant = 0 then voltage else c.voltage) ∧
    (c.state = .unmanaged → y.state = .unmanaged ∧ y.voltage = c.voltage) := by
  obtain ⟨z, taken, view, after, ends⟩ := finish_chargeRequest (b := b) (s := s) data
  have battery : (z.bay b).view.battery = (s.bay b).view.battery := by rw [view]
  have request : (z.bay b).view.request = some (readRequest data) := by rw [view]
  have given : requestedVoltage (z.bay b).view = voltageOfCode (readRequest data).code := by
    rw [requestedVoltage, request]
    rfl
  have populated : z.populated b = s.populated b := populated_of_cfl taken.cfl b
  have askedVoltage : z.askedVoltage b =
      if (s.bay b).charge.grant = 0 then voltageOfCode (readRequest data).code else (s.bay b).charge.voltage := by
    rw [State.askedVoltage, given, taken.charge]
  rw [← populated] at ends
  intro t c hot full y voltage raised asked follows
  have cool (manages : managed c.state = true)
      (cold : ∀ x : Battery, (s.bay b).view.battery = some x → ¬ hot x) : Requested b z t :=
    request_managed_cool (by rw [taken.charge]; exact manages)
      (cool_iff.2 fun x held => by rw [taken.cfl]; exact cold x (battery.symm.trans held)) after ends
  have alone (x : Battery) (its : (s.bay b).view.battery = some x) (cold : ¬ hot x) :
      ∀ x' : Battery, (s.bay b).view.battery = some x' → ¬ hot x' := fun x' held => by
    rwa [← Option.some.inj (its.symm.trans held)]
  refine ⟨fun manages => ⟨fun x its => ⟨fun heat => ?_, fun cold is => ?_, fun cold part there => ?_⟩, fun none maintain => ?_,
    fun none other there => ?_, fun cold => ⟨fun zero => ?_, ?_, ?_⟩⟩, fun rests => ?_, fun unmanaged => ?_⟩
  · rw [← askedVoltage]
    exact request_managed_hot (by rw [taken.charge]; exact manages)
      (by rw [battery, its, taken.cfl]; exact batteryHot_iff.2 heat) after
  · exact ((cool manages (alone x its cold)).maintain_iff (battery.trans its)).1 is
  · have left := cool manages (alone x its cold)
    exact left.state (fun maintain => part ((left.maintain_iff (battery.trans its)).2 maintain)) (populated.trans there)
  · exact ((cool manages fun x held => by cases none.symm.trans held).unread (battery.trans none)).2
      (by rw [taken.charge]; exact maintain)
  · have left := cool manages fun x held => by cases none.symm.trans held
    exact left.state (fun maintain => other (by
      have before := (left.unread (battery.trans none)).1 maintain
      rwa [taken.charge] at before)) (populated.trans there)
  · exact ((cool manages cold).voltage_zero (zero.imp (fun zero => by rw [taken.charge]; exact zero) id)).trans given
  · have left := (cool manages cold).voltage
    rwa [given, taken.charge] at left
  · have left := (cool manages cold).wish request
    rw [battery, taken.cfl] at left
    exact left
  · obtain ⟨state, volts⟩ := request_rests (by
      rw [taken.charge]
      change c.state ∈ _
      rcases rests with its | its | its <;> rw [its] <;> decide) after
    rw [taken.charge] at state
    exact ⟨state, volts.trans askedVoltage⟩
  · obtain ⟨state, volts⟩ := request_unmanaged (w := startWork z) (b := b) (by rw [startWork, taken.charge]; exact unmanaged)
    have rests : managed ((chargeReading b .chargeRequest (startWork z)).st.bay b).charge.state = false := by
      rw [state]
      rfl
    refine ⟨(after.stays rests).trans state, (after.restingVoltage rests).trans (volts.trans ?_)⟩
    rw [startWork, taken.charge]

end

/-- Settles O24: a drift keeps a bay in the states of its battery, and the split that a change of its wish starts gives it
the state of wish and grant. -/
theorem identificationTimesOut : Obligations.IdentificationTimesOut := by
  refine ⟨fun b d s timer state => identification_expires timer state, fun b s manages grant => request_granted b s manages grant,
    fun b x r data check answer s exchange called reads received long good => ?_⟩
  intro c hot full
  refine ⟨_, exec_readSucceeds exchange called reads received long good, fun state => ⟨?_, ?_, ?_⟩, ?_, ?_, ?_⟩
  · rintro rfl stage
    exact (ident_read data).1 state stage
  · rintro rfl stage
    exact (battery_read data).1 state stage
  · rintro rfl stage
    exact request_identifies data state stage
  · rintro rfl
    exact (ident_read data).2
  · rintro rfl
    obtain ⟨-, manages, thermal⟩ := battery_read (b := b) (s := s) data
    refine ⟨fun its => ?_, thermal⟩
    obtain ⟨heats, cools⟩ := manages its
    exact ⟨heats, fun cold => (cools cold).1, fun cold => (cools cold).2⟩
  · rintro rfl
    exact request_read data

end Sys2Proof.Machine
end
